-- ==== Sys2Proof/Word.lean ====
section
/-! DEFINITION. The plainest types of the model: bytes, the 32-bit word of the seconds clock and of a
mapped status word, and a slab identity. -/

namespace Sys2Proof

/-- One byte of a frame. -/
abbrev Byte := BitVec 8

/-- A 32-bit word: the seconds clock (R200) and the mapped words of STATUS (R195). -/
abbrev Word32 := BitVec 32

/-- A slab identity as telegrams carry it: twelve ASCII bytes, padded with spaces at the end (R171). -/
abbrev Identity := List Byte

end Sys2Proof
end

