-- ==== Sys2Proof/Syntax.lean ====
section
/-! DEFINITION. The commands of the part: one constructor of `Instr` for each row of
spec/opcode_table.json, with the row's operands. A telegram's operands are its header and its payload's
named fields; a code field may hold a code that names none of its values, and a field that may be left
out is an `Option` (R171). -/

namespace Sys2Proof

/-! ## Names -/

/-- The two furnaces, F1 and F2 (also charger k, beam drive k, map k). -/
inductive Furnace where
  | f1 | f2
  deriving DecidableEq, Repr

/-- The two Ethernet ports (R169). -/
inductive Port where
  | plant | yard
  deriving DecidableEq, Repr

/-- The three yard cranes. -/
inductive Crane where
  | one | two | three
  deriving DecidableEq, Repr

/-- The lanes of a furnace. -/
inductive Lane where
  | a | b | c
  deriving DecidableEq, Repr

/-- The three position counters (R135). -/
inductive CounterId where
  | t | c1 | c2
  deriving DecidableEq, Repr

/-- The five photocell inputs, in the index order of R148. -/
inductive SensorId where
  | ms | gp | d1 | d2 | te
  deriving DecidableEq, Repr

/-- A one-byte code field: one of its values, or a code that names none of them (R171). -/
inductive Code (α : Type) where
  | val (a : α)
  | bad (raw : Nat)
  deriving DecidableEq, Repr

/-! ## Telegrams -/

/-- A received ATL telegram less its kind and the payload fields that its command names: the port it arrived
at and the frame's Ethernet addresses (R169), the header of R170 with the payload length it declares, whether
the frame ends before that payload, and the bytes that stand behind the fields named. Where the length declared
is greater than that of the fields, the payload's other bytes are the first of those (R187 asks whether it is). -/
structure Hdr where
  port : Port
  etherDst : BitVec 48
  etherSrc : BitVec 48
  dest : Nat
  source : Nat
  reference : Nat
  length : Nat
  truncated : Bool
  trailing : List Byte
  deriving DecidableEq, Repr

/-- The payload of a telegram of any kind as far as its form goes: bytes that no field list of its kind
reads, a table id outside the thirteen, a command or query code outside those listed, or a map edit
operation that is not one of the three (R187, R20). -/
inductive RawBody where
  | bytes (payload : List Byte)
  | unknownTable (id : Nat)
  | unknownCode (code : Nat)
  | unknownMapOp (code : Nat)
  deriving DecidableEq, Repr

/-- A telegram of any kind code. -/
structure RawTel where
  hdr : Hdr
  kind : Nat
  body : RawBody
  deriving DecidableEq, Repr

/-- The outcome of a TABLE_REPORT (R98). -/
inductive MoveOutcome where
  | done | halted | fault
  deriving DecidableEq, Repr

/-! ## Entries of the table loads -/

/-- R27, the stroke basis. -/
inductive StrokeBasis where
  | nominal | lastReported
  deriving DecidableEq, Repr

/-- R27, the fault policy. -/
inductive FaultPolicy where
  | trap | substitute
  deriving DecidableEq, Repr

/-- The one entry of a FURNACE_GEOMETRY load (R28), fields in the order of R27. -/
structure GeometryEntry where
  lEff : Option Int
  zMin : Option Int
  zMax : Option Int
  dDoor : Option Int
  sNom : Option Int
  basis : Option (Code StrokeBasis)
  lPair : Option Int
  pairTolerance : Option Int
  landingTolerance : Option Int
  armOffset : Option Int
  retractClear : Option Int
  policy : Option (Code FaultPolicy)
  deriving DecidableEq, Repr

/-- The one entry of a TABLE_GEOMETRY load, fields in the order of R86. -/
structure TableGeometryEntry where
  xTS : Option Int
  xGS : Option Int
  xG : Option Int
  xGE : Option Int
  xMS : Option Int
  xD1 : Option Int
  xD2 : Option Int
  xTE : Option Int
  x1A : Option Int
  x1C : Option Int
  x1B : Option Int
  x2A : Option Int
  x2C : Option Int
  x2B : Option Int
  trackingTolerance : Option Int
  positioningTolerance : Option Int
  lengthTolerance : Option Int
  deriving DecidableEq, Repr

/-- R144, the multiplier. -/
inductive Multiplier where
  | x1 | x2 | x4
  deriving DecidableEq, Repr

/-- R144, the home direction. -/
inductive HomeDirection where
  | positive | negative | either
  deriving DecidableEq, Repr

/-- R144, the marker use. -/
inductive MarkerUse where
  | none | home
  deriving DecidableEq, Repr

/-- The entry of a COUNTER_SETUP load (R145), fields in the order of R144. `invert` is set when true;
`edgeRising` is RISING when true. -/
structure CounterSetupEntry where
  multiplier : Option (Code Multiplier)
  invert : Option (Code Bool)
  scale : Option Int
  gatePeriod : Option Int
  markerUse : Option (Code MarkerUse)
  edgeRising : Option (Code Bool)
  homeDirection : Option (Code HomeDirection)
  homePosition : Option Int
  homeTolerance : Option Int
  deriving DecidableEq, Repr

/-- An entry of a SENSOR_SETUP load (R148). -/
structure SensorSetupEntry where
  filterTime : Option Int
  invert : Option (Code Bool)
  deriving DecidableEq, Repr

/-- R155, the edge basis. -/
inductive EdgeBasis where
  | fixed | target
  deriving DecidableEq, Repr

/-- R155, the speed condition. -/
inductive SpeedCondition where
  | any | still | slow
  deriving DecidableEq, Repr

/-- An entry of a WINDOW_POOL load (R162): EMPTY, a WINDOW with the fields of R155, or an entry whose
kind code names neither. -/
inductive PoolLoadEntry where
  | empty
  | window (basis : Code EdgeBasis) (on off : Int) (speed : Code SpeedCondition)
      (mask : BitVec 16) (lead : Code Bool)
  | badKind (raw : Nat)
  deriving DecidableEq, Repr

/-- R157, a stop level. -/
inductive StopLevel where
  | retain | off | on
  deriving DecidableEq, Repr

/-- An entry of a LINE_SETTINGS load (R165). -/
inductive LineEntry where
  | stopLevel (level : Code StopLevel)
  | speedLead (vStill vSlow lead maxAdvance : Option Int)
  deriving DecidableEq, Repr

/-- R178, R179: the actions of the passage table. -/
inductive Action where
  | forward | drop | observe | guardTable | guardStroke
  deriving DecidableEq, Repr

/-- An entry of a PASSAGE load (R178). -/
inductive PassageLoadEntry where
  | empty
  | bound (kind : Nat) (action : Code Action)
  | badKind (raw : Nat)
  deriving DecidableEq, Repr

/-- An entry of a PART_SETTINGS load (R190): one of the four figures, or the partner list's eleven
stations in the order of the roles. -/
inductive SettingEntry where
  | figure (value : Int)
  | partners (stations : List Nat)
  deriving DecidableEq, Repr

/-! ## Schedule edits, commands and queries -/

/-- R110, the destination of a schedule entry. -/
inductive SchedDest where
  | to (k : Furnace)
  | either
  deriving DecidableEq, Repr

/-- One operation of a SCHEDULE_EDIT (R115). -/
inductive SchedOp where
  | append (seq : Nat) (id : Identity) (dest : Option (Code SchedDest)) (group : Option Nat)
      (width length thickness : Option Int)
  | insert (seq : Nat) (id : Identity) (dest : Option (Code SchedDest)) (group : Option Nat)
      (width length thickness : Option Int)
  | delete (seq : Nat)
  | modify (seq : Nat) (dest : Option (Code SchedDest)) (group : Option Nat)
      (width length thickness : Option Int)
  | badCode (raw : Nat)
  deriving DecidableEq, Repr

/-- The names of the placement holds (R44) and of the counter holds (R149). -/
inductive HoldName where
  | substituted | strokeBasis | landingDeviation | strokeDuringCharge
  | encoderError | homeDeviation
  deriving DecidableEq, Repr

/-- The hold names of a CLEAR_HOLDS: ALL, or a set. -/
inductive HoldNames where
  | all
  | set (names : List HoldName)
  deriving DecidableEq, Repr

/-- The selection of a CLEAR_HOLDS (R46). -/
inductive HoldSelection where
  | all
  | furnace (sel : Code Furnace) (names : HoldNames)
  | counter (sel : Code CounterId) (names : HoldNames)
  | badForm (raw : Nat)
  deriving DecidableEq, Repr

/-- The selection of a CLEAR_LINK (R185). -/
inductive LinkSelection where
  | plant | yard | both
  deriving DecidableEq, Repr

/-- The two forms of QUERY MAP (R24); a code tells which (log 49). -/
inductive MapQuery where
  | rows (sel : Code Furnace) (first : Nat)
  | slab (tag : Nat)
  deriving DecidableEq, Repr

/-- The two forms of QUERY TABLE_LIST (R107); the payload length tells which (log 49). -/
inductive TableQuery where
  | list
  | record (tag : Nat)
  deriving DecidableEq, Repr

/-- The two forms of QUERY SCHEDULE (R132); the payload length tells which (log 49). -/
inductive ScheduleQuery where
  | range (seq : Nat)
  | identity (id : Identity)
  deriving DecidableEq, Repr

/-- What the part senses at a cold start: the station straps (R173), the phases (R151), the electrical
levels of the photocells (R151), the links (R186) and the backup-supply input (R199). -/
structure ColdInputs where
  straps : Nat
  phaseT : Bool × Bool
  phaseC1 : Bool × Bool
  phaseC2 : Bool × Bool
  ms : Bool
  gp : Bool
  d1 : Bool
  d2 : Bool
  te : Bool
  plantLink : Bool
  yardLink : Bool
  backup : Bool
  deriving DecidableEq, Repr

/-- The commands: one constructor for each row of spec/opcode_table.json, in the table's order.
A time-driven command carries `elapsed`, the milliseconds that have gone by since the last one. -/
inductive Instr where
  /-- FRAME_CHECK_FAILED (R169) -/
  | frameCheckFailed (port : Port)
  /-- FORWARDED_FRAME (R169): a frame of a type other than ATL -/
  | forwardedFrame (port : Port) (etherDst etherSrc : BitVec 48) (etherType : BitVec 16)
      (bytes : List Byte)
  /-- MALFORMED_TELEGRAM (R170) -/
  | malformedTelegram (t : RawTel)
  /-- WRONG_KIND_TELEGRAM (R175) -/
  | wrongKindTelegram (t : RawTel)
  /-- NOT_FROM_YARD (R176) -/
  | notFromYard (t : RawTel)
  /-- PASSING_TELEGRAM (R179) -/
  | passingTelegram (t : RawTel)
  /-- GRID_REQUEST (R123) -/
  | gridRequest (h : Hdr) (crane : Nat) (id : Identity)
  /-- GRID_RELEASE (R124) -/
  | gridRelease (h : Hdr) (crane : Nat)
  /-- DEPOSIT_REPORT (R127) -/
  | depositReport (h : Hdr) (crane : Nat) (id : Identity) (width thickness mass : Int)
  /-- REMOVAL_REPORT (R106) -/
  | removalReport (h : Hdr) (crane : Nat) (id : Identity)
  /-- TABLE_REPORT (R98) -/
  | tableReport (h : Hdr) (number : Nat) (outcome : Code MoveOutcome) (faultCode : Nat)
  /-- MANUAL_TABLE_MOVE (R180) -/
  | manualTableMove (h : Hdr) (payload : List Byte)
  /-- MANUAL_STROKE (R181) -/
  | manualStroke (h : Hdr) (payload : List Byte)
  /-- STROKE_REPORT (R12) -/
  | strokeReport (h : Hdr) (performed : Int)
  /-- DISCHARGE_REPORT (R16) -/
  | dischargeReport (h : Hdr) (count : Nat) (id1 id2 : Identity)
  /-- LIFTED (R67) -/
  | lifted (h : Hdr) (tag faultCode : Nat)
  /-- AT_DEPTH (R69) -/
  | atDepth (h : Hdr) (tag faultCode : Nat)
  /-- LOWERED (R70) -/
  | lowered (h : Hdr) (tag faultCode : Nat)
  /-- RETRACTED (R71) -/
  | retracted (h : Hdr) (tag faultCode : Nat)
  /-- CHARGER_REPORT_REFUSED (R66) -/
  | chargerReportRefused (h : Hdr) (tag faultCode : Nat)
  /-- CHARGER_REPORT_FAULT (R69) -/
  | chargerReportFault (h : Hdr) (tag faultCode : Nat)
  /-- HEARTBEAT (R194) -/
  | heartbeat (h : Hdr)
  /-- LOAD_FURNACE_GEOMETRY (R28) -/
  | loadFurnaceGeometry (h : Hdr) (sel : Code Furnace) (first : Nat) (entries : List GeometryEntry)
  /-- LOAD_GAP_RULES (R32) -/
  | loadGapRules (h : Hdr) (sel : Code Furnace) (first : Nat) (entries : List Int)
  /-- LOAD_THICKNESS_CLASSES (R31) -/
  | loadThicknessClasses (h : Hdr) (first : Nat) (entries : List Int)
  /-- LOAD_CHARGER_TIMING (R54) -/
  | loadChargerTiming (h : Hdr) (sel : Code Furnace) (first : Nat) (entries : List Int)
  /-- LOAD_TABLE_GEOMETRY (R86) -/
  | loadTableGeometry (h : Hdr) (first : Nat) (entries : List TableGeometryEntry)
  /-- LOAD_COUNTER_SETUP (R145) -/
  | loadCounterSetup (h : Hdr) (sel : Code CounterId) (first : Nat)
      (entries : List CounterSetupEntry)
  /-- LOAD_SENSOR_SETUP (R148) -/
  | loadSensorSetup (h : Hdr) (first : Nat) (entries : List SensorSetupEntry)
  /-- LOAD_WINDOW_POOL (R162) -/
  | loadWindowPool (h : Hdr) (first : Nat) (entries : List PoolLoadEntry)
  /-- LOAD_WINDOW_SETS (R164) -/
  | loadWindowSets (h : Hdr) (sel : Code Furnace) (first : Nat) (entries : List (List Nat))
  /-- LOAD_LINE_SETTINGS (R165) -/
  | loadLineSettings (h : Hdr) (sel : Code Furnace) (first : Nat) (entries : List LineEntry)
  /-- LOAD_PASSAGE (R178) -/
  | loadPassage (h : Hdr) (first : Nat) (entries : List PassageLoadEntry)
  /-- LOAD_STATUS_MAP (R196) -/
  | loadStatusMap (h : Hdr) (first : Nat) (entries : List Nat)
  /-- LOAD_PART_SETTINGS (R190) -/
  | loadPartSettings (h : Hdr) (first : Nat) (entries : List SettingEntry)
  /-- READ_FURNACE_GEOMETRY (R29) -/
  | readFurnaceGeometry (h : Hdr) (sel : Code Furnace) (first count : Nat)
  /-- READ_GAP_RULES (R32) -/
  | readGapRules (h : Hdr) (sel : Code Furnace) (first count : Nat)
  /-- READ_THICKNESS_CLASSES (R189) -/
  | readThicknessClasses (h : Hdr) (first count : Nat)
  /-- READ_CHARGER_TIMING (R54) -/
  | readChargerTiming (h : Hdr) (sel : Code Furnace) (first count : Nat)
  /-- READ_TABLE_GEOMETRY (R86) -/
  | readTableGeometry (h : Hdr) (first count : Nat)
  /-- READ_COUNTER_SETUP (R145) -/
  | readCounterSetup (h : Hdr) (sel : Code CounterId) (first count : Nat)
  /-- READ_SENSOR_SETUP (R148) -/
  | readSensorSetup (h : Hdr) (first count : Nat)
  /-- READ_WINDOW_POOL (R166) -/
  | readWindowPool (h : Hdr) (first count : Nat)
  /-- READ_WINDOW_SETS (R166) -/
  | readWindowSets (h : Hdr) (sel : Code Furnace) (first count : Nat)
  /-- READ_LINE_SETTINGS (R166) -/
  | readLineSettings (h : Hdr) (sel : Code Furnace) (first count : Nat)
  /-- READ_PASSAGE (R178) -/
  | readPassage (h : Hdr) (first count : Nat)
  /-- READ_STATUS_MAP (R196) -/
  | readStatusMap (h : Hdr) (first count : Nat)
  /-- READ_PART_SETTINGS (R189) -/
  | readPartSettings (h : Hdr) (first count : Nat)
  /-- SCHEDULE_EDIT (R114) -/
  | scheduleEdit (h : Hdr) (ops : List SchedOp)
  /-- DELETE_SLAB (R21) -/
  | deleteSlab (h : Hdr) (tag : Nat)
  /-- SET_ROW_FRONT (R22) -/
  | setRowFront (h : Hdr) (sel : Code Furnace) (row : Nat) (front : Int)
  /-- INSERT_SLAB (R23) -/
  | insertSlab (h : Hdr) (sel : Code Furnace) (front : Int) (id : Identity)
      (width length thickness : Int) (group : Nat) (mass : Int)
  /-- ARM_FURNACE (R55) -/
  | armFurnace (h : Hdr) (sel : Code Furnace)
  /-- DISARM_FURNACE (R56) -/
  | disarmFurnace (h : Hdr) (sel : Code Furnace)
  /-- STOP_CHARGER (R73) -/
  | stopCharger (h : Hdr) (sel : Code Furnace)
  /-- RELEASE_CHARGER (R74) -/
  | releaseCharger (h : Hdr) (sel : Code Furnace)
  /-- RESOLVE_INFLIGHT_LANDED (R11, R75) -/
  | resolveInflightLanded (h : Hdr) (sel : Code Furnace) (front : Int)
  /-- RESOLVE_INFLIGHT_REMOVED (R75) -/
  | resolveInflightRemoved (h : Hdr) (sel : Code Furnace)
  /-- ACCEPT_SLAB (R103) -/
  | acceptSlab (h : Hdr) (tag : Nat) (width length thickness : Option Int) (group : Option Nat)
      (dest : Option (Code Furnace))
  /-- REJECT_SLAB (R104) -/
  | rejectSlab (h : Hdr) (tag : Nat)
  /-- REMOVE_SLAB (R104) -/
  | removeSlab (h : Hdr) (tag : Nat)
  /-- ENTER_SLAB (R105) -/
  | enterSlab (h : Hdr) (id : Identity) (width thickness mass : Int)
  /-- CLEAR_HOLDS (R46) -/
  | clearHolds (h : Hdr) (sel : HoldSelection)
  /-- CLEAR_ERROR (R191) -/
  | clearError (h : Hdr)
  /-- CLEAR_LINK (R185) -/
  | clearLink (h : Hdr) (sel : Code LinkSelection)
  /-- RESUME (R203) -/
  | resume (h : Hdr)
  /-- RESET_TRACKING (R204) -/
  | resetTracking (h : Hdr)
  /-- RESET_ALL (R205) -/
  | resetAll (h : Hdr)
  /-- QUERY_MAP (R24) -/
  | queryMap (h : Hdr) (q : MapQuery)
  /-- QUERY_TABLE_LIST (R107) -/
  | queryTableList (h : Hdr) (q : TableQuery)
  /-- QUERY_SCHEDULE (R132) -/
  | querySchedule (h : Hdr) (q : ScheduleQuery)
  /-- QUERY_INFLIGHT (R79) -/
  | queryInflight (h : Hdr) (sel : Code Furnace)
  /-- QUERY_GRID (R133) -/
  | queryGrid (h : Hdr)
  /-- QUERY_COUNTERS (R150) -/
  | queryCounters (h : Hdr)
  /-- QUERY_HOLDS (R47) -/
  | queryHolds (h : Hdr) (clear : Code Bool)
  /-- POSITIONING_TIMEOUT (R62) -/
  | positioningTimeout (k : Furnace) (elapsed : Nat)
  /-- STROKE_TIMEOUT (R64) -/
  | strokeTimeout (k : Furnace) (elapsed : Nat)
  /-- PICK_TIMEOUT (R66) -/
  | pickTimeout (k : Furnace) (elapsed : Nat)
  /-- CARRY_TIMEOUT (R69) -/
  | carryTimeout (k : Furnace) (elapsed : Nat)
  /-- LOWER_TIMEOUT (R69) -/
  | lowerTimeout (k : Furnace) (elapsed : Nat)
  /-- RETRACT_TIMEOUT (R71) -/
  | retractTimeout (k : Furnace) (elapsed : Nat)
  /-- GRANT_TIMEOUT (R130) -/
  | grantTimeout (elapsed : Nat)
  /-- SUPERVISION_TIMEOUT (R194) -/
  | supervisionTimeout (elapsed : Nat)
  /-- STATUS_TIMER_EXPIRY (R195) -/
  | statusTimerExpiry (elapsed : Nat)
  /-- GATE_END (R143) -/
  | gateEnd (c : CounterId) (elapsed : Nat)
  /-- SECONDS_CLOCK_STEP (R200) -/
  | secondsClockStep (elapsed : Nat)
  /-- ENCODER_STEP (R136): the levels phases A and B now show -/
  | encoderStep (c : CounterId) (a b : Bool)
  /-- MARKER_EDGE (R140) -/
  | markerEdge (c : CounterId) (rising : Bool)
  /-- RAW_TRANSITION (R146): the electrical level the input now shows -/
  | rawTransition (i : SensorId) (electrical : Bool)
  /-- FILTER_TIME_ELAPSED (R147) -/
  | filterTimeElapsed (i : SensorId) (elapsed : Nat)
  /-- PORT_DOWN (R184) -/
  | portDown (p : Port)
  /-- PORT_UP (R184) -/
  | portUp (p : Port)
  /-- FRAME_SENT (R183) -/
  | frameSent (p : Port)
  /-- MAIN_SUPPLY_LOST (R199) -/
  | mainSupplyLost
  /-- MAIN_SUPPLY_RETURNS (R202) -/
  | mainSupplyReturns
  /-- BACKUP_SUPPLY_LOST (R199) -/
  | backupSupplyLost
  /-- BACKUP_SENSE_CHANGE (R199): whether the input now shows PRESENT -/
  | backupSenseChange (present : Bool)
  /-- COLD_START (R206) -/
  | coldStart (inputs : ColdInputs)
  deriving DecidableEq, Repr

end Sys2Proof
end

