-- ==== Sys2Proof/Config.lean ====
section
/-! DEFINITION. What the part has and the manual gives no value: the Ethernet source addresses of its
two ports (R169), and what a one-byte field carries of a number that a byte does not hold (R171). Free values:
nothing constrains them. -/

namespace Sys2Proof

/-- The Ethernet source address of the port that sends a frame the part forms itself (R169). -/
opaque Config.portAddress : Port → BitVec 48

/-- What a one-byte field carries of a number from 256 on (R171, R170; log 44). -/
opaque Config.beyondByte : Nat → Byte

end Sys2Proof
end

