-- ==== Sys2Proof/Machine/State.lean ====
section
/-! DEFINITION. The state of the part, all of it, as plain data; the telegrams the part forms; the
values after a cold start (chapters 1 to 10, the sections "Values after start"). -/

namespace Sys2Proof.Machine

/-- One thing for each furnace. -/
structure PerFurnace (α : Type) where
  f1 : α
  f2 : α
  deriving DecidableEq, Repr

/-- One thing for each counter (R135). -/
structure PerCounter (α : Type) where
  t : α
  c1 : α
  c2 : α
  deriving DecidableEq, Repr

/-- One thing for each sensor input (R146). -/
structure PerSensor (α : Type) where
  ms : α
  gp : α
  d1 : α
  d2 : α
  te : α
  deriving DecidableEq, Repr

/-! ## Loaded tables -/

/-- R27: a furnace geometry record. -/
structure FurnaceGeometry where
  lEff : Int
  zMin : Int
  zMax : Int
  dDoor : Int
  sNom : Int
  basis : StrokeBasis
  lPair : Int
  pairTolerance : Int
  landingTolerance : Int
  armOffset : Int
  retractClear : Int
  policy : FaultPolicy
  deriving DecidableEq, Repr

/-- R30: the three thickness boundaries. -/
structure Bounds where
  b1 : Int
  b2 : Int
  b3 : Int
  deriving DecidableEq, Repr

/-- R86: the table geometry. -/
structure TableGeometry where
  xTS : Int
  xGS : Int
  xG : Int
  xGE : Int
  xMS : Int
  xD1 : Int
  xD2 : Int
  xTE : Int
  x1A : Int
  x1C : Int
  x1B : Int
  x2A : Int
  x2C : Int
  x2B : Int
  trackingTolerance : Int
  positioningTolerance : Int
  lengthTolerance : Int
  deriving DecidableEq, Repr

/-- R144: a counter's setup. -/
structure CounterSetup where
  multiplier : Multiplier
  invert : Bool
  scale : Int
  gatePeriod : Nat
  markerUse : MarkerUse
  edgeRising : Bool
  homeDirection : HomeDirection
  homePosition : Int
  homeTolerance : Int
  deriving DecidableEq, Repr

/-- R146: a sensor input's setup; the filter time in ms. -/
structure SensorSetup where
  filterTime : Nat
  invert : Bool
  deriving DecidableEq, Repr

/-- R155: a window. The state mask has one bit for each of IDLE, POSITIONING, ROOM, PICK, CARRY, LOWER,
RETRACT, the first in the least significant bit (R171). -/
structure Window where
  basis : EdgeBasis
  on : Int
  off : Int
  speed : SpeedCondition
  mask : BitVec 16
  lead : Bool
  deriving DecidableEq, Repr

/-- R157: a furnace's line settings. -/
structure LineSettings where
  stops : List StopLevel
  vStill : Int
  vSlow : Int
  lead : Int
  maxAdvance : Int
  deriving DecidableEq, Repr

/-- R190: the four figures of PART_SETTINGS: ms, s, count, s. -/
structure PartSettings where
  statusPeriod : Nat
  supervisionPeriod : Nat
  lookAhead : Nat
  grantTimeout : Nat
  deriving DecidableEq, Repr

/-- The eleven roles of the partner list (R174). -/
inductive Role where
  | scheduling
  | crane (c : Crane)
  | tableDrive
  | charger (k : Furnace)
  | beam (k : Furnace)
  | discharge (k : Furnace)
  deriving DecidableEq, Repr

/-- R174: the partner list, one station for each role. -/
structure Partners where
  scheduling : Nat
  crane1 : Nat
  crane2 : Nat
  crane3 : Nat
  tableDrive : Nat
  charger1 : Nat
  charger2 : Nat
  beam1 : Nat
  beam2 : Nat
  discharge1 : Nat
  discharge2 : Nat
  deriving DecidableEq, Repr

/-- The thirteen loaded tables of R188. Pool: 96 entries. Sets: index 8 × set + line. Passage: 32
entries. Status map: 16 quantity numbers. Timing: the six timeouts of R53 in s. Gaps: index of R32. -/
structure Tables where
  geometry : PerFurnace (Option FurnaceGeometry)
  gaps : PerFurnace (List Int)
  bounds : Bounds
  timing : PerFurnace (List Nat)
  tableGeometry : Option TableGeometry
  counterSetup : PerCounter CounterSetup
  sensorSetup : PerSensor SensorSetup
  pool : List (Option Window)
  sets : PerFurnace (List (List Nat))
  lineSettings : PerFurnace LineSettings
  passage : List (Option (Nat × Action))
  statusMap : List Nat
  settings : PartSettings
  partners : Option Partners
  deriving DecidableEq, Repr

/-! ## Maps -/

/-- R2: a furnace slab record. -/
structure FurnaceSlab where
  tag : Nat
  id : Identity
  width : Int
  length : Int
  thickness : Int
  mass : Option Int
  group : Nat
  chargedAt : Word32
  deviation : Option Int
  substituted : Bool
  deriving DecidableEq, Repr

/-- R1, R4: which lanes of a row hold a slab, with one record for each. -/
inductive Occupancy where
  | c (slab : FurnaceSlab)
  | a (slab : FurnaceSlab)
  | b (slab : FurnaceSlab)
  | ab (slabA slabB : FurnaceSlab)
  deriving DecidableEq, Repr

/-- R1: a row record. -/
structure Row where
  front : Int
  extent : Int
  occ : Occupancy
  pairOpen : Bool
  overrun : Bool
  deriving DecidableEq, Repr

/-- A furnace map: its rows, the first nearest discharge (R3), and its last landing front (R25). -/
structure FurnaceMap where
  rows : List Row
  lastLanding : Int
  deriving DecidableEq, Repr

/-! ## Placement -/

/-- R33: a provisional or a final computation (a recomputation is a final one made again). -/
inductive PlacementKind where
  | provisional | final
  deriving DecidableEq, Repr

/-- The result codes of a placement computation; the stroke count of STROKES(n) is a field of the
record. -/
inductive PlacementResult where
  | placed | pair | strokes | full | mapFull | noFit | unmeasured
  deriving DecidableEq, Repr

/-- R35: the four operands by name. -/
inductive OperandName where
  | width | length | thickness | group
  deriving DecidableEq, Repr

/-- An operand figure, marked measured or nominal (R43). -/
structure Operand where
  value : Int
  nominal : Bool
  deriving DecidableEq, Repr

/-- The operand heating group with its mark (R43). -/
structure GroupOperand where
  value : Nat
  nominal : Bool
  deriving DecidableEq, Repr

/-- R35, R43: the operands of a computation, each marked. -/
structure Operands where
  width : Operand
  length : Operand
  thickness : Operand
  group : GroupOperand
  deriving DecidableEq, Repr

/-- R37: the pair test's outcome, with the first condition that failed. -/
inductive PairOutcome where
  | passed
  | failed (condition : Nat)
  deriving DecidableEq, Repr

/-- R43: the placement record handed back. -/
structure PlacementRecord where
  kind : PlacementKind
  furnace : Furnace
  tag : Nat
  result : PlacementResult
  lane : Option Lane
  operands : Option Operands
  absent : Option OperandName
  cls : Option Nat
  pairTest : Option PairOutcome
  fMin : Option Int
  gap : Option Int
  rawTarget : Option Int
  target : Option Int
  strokes : Option Int
  divisor : Option Int
  fallback : Option Bool
  deriving DecidableEq, Repr

/-- R44: the four placement holds of a furnace. -/
structure PlacementHolds where
  substituted : Bool
  strokeBasis : Bool
  landingDeviation : Bool
  strokeDuringCharge : Bool
  deriving DecidableEq, Repr

/-- What the placement unit keeps for a furnace beside its tables (section 2.1). -/
structure PlacementState where
  lastStroke : Option Int
  holds : PlacementHolds
  deriving DecidableEq, Repr

/-! ## The table -/

/-- The causes of a held slab (R85, R120). -/
inductive SlabCause where
  | length | tracking | noFit | unmeasured | position
  | unscheduled | offlineFurnace | outOfSequence
  deriving DecidableEq, Repr

/-- R85: READY, HELD with a cause, or REJECT. -/
inductive SlabState where
  | ready
  | held (cause : SlabCause)
  | reject
  deriving DecidableEq, Repr

/-- R82: the nominal width, length and thickness. -/
structure Nominals where
  width : Int
  length : Int
  thickness : Int
  deriving DecidableEq, Repr

/-- R82: a table slab record. -/
structure TableRecord where
  tag : Nat
  id : Identity
  anchor : Int
  measured : Option Int
  width : Option Int
  thickness : Option Int
  mass : Option Int
  link : Option Nat
  nominals : Option Nominals
  group : Option Nat
  dest : Option Furnace
  state : SlabState
  seenMS : Bool
  seenD1 : Bool
  seenD2 : Bool
  substituted : Bool
  deriving DecidableEq, Repr

/-- R91: a pending measurement: a tag and the head capture in micrometres. -/
structure Measurement where
  tag : Nat
  capture : Int
  deriving DecidableEq, Repr

/-- The table tracker: the table list, the tag sequence, the pending measurement and the unidentified
presence flag (R83, R84, R91, R87). -/
structure Tracker where
  table : List TableRecord
  nextTag : Nat
  measuring : Option Measurement
  unidentified : Bool
  deriving DecidableEq, Repr

/-- R93: STILL, or MOVING with its owner; a positioning move has its number and whether its grant is
still wanted, a manual move has number 0. -/
inductive Motion where
  | still
  | positioning (k : Furnace) (number : Nat) (wanted : Bool)
  | manual
  deriving DecidableEq, Repr

/-- R94: how a positioning request stands. -/
inductive RequestStatus where
  | waiting | skipped | granted
  deriving DecidableEq, Repr

/-- R93: a positioning request. -/
structure PosRequest where
  tag : Nat
  target : Int
  status : RequestStatus
  deriving DecidableEq, Repr

/-- R93: the table arbiter. -/
structure Arbiter where
  motion : Motion
  holds : PerFurnace Bool
  gridHold : Option Crane
  requests : PerFurnace (Option PosRequest)
  nextMove : Nat
  deriving DecidableEq, Repr

/-! ## The charger sequencers -/

/-- R48: the nine states. -/
inductive SeqState where
  | offline | idle | positioning | room | pick | carry | lower | retract | held
  deriving DecidableEq, Repr

/-- R53: the six timeouts. -/
inductive TimeoutKind where
  | positioning | stroke | pick | carry | lower | retract
  deriving DecidableEq, Repr

/-- R51: the held causes. `timeout` is TIMEOUT_POSITIONING, TIMEOUT_ROOM (the stroke timer), TIMEOUT_PICK,
TIMEOUT_CARRY, TIMEOUT_LOWER or TIMEOUT_RETRACT. -/
inductive HeldCause where
  | stopped | tableFault
  | timeout (which : TimeoutKind)
  | chargerRefused | chargerFault | retractPosition | mapFullLanding
  | slabRemoved | trackingLost | restored
  deriving DecidableEq, Repr

/-- R52: the waiting reasons; FULL and MAP_FULL show a tag. -/
inductive Waiting where
  | none | mode | supervision | unhomed | noSlab
  | full (tag : Nat)
  | mapFull (tag : Nat)
  | grant | tableBlocked | move | strokes
  deriving DecidableEq, Repr

/-- R49, R53: the running state timer with its time left in ms. -/
structure Timer where
  which : TimeoutKind
  left : Nat
  deriving DecidableEq, Repr

/-- R49: the cycle record. -/
structure CycleRecord where
  tag : Nat
  id : Identity
  lane : Lane
  provisional : PlacementRecord
  final : Option PlacementRecord
  target : Option Int
  cls : Nat
  outstanding : Nat
  corrective : Nat
  timer : Option Timer
  measured : Option Int
  deriving DecidableEq, Repr

/-- R50: the certainty of an in-flight record. -/
inductive Certainty where
  | normal | uncertain
  deriving DecidableEq, Repr

/-- R50: the in-flight record, a copy of the table record with the cycle's lane and target. -/
structure InFlight where
  record : TableRecord
  lane : Lane
  target : Option Int
  certainty : Certainty
  deriving DecidableEq, Repr

/-- A charger sequencer (R48 to R52). -/
structure Sequencer where
  state : SeqState
  cause : Option HeldCause
  waiting : Waiting
  cycle : Option CycleRecord
  inflight : Option InFlight
  deriving DecidableEq, Repr

/-! ## The schedule and the grid -/

/-- R110: PLANNED, or DEPOSITED with a tag. -/
inductive EntryState where
  | planned
  | deposited (tag : Nat)
  deriving DecidableEq, Repr

/-- R110: a schedule entry. -/
structure ScheduleEntry where
  seq : Nat
  id : Identity
  dest : SchedDest
  group : Nat
  width : Int
  length : Int
  thickness : Int
  state : EntryState
  deriving DecidableEq, Repr

/-- R121: a queued grid request. -/
structure GridRequest where
  crane : Crane
  id : Identity
  reference : Nat
  rank : Nat
  deriving DecidableEq, Repr

/-- R121, R130: ACTIVE with the grant timer's time left in ms, or OVERDUE with no timer running. -/
inductive GrantPhase where
  | active (left : Nat)
  | overdue
  deriving DecidableEq, Repr

/-- R121: the grant record. -/
structure Grant where
  crane : Crane
  id : Identity
  reference : Nat
  phase : GrantPhase
  deriving DecidableEq, Repr

/-- R121: the grid arbiter. -/
structure Grid where
  queue : List GridRequest
  grant : Option Grant
  nextRank : Nat
  deriving DecidableEq, Repr

/-! ## The counter unit -/

/-- R139: the direction of a counted increment. -/
inductive Direction where
  | forward | reverse
  deriving DecidableEq, Repr

/-- R135: a counter, less its setup, which stands in the tables. `gateLeft` is the time left of the
running gate in ms (R143). Counter T uses neither `homed`, `lastHomeDev` nor `homeDeviation`. -/
structure Counter where
  phase : Bool × Bool
  acc : Int
  lastDir : Option Direction
  raw : BitVec 24
  homed : Bool
  lastHomeDev : Option Int
  speed : Int
  gateStart : Int
  gateLeft : Nat
  encoderError : Bool
  homeDeviation : Bool
  deriving DecidableEq, Repr

/-- R146: a pending change, with the time it has held in ms and what was noted when it began. -/
structure PendingChange where
  level : Bool
  held : Nat
  capture : Int
  dir : Option Direction
  deriving DecidableEq, Repr

/-- R146: a sensor input, less its setup. `electrical` is the input's electrical level; presence is
`true` for the taken level. -/
structure Sensor where
  electrical : Bool
  taken : Bool
  pending : Option PendingChange
  latest : Int
  previous : Int
  deriving DecidableEq, Repr

/-- The window unit's state for a furnace: the stopped levels while they stand (R160) and the levels of
the eight lines (R153), ON as `true`. -/
structure WindowState where
  stopped : Option (List Bool)
  lines : List Bool
  deriving DecidableEq, Repr

/-! ## Retention, supervision and the error latch -/

/-- R199: the part modes. -/
inductive Mode where
  | run | retain | restored
  deriving DecidableEq, Repr

/-- R199: the start kind. -/
inductive StartKind where
  | cold | restored
  deriving DecidableEq, Repr

/-- R194: LOST, or OK with the supervision timer: the period it was started with in s (R190), and its time
left in ms. -/
inductive Supervision where
  | lost
  | ok (period left : Nat)
  deriving DecidableEq, Repr

/-- The response codes of R187. -/
inductive RespCode where
  | ok | latched | outOfRange | illegalValue | overlap | poolFull | scheduleFull | duplicate
  | unknownTag | unknownTable | notWhileArmed | notWhileCharging | busy | notConfigured
  | notFromYard | wrongMode | mapConflict | mapFullEdit
  deriving DecidableEq, Repr

/-- The thirteen table ids of R188. -/
inductive TableId where
  | furnaceGeometry | gapRules | thicknessClasses | chargerTiming | tableGeometry | counterSetup
  | sensorSetup | windowPool | windowSets | lineSettings | passage | statusMap | partSettings
  deriving DecidableEq, Repr

/-- The operations of SCHEDULE_EDIT by code. -/
inductive SchedOpCode where
  | append | insert | delete | modify
  | other (raw : Nat)
  deriving DecidableEq, Repr

/-- The operations of MAP_EDIT by code. -/
inductive MapOpCode where
  | deleteSlab | setRowFront | insertSlab
  | other (raw : Nat)
  deriving DecidableEq, Repr

/-- R191: the telegram kind and the table id or operation code of a latch record; `none` where the
refusal is of no single operation. -/
inductive LatchItem where
  | load (table : TableId)
  | loadUnknown (id : Nat)
  | schedule (op : Option SchedOpCode)
  | map (op : Option MapOpCode)
  deriving DecidableEq, Repr

/-- R191: the latch record. -/
structure LatchRecord where
  code : RespCode
  item : LatchItem
  entry : Option Nat
  deriving DecidableEq, Repr

/-- The management unit's own items. -/
structure Mgmt where
  latch : Option LatchRecord
  supervision : Supervision
  statusTimer : Option Nat
  deriving DecidableEq, Repr

/-! ## Events -/

/-- R137, R141: a counter hold's event details, and the placement holds' (R44). -/
inductive HoldSet where
  | placement (hold : HoldName) (k : Furnace) (tag : Option Nat) (divisor : Option Int)
  | encoderError (c : CounterId) (before after : Bool × Bool)
  | homeDeviation (c : CounterId) (position home deviation : Int)
  deriving DecidableEq, Repr

/-- R91: the outcome of a length measurement. -/
inductive LengthOutcome where
  | outOfRange | offNominal | accepted
  deriving DecidableEq, Repr

/-- The outcomes of a deposit (R127, R128). -/
inductive DepositOutcome where
  | accepted | notGranted | illegalId | duplicateId
  deriving DecidableEq, Repr

/-- The phases of a CHARGER_REPORT (R68). -/
inductive ChargerPhase where
  | lifted | atDepth | lowered | retracted | refused | fault
  deriving DecidableEq, Repr

/-- The reasons of STRAY_TELEGRAM (R170, R171, R175, R177). -/
inductive StrayReason where
  | malformed | format | wrongKind | wrongPort | noPartner
  deriving DecidableEq, Repr

/-- R197: the events with the fields their rules give. -/
inductive Event where
  /-- R10, R11 -/
  | landed (tag : Nat) (id : Identity) (k : Furnace) (row : Nat) (lane : Lane) (front : Int)
      (deviation : Option Int) (mass : Option Int)
  /-- R19 -/
  | discharged (tag : Nat) (id : Identity) (k : Furnace) (row : Nat) (lane : Lane) (front : Int)
      (mass : Option Int) (substituted : Bool) (residence : Word32)
  /-- R18 -/
  | dischargeMisorder (k : Furnace) (id : Identity) (tag row : Nat)
  /-- R16: the count and the identities as received -/
  | dischargeInvalid (k : Furnace) (count : Nat) (id1 id2 : Identity)
  /-- R18: one identity found nowhere -/
  | dischargeUnknown (k : Furnace) (id : Identity)
  /-- R5 -/
  | overrun (k : Furnace) (row : Nat) (front : Int) (slabs : List (Nat × Identity))
  /-- R12 -/
  | strokeClamped (k : Furnace) (reported taken : Int)
  /-- R85, R104, R120: the cause, or none for the state REJECT (log 47); the state left, or none at creation -/
  | slabHeld (tag : Nat) (id : Identity) (cause : Option SlabCause) (left : Option SlabState)
      (head : Int)
  /-- R85, R103, R120 -/
  | slabReady (tag : Nat) (id : Identity) (dest : Option Furnace)
  /-- R91 -/
  | lengthMeasured (tag : Nat) (id : Identity) (length : Int) (nominal : Option Int)
      (outcome : LengthOutcome)
  /-- R90, R91 -/
  | unexpectedEdge (i : SensorId) (rising : Bool) (travel : Int)
  /-- R92 -/
  | missedEdge (tag : Nat) (i : SensorId) (head : Int)
  /-- R90 -/
  | trackingConflict (tag : Nat) (i : SensorId) (correction : Int)
  /-- R87 -/
  | unidentifiedOnGrid (travel : Int)
  /-- R130 -/
  | unidentifiedAfterGrant (c : Crane) (id : Identity) (travel : Int)
  /-- R127: the crane number as reported -/
  | depositRefused (crane : Nat) (id : Identity) (outcome : DepositOutcome)
  /-- R100 -/
  | tableEnd (travel : Int) (motion : Motion)
  /-- R51 -/
  | chargerHeld (k : Furnace) (cause : HeldCause) (left : SeqState) (tag : Option Nat)
      (certainty : Option Certainty) (faultCode : Option Nat)
  /-- R68 -/
  | unexpectedCharger (k : Furnace) (state : SeqState) (phase : ChargerPhase) (tag : Nat)
  /-- R98 -/
  | unexpectedTable (motion : Motion) (outcome : MoveOutcome) (number : Nat)
  /-- R9, R15, R35, R41, R137, R141 -/
  | holdSet (h : HoldSet)
  /-- R194: the period that expired, in s, the unit its field gives (R190) -/
  | supervisionLost (period : Nat)
  /-- R194 -/
  | supervisionOk
  /-- R170, R171, R175, R177, R179 -/
  | strayTelegram (p : Port) (source dest kind : Nat) (reason : StrayReason)
  /-- R199 -/
  | modeChanged (left entered : Mode) (start : StartKind)
  deriving DecidableEq, Repr

/-- R197, R201: an event with the seconds clock of its raising. -/
structure Stamped where
  event : Event
  clock : Word32
  deriving DecidableEq, Repr

/-! ## The telegrams the part forms -/

/-- R122: the answers to a crane. -/
inductive GridAnswer where
  | granted
  | queued (position : Nat)
  | refused (reason : RespCode)
  | withdrawnTimeout
  | withdrawnDuplicate
  | withdrawnReset
  | released
  deriving DecidableEq, Repr

/-- R99: the reasons of TABLE_HALT. -/
inductive HaltReason where
  | stopped | disarmed | timeout | slabRemoved | trackingLost | tableEnd | reset
  deriving DecidableEq, Repr

/-- R72: the reasons of CHARGER_STOP. -/
inductive StopReason where
  | command | timeout | slabRemoved | trackingLost
  deriving DecidableEq, Repr

/-- R182: the reasons of BLOCKED with the fields each carries. -/
inductive BlockReason where
  | tableBusy (motion : Motion) (chargerHold gridHold : Bool)
  | charging (k : Furnace) (state : SeqState)
  | queueFull
  | notGuardedRole
  deriving DecidableEq, Repr

/-- R24: a row summary of QUERY MAP. -/
structure RowSummary where
  front : Int
  extent : Int
  lanes : List (Lane × Nat)
  pairOpen : Bool
  overrun : Bool
  deriving DecidableEq, Repr

/-- R107: a record's line in the list form of QUERY TABLE_LIST. -/
structure RecordSummary where
  index : Nat
  tag : Nat
  head : Int
  centre : Int
  state : SlabState
  dest : Option Furnace
  deriving DecidableEq, Repr

/-- R133: the grant conditions of R125 as QUERY GRID shows them. -/
structure GrantConditions where
  supervision : Bool
  mode : Bool
  gridClear : Bool
  roomInList : Bool
  permission : Bool
  deriving DecidableEq, Repr

/-- R150: a counter as QUERY COUNTERS gives it. -/
structure CounterReport where
  setup : CounterSetup
  counter : Counter
  position : Int
  depth : Option Int
  deriving DecidableEq, Repr

/-- R150: a sensor input as QUERY COUNTERS gives it, its captures in mm beside it. -/
structure SensorReport where
  setup : SensorSetup
  raw : Bool
  sensor : Sensor
  latestMm : Int
  previousMm : Int
  deriving DecidableEq, Repr

/-- R47: a furnace's part of the QUERY HOLDS answer; the basis and policy are absent where the geometry
record has no values (NOT_CONFIGURED). -/
structure HoldsReport where
  holds : PlacementHolds
  lastStroke : Option Int
  basisPolicy : Option (StrokeBasis × FaultPolicy)
  deriving DecidableEq, Repr

/-- The counter holds as the status header and QUERY HOLDS carry them (R149). -/
structure CounterHolds where
  tError : Bool
  c1Error : Bool
  c1Deviation : Bool
  c2Error : Bool
  c2Deviation : Bool
  deriving DecidableEq, Repr

/-- R46: a hold that a CLEAR_HOLDS found set. -/
inductive ClearedHold where
  | placement (k : Furnace) (hold : HoldName)
  | counter (c : CounterId) (hold : HoldName)
  deriving DecidableEq, Repr

/-- R185: the link flags. -/
inductive LinkFlag where
  | plantOverrun | plantDiscarded | yardOverrun | yardDiscarded
  deriving DecidableEq, Repr

/-- R55: the tables ARM_FURNACE may find missing. -/
inductive MissingTable where
  | geometry | tableGeometry | partners
  deriving DecidableEq, Repr

/-- R166, R190: an entry of LINE_SETTINGS or PART_SETTINGS as a READ_TABLE returns it. -/
inductive ReadEntry where
  | stopLevel (level : StopLevel)
  | speedLead (vStill vSlow lead maxAdvance : Int)
  | figure (value : Nat)
  | partners (list : Option Partners)
  deriving DecidableEq, Repr

/-- The fields of a RESPONSE that follow its code, as the owning rules give them. -/
inductive RespData where
  | none
  /-- R194 -/
  | heartbeat (mode : Mode) (start : StartKind) (supervisionOk : Bool)
  /-- R162: the pool index each entry was written at -/
  | poolIndices (indices : List Nat)
  /-- R190: every value as it was taken -/
  | settingsTaken (entries : List ReadEntry)
  /-- R29 -/
  | geometry (g : FurnaceGeometry)
  /-- R32, R189 -/
  | figures (values : List Int)
  /-- R54: timeouts in s -/
  | durations (values : List Nat)
  /-- R196: quantity codes -/
  | quantities (values : List Nat)
  /-- R86 -/
  | tableGeometry (g : TableGeometry)
  /-- R145 -/
  | counterSetup (x : CounterSetup)
  /-- R148 -/
  | sensorSetups (xs : List SensorSetup)
  /-- R166: each entry with the number of set lines that reference it -/
  | poolEntries (xs : List (Option Window × Nat))
  /-- R166 -/
  | lineLists (xs : List (List Nat))
  /-- R166, R189 -/
  | entries (xs : List ReadEntry)
  /-- R178 -/
  | passage (xs : List (Option (Nat × Action)))
  /-- R114: schedule count and PLANNED count -/
  | scheduleCounts (count planned : Nat)
  /-- R21 -/
  | deleted (tag : Nat) (id : Identity) (k : Furnace) (row : Nat) (lane : Lane)
  /-- R22 -/
  | rowFront (k : Furnace) (row : Nat) (front : Int)
  /-- R23 -/
  | inserted (tag : Nat) (k : Furnace) (row : Nat)
  /-- R55 -/
  | missing (t : MissingTable)
  /-- R74 -/
  | sequencerState (st : SeqState)
  /-- R75: LANDED as true -/
  | resolved (tag : Nat) (landed : Bool) (st : SeqState)
  /-- R103 -/
  | accepted (tag : Nat) (head : Int) (r : TableRecord)
  /-- R104 -/
  | tagIdentity (tag : Nat) (id : Identity)
  /-- R105 -/
  | entered (tag : Nat) (st : SlabState)
  /-- R46 -/
  | clearedHolds (hs : List ClearedHold)
  /-- R191: the record cleared, or "clear" -/
  | clearedLatch (r : Option LatchRecord)
  /-- R185 -/
  | clearedFlags (fs : List LinkFlag)
  /-- R203 -/
  | resumed (delivered : Nat) (overflow : Bool)
  /-- R24, rows form -/
  | mapRows (k : Furnace) (count first : Nat) (rows : List RowSummary)
  /-- R24, slab form -/
  | mapSlab (slab : FurnaceSlab) (k : Furnace) (row : Nat) (lane : Lane) (front : Int)
  /-- R107, list form -/
  | tableList (travel : Int) (count : Nat) (records : List RecordSummary) (motion : Motion)
      (holds : PerFurnace Bool) (gridHold : Option Crane)
      (requests : PerFurnace (Option PosRequest)) (measuring : Option Nat) (gp unidentified : Bool)
  /-- R107, record form -/
  | tableRecord (r : TableRecord) (head tail centre assumed : Int)
  /-- R132, range form -/
  | scheduleRange (count planned : Nat) (entries : List ScheduleEntry)
  /-- R132, identity form -/
  | scheduleEntry (e : ScheduleEntry) (position plannedAhead : Nat)
  /-- R79: the request as granted (true), waiting (false) or absent -/
  | inflight (q : Sequencer) (hold : Bool) (request : Option Bool)
  /-- R133 -/
  | grid (grant : Option Grant) (queue : List (GridRequest × Option Nat)) (conds : GrantConditions)
      (gp unidentified : Bool)
  /-- R150 -/
  | counters (cs : PerCounter CounterReport) (ss : PerSensor SensorReport)
  /-- R47 -/
  | holds (fs : PerFurnace HoldsReport) (cs : CounterHolds)
  deriving DecidableEq, Repr

/-- R195: a sequencer's part of the status header. -/
structure SeqStatus where
  state : SeqState
  cause : Option HeldCause
  waiting : Waiting
  deriving DecidableEq, Repr

/-- R195, R199: the fixed header of STATUS. -/
structure StatusHeader where
  mode : Mode
  start : StartKind
  backup : Bool
  heldCount : Nat
  overflow : Bool
  supervisionOk : Bool
  latch : Option LatchRecord
  seqs : PerFurnace SeqStatus
  motion : Motion
  chargerHolds : PerFurnace Bool
  gridHold : Option Crane
  holder : Option Crane
  placementHolds : PerFurnace PlacementHolds
  counterHolds : CounterHolds
  plantUp : Bool
  yardUp : Bool
  flags : List LinkFlag
  lines : PerFurnace (List Bool)
  deriving DecidableEq, Repr

/-- The payloads of the telegrams the part forms. -/
inductive OwnBody where
  /-- R122; the identity is absent where the part has no request to answer for -/
  | gridAnswer (crane : Crane) (id : Option Identity) (answer : GridAnswer)
  /-- R128 -/
  | depositAck (crane : Crane) (id : Identity) (outcome : DepositOutcome) (tag : Nat)
      (state : Option SlabState) (dest : Option Furnace)
  /-- R97 -/
  | tableMove (number : Nat) (distance : Int)
  /-- R99 -/
  | tableHalt (number : Nat) (reason : HaltReason)
  /-- R65 -/
  | chargeOrder (tag : Nat) (id : Identity) (lane : Lane) (target lowering : Int) (cls : Nat)
  /-- R72 -/
  | chargerStop (tag : Nat) (reason : StopReason)
  /-- R63 -/
  | strokeRequest (tag count : Nat) (length : Int)
  /-- R187: the kind code of the request, the code, the entry index, the fields -/
  | response (request : Nat) (code : RespCode) (entry : Option Nat) (data : RespData)
  /-- R195 -/
  | status (header : StatusHeader) (words : List Word32)
  /-- R197 -/
  | event (e : Stamped)
  /-- R182: the kind code and the destination of the blocked telegram, and the reason -/
  | blocked (kind dest : Nat) (reason : BlockReason)
  deriving DecidableEq, Repr

/-- A telegram the part forms, with the Ethernet addresses and type of its frame (R169) and its header
(R170). -/
structure OwnTelegram where
  etherDst : BitVec 48
  etherSrc : BitVec 48
  etherType : BitVec 16
  dest : Nat
  source : Nat
  reference : Nat
  body : OwnBody
  deriving DecidableEq, Repr

/-- R183: a frame in a transmit queue. A forwarded frame is sent as it was received (R169), so it is held
as the command that brought it. -/
inductive Frame where
  | forwarded (received : Instr)
  | own (t : OwnTelegram)
  deriving DecidableEq, Repr

/-- R169, R183, R185: a port: whether it has a link with its partner device, whether it is UP (in RETAIN
it is DOWN whatever its link, R186), its transmit queue and its two flags. -/
structure PortState where
  link : Bool
  up : Bool
  queue : List Frame
  linkOverrun : Bool
  ownDiscarded : Bool
  deriving DecidableEq, Repr

/-- The passage unit's ports and the station address (R173: none with the straps reading 63). -/
structure Links where
  plant : PortState
  yard : PortState
  station : Option Nat
  deriving DecidableEq, Repr

/-- The retention controller (R199 to R201). -/
structure Retention where
  mode : Mode
  startKind : StartKind
  backup : Bool
  clock : Word32
  held : List Stamped
  overflow : Bool
  deriving DecidableEq, Repr

/-- The occasions that the event being taken has brought about and that are not served yet: a start
evaluation of a sequencer (R57), the grant rule of the table arbiter (R95), a grant evaluation of the
grid arbiter (R125). The model's own field; nothing stands in it between events. -/
structure Due where
  start : PerFurnace Bool
  tableRule : Bool
  gridEval : Bool
  deriving DecidableEq, Repr

/-- The whole part, and the queue of the commands that wait. -/
structure State where
  pending : List Instr
  power : Bool
  ret : Retention
  cfg : Tables
  links : Links
  mgmt : Mgmt
  schedule : List ScheduleEntry
  grid : Grid
  tracker : Tracker
  arb : Arbiter
  seqs : PerFurnace Sequencer
  place : PerFurnace PlacementState
  maps : PerFurnace FurnaceMap
  counters : PerCounter Counter
  sensors : PerSensor Sensor
  windows : PerFurnace WindowState
  due : Due
  deriving DecidableEq, Repr

/-- Why a step ends in a fault: never. The manual names no fault that stops the part (INVENTORY.md,
Faults), so the type has no constructor. -/
inductive Fault : Type
  deriving DecidableEq, Repr

/-- Why a step ends in a refusal. -/
inductive Refusal where
  /-- raised by an arm of `exec` whose command has no meaning yet; safe. No arm raises it now. -/
  | notModelled (mnemonic : String)
  deriving DecidableEq, Repr

/-! ## Values after a cold start -/

/-- R144: the defaults of COUNTER_SETUP. -/
def CounterSetup.default : CounterSetup :=
  { multiplier := .x4, invert := false, scale := 100, gatePeriod := 20, markerUse := .none,
    edgeRising := true, homeDirection := .either, homePosition := 0, homeTolerance := 20 }

/-- R146: the defaults of SENSOR_SETUP. -/
def SensorSetup.default : SensorSetup := { filterTime := 10, invert := false }

/-- R157: the defaults of LINE_SETTINGS. -/
def LineSettings.default : LineSettings :=
  { stops := List.replicate 8 .off, vStill := 20, vSlow := 300, lead := 0, maxAdvance := 100 }

/-- R190: the defaults of PART_SETTINGS. -/
def PartSettings.default : PartSettings :=
  { statusPeriod := 500, supervisionPeriod := 10, lookAhead := 2, grantTimeout := 180 }

/-- R178: the default content of the passage table. -/
def Tables.defaultPassage : List (Option (Nat × Action)) :=
  [some (0x24, .observe), some (0x26, .observe), some (0x52, .observe), some (0x54, .observe),
   some (0x34, .guardTable), some (0x53, .guardStroke)] ++ List.replicate 26 none

/-- The loaded tables after a cold start and RESET_ALL (R27, R30, R32, R53, R86, R144, R146, R167, R178,
R190, R196). -/
def Tables.default : Tables :=
  { geometry := ⟨none, none⟩
    gaps := ⟨[50, 70, 90, 110, 400, 450, 500, 550], [50, 70, 90, 110, 400, 450, 500, 550]⟩
    bounds := ⟨180, 260, 340⟩
    timing := ⟨[40, 45, 20, 40, 20, 40], [40, 45, 20, 40, 20, 40]⟩
    tableGeometry := none
    counterSetup := ⟨.default, .default, .default⟩
    sensorSetup := ⟨.default, .default, .default, .default, .default⟩
    pool := List.replicate 96 none
    sets := ⟨List.replicate 32 [], List.replicate 32 []⟩
    lineSettings := ⟨.default, .default⟩
    passage := Tables.defaultPassage
    statusMap := [1, 2, 3, 5, 6, 10, 11, 14, 15, 20, 22, 24, 0, 0, 0, 0]
    settings := .default
    partners := none }

/-- R80: a sequencer OFFLINE with nothing held. -/
def Sequencer.offline : Sequencer :=
  { state := .offline, cause := none, waiting := .none, cycle := none, inflight := none }

/-- R45: every placement hold clear. -/
def PlacementHolds.clear : PlacementHolds := ⟨false, false, false, false⟩

/-- R14, R45: no last reported stroke, every hold clear. -/
def PlacementState.cold : PlacementState := { lastStroke := none, holds := .clear }

/-- R26: an empty map. -/
def FurnaceMap.empty : FurnaceMap := { rows := [], lastLanding := 0 }

/-- R109: the arbiter STILL with nothing held. -/
def Arbiter.cold : Arbiter :=
  { motion := .still, holds := ⟨false, false⟩, gridHold := none, requests := ⟨none, none⟩,
    nextMove := 1 }

/-- R134: no grant, an empty queue, the next rank 1. -/
def Grid.cold : Grid := { queue := [], grant := none, nextRank := 1 }

/-- R108, R84: an empty table list, the next tag 1. -/
def Tracker.cold : Tracker :=
  { table := [], nextTag := 1, measuring := none, unidentified := false }

/-- R151: a counter with its phase reference at the pair the phases show. -/
def Counter.cold (phase : Bool × Bool) : Counter :=
  { phase, acc := 0, lastDir := none, raw := 0, homed := false, lastHomeDev := none, speed := 0,
    gateStart := 0, gateLeft := CounterSetup.default.gatePeriod, encoderError := false,
    homeDeviation := false }

/-- R151: a sensor input with the default polarity, its taken level the raw level as sensed. -/
def Sensor.cold (electrical : Bool) : Sensor :=
  { electrical, taken := electrical, pending := none, latest := 0, previous := 0 }

/-- R167: no stopped levels, every line OFF. -/
def WindowState.cold : WindowState := { stopped := none, lines := List.replicate 8 false }

/-- R186: a port as its link stands, its queue empty and its flags clear. -/
def PortState.cold (link : Bool) : PortState :=
  { link, up := link, queue := [], linkOverrun := false, ownDiscarded := false }

/-- R198: the management unit after a cold start and RESET_ALL. -/
def Mgmt.cold : Mgmt :=
  { latch := none, supervision := .lost,
    statusTimer := some PartSettings.default.statusPeriod }

/-- No occasion stands. -/
def Due.none : Due := { start := ⟨false, false⟩, tableRule := false, gridEval := false }

/-- Every block at its cold values (R206 and the rules it gathers), with what the inputs show. -/
def State.cold (i : ColdInputs) : State :=
  { pending := []
    power := true
    ret := { mode := .run, startKind := .cold, backup := i.backup, clock := 0, held := [],
             overflow := false }
    cfg := .default
    links := { plant := .cold i.plantLink, yard := .cold i.yardLink,
               station := if i.straps ≤ 62 then some i.straps else none }
    mgmt := .cold
    schedule := []
    grid := .cold
    tracker := .cold
    arb := .cold
    seqs := ⟨.offline, .offline⟩
    place := ⟨.cold, .cold⟩
    maps := ⟨.empty, .empty⟩
    counters := ⟨.cold i.phaseT, .cold i.phaseC1, .cold i.phaseC2⟩
    sensors := ⟨.cold i.ms, .cold i.gp, .cold i.d1, .cold i.d2, .cold i.te⟩
    windows := ⟨.cold, .cold⟩
    due := .none }

/-- DESIGN CHOICE (log 1): what the inputs show in the reset state. The manual reads them at the cold
start and fixes none of them: straps 0, phases and photocells low, both links up, backup present. -/
def ColdInputs.chosen : ColdInputs :=
  { straps := 0, phaseT := (false, false), phaseC1 := (false, false), phaseC2 := (false, false),
    ms := false, gp := false, d1 := false, d2 := false, te := false, plantLink := true,
    yardLink := true, backup := true }

/-- The part right after a cold start (R206) with the inputs of `ColdInputs.chosen`. -/
def State.reset : State := State.cold ColdInputs.chosen

end Sys2Proof.Machine
end

