-- ==== Sys2Proof/Machine/Ops.lean ====
section
/-! DEFINITION. The named operations that every block shares: arithmetic (section 1.4, R138), access to
the state's parts, transmit queues (R183), own telegrams and events (R197, R201), occasions, the passage
of time, and look-ups by tag and identity (R6, R84). -/

namespace Sys2Proof.Machine

/-! ## Arithmetic -/

/-- Micrometres to millimetres, rounded half away from zero (R138, R89). -/
def roundMm (x : Int) : Int :=
  if 0 ≤ x then (x + 500) / 1000 else -((-x + 500) / 1000)

/-- ceil(a / b) for positive a and b (section 1.4). -/
def ceilDiv (a b : Int) : Int := (a + b - 1) / b

/-- The value taken into the range from `lo` to `hi` (R12, R143, R158, R190). -/
def clampInt (lo hi x : Int) : Int := max lo (min hi x)

/-- The magnitude of a figure. -/
def mag (x : Int) : Int := if 0 ≤ x then x else -x

/-- `lo ≤ x ≤ hi`, the range checks of the loads and commands. -/
def inRange (lo hi x : Int) : Bool := decide (lo ≤ x) && decide (x ≤ hi)

/-- A figure as a 4-byte signed field carries it: modulo 2^32 (R138). -/
def word32 (x : Int) : Word32 := BitVec.ofInt 32 x

/-- The absent value of a 4-byte figure, −2,147,483,648 (R171). -/
def absentFigure : Int := -2147483648

/-! ## Parts of the state -/

def PerFurnace.get {α : Type} (p : PerFurnace α) : Furnace → α
  | .f1 => p.f1
  | .f2 => p.f2

def PerFurnace.set {α : Type} (p : PerFurnace α) (k : Furnace) (v : α) : PerFurnace α :=
  match k with
  | .f1 => { p with f1 := v }
  | .f2 => { p with f2 := v }

def PerCounter.get {α : Type} (p : PerCounter α) : CounterId → α
  | .t => p.t
  | .c1 => p.c1
  | .c2 => p.c2

def PerCounter.set {α : Type} (p : PerCounter α) (c : CounterId) (v : α) : PerCounter α :=
  match c with
  | .t => { p with t := v }
  | .c1 => { p with c1 := v }
  | .c2 => { p with c2 := v }

def PerSensor.get {α : Type} (p : PerSensor α) : SensorId → α
  | .ms => p.ms
  | .gp => p.gp
  | .d1 => p.d1
  | .d2 => p.d2
  | .te => p.te

def PerSensor.set {α : Type} (p : PerSensor α) (i : SensorId) (v : α) : PerSensor α :=
  match i with
  | .ms => { p with ms := v }
  | .gp => { p with gp := v }
  | .d1 => { p with d1 := v }
  | .d2 => { p with d2 := v }
  | .te => { p with te := v }

/-- The other furnace. -/
def otherFurnace : Furnace → Furnace
  | .f1 => .f2
  | .f2 => .f1

/-- The carriage counter of a furnace. -/
def carriage : Furnace → CounterId
  | .f1 => .c1
  | .f2 => .c2

/-- The furnace of a carriage counter. -/
def furnaceOf : CounterId → Option Furnace
  | .t => none
  | .c1 => some .f1
  | .c2 => some .f2

/-- The door photocell of a furnace. -/
def doorSensor : Furnace → SensorId
  | .f1 => .d1
  | .f2 => .d2

def State.setPending (s : State) (v : List Instr) : State := { s with pending := v }
def State.setRet (s : State) (v : Retention) : State := { s with ret := v }
def State.setCfg (s : State) (v : Tables) : State := { s with cfg := v }
def State.setLinks (s : State) (v : Links) : State := { s with links := v }
def State.setMgmt (s : State) (v : Mgmt) : State := { s with mgmt := v }
def State.setSchedule (s : State) (v : List ScheduleEntry) : State := { s with schedule := v }
def State.setGrid (s : State) (v : Grid) : State := { s with grid := v }
def State.setTracker (s : State) (v : Tracker) : State := { s with tracker := v }
def State.setArb (s : State) (v : Arbiter) : State := { s with arb := v }
def State.setSeqs (s : State) (v : PerFurnace Sequencer) : State := { s with seqs := v }
def State.setPlace (s : State) (v : PerFurnace PlacementState) : State := { s with place := v }
def State.setMaps (s : State) (v : PerFurnace FurnaceMap) : State := { s with maps := v }
def State.setCounters (s : State) (v : PerCounter Counter) : State := { s with counters := v }
def State.setSensors (s : State) (v : PerSensor Sensor) : State := { s with sensors := v }
def State.setWindows (s : State) (v : PerFurnace WindowState) : State := { s with windows := v }
def State.setDue (s : State) (v : Due) : State := { s with due := v }

def State.seq (s : State) (k : Furnace) : Sequencer := s.seqs.get k
def State.setSeq (s : State) (k : Furnace) (q : Sequencer) : State := s.setSeqs (s.seqs.set k q)
def State.map (s : State) (k : Furnace) : FurnaceMap := s.maps.get k
def State.setMap (s : State) (k : Furnace) (m : FurnaceMap) : State := s.setMaps (s.maps.set k m)
def State.counter (s : State) (c : CounterId) : Counter := s.counters.get c
def State.setCounter (s : State) (c : CounterId) (x : Counter) : State :=
  s.setCounters (s.counters.set c x)
def State.sensor (s : State) (i : SensorId) : Sensor := s.sensors.get i
def State.setSensor (s : State) (i : SensorId) (x : Sensor) : State :=
  s.setSensors (s.sensors.set i x)
def State.placeOf (s : State) (k : Furnace) : PlacementState := s.place.get k
def State.setPlaceOf (s : State) (k : Furnace) (p : PlacementState) : State :=
  s.setPlace (s.place.set k p)
def State.geometry (s : State) (k : Furnace) : Option FurnaceGeometry := s.cfg.geometry.get k

/-- The table travel, counter T's reported position (R138). -/
def State.travel (s : State) : Int := roundMm s.counters.t.acc

/-- The reported position of carriage Ck, its depth while it is HOMED (R138). -/
def State.depth (s : State) (k : Furnace) : Int := roundMm (s.counter (carriage k)).acc

/-- Whether carriage Ck is HOMED (R140). -/
def State.homed (s : State) (k : Furnace) : Bool := (s.counter (carriage k)).homed

/-- The taken level of a sensor input: presence as `true` (R146). -/
def State.present (s : State) (i : SensorId) : Bool := (s.sensor i).taken

/-- Whether supervision is OK (R194). -/
def Supervision.isOk : Supervision → Bool
  | .ok _ _ => true
  | .lost => false

/-- The meaning of every command but COLD_START: nothing happens in a part that has stopped (R199). -/
def powered (f : State → State) (s : State) : Host.Outcome State Fault Refusal :=
  if s.power then .next (f s) else .next s

/-! ## Ports and queues (R183, R184) -/

def Links.port (l : Links) : Port → PortState
  | .plant => l.plant
  | .yard => l.yard

def Links.setPort (l : Links) (p : Port) (v : PortState) : Links :=
  match p with
  | .plant => { l with plant := v }
  | .yard => { l with yard := v }

/-- The other port. -/
def otherPort : Port → Port
  | .plant => .yard
  | .yard => .plant

/-- R183, R180: a forwarded frame finds a place only at a port that is UP and has fewer than 20 places
used. -/
def PortState.hasPlace (p : PortState) : Bool := p.up && decide (p.queue.length < 20)

/-- R183, R184: a forwarded frame takes a place, or is discarded and sets LINK_OVERRUN. -/
def PortState.forward (p : PortState) (c : Instr) : PortState :=
  if p.hasPlace then { p with queue := p.queue ++ [.forwarded c] } else { p with linkOverrun := true }

/-- R183, R184: an own telegram takes a place, or is discarded and sets OWN_DISCARDED. -/
def PortState.sendOwn (p : PortState) (t : OwnTelegram) : PortState :=
  if p.up && decide (p.queue.length < 24) then { p with queue := p.queue ++ [.own t] }
  else { p with ownDiscarded := true }

/-- The forwarded frame is placed in the transmit queue of port p. -/
def forwardTo (p : Port) (c : Instr) (s : State) : State :=
  s.setLinks (s.links.setPort p ((s.links.port p).forward c))

/-- The frame of a telegram the part forms (R169): broadcast destination, the port's own source address,
the ATL type. -/
def ownTelegram (p : Port) (source dest reference : Nat) (body : OwnBody) : OwnTelegram :=
  { etherDst := 0xFFFFFFFFFFFF, etherSrc := Config.portAddress p, etherType := 0xA7E1, dest, source,
    reference, body }

/-- An own telegram goes into the queue of port p; a part with no station sends none (R173). -/
def sendOwn (p : Port) (dest reference : Nat) (body : OwnBody) (s : State) : State :=
  match s.links.station with
  | none => s
  | some st =>
    s.setLinks (s.links.setPort p ((s.links.port p).sendOwn (ownTelegram p st dest reference body)))

/-- R174: the station of a role. -/
def Partners.station (p : Partners) : Role → Nat
  | .scheduling => p.scheduling
  | .crane .one => p.crane1
  | .crane .two => p.crane2
  | .crane .three => p.crane3
  | .tableDrive => p.tableDrive
  | .charger .f1 => p.charger1
  | .charger .f2 => p.charger2
  | .beam .f1 => p.beam1
  | .beam .f2 => p.beam2
  | .discharge .f1 => p.discharge1
  | .discharge .f2 => p.discharge2

/-- R174: the port of a role. -/
def Role.port : Role → Port
  | .scheduling => .plant
  | _ => .yard

/-- R183: an own telegram for a field role goes into the yard queue, addressed to the station of the
role; none is formed while the partner list has no values. -/
def sendField (r : Role) (reference : Nat) (body : OwnBody) (s : State) : State :=
  match s.cfg.partners with
  | none => s
  | some ps => sendOwn .yard (ps.station r) reference body s

/-- R195, R197: STATUS and EVENT are addressed to the scheduling computer's station, or to 63 while the
partner list has no values. -/
def State.reportStation (s : State) : Nat :=
  match s.cfg.partners with
  | none => 63
  | some ps => ps.scheduling

/-- R197: an EVENT telegram is formed for a stamped event. -/
def sendEvent (e : Stamped) (s : State) : State := sendOwn .plant s.reportStation 0 (.event e) s

/-- R201: an event goes to the end of the held-event list, or is discarded and sets HELD_OVERFLOW. -/
def holdEvent (e : Stamped) (s : State) : State :=
  if s.ret.held.length < 16 then s.setRet { s.ret with held := s.ret.held ++ [e] }
  else s.setRet { s.ret with overflow := true }

/-- R197, R201: a block raises an event; in RUN it is sent, in RETAIN and RESTORED it is held. -/
def raise (e : Event) (s : State) : State :=
  match s.ret.mode with
  | .run => sendEvent ⟨e, s.ret.clock⟩ s
  | .retain => holdEvent ⟨e, s.ret.clock⟩ s
  | .restored => holdEvent ⟨e, s.ret.clock⟩ s

/-- R187: the RESPONSE to a request, to its source station through the plant port, with the reference
echoed. -/
def respond (h : Hdr) (kind : Nat) (code : RespCode) (entry : Option Nat) (data : RespData)
    (s : State) : State :=
  sendOwn .plant h.source h.reference (.response kind code entry data) s

/-! ## Occasions (R57, R95, R125) -/

/-- An occasion for a start evaluation of sequencer k. -/
def markStart (k : Furnace) (s : State) : State :=
  s.setDue { s.due with start := s.due.start.set k true }

/-- An occasion for a start evaluation of each sequencer (R85). -/
def markStarts (s : State) : State := s.setDue { s.due with start := ⟨true, true⟩ }

/-- An occasion for the grant rule (R95). -/
def markTable (s : State) : State := s.setDue { s.due with tableRule := true }

/-- An occasion for a grant evaluation (R125). -/
def markGrid (s : State) : State := s.setDue { s.due with gridEval := true }

/-! ## Time -/

/-- The state timer of a sequencer runs down. -/
def Sequencer.elapse (n : Nat) (q : Sequencer) : Sequencer :=
  { q with cycle := q.cycle.map fun c =>
      { c with timer := c.timer.map fun t => { t with left := t.left - n } } }

def GrantPhase.elapse (n : Nat) : GrantPhase → GrantPhase
  | .active left => .active (left - n)
  | .overdue => .overdue

def Supervision.elapse (n : Nat) : Supervision → Supervision
  | .ok period left => .ok period (left - n)
  | .lost => .lost

def Counter.elapse (n : Nat) (x : Counter) : Counter := { x with gateLeft := x.gateLeft - n }

def Sensor.elapse (n : Nat) (x : Sensor) : Sensor :=
  { x with pending := x.pending.map fun p => { p with held := p.held + n } }

/-- The timers that do not run in RETAIN: the sequencers' (R53), the grant timer (R134), the supervision
timer (R194) and the status timer (R195). -/
def elapseMain (n : Nat) (s : State) : State :=
  { s with
    seqs := ⟨s.seqs.f1.elapse n, s.seqs.f2.elapse n⟩
    grid := { s.grid with grant := s.grid.grant.map fun g => { g with phase := g.phase.elapse n } }
    mgmt := { s.mgmt with
      supervision := s.mgmt.supervision.elapse n
      statusTimer := s.mgmt.statusTimer.map (· - n) } }

/-- What runs on backup supply too: the speed gates and the sensor filters (R152). -/
def elapseBackup (n : Nat) (s : State) : State :=
  { s with
    counters := ⟨s.counters.t.elapse n, s.counters.c1.elapse n, s.counters.c2.elapse n⟩
    sensors := ⟨s.sensors.ms.elapse n, s.sensors.gp.elapse n, s.sensors.d1.elapse n,
      s.sensors.d2.elapse n, s.sensors.te.elapse n⟩ }

/-- `n` milliseconds go by. -/
def elapse (n : Nat) (s : State) : State :=
  if s.ret.mode = .retain then elapseBackup n s else elapseBackup n (elapseMain n s)

/-! ## Look-ups -/

/-- The record of the table list with a tag. -/
def State.findTag (s : State) (tag : Nat) : Option TableRecord :=
  s.tracker.table.find? fun r => r.tag == tag

/-- The record of the table list with an identity. -/
def State.findId (s : State) (id : Identity) : Option TableRecord :=
  s.tracker.table.find? fun r => r.id == id

/-- The slabs of a row by lane. -/
def Occupancy.slabs : Occupancy → List (Lane × FurnaceSlab)
  | .c x => [(.c, x)]
  | .a x => [(.a, x)]
  | .b x => [(.b, x)]
  | .ab x y => [(.a, x), (.b, y)]

/-- The slab records of a row. -/
def Row.slabs (r : Row) : List FurnaceSlab := r.occ.slabs.map (·.2)

/-- The slab records of a map. -/
def FurnaceMap.slabs (m : FurnaceMap) : List FurnaceSlab := m.rows.flatMap Row.slabs

/-- Whether a sequencer's in-flight record passes a test. -/
def Sequencer.inflightAny (q : Sequencer) (p : TableRecord → Bool) : Bool :=
  match q.inflight with
  | none => false
  | some f => p f.record

/-- R6: whether an identity is held in the table list, an in-flight record or a map. -/
def State.idHeld (s : State) (id : Identity) : Bool :=
  s.tracker.table.any (fun r => r.id == id)
    || s.seqs.f1.inflightAny (fun r => r.id == id) || s.seqs.f2.inflightAny (fun r => r.id == id)
    || s.maps.f1.slabs.any (fun x => x.id == id) || s.maps.f2.slabs.any (fun x => x.id == id)

/-- R84: whether a tag is held by a record of the table list, an in-flight record or a furnace slab
record. -/
def State.tagHeld (s : State) (tag : Nat) : Bool :=
  s.tracker.table.any (fun r => r.tag == tag)
    || s.seqs.f1.inflightAny (fun r => r.tag == tag) || s.seqs.f2.inflightAny (fun r => r.tag == tag)
    || s.maps.f1.slabs.any (fun x => x.tag == tag) || s.maps.f2.slabs.any (fun x => x.tag == tag)

/-- R84: one more, from 65,535 to 1. -/
def nextTagAfter (t : Nat) : Nat := if t < 65535 then t + 1 else 1

/-- R84: the first value not held, from `t` on, looking at no more than `fuel` values. -/
def freshTagFrom (s : State) : Nat → Nat → Nat
  | 0, t => t
  | fuel + 1, t => if s.tagHeld t then freshTagFrom s fuel (nextTagAfter t) else t

/-- R84: the fresh tag. -/
def State.freshTag (s : State) : Nat := freshTagFrom s 65535 s.tracker.nextTag

/-- R84: after a fresh tag is taken, the next-tag value is one more than it. -/
def takeTag (tag : Nat) (s : State) : State :=
  s.setTracker { s.tracker with nextTag := nextTagAfter tag }

end Sys2Proof.Machine
end

