-- ==== Sys2Proof/Machine/Operands.lean ====
section
/-! DEFINITION. The operand forms: kind codes and their classes (R172), the form of field telegrams
(R171), the character rules of an identity (R115), the roles a telegram may come from (R174, R177,
R179). -/

namespace Sys2Proof.Machine

/-! ## Kind codes (R172) -/

namespace Kind
def gridRequest : Nat := 0x21
def gridRelease : Nat := 0x22
def gridAnswer : Nat := 0x23
def depositReport : Nat := 0x24
def depositAck : Nat := 0x25
def removalReport : Nat := 0x26
def tableMove : Nat := 0x31
def tableHalt : Nat := 0x32
def tableReport : Nat := 0x33
def manualTableMove : Nat := 0x34
def chargeOrder : Nat := 0x41
def chargerStop : Nat := 0x42
def chargerReport : Nat := 0x43
def strokeRequest : Nat := 0x51
def strokeReport : Nat := 0x52
def manualStroke : Nat := 0x53
def dischargeReport : Nat := 0x54
def heartbeat : Nat := 0x61
def loadTable : Nat := 0x62
def readTable : Nat := 0x63
def scheduleEdit : Nat := 0x64
def mapEdit : Nat := 0x65
def command : Nat := 0x66
def query : Nat := 0x67
def response : Nat := 0x68
def status : Nat := 0x69
def event : Nat := 0x6A
def blocked : Nat := 0x6B
end Kind

/-- R172: the kind code of a telegram the part forms. -/
def OwnBody.kind : OwnBody → Nat
  | .gridAnswer .. => Kind.gridAnswer
  | .depositAck .. => Kind.depositAck
  | .tableMove .. => Kind.tableMove
  | .tableHalt .. => Kind.tableHalt
  | .chargeOrder .. => Kind.chargeOrder
  | .chargerStop .. => Kind.chargerStop
  | .strokeRequest .. => Kind.strokeRequest
  | .response .. => Kind.response
  | .status .. => Kind.status
  | .event .. => Kind.event
  | .blocked .. => Kind.blocked

/-- R197: the code of an event. -/
def Event.code : Event → Nat
  | .landed .. => 0x01
  | .discharged .. => 0x02
  | .dischargeMisorder .. => 0x03
  | .dischargeInvalid .. => 0x04
  | .dischargeUnknown .. => 0x04
  | .overrun .. => 0x05
  | .strokeClamped .. => 0x06
  | .slabHeld .. => 0x07
  | .slabReady .. => 0x08
  | .lengthMeasured .. => 0x09
  | .unexpectedEdge .. => 0x0A
  | .missedEdge .. => 0x0B
  | .trackingConflict .. => 0x0C
  | .unidentifiedOnGrid .. => 0x0D
  | .unidentifiedAfterGrant .. => 0x0D
  | .depositRefused .. => 0x0E
  | .tableEnd .. => 0x0F
  | .chargerHeld .. => 0x10
  | .unexpectedCharger .. => 0x11
  | .unexpectedTable .. => 0x11
  | .holdSet .. => 0x12
  | .supervisionLost .. => 0x13
  | .supervisionOk => 0x14
  | .strayTelegram .. => 0x15
  | .modeChanged .. => 0x16

/-- The management kinds, 0x61 to 0x67 (R172). -/
def isManagement (kind : Nat) : Bool := decide (0x61 ≤ kind) && decide (kind ≤ 0x67)

/-- The field kinds taken (R172). -/
def isFieldTaken (kind : Nat) : Bool :=
  kind == Kind.gridRequest || kind == Kind.gridRelease || kind == Kind.tableReport
    || kind == Kind.chargerReport

/-- The observable kinds (R172). -/
def isObservable (kind : Nat) : Bool :=
  kind == Kind.depositReport || kind == Kind.removalReport || kind == Kind.strokeReport
    || kind == Kind.dischargeReport

/-- The payload length of a field kind that the part takes or acts on: its field list in the encodings
of R171 (R68 and R16 give two of them in bytes). -/
def fieldLength (kind : Nat) : Option Nat :=
  if kind = Kind.gridRequest then some 13
  else if kind = Kind.gridRelease then some 1
  else if kind = Kind.depositReport then some 25
  else if kind = Kind.removalReport then some 13
  else if kind = Kind.tableReport then some 3
  else if kind = Kind.chargerReport then some 4
  else if kind = Kind.strokeReport then some 4
  else if kind = Kind.dischargeReport then some 25
  else none

/-- R171: a field telegram's payload has the length of its kind's field list. -/
def lengthFits (kind : Nat) (h : Hdr) : Bool := fieldLength kind == some h.length

/-! ## Codes -/

/-- The value a code names, if any. -/
def Code.value {α : Type} : Code α → Option α
  | .val a => some a
  | .bad _ => none

/-- Whether a code names a value. -/
def Code.good {α : Type} : Code α → Bool
  | .val _ => true
  | .bad _ => false

/-- A code field that may be left out names a value where it is given. -/
def goodWhereGiven {α : Type} : Option (Code α) → Bool
  | none => true
  | some c => Code.good c

/-- The value of a code field that may be left out. -/
def givenCode {α : Type} : Option (Code α) → Option α
  | none => none
  | some c => Code.value c

/-! ## Fields carried with their absent value (R171) -/

/-- R171: a four-byte figure carried with its absent value counts as left out; a required one is then
missing. -/
def figureRead (x : Option Int) : Option Int := if x = some absentFigure then none else x

/-- R171: a required figure is there: it is not carried with its absent value. -/
def figureGiven (x : Int) : Bool := x != absentFigure

/-- R171: a required tag or sequence number is there. -/
def tagGiven (x : Nat) : Bool := x != 0

/-- R171: a required one-byte field is there. -/
def byteGiven (x : Nat) : Bool := x != 255

/-- R171: a one-byte field carried as 0xFF counts as left out. -/
def byteRead (x : Option Nat) : Option Nat := if x = some 255 then none else x

/-- R171: a code carried as 0xFF counts as left out. -/
def codeRead {α : Type} : Option (Code α) → Option (Code α)
  | some (.bad 255) => none
  | c => c

/-- A figure that may be left out lies in its range where it is given. -/
def rangeWhereGiven (lo hi : Int) : Option Int → Bool
  | none => true
  | some x => inRange lo hi x

/-- A mass field: 0 means absent (R171, R23, R105). -/
def massField (x : Int) : Option Int := if x = 0 then none else some x

/-! ## Identities -/

/-- A letter, a digit or a hyphen. -/
def isIdChar (b : Byte) : Bool :=
  let n := b.toNat
  (decide (48 ≤ n) && decide (n ≤ 57)) || (decide (65 ≤ n) && decide (n ≤ 90))
    || (decide (97 ≤ n) && decide (n ≤ 122)) || n == 45

/-- The padding space. -/
def isPad (b : Byte) : Bool := b.toNat == 32

/-- Every character is a letter, digit, hyphen or padding space; a space before one of the others is no
padding (R20, R105, R115). -/
def idCharsOk (id : Identity) : Bool := (id.dropWhile isIdChar).all isPad

/-- The character rules of R115: also not all padding. -/
def idRulesOk (id : Identity) : Bool := idCharsOk id && id.any isIdChar

/-! ## Roles -/

/-- The crane number of a crane role (R121). -/
def Crane.number : Crane → Nat
  | .one => 1
  | .two => 2
  | .three => 3

/-- The roles that a kind belongs to (R177, R179). -/
def rolesOf (kind : Nat) : List Role :=
  if kind = Kind.gridRequest ∨ kind = Kind.gridRelease ∨ kind = Kind.depositReport
      ∨ kind = Kind.removalReport then
    [.crane .one, .crane .two, .crane .three]
  else if kind = Kind.tableReport then [.tableDrive]
  else if kind = Kind.chargerReport then [.charger .f1, .charger .f2]
  else if kind = Kind.strokeReport then [.beam .f1, .beam .f2]
  else if kind = Kind.dischargeReport then [.discharge .f1, .discharge .f2]
  else []

/-- R174, R177: the role a telegram comes from among the roles of its kind, or the reason it comes from
none of them. -/
def roleOf (s : State) (kind : Nat) (h : Hdr) : Except StrayReason Role :=
  match s.cfg.partners with
  | none => .error .noPartner
  | some ps =>
    match (rolesOf kind).find? fun r => ps.station r == h.source with
    | none => .error .noPartner
    | some r => if r.port = h.port then .ok r else .error .wrongPort

end Sys2Proof.Machine
end

