-- ==== Sys2Proof/Machine/Flags.lean ====
section
/-! DEFINITION. The sticky flags: placement holds (R44 to R46), counter holds (R149), link flags (R185)
and the error latch (R191). -/

namespace Sys2Proof.Machine

/-! ## Placement holds -/

/-- Whether a placement hold is set; a counter hold's name names none of them. -/
def PlacementHolds.get (x : PlacementHolds) : HoldName → Bool
  | .substituted => x.substituted
  | .strokeBasis => x.strokeBasis
  | .landingDeviation => x.landingDeviation
  | .strokeDuringCharge => x.strokeDuringCharge
  | .encoderError => false
  | .homeDeviation => false

def PlacementHolds.put (x : PlacementHolds) (n : HoldName) (v : Bool) : PlacementHolds :=
  match n with
  | .substituted => { x with substituted := v }
  | .strokeBasis => { x with strokeBasis := v }
  | .landingDeviation => { x with landingDeviation := v }
  | .strokeDuringCharge => { x with strokeDuringCharge := v }
  | .encoderError => x
  | .homeDeviation => x

/-- The four placement holds in the order of R44. -/
def placementHoldNames : List HoldName :=
  [.substituted, .strokeBasis, .landingDeviation, .strokeDuringCharge]

/-- The two counter holds. -/
def counterHoldNames : List HoldName := [.encoderError, .homeDeviation]

def State.putHold (s : State) (k : Furnace) (n : HoldName) (v : Bool) : State :=
  s.setPlaceOf k { s.placeOf k with holds := (s.placeOf k).holds.put n v }

/-- R44: a hold of the computation side is set; HOLD_SET is raised when it was clear. -/
def setHoldOnce (n : HoldName) (k : Furnace) (tag : Nat) (divisor : Option Int) (s : State) : State :=
  if (s.placeOf k).holds.get n then s
  else raise (.holdSet (.placement n k (some tag) divisor)) (s.putHold k n true)

/-- R44: a hold of the landing side is set; HOLD_SET is raised at every occurrence. -/
def setHoldAlways (n : HoldName) (k : Furnace) (tag : Option Nat) (s : State) : State :=
  raise (.holdSet (.placement n k tag none)) (s.putHold k n true)

/-! ## Counter holds -/

/-- Whether a counter hold is set; counter T has no HOME_DEVIATION hold (R149). -/
def Counter.hold (x : Counter) (c : CounterId) : HoldName → Bool
  | .encoderError => x.encoderError
  | .homeDeviation => if c = .t then false else x.homeDeviation
  | _ => false

def Counter.clearHold (x : Counter) : HoldName → Counter
  | .encoderError => { x with encoderError := false }
  | .homeDeviation => { x with homeDeviation := false }
  | _ => x

/-- The counter holds as the status header and QUERY HOLDS carry them (R149). -/
def State.counterHolds (s : State) : CounterHolds :=
  { tError := s.counters.t.encoderError
    c1Error := s.counters.c1.encoderError
    c1Deviation := s.counters.c1.homeDeviation
    c2Error := s.counters.c2.encoderError
    c2Deviation := s.counters.c2.homeDeviation }

/-! ## CLEAR_HOLDS (R46) -/

/-- R46: the names a CLEAR_HOLDS selects among those of its form, in their order (log 42); a set names no hold
twice. -/
def HoldNames.names (all : List HoldName) : HoldNames → List HoldName
  | .all => all
  | .set names => all.filter fun n => names.contains n

/-- R46: a set of names is not empty and every name belongs to the form. -/
def HoldNames.legal (form : List HoldName) : HoldNames → Bool
  | .all => true
  | .set names => !names.isEmpty && names.all fun n => form.contains n

/-- The placement holds of a selection: each with its furnace. -/
def selectedPlacement : HoldSelection → List (Furnace × HoldName)
  | .all => placementHoldNames.map (Furnace.f1, ·) ++ placementHoldNames.map (Furnace.f2, ·)
  | .furnace (.val k) names => (HoldNames.names placementHoldNames names).map (k, ·)
  | _ => []

/-- The counter holds of a selection: each with its counter. -/
def selectedCounter : HoldSelection → List (CounterId × HoldName)
  | .all => counterHoldNames.map (CounterId.t, ·) ++ counterHoldNames.map (CounterId.c1, ·)
      ++ counterHoldNames.map (CounterId.c2, ·)
  | .counter (.val c) names => (HoldNames.names counterHoldNames names).map (c, ·)
  | _ => []

/-- R46: the cases in which CLEAR_HOLDS is refused do not hold. -/
def HoldSelection.legal : HoldSelection → Bool
  | .all => true
  | .furnace sel names => Code.good sel && HoldNames.legal placementHoldNames names
  | .counter sel names => Code.good sel && HoldNames.legal counterHoldNames names
  | .badForm _ => false

def clearPlacement (l : List (Furnace × HoldName)) (s : State) : State :=
  l.foldl (fun s x => s.putHold x.1 x.2 false) s

def clearCounter (l : List (CounterId × HoldName)) (s : State) : State :=
  l.foldl (fun s x => s.setCounter x.1 ((s.counter x.1).clearHold x.2)) s

/-- The selected holds that are set. -/
def selectedSet (s : State) (sel : HoldSelection) : List ClearedHold :=
  ((selectedPlacement sel).filter fun x => (s.placeOf x.1).holds.get x.2).map
      (fun x => .placement x.1 x.2)
    ++ ((selectedCounter sel).filter fun x => (s.counter x.1).hold x.1 x.2).map
      (fun x => .counter x.1 x.2)

/-- R45, R149: every placement hold and every counter hold is cleared. -/
def clearAllHolds (s : State) : State :=
  clearCounter (selectedCounter .all) (clearPlacement (selectedPlacement .all) s)

/-! ## Link flags (R185) -/

/-- The link flags that are set, in the order plant, yard. -/
def Links.flags (l : Links) : List LinkFlag :=
  (if l.plant.linkOverrun then [.plantOverrun] else [])
    ++ (if l.plant.ownDiscarded then [.plantDiscarded] else [])
    ++ (if l.yard.linkOverrun then [.yardOverrun] else [])
    ++ (if l.yard.ownDiscarded then [.yardDiscarded] else [])

def PortState.clearFlags (p : PortState) : PortState :=
  { p with linkOverrun := false, ownDiscarded := false }

/-- The ports a CLEAR_LINK selects. -/
def LinkSelection.ports : LinkSelection → List Port
  | .plant => [.plant]
  | .yard => [.yard]
  | .both => [.plant, .yard]

def clearLinkFlags (ps : List Port) (l : Links) : Links :=
  ps.foldl (fun l p => l.setPort p (l.port p).clearFlags) l

/-- R185: the flags that a CLEAR_LINK RESPONSE lists: those set of the ports selected. R185 says "the flags that
were set"; that the flags of a port not selected are left out is the model's choice (log 40). -/
def flagsOf (sel : LinkSelection) (l : Links) : List LinkFlag :=
  match sel with
  | .both => l.flags
  | .plant => l.flags.filter fun f => f == .plantOverrun || f == .plantDiscarded
  | .yard => l.flags.filter fun f => f == .yardOverrun || f == .yardDiscarded

/-! ## The error latch (R191) -/

def setLatch (r : Option LatchRecord) (s : State) : State := s.setMgmt { s.mgmt with latch := r }

/-- R188, R191: a load or edit is refused: the RESPONSE carries the code and the entry index, and the
error latch takes its record. R20 gives a MAP_EDIT the entry index 0 in the latch record; that its RESPONSE
carries it too is the model's choice (log 31). -/
def refuseAndLatch (h : Hdr) (kind : Nat) (item : LatchItem) (code : RespCode) (entry : Option Nat)
    (s : State) : State :=
  setLatch (some ⟨code, item, entry⟩) (respond h kind code entry .none s)

end Sys2Proof.Machine
end

