-- ==== Sys2Proof/Machine/Maps.lean ====
section
/-! DEFINITION. Furnace occupancy maps (chapter 1): rows, landings, strokes, discharges, edits, as
operations on one map. -/

namespace Sys2Proof.Machine

/-- The trailing edge, front − extent (R1). -/
def Row.trailing (r : Row) : Int := r.front - r.extent

/-- The greatest width among the slabs (R1). -/
def Occupancy.extent : Occupancy → Int
  | .c x => x.width
  | .a x => x.width
  | .b x => x.width
  | .ab x y => max x.width y.width

/-- A slab alone in a lane. -/
def Occupancy.single (l : Lane) (x : FurnaceSlab) : Occupancy :=
  match l with
  | .a => .a x
  | .b => .b x
  | .c => .c x

/-- The record of the last row's group is its lane-A slab's, or its single slab's (R34, R40). -/
def Occupancy.leadSlab : Occupancy → FurnaceSlab
  | .c x => x
  | .a x => x
  | .b x => x
  | .ab x _ => x

/-- R4: the pair-open flag of the last row is cleared. -/
def closeLast : List Row → List Row
  | [] => []
  | [r] => [{ r with pairOpen := false }]
  | r :: rs => r :: closeLast rs

/-- The last row is replaced. -/
def setLast (v : Row) : List Row → List Row
  | [] => []
  | [_] => [v]
  | r :: rs => r :: setLast v rs

/-- The last row of a map. -/
def FurnaceMap.last (m : FurnaceMap) : Option Row := m.rows.getLast?

/-- The slabs of a row as OVERRUN carries them. -/
def Row.tagIds (r : Row) : List (Nat × Identity) := r.slabs.map fun x => (x.tag, x.id)

/-! ## Landing (R7, R8) -/

/-- R7: the touch clamp: the lesser of the measured landing front and the trailing edge of the last row;
the measured landing front in an empty map. -/
def touchClamp (m : FurnaceMap) (measured : Int) : Int :=
  match m.last with
  | none => measured
  | some r => min measured r.trailing

/-- A landing as map k has taken it: the map, and the row's index, lane and front edge. -/
structure Landing where
  map : FurnaceMap
  row : Nat
  lane : Lane
  front : Int
  deriving DecidableEq, Repr

/-- R7: a new row at the end of the map. -/
def FurnaceMap.landNew (m : FurnaceMap) (lane : Lane) (measured : Int) (x : FurnaceSlab) : Landing :=
  let front := touchClamp m measured
  let row : Row := { front, extent := x.width, occ := .single lane x, pairOpen := decide (lane = .a),
                     overrun := false }
  { map := { rows := closeLast m.rows ++ [row], lastLanding := front }
    row := m.rows.length
    lane
    front }

/-- R8: the slab joins the pair-open last row in lane B. -/
def FurnaceMap.landJoin (m : FurnaceMap) (last : Row) (xA x : FurnaceSlab) : Landing :=
  let row : Row := { last with occ := .ab xA x, extent := max xA.width x.width, pairOpen := false }
  { map := { rows := setLast row m.rows, lastLanding := last.front }
    row := m.rows.length - 1
    lane := .b
    front := last.front }

/-- The lane-A slab of a last row that is still pair-open (R8). -/
def FurnaceMap.openSlab (m : FurnaceMap) : Option (Row × FurnaceSlab) :=
  match m.last with
  | some r =>
    match r.occ, r.pairOpen with
    | .a x, true => some (r, x)
    | _, _ => none
  | none => none

/-- R7, R8: the landing of a slab whose final result was PAIR (`pair`) or not, in the lane of its cycle.
A landing that needs a new row in a map of 64 rows is not taken. -/
def FurnaceMap.land (m : FurnaceMap) (pair : Bool) (lane : Lane) (measured : Int)
    (x : FurnaceSlab) : Option Landing :=
  match pair, m.openSlab with
  | true, some (last, xA) => some (m.landJoin last xA x)
  | true, none => if m.rows.length < 64 then some (m.landNew .b measured x) else none
  | false, _ => if m.rows.length < 64 then some (m.landNew lane measured x) else none

/-! ## Inserts (R11, R23) -/

/-- R3: the index a front edge takes in the order. -/
def insertIndex (front : Int) (rows : List Row) : Nat :=
  (rows.takeWhile fun r => decide (front ≤ r.front)).length

/-- A row placed at an index; one that stands behind the last row clears that row's pair-open flag
(R4). -/
def insertRowAt (i : Nat) (r : Row) (rows : List Row) : List Row :=
  if i = rows.length then closeLast rows ++ [r] else rows.take i ++ r :: rows.drop i

/-- R11, R23: the span from front − width to front shares depth with a row. -/
def spanConflict (front width : Int) (rows : List Row) : Bool :=
  rows.any fun r => decide (front - width < r.front) && decide (r.trailing < front)

/-- R11, R23: a lane-C row of its own at the place its front edge gives. -/
def insertRows (front : Int) (overrun : Bool) (x : FurnaceSlab) (rows : List Row) : List Row :=
  insertRowAt (insertIndex front rows)
    { front, extent := x.width, occ := .c x, pairOpen := false, overrun } rows

/-! ## Strokes (R12, R13) -/

/-- R13: the length is added to every front edge and the last row's pair-open flag is cleared. -/
def shiftRows (len : Int) (rows : List Row) : List Row :=
  closeLast (rows.map fun r => { r with front := r.front + len })

/-- R5: a row that is newly beyond L_eff. -/
def Row.newlyOver (lEff : Int) (r : Row) : Bool := decide (lEff < r.front) && !r.overrun

/-- R5, R13: each row newly beyond L_eff takes the flag. -/
def flagOverruns (lEff : Int) (rows : List Row) : List Row :=
  rows.map fun r => if r.newlyOver lEff then { r with overrun := true } else r

/-- R5, R13: one OVERRUN for each such row, in order from the first; `i` is the index of the first row
of the list. -/
def overrunEvents (k : Furnace) (lEff : Int) : Nat → List Row → List Event
  | _, [] => []
  | i, r :: rs =>
    (if r.newlyOver lEff then [.overrun k i r.front r.tagIds] else []) ++ overrunEvents k lEff (i + 1) rs

/-! ## Removals (R17, R18, R21) -/

/-- The occupancy left when a lane's slab leaves; none when the row empties. -/
def Occupancy.without (l : Lane) : Occupancy → Option Occupancy
  | .ab x y =>
    match l with
    | .a => some (.b y)
    | .b => some (.a x)
    | .c => some (.ab x y)
  | _ => none

/-- R17, R21: the slab of a lane leaves the row; its extent is recomputed, its front edge stays and it is
not pair-open. -/
def Row.without (l : Lane) (r : Row) : Option Row :=
  (r.occ.without l).map fun o => { r with occ := o, extent := o.extent, pairOpen := false }

/-- The slab of a lane leaves the row at an index; a row that empties is removed. -/
def removeAt (l : Lane) : Nat → List Row → List Row
  | _, [] => []
  | 0, r :: rs =>
    match r.without l with
    | none => rs
    | some r' => r' :: rs
  | i + 1, r :: rs => r :: removeAt l i rs

/-- Where a slab lies in a map. -/
structure Place where
  row : Nat
  lane : Lane
  front : Int
  slab : FurnaceSlab
  deriving DecidableEq, Repr

/-- The first slab of a row that passes a test. -/
def Row.findSlab (p : FurnaceSlab → Bool) (r : Row) : Option (Lane × FurnaceSlab) :=
  r.occ.slabs.find? fun x => p x.2

/-- The first slab of the rows that passes a test; `i` is the index of the first row of the list. -/
def locate (p : FurnaceSlab → Bool) : Nat → List Row → Option Place
  | _, [] => none
  | i, r :: rs =>
    match r.findSlab p with
    | some (l, x) => some ⟨i, l, r.front, x⟩
    | none => locate p (i + 1) rs

def FurnaceMap.locateId (m : FurnaceMap) (id : Identity) : Option Place :=
  locate (fun x => x.id == id) 0 m.rows

def FurnaceMap.locateTag (m : FurnaceMap) (tag : Nat) : Option Place :=
  locate (fun x => x.tag == tag) 0 m.rows

/-- The identities of row 0 as the map stands (R18). -/
def FurnaceMap.firstIds (m : FurnaceMap) : List Identity :=
  match m.rows with
  | [] => []
  | r :: _ => r.slabs.map (·.id)

/-- R19: one slab leaves map k by a discharge, with DISCHARGED. -/
def dischargeSlab (k : Furnace) (p : Place) (s : State) : State :=
  raise (.discharged p.slab.tag p.slab.id k p.row p.lane p.front p.slab.mass p.slab.substituted
      (s.ret.clock - p.slab.chargedAt))
    (s.setMap k { s.map k with rows := removeAt p.lane p.row (s.map k).rows })

/-- R17, R18: one identity of a report; `first` are the identities of row 0 as the map stood when the
report was taken. -/
def dischargeIdentity (k : Furnace) (first : List Identity) (id : Identity) (s : State) : State :=
  match (s.map k).locateId id with
  | none => raise (.dischargeUnknown k id) s
  | some p =>
    if first.contains id then dischargeSlab k p s
    else dischargeSlab k p (raise (.dischargeMisorder k id p.slab.tag p.row) s)

/-- R16 to R19: the map unit's own work on a DISCHARGE_REPORT. -/
def mapDischarge (k : Furnace) (count : Nat) (id1 id2 : Identity) (s : State) : State :=
  let first := (s.map k).firstIds
  if count = 1 then dischargeIdentity k first id1 s
  else if count = 2 ∧ id1 ≠ id2 then dischargeIdentity k first id2 (dischargeIdentity k first id1 s)
  else raise (.dischargeInvalid k count id1 id2) s

/-! ## The stroke report (R12 to R15) -/

/-- R12: the length taken. -/
def lengthTaken (reported : Int) : Int := clampInt 0 1000 reported

/-- R12: STROKE_CLAMPED where the length taken is not the length reported. -/
def strokeClamp (k : Furnace) (reported : Int) (s : State) : State :=
  if lengthTaken reported = reported then s
  else raise (.strokeClamped k reported (lengthTaken reported)) s

/-- R13: a nonzero length shifts map k; overruns are marked and raised. -/
def strokeShift (k : Furnace) (len : Int) (s : State) : State :=
  if len = 0 then s
  else
    let rows := shiftRows len (s.map k).rows
    match s.geometry k with
    | none => s.setMap k { s.map k with rows }
    | some g =>
      (overrunEvents k g.lEff 0 rows).foldl (fun s e => raise e s)
        (s.setMap k { s.map k with rows := flagOverruns g.lEff rows })

/-- R14: the length taken is the furnace's last reported stroke length. -/
def strokeRecord (k : Furnace) (len : Int) (s : State) : State :=
  s.setPlaceOf k { s.placeOf k with lastStroke := some len }

/-- R15: the states of a charge in progress as a stroke report sees them. -/
def SeqState.charging : SeqState → Bool
  | .carry => true
  | .lower => true
  | .retract => true
  | _ => false

/-- R15: the STROKE_DURING_CHARGE hold. -/
def strokeHold (k : Furnace) (s : State) : State :=
  if (s.seq k).state.charging then setHoldAlways .strokeDuringCharge k none s else s

/-- R12 to R15: the map unit's own work on a STROKE_REPORT: STROKE_CLAMPED, the OVERRUN events, the
HOLD_SET of STROKE_DURING_CHARGE (log 35). -/
def mapStroke (k : Furnace) (reported : Int) (s : State) : State :=
  strokeHold k (strokeRecord k (lengthTaken reported)
    (strokeShift k (lengthTaken reported) (strokeClamp k reported s)))

/-! ## Status quantities (R25) -/

def FurnaceMap.slabCount (m : FurnaceMap) : Nat := m.slabs.length

def FurnaceMap.firstFront (m : FurnaceMap) : Int :=
  match m.rows with
  | [] => 0
  | r :: _ => r.front

def FurnaceMap.chargeEnd (m : FurnaceMap) : Int :=
  match m.last with
  | none => 0
  | some r => r.trailing

end Sys2Proof.Machine
end

