-- ==== Sys2Proof/Machine/Schedule.lean ====
section
/-! DEFINITION. The rolling schedule (chapter 5, sections 5.1 to 5.3): counts, changes of an entry's
state, the deposit match, and the four edit operations. -/

namespace Sys2Proof.Machine

/-! ## Counts and look-ups -/

/-- Whether an entry is PLANNED (R110). -/
def ScheduleEntry.planned (e : ScheduleEntry) : Bool := e.state == .planned

/-- R111: the PLANNED count. -/
def plannedCount (l : List ScheduleEntry) : Nat := (l.filter ScheduleEntry.planned).length

/-- R120: the number of PLANNED entries ahead of a sequence number. -/
def plannedAhead (seq : Nat) (l : List ScheduleEntry) : Nat :=
  (l.filter fun e => e.planned && decide (e.seq < seq)).length

/-- The entry with a sequence number. -/
def entryOf (seq : Nat) (l : List ScheduleEntry) : Option ScheduleEntry :=
  l.find? fun e => e.seq == seq

/-- The PLANNED entry with an identity (R118, R125). -/
def plannedEntry (id : Identity) (l : List ScheduleEntry) : Option ScheduleEntry :=
  l.find? fun e => e.id == id && e.planned

/-! ## Changes of state (R112) -/

/-- The entry with a sequence number takes a state. -/
def setEntryState (seq : Nat) (st : EntryState) (l : List ScheduleEntry) : List ScheduleEntry :=
  l.map fun e => if e.seq = seq then { e with state := st } else e

/-- R104, R106, R75: the entry that a link names returns to PLANNED. -/
def revertLink (link : Option Nat) (s : State) : State :=
  match link with
  | none => s
  | some q => s.setSchedule (setEntryState q .planned s.schedule)

/-- R10, R11: the entry that a link names is removed. -/
def removeLink (link : Option Nat) (s : State) : State :=
  match link with
  | none => s
  | some q => s.setSchedule (s.schedule.filter fun e => e.seq != q)

/-- R23: a PLANNED entry with an identity is removed. -/
def removePlanned (id : Identity) (s : State) : State :=
  s.setSchedule (s.schedule.filter fun e => !(e.id == id && e.planned))

/-- R113: every DEPOSITED entry returns to PLANNED. -/
def revertAll (s : State) : State :=
  s.setSchedule (s.schedule.map fun e => { e with state := .planned })

/-! ## The deposit match (R118 to R120) -/

/-- R119: a furnace is armed while its sequencer is not OFFLINE. -/
def State.armed (s : State) (k : Furnace) : Bool := (s.seq k).state != .offline

/-- R119: an entry's destination resolved at the match. -/
def resolveDest (s : State) : SchedDest → Furnace
  | .to k => k
  | .either =>
    match s.armed .f1, s.armed .f2 with
    | true, true => if s.maps.f2.rows.length < s.maps.f1.rows.length then .f2 else .f1
    | true, false => .f1
    | false, true => .f2
    | false, false => .f1

/-- R120: the first state of a record matched to an entry with destination k. -/
def matchState (s : State) (k : Furnace) (seq : Nat) : SlabState :=
  if !s.armed k then .held .offlineFurnace
  else if s.cfg.settings.lookAhead ≤ plannedAhead seq s.schedule then .held .outOfSequence
  else .ready

/-- R118 to R120: the record as the match leaves it. -/
def matchRecord (s : State) (r : TableRecord) : TableRecord :=
  match plannedEntry r.id s.schedule with
  | none => { r with link := none, nominals := none, group := none, dest := none,
                     state := .held .unscheduled }
  | some e =>
    { r with link := some e.seq, nominals := some ⟨e.width, e.length, e.thickness⟩,
             group := some e.group, dest := some (resolveDest s e.dest),
             state := matchState s (resolveDest s e.dest) e.seq }

/-- R118: the schedule as the match leaves it. -/
def matchSchedule (r : TableRecord) (l : List ScheduleEntry) : List ScheduleEntry :=
  match plannedEntry r.id l with
  | none => l
  | some e => setEntryState e.seq (.deposited r.tag) l

/-! ## Edit operations (R115 to R117) -/

/-- R110: the ranges of the heating group and the three nominals, where they are given. -/
def figuresInRange (group : Option Nat) (width length thickness : Option Int) : Bool :=
  rangeWhereGiven 0 15 (group.map Int.ofNat) && rangeWhereGiven 800 2800 width
    && rangeWhereGiven 1500 12000 length && rangeWhereGiven 100 500 thickness

/-- R115, check 2. The sequence number 0, which R171 counts as missing, is judged here as outside the range,
before the check of the operation's own rule for a missing field: the model's choice (log 38). -/
def seqInRange (seq : Nat) : Bool := decide (1 ≤ seq) && decide (seq ≤ 65535)

/-- R116: the place a sequence number gives in the order. -/
def insertEntry (e : ScheduleEntry) : List ScheduleEntry → List ScheduleEntry
  | [] => [e]
  | x :: xs => if e.seq < x.seq then e :: x :: xs else x :: insertEntry e xs

/-- R115: the checks of the fields an APPEND or INSERT carries. -/
def newEntryFields (seq : Nat) (id : Identity) (dest : Option (Code SchedDest)) (group : Option Nat)
    (width length thickness : Option Int) : Except RespCode Unit :=
  if !seqInRange seq then .error .outOfRange
  else if !idRulesOk id then .error .illegalValue
  else if !goodWhereGiven dest then .error .illegalValue
  else if !figuresInRange group width length thickness then .error .outOfRange
  else .ok ()

/-- R116: the new entry, where every required field is carried. -/
def newEntry (seq : Nat) (id : Identity) (dest : Option (Code SchedDest)) (group : Option Nat)
    (width length thickness : Option Int) : Option ScheduleEntry :=
  match givenCode dest, group, width, length, thickness with
  | some d, some g, some w, some l, some t =>
    some { seq, id, dest := d, group := g, width := w, length := l, thickness := t,
           state := .planned }
  | _, _, _, _, _ => none

/-- R116: the checks that APPEND and INSERT share, the last three of the table, and the addition. -/
def addEntry (held : Identity → Bool) (e : ScheduleEntry) (l : List ScheduleEntry) :
    Except RespCode (List ScheduleEntry) :=
  if l.any fun x => x.id == e.id then .error .duplicate
  else if held e.id then .error .duplicate
  else if 256 ≤ l.length then .error .scheduleFull
  else .ok (insertEntry e l)

/-- R116: APPEND. -/
def appendEntry (held : Identity → Bool) (e : ScheduleEntry) (l : List ScheduleEntry) :
    Except RespCode (List ScheduleEntry) :=
  match l.getLast? with
  | none => addEntry held e l
  | some x => if x.seq < e.seq then addEntry held e l else .error .illegalValue

/-- R116: INSERT. -/
def insertNewEntry (held : Identity → Bool) (e : ScheduleEntry) (l : List ScheduleEntry) :
    Except RespCode (List ScheduleEntry) :=
  if l.any fun x => x.seq == e.seq then .error .duplicate else addEntry held e l

/-- R117: the checks DELETE and MODIFY share. -/
def editableEntry (seq : Nat) (l : List ScheduleEntry) : Except RespCode Unit :=
  match entryOf seq l with
  | none => .error .unknownTag
  | some e => if e.planned then .ok () else .error .busy

/-- R117: DELETE. -/
def deleteEntry (seq : Nat) (l : List ScheduleEntry) : Except RespCode (List ScheduleEntry) :=
  match editableEntry seq l with
  | .error c => .error c
  | .ok () => .ok (l.filter fun e => e.seq != seq)

/-- R117: the fields a MODIFY carries replace the entry's. -/
def ScheduleEntry.modified (dest : Option SchedDest) (group : Option Nat)
    (width length thickness : Option Int) (e : ScheduleEntry) : ScheduleEntry :=
  { e with dest := dest.getD e.dest, group := group.getD e.group, width := width.getD e.width,
           length := length.getD e.length, thickness := thickness.getD e.thickness }

/-- R117: MODIFY. -/
def modifyEntry (seq : Nat) (dest : Option (Code SchedDest)) (group : Option Nat)
    (width length thickness : Option Int) (l : List ScheduleEntry) :
    Except RespCode (List ScheduleEntry) :=
  match editableEntry seq l with
  | .error c => .error c
  | .ok () =>
    if dest.isNone && group.isNone && width.isNone && length.isNone && thickness.isNone then
      .error .illegalValue
    else .ok (l.map fun e =>
      if e.seq = seq then e.modified (givenCode dest) group width length thickness else e)

/-- R171: an operation's fields as they are read. -/
def SchedOp.asRead : SchedOp → SchedOp
  | .append seq id dest group w len t =>
    .append seq id (codeRead dest) (byteRead group) (figureRead w) (figureRead len) (figureRead t)
  | .insert seq id dest group w len t =>
    .insert seq id (codeRead dest) (byteRead group) (figureRead w) (figureRead len) (figureRead t)
  | .delete seq => .delete seq
  | .modify seq dest group w len t =>
    .modify seq (codeRead dest) (byteRead group) (figureRead w) (figureRead len) (figureRead t)
  | .badCode raw => .badCode raw

/-- R115 to R117: one operation against a schedule. -/
def scheduleOp (held : Identity → Bool) (op : SchedOp) (l : List ScheduleEntry) :
    Except RespCode (List ScheduleEntry) :=
  match SchedOp.asRead op with
  | .append seq id dest group w len t =>
    match newEntryFields seq id dest group w len t with
    | .error c => .error c
    | .ok () =>
      match newEntry seq id dest group w len t with
      | none => .error .illegalValue
      | some e => appendEntry held e l
  | .insert seq id dest group w len t =>
    match newEntryFields seq id dest group w len t with
    | .error c => .error c
    | .ok () =>
      match newEntry seq id dest group w len t with
      | none => .error .illegalValue
      | some e => insertNewEntry held e l
  | .delete seq => if !seqInRange seq then .error .outOfRange else deleteEntry seq l
  | .modify seq dest group w len t =>
    if !seqInRange seq then .error .outOfRange
    else if !goodWhereGiven dest then .error .illegalValue
    else if !figuresInRange group w len t then .error .outOfRange
    else modifyEntry seq dest group w len t l
  | .badCode _ => .error .illegalValue

/-- R114: the operations in their order, each against the schedule as those before it leave it; the
first that fails gives its code and its position. -/
def scheduleOps (held : Identity → Bool) : Nat → List SchedOp → List ScheduleEntry →
    Except (RespCode × Nat) (List ScheduleEntry)
  | _, [], l => .ok l
  | i, op :: ops, l =>
    match scheduleOp held op l with
    | .error c => .error (c, i)
    | .ok l' => scheduleOps held (i + 1) ops l'

/-- R114: the operation code the latch records. -/
def SchedOp.code : SchedOp → SchedOpCode
  | .append .. => .append
  | .insert .. => .insert
  | .delete _ => .delete
  | .modify .. => .modify
  | .badCode raw => .other raw

end Sys2Proof.Machine
end

