-- ==== Sys2Proof/Machine/Placement.lean ====
section
/-! DEFINITION. The placement computation (chapter 2, section 2.4), stage by stage, and what it leaves in
the slab's record and the placement holds. -/

namespace Sys2Proof.Machine

/-- R34: what a computation reads. `lane` is the cycle's lane, given with a final computation. -/
structure PlaceInput where
  kind : PlacementKind
  furnace : Furnace
  record : TableRecord
  lane : Lane
  map : FurnaceMap
  geometry : FurnaceGeometry
  gaps : List Int
  bounds : Bounds
  lastStroke : Option Int
  deriving DecidableEq, Repr

/-! ## Stage 1: operands (R35) -/

/-- One operand: as measured, or the nominal value where it may stand in. -/
def operandOf (mayStand : Bool) (measured nominal : Option Int) : Option Operand :=
  match measured with
  | some x => some ⟨x, false⟩
  | none => if mayStand then nominal.map (⟨·, true⟩) else none

/-- Whether a nominal value may stand in for a measured one by policy. -/
def PlaceInput.maySubstitute (i : PlaceInput) : Bool := i.geometry.policy == .substitute

/-- In a provisional computation the nominal length stands in under either policy. -/
def PlaceInput.mayStandLength (i : PlaceInput) : Bool :=
  i.maySubstitute || i.kind == .provisional

/-- R35: the operands, or the name of the first that is absent. No nominal value stands in for the heating
group: its mark is always measured. -/
def PlaceInput.operands (i : PlaceInput) : Except OperandName Operands :=
  match operandOf i.maySubstitute i.record.width (i.record.nominals.map (·.width)) with
  | none => .error .width
  | some w =>
    match operandOf i.mayStandLength i.record.measured (i.record.nominals.map (·.length)) with
    | none => .error .length
    | some l =>
      match operandOf i.maySubstitute i.record.thickness (i.record.nominals.map (·.thickness)) with
      | none => .error .thickness
      | some t =>
        match i.record.group with
        | none => .error .group
        | some g => .ok ⟨w, l, t, ⟨g, false⟩⟩

/-- R35: whether the computation used a nominal value by substitution; the nominal length of a
provisional computation is none. -/
def substitutionUsed (kind : PlacementKind) (o : Operands) : Bool :=
  o.width.nominal || o.thickness.nominal || (o.length.nominal && kind == .final)

/-! ## Stages 2 to 4: class, lane, pair test (R30, R36, R37) -/

/-- R30: the number of boundaries less than or equal to the thickness. -/
def classOf (b : Bounds) (t : Int) : Nat :=
  (if b.b1 ≤ t then 1 else 0) + (if b.b2 ≤ t then 1 else 0) + (if b.b3 ≤ t then 1 else 0)

/-- R36: a short slab. -/
def isShort (g : FurnaceGeometry) (len : Int) : Bool :=
  decide (g.lPair ≠ 0) && decide (len ≤ g.lPair)

/-- R38: the least front edge at which the slab may land. -/
def fMinOf (g : FurnaceGeometry) (w : Int) : Int := max g.zMin (g.dDoor + w)

/-- R37: the pair test, with the first condition that fails. -/
def pairTest (g : FurnaceGeometry) (m : FurnaceMap) (o : Operands) : PairOutcome :=
  match m.last with
  | none => .failed 1
  | some r =>
    if !r.pairOpen then .failed 1
    else if g.lPair < o.length.value then .failed 2
    else if g.pairTolerance < mag (o.width.value - r.occ.leadSlab.width) then .failed 3
    else if o.group.value ≠ r.occ.leadSlab.group then .failed 4
    else if inRange (fMinOf g o.width.value) g.zMax r.front then .passed
    else .failed 5

/-- R36, stage 4: the pair test where it is run: in a provisional computation for a short slab, in a
final one in lane B. -/
def PlaceInput.pairOutcome (i : PlaceInput) (o : Operands) : Option PairOutcome :=
  match i.kind with
  | .provisional =>
    if isShort i.geometry o.length.value then some (pairTest i.geometry i.map o) else none
  | .final => if i.lane = .b then some (pairTest i.geometry i.map o) else none

/-- R36, stage 3: the lane. -/
def PlaceInput.laneOf (i : PlaceInput) (o : Operands) : Lane :=
  match i.kind with
  | .provisional =>
    if isShort i.geometry o.length.value then
      if pairTest i.geometry i.map o = .passed then .b else .a
    else .c
  | .final => i.lane

/-! ## Stages 8 to 10 (R40 to R42) -/

/-- R40: the gap of a class, the same group or a change. -/
def gapOf (gaps : List Int) (cls : Nat) (same : Bool) : Int :=
  gaps.getD (if same then cls else 4 + cls) 0

/-- R41: whether the LAST_REPORTED basis falls back to the nominal stroke. -/
def PlaceInput.fallback (i : PlaceInput) : Bool :=
  i.geometry.basis == .lastReported && (i.lastStroke == none || i.lastStroke == some 0)

/-- R41: the divisor. -/
def PlaceInput.divisor (i : PlaceInput) : Int :=
  match i.geometry.basis with
  | .nominal => i.geometry.sNom
  | .lastReported =>
    match i.lastStroke with
    | none => i.geometry.sNom
    | some x => if x = 0 then i.geometry.sNom else x

/-- R43: the record with no stage reached. -/
def PlaceInput.blank (i : PlaceInput) : PlacementRecord :=
  { kind := i.kind, furnace := i.furnace, tag := i.record.tag, result := .unmeasured, lane := none,
    operands := none, absent := none, cls := none, pairTest := none, fMin := none, gap := none,
    rawTarget := none, target := none, strokes := none, divisor := none, fallback := none }

/-- Stages 8 to 10 for a map with last row `last` and first front `first`; `p` is the record as the
earlier stages left it. -/
def PlaceInput.roomStages (i : PlaceInput) (o : Operands) (cls : Nat) (fMin first : Int) (last : Row)
    (p : PlacementRecord) : PlacementRecord :=
  let g := gapOf i.gaps cls (decide (o.group.value = last.occ.leadSlab.group))
  let raw := last.front - last.extent - g
  let p := { p with gap := some g, rawTarget := some raw }
  if fMin ≤ raw then { p with result := .placed, target := some (min raw i.geometry.zMax) }
  else
    let n := ceilDiv (fMin - raw) i.divisor
    let p := { p with strokes := some n, divisor := some i.divisor, fallback := some i.fallback }
    if i.geometry.lEff < first + n * i.divisor then { p with result := .full }
    else { p with result := .strokes, target := some (min (raw + n * i.divisor) i.geometry.zMax) }

/-- Stages 5 to 10; `p` is the record as the earlier stages left it. -/
def PlaceInput.rowStages (i : PlaceInput) (o : Operands) (cls : Nat) (p : PlacementRecord) :
    PlacementRecord :=
  let fMin := fMinOf i.geometry o.width.value
  let p := { p with fMin := some fMin }
  if i.geometry.zMax < fMin then { p with result := .noFit }
  else
    match i.map.rows.head?, i.map.last with
    | some first, some last =>
      if 64 ≤ i.map.rows.length then { p with result := .mapFull }
      else i.roomStages o cls fMin first.front last p
    | _, _ => { p with result := .placed, target := some i.geometry.zMax }

/-- R33: the computation, its stages in their order. A PAIR record carries no stroke count (R43; log 39). -/
def PlaceInput.compute (i : PlaceInput) : PlacementRecord :=
  match i.operands with
  | .error n => { i.blank with absent := some n }
  | .ok o =>
    let cls := classOf i.bounds o.thickness.value
    let p := { i.blank with operands := some o, cls := some cls, lane := some (i.laneOf o),
                            pairTest := i.pairOutcome o }
    if i.pairOutcome o = some .passed then
      { p with result := .pair, target := i.map.last.map (·.front) }
    else i.rowStages o cls p

/-- R37, R42: the stroke count of a computation: the count its record carries, and 0 where the record
carries none, as for PAIR (log 39). -/
def PlacementRecord.strokeCount (p : PlacementRecord) : Int := p.strokes.getD 0

/-- R35: whether the slab's substituted flag stands after the computation. -/
def PlaceInput.substitutes (i : PlaceInput) : Bool :=
  match i.operands with
  | .error _ => false
  | .ok o => substitutionUsed i.kind o

/-! ## The computation in the state -/

/-- R34: what a computation of sequencer k for a record reads; none where the geometry record has no
values. -/
def State.placeInput (s : State) (kind : PlacementKind) (k : Furnace) (r : TableRecord)
    (lane : Lane) : Option PlaceInput :=
  (s.geometry k).map fun g =>
    { kind, furnace := k, record := r, lane, map := s.map k, geometry := g, gaps := s.cfg.gaps.get k,
      bounds := s.cfg.bounds, lastStroke := (s.placeOf k).lastStroke }

/-- The table record with a tag is changed. -/
def updateRecord (tag : Nat) (f : TableRecord → TableRecord) (s : State) : State :=
  s.setTracker { s.tracker with
    table := s.tracker.table.map fun r => if r.tag = tag then f r else r }

/-- R35, R41, R44: what a computation leaves behind: the substituted flag of the slab's record, the
SUBSTITUTED hold and the STROKE_BASIS hold, in the order of the stages that set them (log 35). -/
def placementMarks (i : PlaceInput) (p : PlacementRecord) (s : State) : State :=
  let s := updateRecord i.record.tag (fun r => { r with substituted := i.substitutes }) s
  let s := if i.substitutes then setHoldOnce .substituted i.furnace i.record.tag none s else s
  if p.fallback = some true then
    setHoldOnce .strokeBasis i.furnace i.record.tag p.divisor s
  else s

/-! ## The landing (R7 to R11) -/

/-- R2: the furnace slab record filled from an in-flight record and the operands of the final
computation. -/
def slabFrom (f : InFlight) (o : Option Operands) (deviation : Option Int) (clock : Word32) :
    FurnaceSlab :=
  { tag := f.record.tag, id := f.record.id
    width := (o.map (·.width.value)).getD (f.record.width.getD 0)
    length := (o.map (·.length.value)).getD (f.record.measured.getD 0)
    thickness := (o.map (·.thickness.value)).getD (f.record.thickness.getD 0)
    mass := f.record.mass
    group := (o.map (·.group.value)).getD (f.record.group.getD 0)
    chargedAt := clock, deviation, substituted := f.record.substituted }

/-- The operands of a cycle's final computation. -/
def CycleRecord.operands (c : CycleRecord) : Option Operands := c.final.bind (·.operands)

/-- Whether a cycle's final result is PAIR. -/
def CycleRecord.isPair (c : CycleRecord) : Bool :=
  match c.final with
  | none => false
  | some p => p.result == .pair

/-- R9: the LANDING_DEVIATION hold, where the magnitude exceeds the landing tolerance. -/
def landingHold (k : Furnace) (tag : Nat) (deviation : Int) (s : State) : State :=
  match s.geometry k with
  | none => s
  | some g =>
    if g.landingTolerance < mag deviation then setHoldAlways .landingDeviation k (some tag) s else s

/-- R9, R10: a landing that map k has taken is completed. -/
def completeLanding (k : Furnace) (f : InFlight) (x : FurnaceSlab) (deviation : Int) (d : Landing)
    (s : State) : State :=
  raise (.landed x.tag x.id k d.row d.lane d.front (some deviation) x.mass)
    (removeLink f.record.link (landingHold k x.tag deviation (s.setMap k d.map)))

/-- R9: the landing deviation. -/
def landingDeviation (c : CycleRecord) (measured : Int) : Int := measured - c.target.getD 0

/-- R7 to R10: sequencer k hands a landing to map k; none where the map does not take it (R8). -/
def landSlab (k : Furnace) (f : InFlight) (c : CycleRecord) (measured : Int) (s : State) :
    Option State :=
  let dev := landingDeviation c measured
  let x := slabFrom f c.operands (some dev) s.ret.clock
  ((s.map k).land c.isPair c.lane measured x).map fun d => completeLanding k f x dev d s

/-- R11, R23: whether a front edge lies in the edit range for a width. -/
def editRange (front width : Int) : Bool := decide (front ≤ 100000) && decide (0 ≤ front - width)

/-- R11, R23: the checks of the map for an insert of a width at a front edge. -/
def insertChecks (front width : Int) (m : FurnaceMap) : Except RespCode Unit :=
  if 64 ≤ m.rows.length then .error .mapFullEdit
  else if spanConflict front width m.rows then .error .mapConflict
  else .ok ()

/-- R5: whether a front edge lies beyond L_eff of furnace k. -/
def State.beyond (s : State) (k : Furnace) (front : Int) : Bool :=
  match s.geometry k with
  | none => false
  | some g => decide (g.lEff < front)

/-- R11, R23: a lane-C row is inserted, with OVERRUN where its front edge lies beyond L_eff. -/
def insertSlabRow (k : Furnace) (front : Int) (x : FurnaceSlab) (s : State) : State :=
  let o := s.beyond k front
  let i := insertIndex front (s.map k).rows
  let s := s.setMap k { s.map k with rows := insertRows front o x (s.map k).rows }
  if o then raise (.overrun k i front [(x.tag, x.id)]) s else s

/-- R11: the resolution insert of an in-flight slab, once its checks have passed. -/
def resolutionInsert (k : Furnace) (f : InFlight) (o : Option Operands) (front : Int) (s : State) :
    State :=
  let x := slabFrom f o none s.ret.clock
  let i := insertIndex front (s.map k).rows
  let s := insertSlabRow k front x s
  let s := removeLink f.record.link (s.setMap k { s.map k with lastLanding := front })
  raise (.landed x.tag x.id k i .c front none x.mass) s

end Sys2Proof.Machine
end

