-- ==== Sys2Proof/Machine/Windows.lean ====
section
/-! DEFINITION. The window unit (chapter 7): window evaluation, the levels of the lines, stopped levels,
references and overlaps. -/

namespace Sys2Proof.Machine

/-! ## Window evaluation (R156, R158) -/

/-- R155: the place of a state in a state mask; OFFLINE and HELD have none. -/
def maskPlace : SeqState → Option Nat
  | .idle => some 0
  | .positioning => some 1
  | .room => some 2
  | .pick => some 3
  | .carry => some 4
  | .lower => some 5
  | .retract => some 6
  | .offline => none
  | .held => none

/-- Whether a state is in a state mask. -/
def inMask (mask : BitVec 16) (st : SeqState) : Bool :=
  match maskPlace st with
  | none => false
  | some i => mask.getLsbD i

/-- R158: the advance of lead compensation, in mm. -/
def advance (x : LineSettings) (speed : Int) : Int :=
  clampInt (-x.maxAdvance) x.maxAdvance ((speed * x.lead).tdiv 1000)

/-- R158: the depth tested for a window. -/
def testedDepth (x : LineSettings) (depth speed : Int) (w : Window) : Int :=
  if w.lead then depth + advance x speed else depth

/-- R158: what a TARGET window's edges are taken from; none without a target. -/
def spanBase (target : Option Int) : EdgeBasis → Option Int
  | .fixed => some 0
  | .target => target

/-- R158: the speed condition. -/
def speedHolds (x : LineSettings) (speed : Int) : SpeedCondition → Bool
  | .any => true
  | .still => decide (mag speed ≤ x.vStill)
  | .slow => decide (mag speed ≤ x.vSlow)

/-- R158: whether a window is satisfied. -/
def Window.satisfied (x : LineSettings) (depth speed : Int) (st : SeqState) (target : Option Int)
    (w : Window) : Bool :=
  match spanBase target w.basis with
  | none => false
  | some b =>
    decide (b + w.on ≤ testedDepth x depth speed w)
      && decide (testedDepth x depth speed w < b + w.off)
      && speedHolds x speed w.speed && inMask w.mask st

/-- R156: the number of the set that applies. -/
def Sequencer.windowSet (q : Sequencer) : Nat :=
  match q.cycle with
  | none => 0
  | some c => c.cls

/-- The cycle's target (R49). -/
def Sequencer.target (q : Sequencer) : Option Int := q.cycle.bind (·.target)

/-- The windows a line lists in the set that applies. -/
def State.lineWindows (s : State) (k : Furnace) (j : Nat) : List Window :=
  ((s.cfg.sets.get k).getD (8 * (s.seq k).windowSet + j) []).filterMap fun i => s.cfg.pool.getD i none

/-- R158: the result of window evaluation for line k.j. -/
def State.windowResult (s : State) (k : Furnace) (j : Nat) : Bool :=
  (s.lineWindows k j).any (Window.satisfied (s.cfg.lineSettings.get k) (s.depth k)
    (s.counter (carriage k)).speed (s.seq k).state (s.seq k).target)

/-! ## Levels (R153) -/

/-- R153: the level of line k.j, by the first case that applies. -/
def State.lineLevel (s : State) (k : Furnace) (j : Nat) : Bool :=
  if s.ret.mode ≠ .run then false
  else if (s.seq k).state = .offline then false
  else if !s.homed k then false
  else if (s.seq k).state = .held then
    match (s.windows.get k).stopped with
    | none => false
    | some l => l.getD j false
  else s.windowResult k j

/-- The levels of the eight lines of furnace k. -/
def State.lineLevels (s : State) (k : Furnace) : List Bool := (List.range 8).map (s.lineLevel k)

/-- R159: the lines of both furnaces take the levels R153 gives. -/
def refreshLines (s : State) : State :=
  s.setWindows ⟨{ s.windows.f1 with lines := s.lineLevels .f1 },
    { s.windows.f2 with lines := s.lineLevels .f2 }⟩

/-! ## Stopped levels (R160, R161) -/

/-- R160: the stopped level fixed from a stop level and the level just before. -/
def fixLevel : StopLevel → Bool → Bool
  | .retain, level => level
  | .off, _ => false
  | .on, _ => true

/-- R160: the stopped levels fixed at an entry of sequencer k into HELD. -/
def State.stoppedLevels (s : State) (k : Furnace) : List Bool :=
  if s.ret.mode = .restored then List.replicate 8 false
  else (List.range 8).map fun j =>
    fixLevel ((s.cfg.lineSettings.get k).stops.getD j .off) (s.lineLevel k j)

/-- The stopped levels of furnace k are set or discarded. -/
def putStopped (k : Furnace) (v : Option (List Bool)) (s : State) : State :=
  s.setWindows (s.windows.set k { s.windows.get k with stopped := v })

/-! ## References and overlaps (R155, R163) -/

/-- R166: the number of set lines of one furnace that reference a pool index. -/
def referenceCount (sets : List (List Nat)) (i : Nat) : Nat :=
  (sets.filter fun l => l.contains i).length

/-- R155: whether a furnace references a pool index. -/
def references (sets : List (List Nat)) (i : Nat) : Bool := sets.any fun l => l.contains i

/-- R163: two windows overlap. -/
def Window.overlaps (v w : Window) : Bool :=
  v.basis == w.basis && decide (v.on < w.off) && decide (w.on < v.off)

/-- R163: whether two windows of a list overlap, one with a later one. -/
def anyOverlap : List Window → Bool
  | [] => false
  | w :: ws => ws.any w.overlaps || anyOverlap ws

/-- R163: whether the windows of one line's list overlap. -/
def listOverlaps (pool : List (Option Window)) (l : List Nat) : Bool :=
  anyOverlap (l.filterMap fun i => pool.getD i none)

/-- R163: whether a window overlaps the window at a pool index. -/
def overlapsAt (pool : List (Option Window)) (w : Window) (j : Nat) : Bool :=
  match pool.getD j none with
  | none => false
  | some v => w.overlaps v

/-- R162, check 8, R163: whether the window at a pool index overlaps another window of a line that lists
that index. -/
def indexOverlaps (pool : List (Option Window)) (sets : List (List Nat)) (i : Nat) : Bool :=
  match pool.getD i none with
  | none => false
  | some w => sets.any fun l => l.contains i && (l.erase i).any (overlapsAt pool w)

end Sys2Proof.Machine
end

