-- ==== Sys2Proof/Machine/Tracker.lean ====
section
/-! DEFINITION. The table tracker (chapter 4, sections 4.1 to 4.5): positions of a record, the grid watch,
creation and removal of records, holds. -/

namespace Sys2Proof.Machine

/-! ## Positions (R82) -/

/-- R82: the head at a table travel. -/
def TableRecord.head (r : TableRecord) (travel : Int) : Int := r.anchor + travel

/-- R82: the assumed length. -/
def TableRecord.assumed (r : TableRecord) : Int :=
  match r.measured, r.nominals with
  | some l, _ => l
  | none, some n => n.length
  | none, none => 12000

/-- R82: the tail. -/
def TableRecord.tail (r : TableRecord) (travel : Int) : Int := r.head travel - r.assumed

/-- R82: the centre. -/
def TableRecord.centre (r : TableRecord) (travel : Int) : Int :=
  r.head travel - r.assumed.tdiv 2

/-- Whether a record is READY. -/
def TableRecord.ready (r : TableRecord) : Bool := r.state == .ready

/-! ## The grid zone (R87) -/

/-- R87: a record lies on the grid zone. -/
def TableRecord.onZone (g : TableGeometry) (travel : Int) (r : TableRecord) : Bool :=
  decide (r.tail travel ≤ g.xGE) && decide (g.xGS ≤ r.head travel)

/-- R87: some record lies on the grid zone. -/
def State.zoneTaken (s : State) : Bool :=
  match s.cfg.tableGeometry with
  | none => false
  | some g => s.tracker.table.any fun r => r.onZone g s.travel

/-- R87: the tail of every record lies downstream of X_GE. -/
def State.tailsClear (s : State) : Bool :=
  match s.cfg.tableGeometry with
  | none => s.tracker.table.isEmpty
  | some g => s.tracker.table.all fun r => decide (g.xGE < r.tail s.travel)

/-- R87: the grid is clear. -/
def State.gridClear (s : State) : Bool := !s.present .gp && s.tailsClear

/-- The unidentified presence flag is set or cleared. -/
def putUnidentified (v : Bool) (s : State) : State := s.setTracker { s.tracker with unidentified := v }

/-- R87: the flag is evaluated; `travel` is the table travel the event carries. -/
def evalPresenceAt (travel : Int) (s : State) : State :=
  if !s.present .gp || s.zoneTaken then putUnidentified false s
  else if s.grid.grant.isSome || s.tracker.unidentified then s
  else raise (.unidentifiedOnGrid travel) (putUnidentified true s)

/-- R87: the flag is evaluated with the present table travel. -/
def evalPresence (s : State) : State := evalPresenceAt s.travel s

/-! ## Records entering and leaving (R83, R88) -/

/-- R95, R125: a record enters or leaves the list, or its head, length or state changes. -/
def markList (s : State) : State := markGrid (markTable s)

/-- R85: where a record enters or leaves READY, each sequencer in IDLE has an occasion. -/
def markReady (ready : Bool) (s : State) : State := if ready then markStarts s else s

/-- R88: a figure that lies in its range, or absent. -/
def figureInRange (lo hi x : Int) : Option Int := if inRange lo hi x then some x else none

/-- R88: the record of a deposit before its match. -/
def newRecord (s : State) (tag : Nat) (id : Identity) (width thickness mass : Int) : TableRecord :=
  { tag, id
    anchor := (match s.cfg.tableGeometry with | none => 0 | some g => g.xG) - s.travel
    measured := none
    width := figureInRange 800 2800 width
    thickness := figureInRange 100 500 thickness
    mass := figureInRange 1 200000 mass
    link := none, nominals := none, group := none, dest := none, state := .held .unscheduled
    seenMS := false, seenD1 := false, seenD2 := false, substituted := false }

/-- R120: the event of a created record. -/
def creationEvent (r : TableRecord) (travel : Int) : Event :=
  match r.state with
  | .ready => .slabReady r.tag r.id r.dest
  | .held c => .slabHeld r.tag r.id (some c) none (r.head travel)
  | .reject => .slabHeld r.tag r.id none none (r.head travel)

/-- R88, R118: the record of a deposit as creation and match leave it. -/
def State.depositRecord (s : State) (id : Identity) (width thickness mass : Int) : TableRecord :=
  matchRecord s (newRecord s s.freshTag id width thickness mass)

/-- R88, R118 to R120, R128: a record is created at X_G and matched; it enters the list as the last. -/
def createRecord (id : Identity) (width thickness mass : Int) (s : State) : State :=
  let r := s.depositRecord id width thickness mass
  let s := (takeTag r.tag s).setSchedule (matchSchedule r s.schedule)
  let s := s.setTracker { s.tracker with table := s.tracker.table ++ [r] }
  markReady r.ready (markList (evalPresence (raise (creationEvent r s.travel) s)))

/-- R91: the pending measurement is cleared when its record leaves the list. -/
def dropMeasurement (tag : Nat) (m : Option Measurement) : Option Measurement :=
  match m with
  | none => none
  | some x => if x.tag = tag then none else some x

/-- A record leaves the list (R67, R104, R106) and its pending measurement is cleared. -/
def deleteRecord (r : TableRecord) (s : State) : State :=
  markReady r.ready (markList (s.setTracker { s.tracker with
    table := s.tracker.table.filter fun x => x.tag != r.tag
    measuring := dropMeasurement r.tag s.tracker.measuring }))

/-! ## Holds (R85) -/

/-- R85: a hold taken on a READY or HELD record; none is taken on a REJECT record. -/
def placeHold (cause : SlabCause) (r : TableRecord) (s : State) : State :=
  match r.state with
  | .reject => s
  | st =>
    markReady r.ready (markList (raise (.slabHeld r.tag r.id (some cause) (some st) (r.head s.travel))
      (updateRecord r.tag (fun x => { x with state := .held cause }) s)))

/-- R85: a hold asked for by the tag of the record. -/
def holdTag (cause : SlabCause) (tag : Nat) (s : State) : State :=
  match s.findTag tag with
  | none => s
  | some r => placeHold cause r s

end Sys2Proof.Machine
end

