-- ==== Sys2Proof/Machine/Sequencer.lean ====
section
/-! DEFINITION. The charger sequencers' own operations (chapter 3): entries into HELD, IDLE and OFFLINE,
timers, the final computation and its outcomes, the start evaluation, holds handed over by the tracker. -/

namespace Sys2Proof.Machine

/-! ## The table as a sequencer sees it (R93, R94, R99, R101) -/

/-- The number of the move in progress; 0 for a manual move (R93). -/
def Motion.number : Motion → Nat
  | .still => 0
  | .positioning _ n _ => n
  | .manual => 0

/-- Whether the arbiter is MOVING. -/
def Motion.moving : Motion → Bool
  | .still => false
  | .positioning .. => true
  | .manual => true

/-- R93: the grant of the owner is no longer wanted. -/
def Motion.unwanted : Motion → Motion
  | .positioning k n _ => .positioning k n false
  | m => m

/-- R99: a TABLE_HALT, while MOVING. -/
def sendHalt (reason : HaltReason) (s : State) : State :=
  if s.arb.motion.moving then
    sendField .tableDrive 0 (.tableHalt s.arb.motion.number reason) s
  else s

/-- R93: charger k's positioning request is placed, changed or removed. -/
def putRequest (k : Furnace) (q : Option PosRequest) (s : State) : State :=
  s.setArb { s.arb with requests := s.arb.requests.set k q }

/-- R94, R95: charger k's request leaves the arbiter's set. -/
def dropRequest (k : Furnace) (s : State) : State := markList (putRequest k none s)

/-- R94: whether charger k has a request that is not granted. -/
def State.requestWaits (s : State) (k : Furnace) : Bool :=
  match s.arb.requests.get k with
  | none => false
  | some q => q.status != .granted

/-- R51: charger k's positioning request is withdrawn where one is waiting. -/
def withdrawWaiting (k : Furnace) (s : State) : State :=
  if s.requestWaits k then dropRequest k s else s

/-- R93, R99: whether charger k owns the move in progress, wanted or not. -/
def Motion.ownedBy (k : Furnace) : Motion → Bool
  | .still => false
  | .positioning k' _ _ => k' == k
  | .manual => false

/-- R99: charger k's move in progress is halted and is no longer wanted. A move that an earlier event has
made unwanted, and that still runs, is halted again. -/
def haltOwnMove (k : Furnace) (reason : HaltReason) (s : State) : State :=
  if s.arb.motion.ownedBy k then
    let s := sendHalt reason s
    s.setArb { s.arb with motion := s.arb.motion.unwanted }
  else s

/-- R56, R62, R73, R76, R77: sequencer k leaves POSITIONING before the success of its move: its request,
waiting or granted, leaves the arbiter; its move in progress is halted and is no longer wanted. -/
def abandonMove (k : Furnace) (reason : HaltReason) (s : State) : State :=
  let s := haltOwnMove k reason s
  match s.arb.requests.get k with
  | none => s
  | some _ => dropRequest k s

/-- R101: charger k's hold on the table is released where it is recorded. -/
def releaseHold (k : Furnace) (s : State) : State :=
  if s.arb.holds.get k then
    markList (s.setArb { s.arb with holds := s.arb.holds.set k false })
  else s

/-! ## Cycle record and timer (R49, R53) -/

def State.cycle (s : State) (k : Furnace) : Option CycleRecord := (s.seq k).cycle

/-- The cycle record of sequencer k is changed. -/
def updateCycle (k : Furnace) (f : CycleRecord → CycleRecord) (s : State) : State :=
  s.setSeq k { s.seq k with cycle := (s.seq k).cycle.map f }

/-- Sequencer k takes a state and a waiting reason. -/
def putSeqState (k : Furnace) (st : SeqState) (w : Waiting) (s : State) : State :=
  s.setSeq k { s.seq k with state := st, waiting := w }

/-- Sequencer k shows a waiting reason. -/
def showWaiting (k : Furnace) (w : Waiting) (s : State) : State :=
  s.setSeq k { s.seq k with waiting := w }

/-- R53: the index of a timeout in the timing record. -/
def TimeoutKind.index : TimeoutKind → Nat
  | .positioning => 0
  | .stroke => 1
  | .pick => 2
  | .carry => 3
  | .lower => 4
  | .retract => 5

/-- R53: a timeout of furnace k as the record holds it, in ms. -/
def State.timeoutMs (s : State) (k : Furnace) (t : TimeoutKind) : Nat :=
  1000 * (s.cfg.timing.get k).getD t.index 0

/-- R53: the state timer starts with the value the record holds. -/
def startTimer (k : Furnace) (t : TimeoutKind) (s : State) : State :=
  updateCycle k (fun c => { c with timer := some ⟨t, s.timeoutMs k t⟩ }) s

/-- R53: the state timer stops. -/
def stopTimer (k : Furnace) (s : State) : State := updateCycle k (fun c => { c with timer := none }) s

/-- R72: the tag a CHARGER_STOP carries. -/
def State.cycleTag (s : State) (k : Furnace) : Nat := ((s.cycle k).map (·.tag)).getD 0

/-- R72: CHARGER_STOP is sent to charger drive k. -/
def sendChargerStop (k : Furnace) (reason : StopReason) (s : State) : State :=
  sendField (.charger k) 0 (.chargerStop (s.cycleTag k) reason) s

/-! ## Entries into HELD, IDLE and OFFLINE (R51, R56) -/

/-- R50: the in-flight record becomes UNCERTAIN. -/
def InFlight.doubt (f : InFlight) : InFlight := { f with certainty := .uncertain }

/-- R51: the sequencer as an entry into HELD leaves it. -/
def Sequencer.held (cause : HeldCause) (q : Sequencer) : Sequencer :=
  { state := .held, cause := some cause, waiting := .none
    cycle := q.cycle.map fun c => { c with timer := none, outstanding := 0 }
    inflight := q.inflight.map InFlight.doubt }

/-- R51: the CHARGER_HELD event of sequencer k, which left `left`. -/
def State.heldEvent (s : State) (k : Furnace) (cause : HeldCause) (left : SeqState)
    (fault : Option Nat) : Event :=
  .chargerHeld k cause left ((s.cycle k).map (·.tag)) ((s.seq k).inflight.map (·.certainty)) fault

/-- R51, R160: sequencer k enters HELD. -/
def enterHeld (k : Furnace) (cause : HeldCause) (fault : Option Nat) (s : State) : State :=
  let left := (s.seq k).state
  let levels := s.stoppedLevels k
  let s := putStopped k (some levels) (s.setSeq k ((s.seq k).held cause))
  let s := withdrawWaiting k (releaseHold k s)
  raise (s.heldEvent k cause left fault) s

/-- R49, R51, R57: sequencer k enters IDLE: the cycle record is deleted, the cause and the stopped levels
are discarded, charger k's hold is released, and a start evaluation is due. -/
def enterIdle (k : Furnace) (s : State) : State :=
  let s := s.setSeq k { s.seq k with state := .idle, cause := none, waiting := .none, cycle := none }
  markStart k (releaseHold k (putStopped k none s))

/-- R56: sequencer k enters OFFLINE. -/
def enterOffline (k : Furnace) (s : State) : State :=
  let s := s.setSeq k { s.seq k with state := .offline, cause := none, waiting := .none, cycle := none }
  releaseHold k (putStopped k none s)

/-! ## The final computation and its outcomes (R61, R63, R64, R65) -/

/-- R49: a final record is written into the cycle record. -/
def CycleRecord.withFinal (p : PlacementRecord) (c : CycleRecord) : CycleRecord :=
  { c with
    final := some p
    cls := p.cls.getD c.cls
    target := if p.result = .placed ∨ p.result = .pair then p.target else c.target }

/-- R65: CHARGE_ORDER is sent and the sequencer enters PICK. -/
def orderCharge (k : Furnace) (target : Int) (s : State) : State :=
  match s.cycle k, s.geometry k with
  | some c, some g =>
    startTimer k .pick (putSeqState k .pick .none
      (sendField (.charger k) 0
        (.chargeOrder c.tag c.id c.lane target (target - g.armOffset) c.cls) s))
  | _, _ => s

/-- R63: the count a STROKE_REQUEST asks for. -/
def strokeBatch (n : Int) : Nat := min n.toNat 8

/-- R63: STROKE_REQUEST is sent, the outstanding count and the stroke timer are set. -/
def requestStrokes (k : Furnace) (n divisor : Int) (s : State) : State :=
  match s.cycle k with
  | none => s
  | some c =>
    let s := sendField (.beam k) 0 (.strokeRequest c.tag (strokeBatch n) divisor) s
    let s := updateCycle k (fun c => { c with outstanding := strokeBatch n }) s
    startTimer k .stroke (putSeqState k .room .strokes s)

/-- R61, R64: the sequencer waits in ROOM with no timer running. -/
def waitInRoom (k : Furnace) (w : Waiting) (s : State) : State :=
  stopTimer k (putSeqState k .room w s)

/-- R61, R64: the slab is held with a cause and the sequencer enters IDLE. -/
def holdAndIdle (k : Furnace) (cause : SlabCause) (tag : Nat) (s : State) : State :=
  enterIdle k (holdTag cause tag s)

/-- R61, R64: the outcome of a final computation or recomputation. -/
def decideFinal (k : Furnace) (tag : Nat) (p : PlacementRecord) (s : State) : State :=
  match p.result with
  | .placed => orderCharge k (p.target.getD 0) s
  | .pair => orderCharge k (p.target.getD 0) s
  | .strokes => requestStrokes k p.strokeCount (p.divisor.getD 0) s
  | .full => waitInRoom k (.full tag) s
  | .mapFull => waitInRoom k (.mapFull tag) s
  | .noFit => holdAndIdle k .noFit tag s
  | .unmeasured => holdAndIdle k .unmeasured tag s

/-- R61, R64: the final computation of sequencer k in the lane of its cycle. The HOLD_SET events of the computation
stand before the SLAB_HELD that its result causes (log 35). -/
def runFinal (k : Furnace) (s : State) : State :=
  match s.cycle k with
  | none => s
  | some c =>
    match (s.findTag c.tag).bind fun r => s.placeInput .final k r c.lane with
    | none => s
    | some i =>
      decideFinal k c.tag i.compute
        (updateCycle k (CycleRecord.withFinal i.compute) (placementMarks i i.compute s))

/-! ## Strokes and discharges handed on (R63, R64, R57) -/

/-- Whether a reason is FULL or MAP_FULL. -/
def Waiting.forRoom : Waiting → Bool
  | .full _ => true
  | .mapFull _ => true
  | _ => false

/-- R63: the outstanding count after a report of a length taken. -/
def countStroke (len : Int) (n : Nat) : Nat := if len = 0 then 0 else n - 1

/-- R63: a report counted in ROOM with strokes outstanding. -/
def takeStroke (k : Furnace) (len : Int) (n : Nat) (s : State) : State :=
  let s := updateCycle k (fun c => { c with outstanding := countStroke len n }) s
  if countStroke len n = 0 then runFinal k (stopTimer k s) else startTimer k .stroke s

/-- R63, R64: map k hands a stroke report on to sequencer k. -/
def strokeHandedOn (k : Furnace) (len : Int) (s : State) : State :=
  match (s.seq k).state, s.cycle k with
  | .idle, _ => markStart k s
  | .room, some c =>
    if c.outstanding ≠ 0 then takeStroke k len c.outstanding s
    else if (s.seq k).waiting.forRoom && decide (len ≠ 0) then runFinal k s
    else s
  | _, _ => s

/-- R19, R64: map k hands a discharge report on to sequencer k. -/
def dischargeHandedOn (k : Furnace) (s : State) : State :=
  match (s.seq k).state with
  | .idle => markStart k s
  | .room => if (s.seq k).waiting.forRoom then runFinal k s else s
  | _ => s

/-! ## The start evaluation (R57, R58) -/

/-- R57: whether a record is a candidate of sequencer k. -/
def TableRecord.candidateFor (k : Furnace) (r : TableRecord) : Bool :=
  r.ready && r.dest == some k

/-- The record with the greater head; the first of two with equal heads. -/
def moreDownstream (a b : TableRecord) : TableRecord := if a.anchor < b.anchor then b else a

/-- The most downstream record of a list. -/
def mostDownstream : List TableRecord → Option TableRecord
  | [] => none
  | r :: rs =>
    match mostDownstream rs with
    | none => some r
    | some b => some (moreDownstream r b)

/-- R57: the record that sequencer k takes. -/
def State.candidate (s : State) (k : Furnace) : Option TableRecord :=
  mostDownstream (s.tracker.table.filter (TableRecord.candidateFor k))

/-- R86: the charge position of a lane at door k. -/
def TableGeometry.chargePosition (g : TableGeometry) : Furnace → Lane → Int
  | .f1, .a => g.x1A
  | .f1, .b => g.x1B
  | .f1, .c => g.x1C
  | .f2, .a => g.x2A
  | .f2, .b => g.x2B
  | .f2, .c => g.x2C

/-- R49, R58: the cycle record at its creation. -/
def newCycle (r : TableRecord) (p : PlacementRecord) : CycleRecord :=
  { tag := r.tag, id := r.id, lane := p.lane.getD .c, provisional := p, final := none, target := none,
    cls := p.cls.getD 0, outstanding := 0, corrective := 0, timer := none, measured := none }

/-- R58: the cycle begins: the cycle record is created, the positioning request is placed and the
sequencer enters POSITIONING. -/
def beginCycle (k : Furnace) (r : TableRecord) (p : PlacementRecord) (s : State) : State :=
  match s.cfg.tableGeometry with
  | none => s
  | some g =>
    let s := s.setSeq k { s.seq k with state := .positioning, waiting := .grant,
                                       cycle := some (newCycle r p) }
    markList (putRequest k
      (some { tag := r.tag, target := g.chargePosition k (p.lane.getD .c), status := .waiting }) s)

/-- R57, R58: the records of a start evaluation one after another; `fuel` is more than their number. The HOLD_SET
events of a computation stand before the SLAB_HELD that its result causes (log 35). -/
def startLoop (k : Furnace) : Nat → State → State
  | 0, s => s
  | fuel + 1, s =>
    match s.candidate k with
    | none => showWaiting k .noSlab s
    | some r =>
      match s.placeInput .provisional k r .c with
      | none => s
      | some i =>
        let p := i.compute
        let t := placementMarks i p s
        match p.result with
        | .placed => beginCycle k r p t
        | .pair => beginCycle k r p t
        | .strokes => beginCycle k r p t
        | .noFit => startLoop k fuel (holdTag .noFit r.tag t)
        | .unmeasured => startLoop k fuel (holdTag .unmeasured r.tag t)
        | .full => showWaiting k (.full r.tag) t
        | .mapFull => showWaiting k (.mapFull r.tag) t

/-- R52, R57: the first of the mode, supervision and homing conditions that fails. -/
def State.startBar (s : State) (k : Furnace) : Option Waiting :=
  if s.ret.mode ≠ .run then some .mode
  else if !s.mgmt.supervision.isOk then some .supervision
  else if !s.homed k then some .unhomed
  else none

/-- R57: the start evaluation of sequencer k, made in IDLE. -/
def startEval (k : Furnace) (s : State) : State :=
  if (s.seq k).state ≠ .idle then s
  else
    match s.startBar k with
    | some w => showWaiting k w s
    | none => startLoop k (s.tracker.table.length + 1) s

/-- R52, R78: an IDLE sequencer shows MODE, SUPERVISION or UNHOMED while that condition stands. -/
def showBar (k : Furnace) (s : State) : State :=
  if (s.seq k).state = .idle then
    match s.startBar k with
    | none => s
    | some w => showWaiting k w s
  else s

/-! ## Holds of the tracker (R77, R85) -/

/-- R61: a slab is positioned for charger k. -/
def State.positionedFor (s : State) (k : Furnace) (tag : Nat) : Bool :=
  match (s.seq k).state, s.cycle k with
  | .positioning, some c => c.tag == tag
  | .room, some c => c.tag == tag
  | .pick, some c => c.tag == tag
  | _, _ => false

/-- Whether a slab is positioned for either charger (R103, R104). -/
def State.positioned (s : State) (tag : Nat) : Bool :=
  s.positionedFor .f1 tag || s.positionedFor .f2 tag

/-- R77: sequencer k takes a tracker hold on its cycle's slab. -/
def takeTrackerHold (k : Furnace) (s : State) : State :=
  match (s.seq k).state with
  | .positioning => enterIdle k (abandonMove k .trackingLost s)
  | .room => enterIdle k s
  | .pick => enterHeld k .trackingLost none (sendChargerStop k .trackingLost s)
  | _ => s

/-- R77, R85: a hold is handed to sequencer k where the slab is positioned for its charger. -/
def handHold (k : Furnace) (tag : Nat) (s : State) : State :=
  if s.positionedFor k tag then takeTrackerHold k s else s

/-- R85: a LENGTH or TRACKING hold of the tracker; in RETAIN it is not handed over. That the SLAB_HELD of the
record stands before the CHARGER_HELD of a sequencer in PICK (R77) is the model's choice (log 35). -/
def trackerHold (cause : SlabCause) (r : TableRecord) (s : State) : State :=
  if r.state = .reject then s
  else
    let t := placeHold cause r s
    if t.ret.mode = .retain then t else handHold .f2 r.tag (handHold .f1 r.tag t)

end Sys2Proof.Machine
end

