-- ==== Sys2Proof/WellFormed.lean ====
section
/-! DEFINITION. Which commands can reach the part: every field of a telegram lies in the range of its
encoding (R170, R171), the bytes of a payload are those that its header declares, unless the frame ends before
them (R170), a query is of the form that its length tells (R107, R132), a frame forwarded as such is not of the ATL type (R169), the straps read 0 to 63 (R173). A payload
length that the telegram's kind does not allow is well-formed: the part answers it (R171, R187). The meanings
are total; nothing in them asks for a well-formed command. -/

namespace Sys2Proof

/-- The fields of a command by their encoding (R171): one byte, two bytes, four bytes signed, four bytes
unsigned, identities. -/
structure Parts where
  hdr : Option Hdr
  bytes : List Nat
  words : List Nat
  figures : List Int
  masses : List Int
  ids : List Identity
  deriving DecidableEq, Repr

/-- No field. -/
def Parts.empty : Parts := ⟨none, [], [], [], [], []⟩

/-- A telegram with the fields given. -/
def tel (h : Hdr) (bytes : List Nat := []) (words : List Nat := []) (figures : List Int := [])
    (masses : List Int := []) (ids : List Identity := []) : Parts :=
  ⟨some h, bytes, words, figures, masses, ids⟩

/-- The raw byte of a code that names no value. -/
def Code.bytes {α : Type} : Code α → List Nat
  | .val _ => []
  | .bad raw => [raw]

/-- The same of a code field that may be left out. -/
def optBytes {α : Type} : Option (Code α) → List Nat
  | none => []
  | some c => Code.bytes c

/-- A figure that may be left out. -/
def optFigure (x : Option Int) : List Int := x.toList

def GeometryEntry.figures (e : GeometryEntry) : List Int :=
  [e.lEff, e.zMin, e.zMax, e.dDoor, e.sNom, e.lPair, e.pairTolerance, e.landingTolerance, e.armOffset,
   e.retractClear].flatMap optFigure

def TableGeometryEntry.figures (e : TableGeometryEntry) : List Int :=
  [e.xTS, e.xGS, e.xG, e.xGE, e.xMS, e.xD1, e.xD2, e.xTE, e.x1A, e.x1C, e.x1B, e.x2A, e.x2C, e.x2B,
   e.trackingTolerance, e.positioningTolerance, e.lengthTolerance].flatMap optFigure

def CounterSetupEntry.figures (e : CounterSetupEntry) : List Int :=
  [e.scale, e.gatePeriod, e.homePosition, e.homeTolerance].flatMap optFigure

def PoolLoadEntry.figures : PoolLoadEntry → List Int
  | .window _ on off _ _ _ => [on, off]
  | _ => []

def LineEntry.figures : LineEntry → List Int
  | .stopLevel _ => []
  | .speedLead a b c d => [a, b, c, d].flatMap optFigure

def PassageLoadEntry.bytes : PassageLoadEntry → List Nat
  | .empty => []
  | .bound kind a => kind :: Code.bytes a
  | .badKind raw => [raw]

def SettingEntry.figures : SettingEntry → List Int
  | .figure x => [x]
  | .partners _ => []

def SettingEntry.bytes : SettingEntry → List Nat
  | .figure _ => []
  | .partners l => l

def SchedOp.words : SchedOp → List Nat
  | .append seq .. => [seq]
  | .insert seq .. => [seq]
  | .delete seq => [seq]
  | .modify seq .. => [seq]
  | .badCode _ => []

def SchedOp.bytes : SchedOp → List Nat
  | .append _ _ d g _ _ _ => optBytes d ++ g.toList
  | .insert _ _ d g _ _ _ => optBytes d ++ g.toList
  | .delete _ => []
  | .modify _ d g _ _ _ => optBytes d ++ g.toList
  | .badCode raw => [raw]

def SchedOp.figures : SchedOp → List Int
  | .append _ _ _ _ w l t => [w, l, t].flatMap optFigure
  | .insert _ _ _ _ w l t => [w, l, t].flatMap optFigure
  | .delete _ => []
  | .modify _ _ _ w l t => [w, l, t].flatMap optFigure
  | .badCode _ => []

def SchedOp.ids : SchedOp → List Identity
  | .append _ id .. => [id]
  | .insert _ id .. => [id]
  | _ => []

/-- The fields of a command. -/
def Instr.parts : Instr → Parts
  | .frameCheckFailed _ => .empty
  | .forwardedFrame .. => .empty
  | .malformedTelegram t => tel t.hdr [t.kind]
  | .wrongKindTelegram t => tel t.hdr [t.kind]
  | .notFromYard t => tel t.hdr [t.kind]
  | .passingTelegram t => tel t.hdr [t.kind]
  | .gridRequest h crane id => tel h [crane] [] [] [] [id]
  | .gridRelease h crane => tel h [crane]
  | .depositReport h crane id w t m => tel h [crane] [] [w, t] [m] [id]
  | .removalReport h crane id => tel h [crane] [] [] [] [id]
  | .tableReport h n o f => tel h ([n, f] ++ Code.bytes o)
  | .manualTableMove h _ => tel h
  | .manualStroke h _ => tel h
  | .strokeReport h x => tel h [] [] [x]
  | .dischargeReport h n id1 id2 => tel h [n] [] [] [] [id1, id2]
  | .lifted h tag f => tel h [f] [tag]
  | .atDepth h tag f => tel h [f] [tag]
  | .lowered h tag f => tel h [f] [tag]
  | .retracted h tag f => tel h [f] [tag]
  | .chargerReportRefused h tag f => tel h [f] [tag]
  | .chargerReportFault h tag f => tel h [f] [tag]
  | .heartbeat h => tel h
  | .loadFurnaceGeometry h sel first es => tel h (first :: Code.bytes sel) [] (es.flatMap GeometryEntry.figures)
  | .loadGapRules h sel first es => tel h (first :: Code.bytes sel) [] es
  | .loadThicknessClasses h first es => tel h [first] [] es
  | .loadChargerTiming h sel first es => tel h (first :: Code.bytes sel) [] es
  | .loadTableGeometry h first es => tel h [first] [] (es.flatMap TableGeometryEntry.figures)
  | .loadCounterSetup h sel first es => tel h (first :: Code.bytes sel) [] (es.flatMap CounterSetupEntry.figures)
  | .loadSensorSetup h first es => tel h [first] [] (es.flatMap fun e => optFigure e.filterTime)
  | .loadWindowPool h first es => tel h [first] [] (es.flatMap PoolLoadEntry.figures)
  | .loadWindowSets h sel first es => tel h ((first :: Code.bytes sel) ++ es.flatten)
  | .loadLineSettings h sel first es => tel h (first :: Code.bytes sel) [] (es.flatMap LineEntry.figures)
  | .loadPassage h first es => tel h (first :: es.flatMap PassageLoadEntry.bytes)
  | .loadStatusMap h first es => tel h (first :: es)
  | .loadPartSettings h first es => tel h (first :: es.flatMap SettingEntry.bytes) [] (es.flatMap SettingEntry.figures)
  | .readFurnaceGeometry h sel a b => tel h ([a, b] ++ Code.bytes sel)
  | .readGapRules h sel a b => tel h ([a, b] ++ Code.bytes sel)
  | .readThicknessClasses h a b => tel h [a, b]
  | .readChargerTiming h sel a b => tel h ([a, b] ++ Code.bytes sel)
  | .readTableGeometry h a b => tel h [a, b]
  | .readCounterSetup h sel a b => tel h ([a, b] ++ Code.bytes sel)
  | .readSensorSetup h a b => tel h [a, b]
  | .readWindowPool h a b => tel h [a, b]
  | .readWindowSets h sel a b => tel h ([a, b] ++ Code.bytes sel)
  | .readLineSettings h sel a b => tel h ([a, b] ++ Code.bytes sel)
  | .readPassage h a b => tel h [a, b]
  | .readStatusMap h a b => tel h [a, b]
  | .readPartSettings h a b => tel h [a, b]
  | .scheduleEdit h ops => tel h (ops.length :: ops.flatMap SchedOp.bytes) (ops.flatMap SchedOp.words)
      (ops.flatMap SchedOp.figures) [] (ops.flatMap SchedOp.ids)
  | .deleteSlab h tag => tel h [] [tag]
  | .setRowFront h sel row x => tel h (row :: Code.bytes sel) [] [x]
  | .insertSlab h sel x id w l t g m => tel h (g :: Code.bytes sel) [] [x, w, l, t] [m] [id]
  | .armFurnace h sel => tel h (Code.bytes sel)
  | .disarmFurnace h sel => tel h (Code.bytes sel)
  | .stopCharger h sel => tel h (Code.bytes sel)
  | .releaseCharger h sel => tel h (Code.bytes sel)
  | .resolveInflightLanded h sel x => tel h (Code.bytes sel) [] [x]
  | .resolveInflightRemoved h sel => tel h (Code.bytes sel)
  | .acceptSlab h tag w l t g d => tel h (g.toList ++ optBytes d) [tag] ([w, l, t].flatMap optFigure)
  | .rejectSlab h tag => tel h [] [tag]
  | .removeSlab h tag => tel h [] [tag]
  | .enterSlab h id w t m => tel h [] [] [w, t] [m] [id]
  | .clearHolds h _ => tel h
  | .clearError h => tel h
  | .clearLink h sel => tel h (Code.bytes sel)
  | .resume h => tel h
  | .resetTracking h => tel h
  | .resetAll h => tel h
  | .queryMap h q => match q with
    | .rows sel n => tel h (n :: Code.bytes sel)
    | .slab tag => tel h [] [tag]
  | .queryTableList h q => match q with
    | .list => tel h
    | .record tag => tel h [] [tag]
  | .querySchedule h q => match q with
    | .range seq => tel h [] [seq]
    | .identity id => tel h [] [] [] [] [id]
  | .queryInflight h sel => tel h (Code.bytes sel)
  | .queryGrid h => tel h
  | .queryCounters h => tel h
  | .queryHolds h c => tel h (Code.bytes c)
  | .positioningTimeout .. => .empty
  | .strokeTimeout .. => .empty
  | .pickTimeout .. => .empty
  | .carryTimeout .. => .empty
  | .lowerTimeout .. => .empty
  | .retractTimeout .. => .empty
  | .grantTimeout _ => .empty
  | .supervisionTimeout _ => .empty
  | .statusTimerExpiry _ => .empty
  | .gateEnd .. => .empty
  | .secondsClockStep _ => .empty
  | .encoderStep .. => .empty
  | .markerEdge .. => .empty
  | .rawTransition .. => .empty
  | .filterTimeElapsed .. => .empty
  | .portDown _ => .empty
  | .portUp _ => .empty
  | .frameSent _ => .empty
  | .mainSupplyLost => .empty
  | .mainSupplyReturns => .empty
  | .backupSupplyLost => .empty
  | .backupSenseChange _ => .empty
  | .coldStart _ => .empty

/-! ## The checks -/

/-- R170: the header's fields fit their bytes. -/
def headerOk (p : Parts) : Bool :=
  match p.hdr with
  | none => true
  | some h => decide (h.dest ≤ 255) && decide (h.source ≤ 255) && decide (h.reference ≤ 255)
      && decide (h.length ≤ 255)

/-- R171: one-byte fields. -/
def bytesOk (p : Parts) : Bool := p.bytes.all fun x => decide (x ≤ 255)

/-- R171: tags and sequence numbers. -/
def wordsOk (p : Parts) : Bool := p.words.all fun x => decide (x ≤ 65535)

/-- R171: four-byte signed figures. -/
def figuresOk (p : Parts) : Bool :=
  p.figures.all fun x => decide (-2147483648 ≤ x) && decide (x ≤ 2147483647)

/-- R171: masses. -/
def massesOk (p : Parts) : Bool := p.masses.all fun x => decide (0 ≤ x) && decide (x ≤ 4294967295)

/-- R171: identities. -/
def idsOk (p : Parts) : Bool := p.ids.all fun x => x.length == 12

/-- R170: the bytes of a payload are as many as the header declares, or fewer where the frame ends before. -/
def heldPayload (h : Hdr) (p : List Byte) : Bool :=
  if h.truncated then decide (p.length < h.length) else p.length == h.length

/-- R170: the same of a telegram known by its form alone; one that shows a code carries a byte for it. -/
def RawTel.payloadOk (t : RawTel) : Bool :=
  match t.body with
  | .bytes p => heldPayload t.hdr p
  | _ => decide (1 ≤ t.hdr.length)

/-- R170: the payloads that a command holds in bytes. -/
def payloadOk : Instr → Bool
  | .malformedTelegram t => t.payloadOk
  | .wrongKindTelegram t => t.payloadOk
  | .notFromYard t => t.payloadOk
  | .passingTelegram t => t.payloadOk
  | .manualTableMove h p => heldPayload h p
  | .manualStroke h p => heldPayload h p
  | _ => true

/-- R107, R132: a query whose payload length tells its form is not named as the other form (log 49). -/
def queryFormOk : Instr → Bool
  | .queryTableList h .list => h.length != 3
  | .queryTableList h (.record _) => h.length != 1
  | .querySchedule h (.range _) => h.length != 13
  | .querySchedule h (.identity _) => h.length != 3
  | _ => true

/-- R169: a frame forwarded as such is of another type than ATL. -/
def frameTypeOk : Instr → Bool
  | .forwardedFrame _ _ _ type _ => type != 0xA7E1
  | _ => true

/-- R173: the straps. -/
def strapsOk : Instr → Bool
  | .coldStart i => decide (i.straps ≤ 63)
  | _ => true

/-- A command that can reach the part. -/
def Instr.wellFormed (i : Instr) : Bool :=
  headerOk i.parts && bytesOk i.parts && wordsOk i.parts && figuresOk i.parts && massesOk i.parts
    && idsOk i.parts && payloadOk i && queryFormOk i && frameTypeOk i && strapsOk i

end Sys2Proof
end

