-- ==== Sys2Proof/Machine/Encoding.lean ====
section
/-! DEFINITION. The bytes of frames and telegrams (R169 to R171): the encoding of each field type, the
payload of every telegram the part forms and of every telegram it receives, its length, and the frame. The
named figures of the model are exact; a four-byte field carries one modulo 2^32 (R138). A code number that
the manual does not give is a free value (log 6); a layout that it does not give is log 42; what a one-byte
field carries of a number from 256 on is a free value (log 44). -/

namespace Sys2Proof.Machine

/-! ## Codes -/

/-- What a one-byte code field says (R171). The manual names these values and gives them no numbers. -/
inductive CodeName where
  | furnace (k : Furnace)
  | port (p : Port)
  | lane (l : Lane)
  | counter (c : CounterId)
  | sensor (i : SensorId)
  | role (r : Role)
  | flag (b : Bool)
  | portUp (b : Bool)
  | mode (m : Mode)
  | start (x : StartKind)
  | supervision (ok : Bool)
  | seqState (x : SeqState)
  | heldCause (x : HeldCause)
  | waiting (x : Waiting)
  | moving (b : Bool)
  | owner (k : Option Furnace)
  | requestStatus (x : RequestStatus)
  | slabReady
  | slabHeld
  | slabReject
  | slabCause (x : SlabCause)
  | deposited (b : Bool)
  | placementKind (x : PlacementKind)
  | placementResult (x : PlacementResult)
  | operand (x : OperandName)
  | nominal (b : Bool)
  | pair (x : PairOutcome)
  | certainty (x : Certainty)
  | overdue (b : Bool)
  | direction (x : Direction)
  | response (x : RespCode)
  | table (x : TableId)
  | schedOp (x : SchedOpCode)
  | mapOp (x : MapOpCode)
  | dest (x : SchedDest)
  | basis (x : StrokeBasis)
  | policy (x : FaultPolicy)
  | multiplier (x : Multiplier)
  | markerUse (x : MarkerUse)
  | homeDirection (x : HomeDirection)
  | edgeBasis (x : EdgeBasis)
  | speed (x : SpeedCondition)
  | stopLevel (x : StopLevel)
  | action (x : Action)
  | given (b : Bool)
  | windowKind (window : Bool)
  | bindingKind (bound : Bool)
  | markerEdge (rising : Bool)
  | edge (rising : Bool)
  | level (presence : Bool)
  | phaseLevel (b : Bool)
  | homed (b : Bool)
  | backup (present : Bool)
  | lead (on : Bool)
  | fallback (yes : Bool)
  | condition (holds : Bool)
  | requestGranted (b : Bool)
  | resolution (landed : Bool)
  | clearOption (on : Bool)
  | holdName (x : HoldName)
  | lengthOutcome (x : LengthOutcome)
  | depositOutcome (x : DepositOutcome)
  | phase (x : ChargerPhase)
  | moveOutcome (x : MoveOutcome)
  | stray (x : StrayReason)
  | granted
  | queued
  | refused
  | withdrawn
  | released
  | timeoutReason
  | resetReason
  | halt (x : HaltReason)
  | stop (x : StopReason)
  | blockTable
  | blockCharging
  | blockQueue
  | blockRole
  | missing (x : MissingTable)
  | command (x : Nat)
  | query (x : Nat)
  | mapForm (slab : Bool)
  | holdForm (x : Nat)
  | allNames (b : Bool)
  | linkSelection (x : LinkSelection)
  deriving DecidableEq, Repr

end Sys2Proof.Machine

namespace Sys2Proof

/-- The number of a code that the manual names and does not number (R171; log 6). A free value: nothing
constrains it. -/
opaque Config.codeByte : Machine.CodeName → Byte

end Sys2Proof

namespace Sys2Proof.Machine

/-! ## Fields (R171) -/

/-- A payload field by its type. -/
inductive Field where
  /-- a figure with a unit: 4 bytes, two's complement -/
  | figure (x : Int)
  /-- an optional figure: −2,147,483,648 when absent -/
  | figure? (x : Option Int)
  /-- a mass: 4 bytes unsigned, 0 when absent -/
  | mass (x : Option Int)
  /-- a seconds clock value, a residence, a mapped word: 4 bytes -/
  | word (x : Word32)
  /-- a tag, a sequence number: 2 bytes unsigned, 0 when absent -/
  | tag (n : Nat)
  /-- an identity: 12 bytes, padded with spaces at the end -/
  | identity (x : Identity)
  /-- a station, a crane number, a count, a class, a group: 1 byte; an index, a move number, a quantity number
  and a position in grant order too, which R171 does not list: the model's choice (log 42) -/
  | byte (n : Nat)
  /-- an optional one-byte field: 0xFF when absent -/
  | byte? (n : Option Nat)
  /-- a code -/
  | code (c : CodeName)
  /-- an optional code: 0xFF when absent -/
  | code? (c : Option CodeName)
  /-- a set: 2 bytes, the first member in the least significant bit -/
  | members (l : List Bool)
  /-- bytes as they stand -/
  | raw (l : List Byte)
  deriving DecidableEq, Repr

/-- The least significant byte of a number. -/
def byteOf (n : Nat) : Byte := BitVec.ofNat 8 n

/-- R171: a number in a one-byte field; from 256 on a free value (log 44). -/
def oneByte (n : Nat) : Byte := if n < 256 then byteOf n else Config.beyondByte n

/-- R171: two bytes, big-endian. -/
def twoBytes (n : Nat) : List Byte := [byteOf (n / 256), byteOf n]

/-- R171: four bytes, big-endian. -/
def fourBytes (w : Word32) : List Byte :=
  [w.extractLsb' 24 8, w.extractLsb' 16 8, w.extractLsb' 8 8, w.extractLsb' 0 8]

/-- R171: twelve characters, padded with spaces at the end. -/
def identityBytes (x : Identity) : List Byte := (x ++ List.replicate 12 32).take 12

/-- R171: the value of a set's bits, the first member in the least significant. -/
def memberBits : List Bool → Nat
  | [] => 0
  | b :: l => (if b then 1 else 0) + 2 * memberBits l

/-- R171: the absent value of a one-byte field. -/
def absentByte : Byte := 0xFF

/-- R171, R138: the bytes of a field. -/
def Field.bytes : Field → List Byte
  | .figure x => fourBytes (word32 x)
  | .figure? x => fourBytes (word32 (x.getD absentFigure))
  | .mass x => fourBytes (word32 (x.getD 0))
  | .word x => fourBytes x
  | .tag n => twoBytes n
  | .identity x => identityBytes x
  | .byte n => [oneByte n]
  | .byte? n => [(n.map oneByte).getD absentByte]
  | .code c => [Config.codeByte c]
  | .code? c => [(c.map Config.codeByte).getD absentByte]
  | .members l => twoBytes (memberBits l)
  | .raw l => l

/-- The bytes of fields in their order. -/
def fieldBytes (l : List Field) : List Byte := l.flatMap Field.bytes

/-! ## What several payloads share -/

/-- A value that is there or not: a code says which, and the fields follow where it is (log 42). -/
def ifPresent {α : Type} (f : α → List Field) : Option α → List Field
  | none => [.code (.given false)]
  | some a => .code (.given true) :: f a

/-- R103, R107: a slab's state with its cause. -/
def SlabState.fields : SlabState → List Field
  | .ready => [.code .slabReady, .code? none]
  | .held c => [.code .slabHeld, .code (.slabCause c)]
  | .reject => [.code .slabReject, .code? none]

/-- R93, R182: the motion state and its owner, absent while STILL. -/
def Motion.fields : Motion → List Field
  | .still => [.code (.moving false), .code? none]
  | .positioning k _ _ => [.code (.moving true), .code (.owner (some k))]
  | .manual => [.code (.moving true), .code (.owner none)]

/-- R52: the tag that a waiting reason names; 0 for the others. -/
def Waiting.tagOf : Waiting → Nat
  | .full t => t
  | .mapFull t => t
  | _ => 0

/-- R52: a waiting reason less its tag. -/
def Waiting.reason : Waiting → Waiting
  | .full _ => .full 0
  | .mapFull _ => .mapFull 0
  | w => w

/-- R79, R195: a sequencer's state, held cause and waiting reason with its tag. -/
def seqFields (st : SeqState) (cause : Option HeldCause) (w : Waiting) : List Field :=
  [.code (.seqState st), .code? (cause.map .heldCause), .code (.waiting w.reason), .tag w.tagOf]

/-- R93: a set of one member for each furnace, F1's first: the model's choice, since no table lists them
(log 42). -/
def PerFurnace.members (p : PerFurnace Bool) : Field := .members [p.f1, p.f2]

/-- R44, R171: the placement holds in the order of the table that lists them. -/
def PlacementHolds.members (x : PlacementHolds) : Field :=
  .members [x.substituted, x.strokeBasis, x.landingDeviation, x.strokeDuringCharge]

/-- R149, R195: the counter holds of each counter. That they stand as three sets in the order T, C1, C2 without
a name byte, ENCODER_ERROR first in each, is the model's choice (log 42). -/
def CounterHolds.fields (x : CounterHolds) : List Field :=
  [.members [x.tError], .members [x.c1Error, x.c1Deviation], .members [x.c2Error, x.c2Deviation]]

/-- R171, R185: the set of the link flags. No table lists them: that the plant port's stand first, and
LINK_OVERRUN before OWN_DISCARDED, is the model's choice (log 42). -/
def linkFlagMembers (l : List LinkFlag) : Field :=
  .members ([LinkFlag.plantOverrun, .plantDiscarded, .yardOverrun, .yardDiscarded].map fun f =>
    l.contains f)

/-- R191: the table id or the operation code of a latch record; absent where the refusal is of no single
operation. -/
def LatchItem.fields : LatchItem → List Field
  | .load t => [.byte Kind.loadTable, .code (.table t)]
  | .loadUnknown id => [.byte Kind.loadTable, .byte id]
  | .schedule (some (.other raw)) => [.byte Kind.scheduleEdit, .byte raw]
  | .schedule op => [.byte Kind.scheduleEdit, .code? (op.map .schedOp)]
  | .map (some (.other raw)) => [.byte Kind.mapEdit, .byte raw]
  | .map op => [.byte Kind.mapEdit, .code? (op.map .mapOp)]

/-- R191: the latch record. -/
def LatchRecord.fields (r : LatchRecord) : List Field :=
  .code (.response r.code) :: r.item.fields ++ [.byte? r.entry]

/-- R82: the nominal width, length and thickness. -/
def nominalFields (n : Option Nominals) : List Field :=
  [.figure? (n.map (·.width)), .figure? (n.map (·.length)), .figure? (n.map (·.thickness))]

/-- R82: every field of a table record. -/
def TableRecord.fields (r : TableRecord) : List Field :=
  [.tag r.tag, .identity r.id, .figure r.anchor, .figure? r.measured, .figure? r.width,
   .figure? r.thickness, .mass r.mass, .tag (r.link.getD 0)] ++ nominalFields r.nominals
  ++ [.byte? r.group, .code? (r.dest.map .furnace)] ++ r.state.fields
  ++ [.code (.flag r.seenMS), .code (.flag r.seenD1), .code (.flag r.seenD2), .code (.flag r.substituted)]

/-- R35, R43: the operands, each marked measured or nominal. -/
def Operands.fields (o : Operands) : List Field :=
  [.figure o.width.value, .code (.nominal o.width.nominal), .figure o.length.value,
   .code (.nominal o.length.nominal), .figure o.thickness.value, .code (.nominal o.thickness.nominal),
   .byte o.group.value, .code (.nominal o.group.nominal)]

/-- R43: a placement record. The stroke count has the one byte that R171 gives a count (log 44 for counts
that it does not hold). -/
def PlacementRecord.fields (p : PlacementRecord) : List Field :=
  [.code (.placementKind p.kind), .code (.furnace p.furnace), .tag p.tag,
   .code (.placementResult p.result), .code? (p.lane.map .lane)] ++ ifPresent Operands.fields p.operands
  ++ [.code? (p.absent.map .operand), .byte? p.cls, .code? (p.pairTest.map .pair), .figure? p.fMin,
      .figure? p.gap, .figure? p.rawTarget, .figure? p.target, .byte? (p.strokes.map Int.toNat), .figure? p.divisor,
      .code? (p.fallback.map .fallback)]

/-- R49: the cycle record; the time left on the state timer in ms, absent for "stopped". -/
def CycleRecord.fields (c : CycleRecord) : List Field :=
  [.tag c.tag, .identity c.id, .code (.lane c.lane)] ++ c.provisional.fields
  ++ ifPresent PlacementRecord.fields c.final
  ++ [.figure? c.target, .byte c.cls, .byte c.outstanding, .byte c.corrective,
      .figure? (c.timer.map fun t => t.left), .figure? c.measured]

/-- R50: the in-flight record. -/
def InFlight.fields (f : InFlight) : List Field :=
  f.record.fields ++ [.code (.lane f.lane), .figure? f.target, .code (.certainty f.certainty)]

/-! ## Tables as they are read -/

/-- R27, R29: the geometry record in the order of R27. -/
def FurnaceGeometry.fields (g : FurnaceGeometry) : List Field :=
  [.figure g.lEff, .figure g.zMin, .figure g.zMax, .figure g.dDoor, .figure g.sNom,
   .code (.basis g.basis), .figure g.lPair, .figure g.pairTolerance, .figure g.landingTolerance,
   .figure g.armOffset, .figure g.retractClear, .code (.policy g.policy)]

/-- R86: the table geometry in the order of its table. -/
def TableGeometry.fields (g : TableGeometry) : List Field :=
  [g.xTS, g.xGS, g.xG, g.xGE, g.xMS, g.xD1, g.xD2, g.xTE, g.x1A, g.x1C, g.x1B, g.x2A, g.x2C, g.x2B,
   g.trackingTolerance, g.positioningTolerance, g.lengthTolerance].map .figure

/-- R144, R145: a counter's setup, its nine fields in order; RISING and FALLING have codes of their own (log 6). -/
def CounterSetup.fields (x : CounterSetup) : List Field :=
  [.code (.multiplier x.multiplier), .code (.flag x.invert), .figure x.scale, .figure x.gatePeriod,
   .code (.markerUse x.markerUse), .code (.markerEdge x.edgeRising), .code (.homeDirection x.homeDirection),
   .figure x.homePosition, .figure x.homeTolerance]

/-- R146, R148: a sensor input's setup. -/
def SensorSetup.fields (x : SensorSetup) : List Field :=
  [.figure x.filterTime, .code (.flag x.invert)]

/-- R155: a window's fields in their order. -/
def Window.fields (w : Window) : List Field :=
  [.code (.edgeBasis w.basis), .figure w.on, .figure w.off, .code (.speed w.speed),
   .raw (twoBytes w.mask.toNat), .code (.lead w.lead)]

/-- R157, R190: an entry of LINE_SETTINGS or PART_SETTINGS; stations without values are absent (R189). A
figure of PART_SETTINGS has 4 bytes, the look-ahead W among them, which has no unit: the model's choice
(log 42). -/
def ReadEntry.fields : ReadEntry → List Field
  | .stopLevel l => [.code (.stopLevel l)]
  | .speedLead a b c d => [.figure a, .figure b, .figure c, .figure d]
  | .figure v => [.figure v]
  | .partners none => List.replicate 11 (.byte? none)
  | .partners (some p) =>
    [p.scheduling, p.crane1, p.crane2, p.crane3, p.tableDrive, p.charger1, p.charger2, p.beam1, p.beam2,
     p.discharge1, p.discharge2].map .byte

/-- R162: an entry of the window pool by its kind, WINDOW or EMPTY. -/
def poolFields : Option Window → List Field
  | none => [.code (.windowKind false)]
  | some w => .code (.windowKind true) :: w.fields

/-- R178: an entry of the passage table, a kind code with its action or EMPTY. -/
def passageFields : Option (Nat × Action) → List Field
  | none => [.code (.bindingKind false)]
  | some x => [.code (.bindingKind true), .byte x.1, .code (.action x.2)]

/-! ## Query answers -/

/-- R1, R24: the lane occupancy, the set of the occupied lanes in R1's order C, A, B (log 42). -/
def RowSummary.occupancy (r : RowSummary) : Field :=
  let holds := fun l => r.lanes.any fun x => x.1 == l
  .members [holds .c, holds .a, holds .b]

/-- R24: a row summary: the front edge, the extent, the lane occupancy, the pair-open and overrun flags and
the tag in each occupied lane. -/
def RowSummary.fields (r : RowSummary) : List Field :=
  [.figure r.front, .figure r.extent, r.occupancy, .code (.flag r.pairOpen), .code (.flag r.overrun)]
  ++ r.lanes.map fun x => .tag x.2

/-- R2: a furnace slab record. -/
def FurnaceSlab.fields (x : FurnaceSlab) : List Field :=
  [.tag x.tag, .identity x.id, .figure x.width, .figure x.length, .figure x.thickness, .mass x.mass,
   .byte x.group, .word x.chargedAt, .figure? x.deviation, .code (.flag x.substituted)]

/-- R107: a record of the list form. -/
def RecordSummary.fields (r : RecordSummary) : List Field :=
  [.byte r.index, .tag r.tag, .figure r.head, .figure r.centre] ++ r.state.fields
  ++ [.code? (r.dest.map .furnace)]

/-- R93, R107: a positioning request. -/
def PosRequest.fields (q : PosRequest) : List Field :=
  [.tag q.tag, .figure q.target, .code (.requestStatus q.status)]

/-- R110: a schedule entry. -/
def ScheduleEntry.fields (e : ScheduleEntry) : List Field :=
  [.tag e.seq, .identity e.id, .code (.dest e.dest), .byte e.group, .figure e.width, .figure e.length,
   .figure e.thickness]
  ++ (match e.state with
      | .planned => [.code (.deposited false), .tag 0]
      | .deposited t => [.code (.deposited true), .tag t])

/-- R133: the grant record; the time left on the grant timer in ms, absent for "stopped". -/
def Grant.fields (g : Grant) : List Field :=
  [.byte (Crane.number g.crane), .identity g.id]
  ++ (match g.phase with
      | .active left => [.code (.overdue false), .figure left]
      | .overdue => [.code (.overdue true), .figure? none])

/-- R133: a queued request with the sequence number of its PLANNED entry, 0 for "unscheduled". -/
def queuedFields (x : GridRequest × Option Nat) : List Field :=
  [.byte (Crane.number x.1.crane), .identity x.1.id, .figure x.1.rank, .tag (x.2.getD 0)]

/-- R133: the conditions. -/
def GrantConditions.fields (c : GrantConditions) : List Field :=
  [.code (.condition c.supervision), .code (.condition c.mode), .code (.condition c.gridClear),
   .code (.condition c.roomInList), .code (.condition c.permission)]

/-- R150: a counter; of counter T neither the homing state, the last home deviation nor the depth. -/
def CounterReport.fields (c : CounterId) (r : CounterReport) : List Field :=
  r.setup.fields
  ++ [.figure r.counter.acc, .figure r.position, .code? (r.counter.lastDir.map .direction),
      .figure r.counter.raw.toNat, .figure r.counter.speed]
  ++ (if c = .t then [.members [r.counter.encoderError]]
      else [.members [r.counter.encoderError, r.counter.homeDeviation], .code (.homed r.counter.homed),
            .figure? r.counter.lastHomeDev, .figure? r.depth])

/-- R150: a sensor input; the pending change is its level and the time it has held, or absent. -/
def SensorReport.fields (r : SensorReport) : List Field :=
  r.setup.fields ++ [.code (.level r.raw), .code (.level r.sensor.taken)]
  ++ ifPresent (fun p : PendingChange => [.code (.level p.level), .figure p.held]) r.sensor.pending
  ++ [.figure r.sensor.latest, .figure r.sensor.previous, .figure r.latestMm, .figure r.previousMm]

/-- R47: a furnace's part of QUERY HOLDS. -/
def HoldsReport.fields (r : HoldsReport) : List Field :=
  [r.holds.members, .figure? r.lastStroke]
  ++ ifPresent (fun x => [.code (.basis x.1), .code (.policy x.2)]) r.basisPolicy

/-- R46: a hold that a CLEAR_HOLDS found set. -/
def ClearedHold.fields : ClearedHold → List Field
  | .placement k h => [.code (.furnace k), .code (.holdName h)]
  | .counter c h => [.code (.counter c), .code (.holdName h)]

/-- The fields of a RESPONSE that follow its code, in the order of the owning rule. A one-byte count of its
members stands before the queue of QUERY GRID and before each line list of WINDOW_SETS, since R133 and R166 name
none, and an index (of a row, an entry, a pool window) has one byte, since R171 lists none: the model's choices
(log 42). -/
def RespData.fields : RespData → List Field
  | .none => []
  | .heartbeat m st ok => [.code (.mode m), .code (.start st), .code (.supervision ok)]
  | .poolIndices l => l.map .byte
  | .settingsTaken l => l.flatMap ReadEntry.fields
  | .geometry g => g.fields
  | .figures l => l.map .figure
  | .durations l => l.map fun x => .figure x
  | .quantities l => l.map .byte
  | .tableGeometry g => g.fields
  | .counterSetup x => x.fields
  | .sensorSetups l => l.flatMap SensorSetup.fields
  | .poolEntries l => l.flatMap fun x => poolFields x.1 ++ [.byte x.2]
  | .lineLists l => l.flatMap fun x => .byte x.length :: x.map .byte
  | .entries l => l.flatMap ReadEntry.fields
  | .passage l => l.flatMap passageFields
  | .scheduleCounts n p => [.byte n, .byte p]
  | .deleted t id k r l => [.tag t, .identity id, .code (.furnace k), .byte r, .code (.lane l)]
  | .rowFront k r x => [.code (.furnace k), .byte r, .figure x]
  | .inserted t k r => [.tag t, .code (.furnace k), .byte r]
  | .missing t => [.code (.missing t)]
  | .sequencerState st => [.code (.seqState st)]
  | .resolved t landed st => [.tag t, .code (.resolution landed), .code (.seqState st)]
  | .accepted t x r => [.tag t, .figure x] ++ r.fields
  | .tagIdentity t id => [.tag t, .identity id]
  | .entered t st => .tag t :: st.fields
  | .clearedHolds l => l.flatMap ClearedHold.fields
  | .clearedLatch r => ifPresent LatchRecord.fields r
  | .clearedFlags l => [linkFlagMembers l]
  | .resumed n o => [.byte n, .code (.flag o)]
  | .mapRows k n i l => [.code (.furnace k), .byte n, .byte i] ++ l.flatMap RowSummary.fields
  | .mapSlab x k r l f => x.fields ++ [.code (.furnace k), .byte r, .code (.lane l), .figure f]
  | .tableList travel n l m hs gh rs ms gp u =>
    [.figure travel, .byte n] ++ l.flatMap RecordSummary.fields ++ m.fields
    ++ [hs.members, .byte? (gh.map Crane.number)] ++ ifPresent PosRequest.fields rs.f1
    ++ ifPresent PosRequest.fields rs.f2 ++ [.tag (ms.getD 0), .code (.level gp), .code (.flag u)]
  | .tableRecord r a b c d => r.fields ++ [.figure a, .figure b, .figure c, .figure d]
  | .scheduleRange n p l => [.byte n, .byte p] ++ l.flatMap ScheduleEntry.fields
  | .scheduleEntry e i p => e.fields ++ [.byte i, .byte p]
  | .inflight q hold req =>
    seqFields q.state q.cause q.waiting ++ ifPresent CycleRecord.fields q.cycle
    ++ ifPresent InFlight.fields q.inflight ++ [.code (.flag hold), .code? (req.map .requestGranted)]
  | .grid g l c gp u =>
    ifPresent Grant.fields g ++ [.byte l.length] ++ l.flatMap queuedFields ++ c.fields
    ++ [.code (.level gp), .code (.flag u)]
  | .counters c x =>
    c.t.fields .t ++ c.c1.fields .c1 ++ c.c2.fields .c2 ++ x.ms.fields ++ x.gp.fields ++ x.d1.fields
    ++ x.d2.fields ++ x.te.fields
  | .holds f c => f.f1.fields ++ f.f2.fields ++ c.fields

/-! ## Events (R197) -/

/-- R9, R15, R35, R41, R137, R141: the fields of a HOLD_SET. Of the placement holds STROKE_BASIS alone
carries a divisor (R41); a hold with no slab carries the tag 0 (log 22). -/
def HoldSet.fields : HoldSet → List Field
  | .placement h k t d =>
    [.code (.holdName h), .code (.furnace k), .tag (t.getD 0)]
    ++ (if h = .strokeBasis then [.figure? d] else [])
  | .encoderError c a b =>
    [.code (.holdName .encoderError), .code (.counter c), .code (.phaseLevel a.1),
     .code (.phaseLevel a.2), .code (.phaseLevel b.1), .code (.phaseLevel b.2)]
  | .homeDeviation c p x d =>
    [.code (.holdName .homeDeviation), .code (.counter c), .figure p, .figure x, .figure d]

/-- R104, R85: what stands in the place of the cause of a SLAB_HELD: the cause, or the state REJECT where
REJECT_SLAB raises the event "with the state REJECT". That REJECT takes the cause's place is the model's choice
(log 47). -/
def heldAs : Option SlabCause → CodeName
  | some c => .slabCause c
  | none => .slabReject

/-- R197: the fields the raising rule gives, in its order; a row index has one byte (log 42). -/
def Event.fields : Event → List Field
  | .landed t id k r l f d m =>
    [.tag t, .identity id, .code (.furnace k), .byte r, .code (.lane l), .figure f, .figure? d, .mass m]
  | .discharged t id k r l f m sub res =>
    [.tag t, .identity id, .code (.furnace k), .byte r, .code (.lane l), .figure f, .mass m,
     .code (.flag sub), .word res]
  | .dischargeMisorder k id t r => [.code (.furnace k), .identity id, .tag t, .byte r]
  | .dischargeInvalid k n a b => [.code (.furnace k), .byte n, .identity a, .identity b]
  | .dischargeUnknown k id => [.code (.furnace k), .identity id]
  | .overrun k r f l =>
    [.code (.furnace k), .byte r, .figure f] ++ l.flatMap fun x => [.tag x.1, .identity x.2]
  | .strokeClamped k a b => [.code (.furnace k), .figure a, .figure b]
  | .slabHeld t id c left x =>
    [.tag t, .identity id, .code (heldAs c)]
    ++ (match left with | none => [.code? none, .code? none] | some st => st.fields) ++ [.figure x]
  | .slabReady t id d => [.tag t, .identity id, .code? (d.map .furnace)]
  | .lengthMeasured t id l n o =>
    [.tag t, .identity id, .figure l, .figure? n, .code (.lengthOutcome o)]
  | .unexpectedEdge i up x => [.code (.sensor i), .code (.edge up), .figure x]
  | .missedEdge t i x => [.tag t, .code (.sensor i), .figure x]
  | .trackingConflict t i x => [.tag t, .code (.sensor i), .figure x]
  | .unidentifiedOnGrid x => [.figure x]
  | .unidentifiedAfterGrant c id x => [.byte (Crane.number c), .identity id, .figure x]
  | .depositRefused c id o => [.byte c, .identity id, .code (.depositOutcome o)]
  | .tableEnd x m => .figure x :: m.fields
  | .chargerHeld k c left t cert f =>
    [.code (.furnace k), .code (.heldCause c), .code (.seqState left), .tag (t.getD 0),
     .code? (cert.map .certainty), .byte? f]
  | .unexpectedCharger k st ph t =>
    [.code (.furnace k), .code (.seqState st), .code (.phase ph), .tag t]
  | .unexpectedTable m o n =>
    [.code (.role .tableDrive), .code (.moving m.moving), .code (.moveOutcome o), .byte n]
  | .holdSet h => h.fields
  | .supervisionLost p => [.figure p]
  | .supervisionOk => []
  | .strayTelegram p a b k r => [.code (.port p), .byte a, .byte b, .byte k, .code (.stray r)]
  | .modeChanged a b st => [.code (.mode a), .code (.mode b), .code (.start st)]

/-! ## The telegrams the part forms -/

/-- R122: the answer and, where it has one, its reason or its queue position. -/
def GridAnswer.fields : GridAnswer → List Field
  | .granted => [.code .granted, .code? none, .byte? none]
  | .queued n => [.code .queued, .code? none, .byte n]
  | .refused r => [.code .refused, .code (.response r), .byte? none]
  | .withdrawnTimeout => [.code .withdrawn, .code .timeoutReason, .byte? none]
  | .withdrawnDuplicate => [.code .withdrawn, .code (.response .duplicate), .byte? none]
  | .withdrawnReset => [.code .withdrawn, .code .resetReason, .byte? none]
  | .released => [.code .released, .code? none, .byte? none]

/-- R182: the reason, then motion state, owner, charger hold and grid hold, then furnace and state; the
fields that the reason does not carry are 0. -/
def BlockReason.fields : BlockReason → List Field
  | .tableBusy m c g =>
    .code .blockTable :: m.fields ++ [.code (.flag c), .code (.flag g), .byte 0, .byte 0]
  | .charging k st =>
    [.code .blockCharging, .byte 0, .byte 0, .byte 0, .byte 0, .code (.furnace k), .code (.seqState st)]
  | .queueFull => [.code .blockQueue, .byte 0, .byte 0, .byte 0, .byte 0, .byte 0, .byte 0]
  | .notGuardedRole => [.code .blockRole, .byte 0, .byte 0, .byte 0, .byte 0, .byte 0, .byte 0]

/-- R195: the fixed header of STATUS. -/
def StatusHeader.fields (x : StatusHeader) : List Field :=
  [.code (.mode x.mode), .code (.start x.start), .code (.backup x.backup), .byte x.heldCount,
   .code (.flag x.overflow), .code (.supervision x.supervisionOk)]
  ++ ifPresent LatchRecord.fields x.latch
  ++ seqFields x.seqs.f1.state x.seqs.f1.cause x.seqs.f1.waiting
  ++ seqFields x.seqs.f2.state x.seqs.f2.cause x.seqs.f2.waiting
  ++ x.motion.fields
  ++ [x.chargerHolds.members, .byte? (x.gridHold.map Crane.number), .byte? (x.holder.map Crane.number),
      x.placementHolds.f1.members, x.placementHolds.f2.members]
  ++ x.counterHolds.fields
  ++ [.code (.portUp x.plantUp), .code (.portUp x.yardUp), linkFlagMembers x.flags,
      .members (x.lines.f1 ++ x.lines.f2)]

/-- The payload fields of a telegram the part forms, in the order of the rule that owns its kind. -/
def OwnBody.fields : OwnBody → List Field
  | .gridAnswer c id a => [.byte (Crane.number c), .identity (id.getD [])] ++ a.fields
  | .depositAck c id o t st d =>
    [.byte (Crane.number c), .identity id, .code (.depositOutcome o), .tag t]
    ++ (match st with | none => [.code? none, .code? none] | some x => x.fields)
    ++ [.code? (d.map .furnace)]
  | .tableMove n d => [.byte n, .figure d]
  | .tableHalt n r => [.byte n, .code (.halt r)]
  | .chargeOrder t id l x d c =>
    [.tag t, .identity id, .code (.lane l), .figure x, .figure d, .byte c]
  | .chargerStop t r => [.tag t, .code (.stop r)]
  | .strokeRequest t n l => [.tag t, .byte n, .figure l]
  | .response kind c i d =>
    [.byte kind, .code (.response c)] ++ (i.toList.map .byte) ++ d.fields
  | .status x ws => x.fields ++ ws.map .word
  | .event e => [.byte e.event.code, .word e.clock] ++ e.event.fields
  | .blocked kind d r => [.byte kind, .byte d] ++ r.fields

/-- R171: the payload of a telegram the part forms. -/
def OwnBody.payload (b : OwnBody) : List Byte := fieldBytes b.fields

/-- R170: the payload length of a telegram the part forms. -/
def OwnTelegram.length (t : OwnTelegram) : Nat := t.body.payload.length

/-- R170: a telegram's header: destination, source, kind, reference, payload length. The length byte of a
payload longer than 255 bytes is a free value (log 44). -/
def headerBytes (dest source kind reference length : Nat) : List Byte :=
  [byteOf dest, byteOf source, byteOf kind, byteOf reference, oneByte length]

/-- R169: an Ethernet address. -/
def addressBytes (a : BitVec 48) : List Byte :=
  [a.extractLsb' 40 8, a.extractLsb' 32 8, a.extractLsb' 24 8, a.extractLsb' 16 8, a.extractLsb' 8 8,
   a.extractLsb' 0 8]

/-- R169: a frame less its padding and frame check: addresses, type, what follows. -/
def frameBytes (dst src : BitVec 48) (type : BitVec 16) (rest : List Byte) : List Byte :=
  addressBytes dst ++ addressBytes src ++ [type.extractLsb' 8 8, type.extractLsb' 0 8] ++ rest

/-- R170: a telegram the part forms. -/
def OwnTelegram.bytes (t : OwnTelegram) : List Byte :=
  headerBytes t.dest t.source t.body.kind t.reference t.length ++ t.body.payload

/-! ## The telegrams received -/

/-- A code that names one of its values, or the number as received. -/
def codeField {α : Type} (f : α → CodeName) : Code α → Field
  | .val a => .code (f a)
  | .bad raw => .byte raw

/-- A code that may be left out. -/
def codeField? {α : Type} (f : α → CodeName) : Option (Code α) → Field
  | none => .code? none
  | some c => codeField f c

/-- R28: an entry of FURNACE_GEOMETRY. -/
def GeometryEntry.fields (e : GeometryEntry) : List Field :=
  [.figure? e.lEff, .figure? e.zMin, .figure? e.zMax, .figure? e.dDoor, .figure? e.sNom,
   codeField? .basis e.basis, .figure? e.lPair, .figure? e.pairTolerance, .figure? e.landingTolerance,
   .figure? e.armOffset, .figure? e.retractClear, codeField? .policy e.policy]

/-- R86: an entry of TABLE_GEOMETRY. -/
def TableGeometryEntry.fields (e : TableGeometryEntry) : List Field :=
  [e.xTS, e.xGS, e.xG, e.xGE, e.xMS, e.xD1, e.xD2, e.xTE, e.x1A, e.x1C, e.x1B, e.x2A, e.x2C, e.x2B,
   e.trackingTolerance, e.positioningTolerance, e.lengthTolerance].map .figure?

/-- R144: an entry of COUNTER_SETUP. -/
def CounterSetupEntry.fields (e : CounterSetupEntry) : List Field :=
  [codeField? .multiplier e.multiplier, codeField? .flag e.invert, .figure? e.scale,
   .figure? e.gatePeriod, codeField? .markerUse e.markerUse, codeField? .markerEdge e.edgeRising,
   codeField? .homeDirection e.homeDirection, .figure? e.homePosition, .figure? e.homeTolerance]

/-- R148: an entry of SENSOR_SETUP. -/
def SensorSetupEntry.fields (e : SensorSetupEntry) : List Field :=
  [.figure? e.filterTime, codeField? .flag e.invert]

/-- R162: an entry of WINDOW_POOL. -/
def PoolLoadEntry.fields : PoolLoadEntry → List Field
  | .empty => [.code (.windowKind false)]
  | .badKind raw => [.byte raw]
  | .window basis on off speed mask lead =>
    [.code (.windowKind true), codeField .edgeBasis basis, .figure on, .figure off,
     codeField .speed speed, .raw (twoBytes mask.toNat), codeField .lead lead]

/-- R165: an entry of LINE_SETTINGS. -/
def LineEntry.fields : LineEntry → List Field
  | .stopLevel c => [codeField .stopLevel c]
  | .speedLead a b c d => [.figure? a, .figure? b, .figure? c, .figure? d]

/-- R178: an entry of PASSAGE. -/
def PassageLoadEntry.fields : PassageLoadEntry → List Field
  | .empty => [.code (.bindingKind false)]
  | .badKind raw => [.byte raw]
  | .bound kind a => [.code (.bindingKind true), .byte kind, codeField .action a]

/-- R190: an entry of PART_SETTINGS. A figure has 4 bytes, the look-ahead W among them (log 42). -/
def SettingEntry.fields : SettingEntry → List Field
  | .figure x => [.figure x]
  | .partners l => l.map .byte

/-- R115: an operation of SCHEDULE_EDIT. -/
def SchedOp.fields : SchedOp → List Field
  | .append q id d g w l t =>
    [.code (.schedOp .append), .tag q, .identity id, codeField? .dest d, .byte? g, .figure? w, .figure? l,
     .figure? t]
  | .insert q id d g w l t =>
    [.code (.schedOp .insert), .tag q, .identity id, codeField? .dest d, .byte? g, .figure? w, .figure? l,
     .figure? t]
  | .delete q => [.code (.schedOp .delete), .tag q]
  | .modify q d g w l t =>
    [.code (.schedOp .modify), .tag q, codeField? .dest d, .byte? g, .figure? w, .figure? l, .figure? t]
  | .badCode raw => [.byte raw]

/-- R46, R171: the hold names of a CLEAR_HOLDS: ALL, or a set over `form`. The spec gives them no layout. That a
byte says whether they are ALL, that an empty set follows ALL, and that the names of the other form have the bits
behind those of this form, so that a name outside the form can stand in the payload, is the model's choice
(log 42). -/
def HoldNames.fields (form : List HoldName) : HoldNames → List Field
  | .all => [.code (.allNames true), .members []]
  | .set l => [.code (.allNames false), .members (form.map fun n => l.contains n)]

/-- R46: the selection of a CLEAR_HOLDS. -/
def HoldSelection.fields : HoldSelection → List Field
  | .all => [.code (.holdForm 0)]
  | .furnace sel n =>
    [.code (.holdForm 1), codeField .furnace sel] ++ HoldNames.fields (placementHoldNames ++ counterHoldNames) n
  | .counter sel n =>
    [.code (.holdForm 2), codeField .counter sel] ++ HoldNames.fields (counterHoldNames ++ placementHoldNames) n
  | .badForm raw => [.byte raw]

/-- R188: a LOAD_TABLE: table id, selector, first index, entry count, entries. -/
def loadFields (t : TableId) (sel : Field) (first count : Nat) (entries : List Field) :
    Option (Nat × List Field) :=
  some (Kind.loadTable, [.code (.table t), sel, .byte first, .byte count] ++ entries)

/-- R189: a READ_TABLE: table id, selector, first index, count. -/
def readFields (t : TableId) (sel : Field) (first count : Nat) : Option (Nat × List Field) :=
  some (Kind.readTable, [.code (.table t), sel, .byte first, .byte count])

/-- R192: a COMMAND: its code, its fields. The number stands for the command's place in R192's table. -/
def commandFields (n : Nat) (l : List Field) : Option (Nat × List Field) :=
  some (Kind.command, .code (.command n) :: l)

/-- R193: a QUERY: its code, its fields. The number stands for the query's place in R193's table. -/
def queryFields (n : Nat) (l : List Field) : Option (Nat × List Field) :=
  some (Kind.query, .code (.query n) :: l)

/-- R20: a MAP_EDIT: its operation, its fields. -/
def mapEditFields (op : MapOpCode) (l : List Field) : Option (Nat × List Field) :=
  some (Kind.mapEdit, .code (.mapOp op) :: l)

/-- R68: a CHARGER_REPORT: tag, phase, fault code. -/
def chargerFields (ph : ChargerPhase) (tag fault : Nat) : Option (Nat × List Field) :=
  some (Kind.chargerReport, [.tag tag, .code (.phase ph), .byte fault])

/-- The selector of a table that has none (log 42). -/
def unusedSelector : Field := .byte? none

/-- The kind code and the payload fields of a received telegram whose fields the command names. The bytes of
the others stand in the command where it holds them (`Instr.telegram`). A one-byte count of its pool indices
stands before each line list of WINDOW_SETS, since R164 names none, and an index has one byte, since R171 lists
none: the model's choices (log 42). The forms of QUERY TABLE_LIST and QUERY SCHEDULE have the fields that R107
and R132 give them, and their lengths tell them apart; the forms of QUERY MAP have the same length, and a code
before their fields tells them apart: the model's choice (log 49). -/
def Instr.fields : Instr → Option (Nat × List Field)
  | .gridRequest _ c id => some (Kind.gridRequest, [.byte c, .identity id])
  | .gridRelease _ c => some (Kind.gridRelease, [.byte c])
  | .depositReport _ c id w t m =>
    some (Kind.depositReport, [.byte c, .identity id, .figure w, .figure t, .mass (some m)])
  | .removalReport _ c id => some (Kind.removalReport, [.byte c, .identity id])
  | .tableReport _ n o f =>
    some (Kind.tableReport, [.byte n, codeField .moveOutcome o, .byte f])
  | .strokeReport _ x => some (Kind.strokeReport, [.figure x])
  | .dischargeReport _ n a b => some (Kind.dischargeReport, [.byte n, .identity a, .identity b])
  | .lifted _ t f => chargerFields .lifted t f
  | .atDepth _ t f => chargerFields .atDepth t f
  | .lowered _ t f => chargerFields .lowered t f
  | .retracted _ t f => chargerFields .retracted t f
  | .chargerReportRefused _ t f => chargerFields .refused t f
  | .chargerReportFault _ t f => chargerFields .fault t f
  | .heartbeat _ => some (Kind.heartbeat, [])
  | .loadFurnaceGeometry _ k i es =>
    loadFields .furnaceGeometry (codeField .furnace k) i es.length (es.flatMap GeometryEntry.fields)
  | .loadGapRules _ k i es => loadFields .gapRules (codeField .furnace k) i es.length (es.map .figure)
  | .loadThicknessClasses _ i es =>
    loadFields .thicknessClasses unusedSelector i es.length (es.map .figure)
  | .loadChargerTiming _ k i es =>
    loadFields .chargerTiming (codeField .furnace k) i es.length (es.map .figure)
  | .loadTableGeometry _ i es =>
    loadFields .tableGeometry unusedSelector i es.length (es.flatMap TableGeometryEntry.fields)
  | .loadCounterSetup _ c i es =>
    loadFields .counterSetup (codeField .counter c) i es.length (es.flatMap CounterSetupEntry.fields)
  | .loadSensorSetup _ i es =>
    loadFields .sensorSetup unusedSelector i es.length (es.flatMap SensorSetupEntry.fields)
  | .loadWindowPool _ i es =>
    loadFields .windowPool unusedSelector i es.length (es.flatMap PoolLoadEntry.fields)
  | .loadWindowSets _ k i es =>
    loadFields .windowSets (codeField .furnace k) i es.length
      (es.flatMap fun l => .byte l.length :: l.map .byte)
  | .loadLineSettings _ k i es =>
    loadFields .lineSettings (codeField .furnace k) i es.length (es.flatMap LineEntry.fields)
  | .loadPassage _ i es =>
    loadFields .passage unusedSelector i es.length (es.flatMap PassageLoadEntry.fields)
  | .loadStatusMap _ i es => loadFields .statusMap unusedSelector i es.length (es.map .byte)
  | .loadPartSettings _ i es =>
    loadFields .partSettings unusedSelector i es.length (es.flatMap SettingEntry.fields)
  | .readFurnaceGeometry _ k i n => readFields .furnaceGeometry (codeField .furnace k) i n
  | .readGapRules _ k i n => readFields .gapRules (codeField .furnace k) i n
  | .readThicknessClasses _ i n => readFields .thicknessClasses unusedSelector i n
  | .readChargerTiming _ k i n => readFields .chargerTiming (codeField .furnace k) i n
  | .readTableGeometry _ i n => readFields .tableGeometry unusedSelector i n
  | .readCounterSetup _ c i n => readFields .counterSetup (codeField .counter c) i n
  | .readSensorSetup _ i n => readFields .sensorSetup unusedSelector i n
  | .readWindowPool _ i n => readFields .windowPool unusedSelector i n
  | .readWindowSets _ k i n => readFields .windowSets (codeField .furnace k) i n
  | .readLineSettings _ k i n => readFields .lineSettings (codeField .furnace k) i n
  | .readPassage _ i n => readFields .passage unusedSelector i n
  | .readStatusMap _ i n => readFields .statusMap unusedSelector i n
  | .readPartSettings _ i n => readFields .partSettings unusedSelector i n
  | .scheduleEdit _ ops =>
    some (Kind.scheduleEdit, .byte ops.length :: ops.flatMap SchedOp.fields)
  | .deleteSlab _ t => mapEditFields .deleteSlab [.tag t]
  | .setRowFront _ k r x => mapEditFields .setRowFront [codeField .furnace k, .byte r, .figure x]
  | .insertSlab _ k x id w l t g m =>
    mapEditFields .insertSlab [codeField .furnace k, .figure x, .identity id, .figure w, .figure l,
      .figure t, .byte g, .mass (some m)]
  | .armFurnace _ k => commandFields 0 [codeField .furnace k]
  | .disarmFurnace _ k => commandFields 1 [codeField .furnace k]
  | .stopCharger _ k => commandFields 2 [codeField .furnace k]
  | .releaseCharger _ k => commandFields 3 [codeField .furnace k]
  | .resolveInflightLanded _ k x =>
    commandFields 4 [codeField .furnace k, .code (.resolution true), .figure x]
  | .resolveInflightRemoved _ k =>
    commandFields 4 [codeField .furnace k, .code (.resolution false), .figure? none]
  | .acceptSlab _ t w l th g d =>
    commandFields 5 [.tag t, .figure? w, .figure? l, .figure? th, .byte? g, codeField? .furnace d]
  | .rejectSlab _ t => commandFields 6 [.tag t]
  | .removeSlab _ t => commandFields 7 [.tag t]
  | .enterSlab _ id w t m => commandFields 8 [.identity id, .figure w, .figure t, .mass (some m)]
  | .clearHolds _ sel => commandFields 9 (HoldSelection.fields sel)
  | .clearError _ => commandFields 10 []
  | .clearLink _ sel => commandFields 11 [codeField .linkSelection sel]
  | .resume _ => commandFields 12 []
  | .resetTracking _ => commandFields 13 []
  | .resetAll _ => commandFields 14 []
  | .queryMap _ (.rows k i) => queryFields 0 [.code (.mapForm false), codeField .furnace k, .byte i]
  | .queryMap _ (.slab t) => queryFields 0 [.code (.mapForm true), .tag t]
  | .queryTableList _ .list => queryFields 1 []
  | .queryTableList _ (.record t) => queryFields 1 [.tag t]
  | .querySchedule _ (.range q) => queryFields 2 [.tag q]
  | .querySchedule _ (.identity id) => queryFields 2 [.identity id]
  | .queryInflight _ k => queryFields 3 [codeField .furnace k]
  | .queryGrid _ => queryFields 4 []
  | .queryCounters _ => queryFields 5 []
  | .queryHolds _ c => queryFields 6 [codeField .clearOption c]
  | _ => none

/-- The bytes of a payload that is known by its form alone, where the command holds them. -/
def RawBody.payload : RawBody → Option (List Byte)
  | .bytes p => some p
  | _ => none

/-- R170: the header, the kind code and the payload of the telegram a command brings, where the command
gives its bytes. -/
def Instr.telegram (i : Instr) : Option (Hdr × Nat × List Byte) :=
  match i with
  | .malformedTelegram t => (RawBody.payload t.body).map (t.hdr, t.kind, ·)
  | .wrongKindTelegram t => (RawBody.payload t.body).map (t.hdr, t.kind, ·)
  | .notFromYard t => (RawBody.payload t.body).map (t.hdr, t.kind, ·)
  | .passingTelegram t => (RawBody.payload t.body).map (t.hdr, t.kind, ·)
  | .manualTableMove h p => some (h, Kind.manualTableMove, p)
  | .manualStroke h p => some (h, Kind.manualStroke, p)
  | i =>
    match i.parts.hdr, Instr.fields i with
    | some h, some (kind, l) => some (h, kind, fieldBytes l)
    | _, _ => none

/-! ## The form of a management telegram (R187) -/

/-- R187: the payload length that the kind and its count fields give: that of the fields in their encodings. -/
def Instr.fieldsLength (i : Instr) : Option Nat := (Instr.fields i).map fun x => (fieldBytes x.2).length

/-- R165: an entry of LINE_SETTINGS has the fields of its index: a stop level at 0 to 7, the speed and lead
record at 8. Beyond the table no fields are given. -/
def LineEntry.standsAt (i : Nat) : LineEntry → Bool
  | .stopLevel _ => i != 8
  | .speedLead .. => decide (8 ≤ i)

/-- R190, R174: an entry of PART_SETTINGS has the fields of its index: a figure at 0 to 3, the eleven stations
at 4. Beyond the table no fields are given. -/
def SettingEntry.standsAt (i : Nat) : SettingEntry → Bool
  | .figure _ => i != 4
  | .partners l => decide (4 ≤ i) && l.length == 11

/-- Every entry has the fields of its index; `i` is the index of the first. -/
def allStand {α : Type} (standsAt : Nat → α → Bool) : Nat → List α → Bool
  | _, [] => true
  | i, e :: es => standsAt i e && allStand standsAt (i + 1) es

/-- R187: the entries of the two tables whose fields differ by index have the fields of theirs. -/
def Instr.entriesStand : Instr → Bool
  | .loadLineSettings _ _ first es => allStand LineEntry.standsAt first es
  | .loadPartSettings _ first es => allStand SettingEntry.standsAt first es
  | _ => true

/-- The kind code of an entry names neither EMPTY nor WINDOW (R162). -/
def PoolLoadEntry.kindBad : PoolLoadEntry → Bool
  | .badKind _ => true
  | _ => false

/-- The code of an entry names no kind of entry (R178). -/
def PassageLoadEntry.kindBad : PassageLoadEntry → Bool
  | .badKind _ => true
  | _ => false

/-- The code of an operation names none of the four (R115). -/
def SchedOp.codeBad : SchedOp → Bool
  | .badCode _ => true
  | _ => false

/-- A field list is open where no rule says which fields an entry or operation has: behind a code that names
none, which R162, R178 and R115 refuse with the entry's index, and beyond the last index of a table, which R165
and R190 refuse. The form then asks for no more than the fields there are: the model's choice (log 48). -/
def Instr.fieldsOpen : Instr → Bool
  | .loadWindowPool _ _ es => es.any PoolLoadEntry.kindBad
  | .loadPassage _ _ es => es.any PassageLoadEntry.kindBad
  | .loadLineSettings _ _ first es => decide (9 < first + es.length)
  | .loadPartSettings _ first es => decide (5 < first + es.length)
  | .scheduleEdit _ ops => ops.any SchedOp.codeBad
  | _ => false

/-- R187: the payload of a management telegram fits its kind: its length is the one that the kind and its count
fields allow. The codes that name none of their values are judged by the owning rules (log 7). -/
def formFits (i : Instr) : Bool :=
  match i.parts.hdr, Instr.fieldsLength i with
  | some h, some n =>
    Instr.entriesStand i && (h.length == n || (Instr.fieldsOpen i && decide (n < h.length)))
  | _, _ => false

/-! ## Frames (R169) -/

/-- R169: a frame as it is sent, less padding and frame check, where its bytes are known. A forwarded frame
is sent as it was received: a telegram keeps the bytes that follow its payload. -/
def Frame.bytes : Frame → Option (List Byte)
  | .own t => some (frameBytes t.etherDst t.etherSrc t.etherType t.bytes)
  | .forwarded (.forwardedFrame _ dst src type bytes) => some (frameBytes dst src type bytes)
  | .forwarded i => (Instr.telegram i).map fun x =>
      frameBytes x.1.etherDst x.1.etherSrc 0xA7E1
        (headerBytes x.1.dest x.1.source x.2.1 x.1.reference x.1.length ++ x.2.2 ++ x.1.trailing)

end Sys2Proof.Machine
end

