-- ==== Sys2Proof/Machine/Arbiter.lean ====
section
/-! DEFINITION. The table arbiter (chapter 4, section 4.7): move limits, the grant rule, moves and their
ends, the table report. -/

namespace Sys2Proof.Machine

/-! ## Move limits (R96) -/

/-- R96: one record meets the limits of a move of distance d; `gp` is whether GP shows presence. -/
def TableRecord.withinLimits (g : TableGeometry) (travel : Int) (gp : Bool) (d : Int)
    (r : TableRecord) : Bool :=
  decide (r.head travel + d ≤ g.xTE) && decide (g.xTS ≤ r.tail travel + d)
    && (!gp || r.onZone g travel || decide (r.head travel + max 0 d < g.xGS)
        || decide (g.xGE < r.tail travel + min 0 d))

/-- R96: a move of distance d passes the move limits. -/
def State.limitsPass (s : State) (g : TableGeometry) (d : Int) : Bool :=
  s.tracker.table.all (TableRecord.withinLimits g s.travel (s.present .gp) d)

/-- R95, R97: the distance of a request's move: its target centre minus the record's centre. -/
def State.moveDistance (s : State) (q : PosRequest) : Option Int :=
  (s.findTag q.tag).map fun r => q.target - r.centre s.travel

/-- R95(b): a waiting request's move passes the limits. -/
def State.requestPasses (s : State) (q : PosRequest) : Bool :=
  match s.cfg.tableGeometry, s.moveDistance q with
  | some g, some d => s.limitsPass g d
  | _, _ => false

/-! ## Moves (R59, R60, R97) -/

/-- R97: the next move number, from 255 to 1. -/
def nextMoveAfter (n : Nat) : Nat := if n < 255 then n + 1 else 1

/-- R97: a TABLE_MOVE is sent and the arbiter is MOVING for charger k. -/
def orderMove (k : Furnace) (d : Int) (s : State) : State :=
  let n := s.arb.nextMove
  let s := sendField .tableDrive 0 (.tableMove n d) s
  markGrid (s.setArb { s.arb with motion := .positioning k n true, nextMove := nextMoveAfter n })

/-- R98: the arbiter becomes STILL. -/
def becomeStill (s : State) : State := markList (s.setArb { s.arb with motion := .still })

/-- R59, R101: the success of charger k's grant: the hold is recorded, the grant ends, the positioning
timer stops and the final computation is made. -/
def moveSuccess (k : Furnace) (s : State) : State :=
  let s := dropRequest k (becomeStill s)
  let s := markGrid (s.setArb { s.arb with holds := s.arb.holds.set k true })
  runFinal k (stopTimer k s)

/-- R59: the positioning test. -/
def State.positionedAt (s : State) (g : TableGeometry) (k : Furnace) (d : Int) : Bool :=
  decide (mag d ≤ g.positioningTolerance) && s.present (doorSensor k)

/-- R60: the third miss, and the end R97 takes as one: the grant ends STILL with no hold, the slab is
held and the sequencer enters IDLE. -/
def lastMiss (k : Furnace) (tag : Nat) (s : State) : State :=
  holdAndIdle k .position tag (dropRequest k (becomeStill s))

/-- R60, R97: a corrective move of distance d within the grant. -/
def correctMove (k : Furnace) (tag : Nat) (g : TableGeometry) (d : Int) (s : State) : State :=
  let s := updateCycle k (fun c => { c with corrective := c.corrective + 1 }) s
  if s.limitsPass g d then orderMove k d s else lastMiss k tag s

/-- R59, R60: the end of a move of charger k's grant is tested. -/
def moveEnded (k : Furnace) (s : State) : State :=
  match s.cycle k, s.cfg.tableGeometry, (s.arb.requests.get k).bind s.moveDistance with
  | some c, some g, some d =>
    if s.positionedAt g k d then moveSuccess k s
    else if c.corrective < 2 then correctMove k c.tag g d s
    else lastMiss k c.tag s
  | _, _, _ => s

/-! ## The grant rule (R95) -/

/-- R94, R95(b): charger k's waiting request is checked; its sequencer shows GRANT or TABLE_BLOCKED. -/
def checkRequest (k : Furnace) (s : State) : State :=
  match s.arb.requests.get k with
  | none => s
  | some q =>
    if q.status = .granted then s
    else if s.requestPasses q then
      showWaiting k .grant (putRequest k (some { q with status := .waiting }) s)
    else showWaiting k .tableBlocked (putRequest k (some { q with status := .skipped }) s)

/-- The head of the record of charger k's request, where the request waits and is not skipped. -/
def State.eligibleHead (s : State) (k : Furnace) : Option Int :=
  match s.arb.requests.get k with
  | none => none
  | some q =>
    if q.status = .waiting then (s.findTag q.tag).map fun r => r.head s.travel else none

/-- R95(b): the charger whose request is granted: the one whose record's head is the most downstream. -/
def State.winner (s : State) : Option Furnace :=
  match s.eligibleHead .f1, s.eligibleHead .f2 with
  | none, none => none
  | some _, none => some .f1
  | none, some _ => some .f2
  | some a, some b => if a < b then some .f2 else some .f1

/-- R59, R95(c): charger k's request is granted: the positioning timer starts; the move is complete at
once, or it is ordered. -/
def grantMove (k : Furnace) (s : State) : State :=
  match s.arb.requests.get k, s.cfg.tableGeometry with
  | some q, some g =>
    match s.moveDistance q with
    | none => s
    | some d =>
      let s := putRequest k (some { q with status := .granted }) s
      let s := startTimer k .positioning (showWaiting k .move s)
      if s.positionedAt g k d then moveSuccess k s else orderMove k d s
  | _, _ => s

/-- R93: some charger hold exists. -/
def State.chargerHold (s : State) : Bool := s.arb.holds.f1 || s.arb.holds.f2

/-- R95: the grant rule, applied while STILL. -/
def tableRule (s : State) : State :=
  if s.arb.motion.moving || s.chargerHold || s.arb.gridHold.isSome then s
  else
    let s := markGrid (checkRequest .f2 (checkRequest .f1 s))
    match s.winner with
    | none => s
    | some k => grantMove k s

/-! ## The table report (R98, R62) -/

/-- R62, R98: a move ends HALTED or with FAULT: the grant ends and the sequencer enters HELD. -/
def moveFailed (k : Furnace) (s : State) : State :=
  enterHeld k .tableFault none (dropRequest k (becomeStill s))

/-- R98: an unexpected report. -/
def unexpectedTable (outcome : MoveOutcome) (number : Nat) (s : State) : State :=
  raise (.unexpectedTable s.arb.motion outcome number) s

/-- R98: a TABLE_REPORT reaches the arbiter. -/
def takeTableReport (number : Nat) (outcome : MoveOutcome) (s : State) : State :=
  match s.arb.motion with
  | .still => unexpectedTable outcome number s
  | .manual => if number = 0 then becomeStill s else unexpectedTable outcome number s
  | .positioning k n wanted =>
    if number ≠ n then unexpectedTable outcome number s
    else if !wanted then becomeStill s
    else if outcome = .done then moveEnded k s
    else moveFailed k s

/-- R102: whether a manual move is allowed. -/
def State.manualAllowed (s : State) : Bool :=
  !s.arb.motion.moving && !s.chargerHold && s.arb.gridHold.isNone

/-- R102: the arbiter enters MOVING with owner MANUAL. That is no occasion of a grant evaluation (R125) nor of
the grant rule (R95). -/
def startManual (s : State) : State := s.setArb { s.arb with motion := .manual }

/-- R100: a rising edge at TE; `travel` is the edge travel. -/
def tableEnd (travel : Int) (s : State) : State :=
  sendHalt .tableEnd (raise (.tableEnd travel s.arb.motion) s)

end Sys2Proof.Machine
end

