-- ==== Sys2Proof/Machine/GridArbiter.lean ====
section
/-! DEFINITION. The grid arbiter (chapter 5, sections 5.4 to 5.8): answers, the grant order, the grant
evaluation, the end of a grant; and the serving of occasions (R57, R95, R125). -/

namespace Sys2Proof.Machine

/-! ## Answers (R122) -/

/-- R122: a GRID_ANSWER to a crane. -/
def answerCrane (c : Crane) (id : Option Identity) (reference : Nat) (a : GridAnswer) (s : State) :
    State :=
  sendField (.crane c) reference (.gridAnswer c id a) s

/-! ## The grant order (R125) -/

/-- R125: the key of a request in the grant order: a PLANNED identity's sequence number comes before
every arrival rank. -/
def grantKey (l : List ScheduleEntry) (q : GridRequest) : Nat × Nat :=
  match plannedEntry q.id l with
  | some e => (0, e.seq)
  | none => (1, q.rank)

/-- The order of the keys. -/
def keyBefore (a b : Nat × Nat) : Bool :=
  decide (a.1 < b.1) || (decide (a.1 = b.1) && decide (a.2 < b.2))

/-- A request placed among requests that stand in grant order. -/
def insertRequest (l : List ScheduleEntry) (q : GridRequest) : List GridRequest → List GridRequest
  | [] => [q]
  | x :: xs =>
    if keyBefore (grantKey l q) (grantKey l x) then q :: x :: xs else x :: insertRequest l q xs

/-- R125: the queue in grant order. -/
def grantOrder (l : List ScheduleEntry) : List GridRequest → List GridRequest
  | [] => []
  | q :: qs => insertRequest l q (grantOrder l qs)

/-- The queue in grant order, by the schedule as it stands. -/
def State.gridOrder (s : State) : List GridRequest := grantOrder s.schedule s.grid.queue

/-- R123: the position, from 1, of a crane's request in a list. -/
def positionOf (c : Crane) : List GridRequest → Nat
  | [] => 1
  | q :: qs => if q.crane = c then 1 else positionOf c qs + 1

/-! ## The grant evaluation (R125, R126, R101) -/

/-- R101: whether charger k's request waits and the grant rule would not skip it. -/
def State.requestStands (s : State) (k : Furnace) : Bool :=
  match s.arb.requests.get k with
  | none => false
  | some q => q.status == .waiting

/-- R101: the table arbiter permits the grid hold. -/
def State.permitsGrid (s : State) : Bool :=
  !s.arb.motion.moving
    && (s.chargerHold || !(s.requestStands .f1 || s.requestStands .f2))

/-- R125, R133: the conditions of a grant. -/
def State.grantConditions (s : State) : GrantConditions :=
  { supervision := s.mgmt.supervision.isOk
    mode := s.ret.mode == .run
    gridClear := s.gridClear
    roomInList := decide (s.tracker.table.length < 8)
    permission := s.permitsGrid }

/-- Whether every condition holds. -/
def GrantConditions.all (c : GrantConditions) : Bool :=
  c.supervision && c.mode && c.gridClear && c.roomInList && c.permission

/-- R125: the queue without the requests whose identity has become held. -/
def dropHeld (s : State) : State :=
  let s' := s.setGrid { s.grid with queue := s.grid.queue.filter fun q => !s.idHeld q.id }
  (s.grid.queue.filter fun q => s.idHeld q.id).foldl
    (fun t q => answerCrane q.crane (some q.id) q.reference .withdrawnDuplicate t) s'

/-- R126: the grant is made. -/
def makeGrant (q : GridRequest) (s : State) : State :=
  let s := s.setArb { s.arb with gridHold := some q.crane }
  let s := s.setGrid { s.grid with
    queue := s.grid.queue.filter fun x => x.crane != q.crane
    grant := some { crane := q.crane, id := q.id, reference := q.reference,
                    phase := .active (1000 * s.cfg.settings.grantTimeout) } }
  answerCrane q.crane (some q.id) q.reference .granted s

/-- R125: the grant evaluation. -/
def gridEval (s : State) : State :=
  let s := dropHeld s
  if s.grid.grant.isNone && s.grantConditions.all then
    match s.gridOrder with
    | [] => s
    | q :: _ => makeGrant q s
  else s

/-! ## The end of a grant (R129) -/

/-- R129: the grant record is cleared, the grid hold released and the grid watch evaluated; a grant
evaluation is due. -/
def endGrant (s : State) : State :=
  let s := s.setGrid { s.grid with grant := none }
  markList (evalPresence (s.setArb { s.arb with gridHold := none }))

/-- R129, R130: the part ends the grant, and the holder is answered WITHDRAWN with the reason TIMEOUT. -/
def withdrawGrant (g : Grant) (s : State) : State :=
  endGrant (answerCrane g.crane (some g.id) g.reference .withdrawnTimeout s)

/-! ## Serving the occasions -/

/-- The occasions that stand are served: the start evaluation of F1, that of F2, the grant rule, the
grant evaluation, and again until none stands; `fuel` bounds the number of servings. -/
def settle : Nat → State → State
  | 0, s => s
  | fuel + 1, s =>
    if s.due.start.f1 then
      settle fuel (startEval .f1 (s.setDue { s.due with start := s.due.start.set .f1 false }))
    else if s.due.start.f2 then
      settle fuel (startEval .f2 (s.setDue { s.due with start := s.due.start.set .f2 false }))
    else if s.due.tableRule then settle fuel (tableRule (s.setDue { s.due with tableRule := false }))
    else if s.due.gridEval then settle fuel (gridEval (s.setDue { s.due with gridEval := false }))
    else s

/-- More servings than any event brings about. -/
def settleFuel : Nat := 200

/-- The occasions of an event are served; in RETAIN the blocks take none (R199). -/
def serve (s : State) : State :=
  if s.ret.mode = .retain then s.setDue .none
  else showBar .f2 (showBar .f1 (settle settleFuel s))

/-- What stands at the end of every event that reaches the blocks: its occasions are served and the
lines take their levels (R159). -/
def finish (s : State) : State := refreshLines (serve s)

/-- An event that reaches the blocks, in a part that is on. -/
def event (f : State → State) (s : State) : Host.Outcome State Fault Refusal :=
  powered (fun s => finish (f s)) s

end Sys2Proof.Machine
end

