-- ==== Sys2Proof/Machine/Heartbeat.lean ====
section
/-! DEFINITION. What a HEARTBEAT does to the supervision (R194), known by its fields or by its bytes. -/

namespace Sys2Proof.Machine

/-- R194: supervision takes a state. -/
def putSupervision (v : Supervision) (s : State) : State := s.setMgmt { s.mgmt with supervision := v }

/-- R194: OK with its timer started with the supervision period, s. -/
def State.freshSupervision (s : State) : Supervision :=
  .ok s.cfg.settings.supervisionPeriod (1000 * s.cfg.settings.supervisionPeriod)

/-- R194: a well-formed HEARTBEAT, behind its RESPONSE. -/
def beat (s : State) : State :=
  match s.mgmt.supervision with
  | .ok _ _ => putSupervision s.freshSupervision s
  | .lost => finish (markGrid (markStarts (raise .supervisionOk (putSupervision s.freshSupervision s))))

/-- R194: a HEARTBEAT. One with a payload does not fit its form. -/
def takeHeartbeat (h : Hdr) (fits : Bool) (s : State) : State :=
  if !fits then respond h Kind.heartbeat .illegalValue none .none s
  else beat (respond h Kind.heartbeat .ok none (.heartbeat s.ret.mode s.ret.startKind true) s)

end Sys2Proof.Machine
end

