-- ==== Sys2Proof/Machine/Counters.lean ====
section
/-! DEFINITION. The counter unit's encoders, markers and gates (chapter 6, sections 6.1 to 6.3) and the
commands ENCODER_STEP, MARKER_EDGE and GATE_END. -/

namespace Sys2Proof.Machine

/-! ## Decoding (R136, R137, R139) -/

/-- R136: the place of a level pair in the forward sequence. -/
def quadPlace : Bool × Bool → Nat
  | (false, false) => 0
  | (true, false) => 1
  | (true, true) => 2
  | (false, true) => 3

/-- R136: the direction of a valid step by the quadrature sequence. -/
def stepForward (old new : Bool × Bool) : Bool := (quadPlace old + 1) % 4 == quadPlace new

/-- R137: both phases change together. -/
def illegalStep (old new : Bool × Bool) : Bool := old.1 != new.1 && old.2 != new.2

/-- R136: the multiplier counts a valid step. -/
def stepCounted (old new : Bool × Bool) : Multiplier → Bool
  | .x4 => true
  | .x2 => old.1 != new.1
  | .x1 => !old.2 && !new.2

/-- R136, R139: one increment. -/
def Counter.increment (x : Counter) (scale : Int) (forward : Bool) : Counter :=
  { x with
    acc := if forward then x.acc + scale else x.acc - scale
    raw := if forward then x.raw + 1 else x.raw - 1
    lastDir := some (if forward then .forward else .reverse) }

/-- R136: a valid step. -/
def Counter.validStep (x : Counter) (setup : CounterSetup) (new : Bool × Bool) : Counter :=
  if stepCounted x.phase new setup.multiplier then
    { x.increment setup.scale (stepForward x.phase new != setup.invert) with phase := new }
  else { x with phase := new }

/-- R137: an illegal transition of counter c. -/
def illegalTransition (c : CounterId) (new : Bool × Bool) (s : State) : State :=
  let x := s.counter c
  let s' := s.setCounter c { x with phase := new, encoderError := true }
  if x.encoderError then s' else raise (.holdSet (.encoderError c x.phase new)) s'

/-- R136, R137: the phases of counter c show a new level pair. -/
def takeStep (c : CounterId) (new : Bool × Bool) (s : State) : State :=
  if (s.counter c).phase = new then s
  else if illegalStep (s.counter c).phase new then illegalTransition c new s
  else s.setCounter c ((s.counter c).validStep (s.cfg.counterSetup.get c) new)

/-! ## A change of table travel (R87, R92) -/

/-- The sensor flag of a record. -/
def TableRecord.seen (r : TableRecord) : SensorId → Bool
  | .ms => r.seenMS
  | .d1 => r.seenD1
  | .d2 => r.seenD2
  | .gp => true
  | .te => true

/-- The sensor flag of a record is set. -/
def TableRecord.mark (i : SensorId) (r : TableRecord) : TableRecord :=
  match i with
  | .ms => { r with seenMS := true }
  | .d1 => { r with seenD1 := true }
  | .d2 => { r with seenD2 := true }
  | .gp => r
  | .te => r

/-- R86: the coordinate of a tracking photocell. -/
def TableGeometry.sensorAt (g : TableGeometry) : SensorId → Int
  | .ms => g.xMS
  | .d1 => g.xD1
  | .d2 => g.xD2
  | .gp => g.xG
  | .te => g.xTE

/-- R92: a record's head lies beyond a photocell that it was not seen at. -/
def TableRecord.missed (g : TableGeometry) (travel : Int) (i : SensorId) (r : TableRecord) : Bool :=
  !r.seen i && decide (g.sensorAt i + g.trackingTolerance < r.head travel)

/-- R92: one record examined against one photocell. MISSED_EDGE stands before the events of the hold (log 35). -/
def examine (g : TableGeometry) (tag : Nat) (i : SensorId) (s : State) : State :=
  match s.findTag tag with
  | none => s
  | some r =>
    if r.missed g s.travel i then
      trackerHold .tracking (r.mark i) (raise (.missedEdge tag i (r.head s.travel))
        (updateRecord tag (TableRecord.mark i) s))
    else s

/-- R92: one record examined against MS, D1 and D2 in turn. -/
def examineRecord (g : TableGeometry) (tag : Nat) (s : State) : State :=
  examine g tag .d2 (examine g tag .d1 (examine g tag .ms s))

/-- R92: the examination at an increase of the table travel, the records in list order, from the most
downstream on (log 35). -/
def examineAll (s : State) : State :=
  match s.cfg.tableGeometry with
  | none => s
  | some g => (s.tracker.table.map (·.tag)).foldl (fun s t => examineRecord g t s) s

/-- R138: counter T's reported position has changed from `old`: the grid watch is evaluated (R87), then the
records are examined (R92; the order of their events: log 35). -/
def travelChanged (old : Int) (s : State) : State :=
  let s := markGrid (evalPresence s)
  if old < s.travel then examineAll s else s

/-- ENCODER_STEP. -/
def encoderStep (c : CounterId) (new : Bool × Bool) (s : State) : State :=
  let t := takeStep c new s
  if t.travel = s.travel then t else travelChanged s.travel t

/-! ## Homing (R140, R141) -/

/-- R140: the last direction matches the home direction. -/
def directionFits : HomeDirection → Option Direction → Bool
  | .positive, some .forward => true
  | .negative, some .reverse => true
  | .either, _ => true
  | _, _ => false

/-- R140: a marker edge qualifies. -/
def qualifies (setup : CounterSetup) (x : Counter) (rising : Bool) : Bool :=
  setup.markerUse == .home && setup.edgeRising == rising && directionFits setup.homeDirection x.lastDir

/-- R140, R141, R143: the accumulator is loaded with the home position and the gate start value takes the
same step. -/
def Counter.load (x : Counter) (home : Int) : Counter :=
  { x with acc := home * 1000, gateStart := x.gateStart + (home * 1000 - x.acc) }

/-- R140: a qualifying edge while UNHOMED. -/
def homeFirst (c : CounterId) (k : Furnace) (setup : CounterSetup) (s : State) : State :=
  markStart k (s.setCounter c { (s.counter c).load setup.homePosition with homed := true })

/-- R141: the deviation at a qualifying edge while HOMED. -/
def homeDeviationAt (setup : CounterSetup) (x : Counter) : Int := roundMm x.acc - setup.homePosition

/-- R141: a qualifying edge while HOMED. -/
def homeAgain (c : CounterId) (setup : CounterSetup) (s : State) : State :=
  let x := s.counter c
  let d := homeDeviationAt setup x
  let y := { x.load setup.homePosition with lastHomeDev := some d }
  if setup.homeTolerance < mag d then
    raise (.holdSet (.homeDeviation c (roundMm x.acc) setup.homePosition d))
      (s.setCounter c { y with homeDeviation := true })
  else s.setCounter c y

/-- MARKER_EDGE: counter T's marker is not watched (R140). -/
def takeMarker (c : CounterId) (rising : Bool) (s : State) : State :=
  match furnaceOf c with
  | none => s
  | some k =>
    let setup := s.cfg.counterSetup.get c
    if !qualifies setup (s.counter c) rising then s
    else if (s.counter c).homed then homeAgain c setup s
    else homeFirst c k setup s

/-! ## Gates (R143) -/

/-- R143: the speed of a gate. -/
def gateSpeed (delta : Int) (period : Nat) : Int := clampInt (-9999) 9999 (delta.tdiv period)

/-- R143: the running gate of a counter ends. -/
def Counter.endGate (x : Counter) (period : Nat) : Counter :=
  { x with speed := gateSpeed (x.acc - x.gateStart) period, gateStart := x.acc, gateLeft := period }

/-- R143: GATE_END has an effect when the gate has run its period (log 3). -/
def gateOver (c : CounterId) (s : State) : Bool := (s.counter c).gateLeft == 0

/-- GATE_END. -/
def takeGateEnd (c : CounterId) (s : State) : State :=
  s.setCounter c ((s.counter c).endGate (s.cfg.counterSetup.get c).gatePeriod)

/-! ## The commands -/

/-- ENCODER_STEP (R136, R137): phases A and B of counter c show the levels a and b. -/
def execEncoderStep (c : CounterId) (a b : Bool) (s : State) : Host.Outcome State Fault Refusal :=
  event (encoderStep c (a, b)) s

/-- MARKER_EDGE (R140, R141). -/
def execMarkerEdge (c : CounterId) (rising : Bool) (s : State) : Host.Outcome State Fault Refusal :=
  event (takeMarker c rising) s

/-- GATE_END (R143). -/
def execGateEnd (c : CounterId) (elapsed : Nat) (s : State) : Host.Outcome State Fault Refusal :=
  powered (fun s =>
    let t := elapse elapsed s
    if gateOver c t then finish (takeGateEnd c t) else t) s

end Sys2Proof.Machine
end

