-- ==== Sys2Proof/Machine/Sensors.lean ====
section
/-! DEFINITION. The sensor inputs and photocell tracking (chapter 6, section 6.5; chapter 4, section 4.6)
and the commands RAW_TRANSITION and FILTER_TIME_ELAPSED. -/

namespace Sys2Proof.Machine

/-! ## Head edges (R90) -/

/-- R90: a record is a candidate of a head edge. -/
def TableRecord.candidateAt (g : TableGeometry) (travel : Int) (i : SensorId) (r : TableRecord) : Bool :=
  !r.seen i && decide (mag (r.head travel - g.sensorAt i) ≤ g.trackingTolerance)

/-- R90: of two candidates the nearer; of two equally near, the more downstream. -/
def nearer (x travel : Int) (a b : TableRecord) : TableRecord :=
  let da := mag (a.head travel - x)
  let db := mag (b.head travel - x)
  if db < da then b else if da < db then a else moreDownstream a b

/-- R90: the candidate taken. -/
def nearest (x travel : Int) : List TableRecord → Option TableRecord
  | [] => none
  | r :: rs =>
    match nearest x travel rs with
    | none => some r
    | some b => some (nearer x travel r b)

/-- R90: the neighbours of the record with a tag allow a head at x: the one ahead lies beyond x, the one
behind before it. `ahead` is the head of the record before the list, where there is one. -/
def neighboursAllow (tag : Nat) (x travel : Int) : Option Int → List TableRecord → Bool
  | _, [] => false
  | ahead, r :: rs =>
    if r.tag = tag then
      (match ahead with | none => true | some h => decide (x < h))
        && (match rs.head? with | none => true | some b => decide (b.head travel < x))
    else neighboursAllow tag x travel (some (r.head travel)) rs

/-- R91: an accepted head edge at MS begins a measurement. -/
def openMeasurement (i : SensorId) (tag : Nat) (capture : Int) (s : State) : State :=
  if i = .ms then s.setTracker { s.tracker with measuring := some ⟨tag, capture⟩ } else s

/-- R90: the corrected anchor is taken. -/
def acceptHead (i : SensorId) (r : TableRecord) (x travel capture : Int) (s : State) : State :=
  markList (openMeasurement i r.tag capture
    (updateRecord r.tag (fun y => { y.mark i with anchor := x - travel }) s))

/-- R90: the correction is refused. TRACKING_CONFLICT stands before the events of the hold (log 35). -/
def refuseHead (i : SensorId) (r : TableRecord) (x travel : Int) (s : State) : State :=
  trackerHold .tracking (r.mark i)
    (raise (.trackingConflict r.tag i (x - r.head travel)) (updateRecord r.tag (TableRecord.mark i) s))

/-- R90: a head edge at MS, D1 or D2 with its capture. -/
def headEdge (i : SensorId) (capture : Int) (s : State) : State :=
  let travel := roundMm capture
  match s.cfg.tableGeometry with
  | none => raise (.unexpectedEdge i true travel) s
  | some g =>
    match nearest (g.sensorAt i) travel (s.tracker.table.filter (TableRecord.candidateAt g travel i)) with
    | none => raise (.unexpectedEdge i true travel) s
    | some r =>
      if neighboursAllow r.tag (g.sensorAt i) travel none s.tracker.table then
        acceptHead i r (g.sensorAt i) travel capture s
      else refuseHead i r (g.sensorAt i) travel s

/-! ## The length (R91) -/

/-- R91: the case of a measured length. -/
def lengthOutcome (tolerance : Int) (r : TableRecord) (len : Int) : LengthOutcome :=
  if !inRange 1500 12000 len then .outOfRange
  else
    match r.nominals with
    | none => .accepted
    | some n => if tolerance < mag (len - n.length) then .offNominal else .accepted

/-- R91, R95: the case is applied; a measured length changes the record's length. -/
def applyLength (r : TableRecord) (len : Int) (o : LengthOutcome) (s : State) : State :=
  match o with
  | .outOfRange => trackerHold .length r s
  | .offNominal =>
    trackerHold .length { r with measured := some len }
      (markList (updateRecord r.tag (fun y => { y with measured := some len }) s))
  | .accepted => markList (updateRecord r.tag (fun y => { y with measured := some len }) s)

/-- R86: the length tolerance. -/
def State.lengthTolerance (s : State) : Int :=
  match s.cfg.tableGeometry with
  | none => 0
  | some g => g.lengthTolerance

/-- R91: the pending measurement ends with a length. That LENGTH_MEASURED stands behind the events of the hold that
the length causes, SLAB_HELD and in PICK CHARGER_HELD, is the model's choice (log 35). -/
def endMeasurement (m : Measurement) (capture : Int) (s : State) : State :=
  let len := roundMm (capture - m.capture)
  let s := s.setTracker { s.tracker with measuring := none }
  match s.findTag m.tag with
  | none => s
  | some r =>
    let o := lengthOutcome s.lengthTolerance r len
    raise (.lengthMeasured r.tag r.id len (r.nominals.map (·.length)) o) (applyLength r len o s)

/-- R91: a forward falling edge at MS. -/
def tailEdge (capture : Int) (s : State) : State :=
  match s.tracker.measuring with
  | none => raise (.unexpectedEdge .ms false (roundMm capture)) s
  | some m => endMeasurement m capture s

/-! ## GP and TE edges (R87, R100, R130) -/

/-- R130: GP shows absence while the grant is OVERDUE. -/
def overdueGone (travel : Int) (s : State) : State :=
  match s.grid.grant with
  | none => s
  | some g =>
    if g.phase = .overdue then raise (.unidentifiedAfterGrant g.crane g.id travel) (withdrawGrant g s)
    else s

/-- R87, R95, R125, R130: a GP edge. -/
def gpEdge (rising : Bool) (travel : Int) (s : State) : State :=
  let s := markList (evalPresenceAt travel s)
  if rising then s else overdueGone travel s

/-- R100, R199: a TE edge; the table arbiter takes nothing in RETAIN. -/
def teEdge (rising : Bool) (travel : Int) (s : State) : State :=
  if rising && s.ret.mode != .retain then tableEnd travel s else s

/-- R89: the tracker takes an edge. -/
def trackEdge (i : SensorId) (rising : Bool) (capture : Int) (dir : Option Direction) (s : State) :
    State :=
  match i with
  | .gp => gpEdge rising (roundMm capture) s
  | .te => teEdge rising (roundMm capture) s
  | .ms =>
    if dir = some .reverse then s
    else if rising then headEdge .ms capture s else tailEdge capture s
  | .d1 => if dir = some .reverse || !rising then s else headEdge .d1 capture s
  | .d2 => if dir = some .reverse || !rising then s else headEdge .d2 capture s

/-! ## Taking a change (R146, R147) -/

/-- R146: the raw level. -/
def rawLevel (setup : SensorSetup) (x : Sensor) : Bool := x.electrical != setup.invert

/-- R147: a pending change is taken: the taken level, the capture pair. -/
def Sensor.take (x : Sensor) (p : PendingChange) : Sensor :=
  { x with taken := p.level, pending := none, previous := x.latest, latest := p.capture }

/-- R147: the change is taken and the edge handed on. -/
def takeChange (i : SensorId) (p : PendingChange) (s : State) : State :=
  trackEdge i p.level p.capture p.dir (s.setSensor i ((s.sensor i).take p))

/-- R146: a raw transition: the electrical level of input i changes. -/
def rawTransition (i : SensorId) (electrical : Bool) (s : State) : State :=
  let setup := s.cfg.sensorSetup.get i
  let x := { s.sensor i with electrical }
  if (s.sensor i).electrical = electrical then s
  else if rawLevel setup x = x.taken then s.setSensor i { x with pending := none }
  else
    let p : PendingChange := { level := rawLevel setup x, held := 0, capture := s.counters.t.acc,
                               dir := s.counters.t.lastDir }
    if setup.filterTime = 0 then takeChange i p (s.setSensor i x)
    else s.setSensor i { x with pending := some p }

/-- R146: the pending change that has held for the filter time, if there is one (log 3). -/
def State.changeReady (s : State) (i : SensorId) : Option PendingChange :=
  match (s.sensor i).pending with
  | none => none
  | some p => if (s.cfg.sensorSetup.get i).filterTime ≤ p.held then some p else none

/-! ## The commands -/

/-- RAW_TRANSITION (R146): the electrical level that input i now shows. -/
def execRawTransition (i : SensorId) (electrical : Bool) (s : State) :
    Host.Outcome State Fault Refusal :=
  event (rawTransition i electrical) s

/-- FILTER_TIME_ELAPSED (R146, R147). -/
def execFilterTimeElapsed (i : SensorId) (elapsed : Nat) (s : State) :
    Host.Outcome State Fault Refusal :=
  powered (fun s =>
    let t := elapse elapsed s
    match t.changeReady i with
    | none => t
    | some p => finish (takeChange i p t)) s

end Sys2Proof.Machine
end

