-- ==== Sys2Proof/Machine/Passage.lean ====
section
/-! DEFINITION. The passage unit (chapter 8): the check of a telegram's form, its classification, the
actions of the passage table, the guards; and the commands that concern frames, links and telegrams as
such. -/

namespace Sys2Proof.Machine

/-! ## Form and stray telegrams (R170, R177) -/

/-- R170: a telegram is malformed. -/
def malformed (s : State) (h : Hdr) : Bool :=
  decide (120 < h.length) || h.truncated || h.source == 63 || s.links.station == some h.source

/-- R177: STRAY_TELEGRAM for a telegram of a kind. -/
def stray (h : Hdr) (kind : Nat) (reason : StrayReason) (s : State) : State :=
  raise (.strayTelegram h.port h.source h.dest kind reason) s

/-- R175: a telegram is addressed to the part. -/
def addressed (s : State) (h : Hdr) : Bool := s.links.station == some h.dest

/-- R169, R184: whether the port of arrival is UP. -/
def received (s : State) (p : Port) : Bool := (s.links.port p).up

/-! ## The passage table (R178) -/

/-- R178: the action of a kind; FORWARD without an entry. -/
def actionOf (table : List (Option (Nat × Action))) (kind : Nat) : Action :=
  match table.find? fun e => match e with | none => false | some (k, _) => k == kind with
  | some (some (_, a)) => a
  | _ => .forward

/-! ## Guards (R180, R181, R182) -/

/-- R182: BLOCKED to the sender, through the port of arrival. -/
def block (h : Hdr) (kind : Nat) (reason : BlockReason) (s : State) : State :=
  sendOwn h.port h.source h.reference (.blocked kind h.dest reason) s

/-- R180, R181: the LINK_OVERRUN flag of a port is set. -/
def setOverrun (p : Port) (s : State) : State :=
  s.setLinks (s.links.setPort p { s.links.port p with linkOverrun := true })

/-- R180, R181: a guarded telegram that finds no place. -/
def blockFull (h : Hdr) (kind : Nat) (s : State) : State :=
  block h kind .queueFull (setOverrun (otherPort h.port) s)

/-- R180: the destination is the table drive's station. -/
def toTableDrive (s : State) (h : Hdr) : Bool :=
  match s.cfg.partners with
  | none => false
  | some ps => ps.tableDrive == h.dest

/-- R182: the fields of TABLE_BUSY. -/
def State.tableBusy (s : State) : BlockReason :=
  .tableBusy s.arb.motion s.chargerHold s.arb.gridHold.isSome

/-- R180: GUARD_TABLE for the telegram that command c brings. -/
def guardTable (c : Instr) (kind : Nat) (h : Hdr) (s : State) : State :=
  if !toTableDrive s h then block h kind .notGuardedRole s
  else if !(s.links.port (otherPort h.port)).hasPlace then blockFull h kind s
  else if !s.manualAllowed then block h kind s.tableBusy s
  else finish (startManual (forwardTo (otherPort h.port) c s))

/-- R181: the furnace of the beam drive a telegram is for. -/
def beamDrive (s : State) (h : Hdr) : Option Furnace :=
  match s.cfg.partners with
  | none => none
  | some ps => if ps.beam1 = h.dest then some .f1 else if ps.beam2 = h.dest then some .f2 else none

/-- R181: GUARD_STROKE for the telegram that command c brings. -/
def guardStroke (c : Instr) (kind : Nat) (h : Hdr) (s : State) : State :=
  match beamDrive s h with
  | none => block h kind .notGuardedRole s
  | some k =>
    if (s.seq k).state.charging then block h kind (.charging k (s.seq k).state) s
    else if !(s.links.port (otherPort h.port)).hasPlace then blockFull h kind s
    else forwardTo (otherPort h.port) c s

/-! ## The passage of a telegram (R175 to R179) -/

/-- R177, R179: a telegram of a field kind is taken or acted on where it comes from a role of its kind and
does not fail in format. -/
def fromRole (kind : Nat) (h : Hdr) (formOk : Bool) (act : Role → State → State) (s : State) : State :=
  match roleOf s kind h with
  | .error reason => stray h kind reason s
  | .ok r => if formOk then act r s else stray h kind .format s

/-- R176: a RESPONSE carrying NOT_FROM_YARD. -/
def answerYard (h : Hdr) (kind : Nat) (s : State) : State :=
  sendOwn .yard h.source h.reference (.response kind .notFromYard none .none) s

/-- R175 to R177: a telegram addressed to the part. -/
def takeAddressed (kind : Nat) (h : Hdr) (formOk : Bool) (manage : State → State)
    (act : Role → State → State) (s : State) : State :=
  if isManagement kind then
    match h.port with
    | .plant => manage s
    | .yard => answerYard h kind s
  else if isFieldTaken kind then fromRole kind h formOk act s
  else stray h kind .wrongKind s

/-- R179: a passing telegram, by the action of its kind. OBSERVE stands with observable kinds alone
(R178). -/
def passBy (c : Instr) (kind : Nat) (h : Hdr) (formOk : Bool) (act : Role → State → State)
    (s : State) : State :=
  match actionOf s.cfg.passage kind with
  | .forward => forwardTo (otherPort h.port) c s
  | .drop => s
  | .observe => fromRole kind h formOk act (forwardTo (otherPort h.port) c s)
  | .guardTable => guardTable c kind h s
  | .guardStroke => guardStroke c kind h s

/-- R170, R175: the telegram that command c brings: its kind and header, whether its payload has the form
of its kind, what the management unit does with it, what the blocks do with it from a role. -/
def arrive (c : Instr) (kind : Nat) (h : Hdr) (formOk : Bool) (manage : State → State)
    (act : Role → State → State) (s : State) : State :=
  if !received s h.port then s
  else if malformed s h then stray h kind .malformed s
  else if addressed s h then takeAddressed kind h formOk manage act s
  else passBy c kind h formOk act s

/-- A management telegram of a kind (R176), which command c brings: the management unit is told whether its
payload fits its kind (R187). -/
def manage (c : Instr) (kind : Nat) (h : Hdr) (f : Bool → State → State) (s : State) : State :=
  arrive c kind h false (f (formFits c)) (fun _ s => s) s

/-- A telegram of a field kind (R177, R179). -/
def field (c : Instr) (kind : Nat) (h : Hdr) (codesOk : Bool) (act : Role → State → State)
    (s : State) : State :=
  arrive c kind h (lengthFits kind h && codesOk) (fun s => s) act s

/-! ## Telegrams known by their form alone -/

/-- R188, R187: a LOAD_TABLE that has no table of the thirteen, or no form of its table. The latch record of
one whose payload is too short to carry a table id holds the table id 0: the model's choice (log 31). -/
def rawLoad (h : Hdr) (body : RawBody) (s : State) : State :=
  if s.mgmt.latch.isSome then respond h Kind.loadTable .latched none .none s
  else
    match body with
    | .unknownTable id => refuseAndLatch h Kind.loadTable (.loadUnknown id) .unknownTable none s
    | .bytes p =>
      refuseAndLatch h Kind.loadTable (.loadUnknown ((p.headD 0).toNat)) .illegalValue none s
    | .unknownCode n => refuseAndLatch h Kind.loadTable (.loadUnknown n) .illegalValue none s
    | .unknownMapOp n => refuseAndLatch h Kind.loadTable (.loadUnknown n) .illegalValue none s

/-- R20: the operation code that a MAP_EDIT known by its form alone carries: the first byte of its payload. It
stays a number, since the spec gives the operations' codes none (log 6). An empty payload carries no code, and the
latch then records no operation: the model's choice (log 31). -/
def rawMapOp : RawBody → Option MapOpCode
  | .unknownMapOp n => some (.other n)
  | .bytes p => p.head?.map fun b => .other b.toNat
  | .unknownTable n => some (.other n)
  | .unknownCode n => some (.other n)

/-- R20, R187: a MAP_EDIT with none of the three operations, or without the form of one. -/
def rawMapEdit (h : Hdr) (body : RawBody) (s : State) : State :=
  if s.mgmt.latch.isSome then respond h Kind.mapEdit .latched none .none s
  else refuseAndLatch h Kind.mapEdit (.map (rawMapOp body)) .illegalValue (some 0) s

/-- R114, R187: a SCHEDULE_EDIT without the form of one. -/
def rawScheduleEdit (h : Hdr) (s : State) : State :=
  if s.mgmt.latch.isSome then respond h Kind.scheduleEdit .latched none .none s
  else refuseAndLatch h Kind.scheduleEdit (.schedule none) .illegalValue none s

/-- R189, R187: a READ_TABLE with none of the thirteen tables, or without the form of one. -/
def rawRead (h : Hdr) (body : RawBody) (s : State) : State :=
  match body with
  | .unknownTable _ => respond h Kind.readTable .unknownTable none .none s
  | _ => respond h Kind.readTable .illegalValue none .none s

/-- R187: a management telegram known by its form alone. A HEARTBEAT has no fields (R194), so that its payload
length says all of its form; the payload of another kind fits no field list (log 32). -/
def rawManage (kind : Nat) (h : Hdr) (body : RawBody) (s : State) : State :=
  if kind = Kind.loadTable then rawLoad h body s
  else if kind = Kind.mapEdit then rawMapEdit h body s
  else if kind = Kind.scheduleEdit then rawScheduleEdit h s
  else if kind = Kind.readTable then rawRead h body s
  else if kind = Kind.heartbeat then takeHeartbeat h (h.length == 0) s
  else respond h kind .illegalValue none .none s

/-- A telegram known by its form alone (log 32). -/
def rawTelegram (c : Instr) (t : RawTel) (s : State) : State :=
  arrive c t.kind t.hdr false (rawManage t.kind t.hdr t.body) (fun _ s => s) s

/-! ## Links (R184, R183) -/

/-- Whether a frame is an own telegram. -/
def Frame.isOwn : Frame → Bool
  | .own _ => true
  | .forwarded _ => false

/-- R184: a port that loses its link goes DOWN: its queue is emptied, and what it held sets the flags. One
that is DOWN stays so. -/
def PortState.down (p : PortState) : PortState :=
  if p.up then
    { link := false, up := false, queue := []
      linkOverrun := p.linkOverrun || p.queue.any fun f => !f.isOwn
      ownDiscarded := p.ownDiscarded || p.queue.any Frame.isOwn }
  else { p with link := false }

/-- R184, R169: a port that gains its link comes UP with an empty queue; one that is UP stays as it is. -/
def PortState.comeUp (p : PortState) : PortState :=
  if p.up then p else { p with link := true, up := true, queue := [] }

/-- R186: in RETAIN a port that gains its link stays DOWN. -/
def PortState.linked (p : PortState) : PortState := { p with link := true }

/-- R183: the port has sent its oldest frame. -/
def PortState.sent (p : PortState) : PortState := { p with queue := p.queue.tail }

/-- PORT_DOWN (R184): the port has no link. -/
def linkDown (p : Port) (s : State) : State :=
  s.setLinks (s.links.setPort p (s.links.port p).down)

/-- PORT_UP (R184): the port has a link; in RETAIN it stays DOWN (R186, log 24). -/
def linkUp (p : Port) (s : State) : State :=
  s.setLinks (s.links.setPort p
    (if s.ret.mode = .retain then (s.links.port p).linked else (s.links.port p).comeUp))

/-! ## The commands -/

/-- FRAME_CHECK_FAILED (R169): discarded, with no event. -/
def execFrameCheckFailed (_p : Port) (s : State) : Host.Outcome State Fault Refusal :=
  powered (fun s => s) s

/-- FORWARDED_FRAME (R169). -/
def execForwardedFrame (p : Port) (dst src : BitVec 48) (type : BitVec 16) (bytes : List Byte)
    (s : State) : Host.Outcome State Fault Refusal :=
  powered (fun s =>
    if received s p then forwardTo (otherPort p) (.forwardedFrame p dst src type bytes) s else s) s

/-- MALFORMED_TELEGRAM (R170). -/
def execMalformedTelegram (t : RawTel) (s : State) : Host.Outcome State Fault Refusal :=
  powered (rawTelegram (.malformedTelegram t) t) s

/-- WRONG_KIND_TELEGRAM (R175). -/
def execWrongKindTelegram (t : RawTel) (s : State) : Host.Outcome State Fault Refusal :=
  powered (rawTelegram (.wrongKindTelegram t) t) s

/-- NOT_FROM_YARD (R176). -/
def execNotFromYard (t : RawTel) (s : State) : Host.Outcome State Fault Refusal :=
  powered (rawTelegram (.notFromYard t) t) s

/-- PASSING_TELEGRAM (R179). -/
def execPassingTelegram (t : RawTel) (s : State) : Host.Outcome State Fault Refusal :=
  powered (rawTelegram (.passingTelegram t) t) s

/-- MANUAL_TABLE_MOVE (R180). -/
def execManualTableMove (h : Hdr) (payload : List Byte) (s : State) :
    Host.Outcome State Fault Refusal :=
  powered (arrive (.manualTableMove h payload) Kind.manualTableMove h true (fun s => s)
    (fun _ s => s)) s

/-- MANUAL_STROKE (R181). -/
def execManualStroke (h : Hdr) (payload : List Byte) (s : State) :
    Host.Outcome State Fault Refusal :=
  powered (arrive (.manualStroke h payload) Kind.manualStroke h true (fun s => s)
    (fun _ s => s)) s

/-- PORT_DOWN (R184). -/
def execPortDown (p : Port) (s : State) : Host.Outcome State Fault Refusal := powered (linkDown p) s

/-- PORT_UP (R184). -/
def execPortUp (p : Port) (s : State) : Host.Outcome State Fault Refusal := powered (linkUp p) s

/-- FRAME_SENT (R183): the oldest frame leaves the queue. -/
def execFrameSent (p : Port) (s : State) : Host.Outcome State Fault Refusal :=
  powered (fun s => s.setLinks (s.links.setPort p (s.links.port p).sent)) s

end Sys2Proof.Machine
end

