-- ==== Sys2Proof/Machine/GridReports.lean ====
section
/-! DEFINITION. The cranes' telegrams: GRID_REQUEST, GRID_RELEASE, DEPOSIT_REPORT, REMOVAL_REPORT, and the
grant timer (chapter 5, sections 5.5 to 5.8; chapter 4, sections 4.5 and 4.8). -/

namespace Sys2Proof.Machine

/-- The crane of a role. -/
def Role.isCrane : Role → Option Crane
  | .crane c => some c
  | _ => none

/-- A telegram of a crane role is handed to its block (R121). -/
def fromCrane (act : Crane → State → State) (r : Role) (s : State) : State :=
  match r with
  | .crane c => finish (act c s)
  | _ => s

/-! ## GRID_REQUEST (R123) -/

/-- R123: the identity is that of another crane's queued request or grant. -/
def State.claimedByOther (s : State) (c : Crane) (id : Identity) : Bool :=
  s.grid.queue.any (fun q => q.crane != c && q.id == id)
    || (match s.grid.grant with
        | none => false
        | some g => g.crane != c && g.id == id)

/-- R123: the first check of a request that fails. -/
def gridRequestCheck (c : Crane) (crane : Nat) (id : Identity) (s : State) : Option RespCode :=
  if crane ≠ Crane.number c ∨ idRulesOk id = false then some .illegalValue
  else if s.ret.mode ≠ .run then some .wrongMode
  else if s.cfg.tableGeometry.isNone then some .notConfigured
  else if s.idHeld id || s.claimedByOther c id then some .duplicate
  else none

/-- Whether a crane holds the grid (R121). -/
def State.holds (s : State) (c : Crane) : Bool :=
  match s.grid.grant with
  | none => false
  | some g => g.crane == c

/-- R123: the request is placed in the queue with the next arrival rank, in place of the crane's own. -/
def queueRequest (c : Crane) (id : Identity) (reference : Nat) (s : State) : State :=
  s.setGrid { s.grid with
    queue := s.grid.queue.filter (fun q => q.crane != c) ++ [⟨c, id, reference, s.grid.nextRank⟩]
    nextRank := s.grid.nextRank + 1 }

/-- R123: QUEUED, where the evaluation has not granted the request. -/
def answerQueued (c : Crane) (id : Identity) (reference : Nat) (s : State) : State :=
  if s.holds c then s
  else answerCrane c (some id) reference (.queued (positionOf c s.gridOrder)) s

/-- R123: a GRID_REQUEST from crane c. -/
def takeGridRequest (h : Hdr) (crane : Nat) (id : Identity) (c : Crane) (s : State) : State :=
  match gridRequestCheck c crane id s with
  | some reason => answerCrane c (some id) h.reference (.refused reason) s
  | none =>
    if s.holds c then answerCrane c (some id) h.reference .granted s
    else answerQueued c id h.reference (gridEval (queueRequest c id h.reference s))

/-! ## GRID_RELEASE (R124) -/

/-- R124: crane c gives up its queued request, where it has one. -/
def releaseQueued (h : Hdr) (c : Crane) (s : State) : State :=
  match s.grid.queue.find? fun q => q.crane == c with
  | none => s
  | some q =>
    markGrid (answerCrane c (some q.id) h.reference .released
      (s.setGrid { s.grid with queue := s.grid.queue.filter fun x => x.crane != c }))

/-- R124: a GRID_RELEASE from crane c. -/
def takeGridRelease (h : Hdr) (crane : Nat) (c : Crane) (s : State) : State :=
  if crane ≠ Crane.number c then answerCrane c none h.reference (.refused .illegalValue) s
  else
    match s.grid.grant with
    | none => releaseQueued h c s
    | some g =>
      if g.crane = c then endGrant (answerCrane c (some g.id) h.reference .released s)
      else releaseQueued h c s

/-! ## DEPOSIT_REPORT (R127, R128) -/

/-- R127: the first check of a deposit that fails. -/
def depositCheck (c : Crane) (id : Identity) (s : State) : Option DepositOutcome :=
  if !s.holds c then some .notGranted
  else if !idRulesOk id then some .illegalId
  else if s.idHeld id then some .duplicateId
  else none

/-- R127: a refused deposit. -/
def refuseDeposit (h : Hdr) (crane : Nat) (id : Identity) (o : DepositOutcome) (c : Crane)
    (s : State) : State :=
  raise (.depositRefused crane id o)
    (sendField (.crane c) h.reference (.depositAck c id o 0 none none) s)

/-- R128: an accepted deposit. -/
def acceptDeposit (h : Hdr) (id : Identity) (width thickness mass : Int) (c : Crane) (s : State) :
    State :=
  let r := s.depositRecord id width thickness mass
  sendField (.crane c) h.reference (.depositAck c id .accepted r.tag (some r.state) r.dest)
    (endGrant (createRecord id width thickness mass s))

/-- R127, R128: an observed DEPOSIT_REPORT from crane c. -/
def takeDeposit (h : Hdr) (crane : Nat) (id : Identity) (width thickness mass : Int) (c : Crane)
    (s : State) : State :=
  match depositCheck c id s with
  | some o => refuseDeposit h crane id o c s
  | none => acceptDeposit h id width thickness mass c s

/-! ## REMOVAL_REPORT (R106, R76) -/

/-- R76: sequencer k takes the removal of its cycle's slab. -/
def takeRemovedSlab (k : Furnace) (s : State) : State :=
  match (s.seq k).state with
  | .positioning => enterHeld k .slabRemoved none (abandonMove k .slabRemoved s)
  | .room => enterHeld k .slabRemoved none s
  | .pick => enterHeld k .slabRemoved none (sendChargerStop k .slabRemoved s)
  | _ => s

/-- R76: the removal of a slab is handed to sequencer k where the slab is its cycle's. -/
def handRemoval (k : Furnace) (tag : Nat) (s : State) : State :=
  if s.positionedFor k tag then takeRemovedSlab k s else s

/-- R106: an observed REMOVAL_REPORT. -/
def takeRemoval (id : Identity) (s : State) : State :=
  match s.findId id with
  | none => s
  | some r =>
    evalPresence (handRemoval .f2 r.tag (handRemoval .f1 r.tag (revertLink r.link (deleteRecord r s))))

/-! ## The grant timer (R130) -/

/-- R130: GRANT_TIMEOUT has an effect while the grant is ACTIVE and its time has run out (log 3). -/
def State.grantRunOut (s : State) : Option Grant :=
  match s.grid.grant with
  | none => none
  | some g =>
    match g.phase with
    | .active left => if left = 0 ∧ s.ret.mode ≠ .retain then some g else none
    | .overdue => none

/-- R130: the expiry of the grant timer. -/
def takeGrantTimeout (g : Grant) (s : State) : State :=
  if s.present .gp then s.setGrid { s.grid with grant := some { g with phase := .overdue } }
  else withdrawGrant g s

/-! ## The commands -/

/-- GRID_REQUEST (R123). -/
def execGridRequest (h : Hdr) (crane : Nat) (id : Identity) (s : State) :
    Host.Outcome State Fault Refusal :=
  powered (field (.gridRequest h crane id) Kind.gridRequest h true
    (fromCrane (takeGridRequest h crane id))) s

/-- GRID_RELEASE (R124). -/
def execGridRelease (h : Hdr) (crane : Nat) (s : State) : Host.Outcome State Fault Refusal :=
  powered (field (.gridRelease h crane) Kind.gridRelease h true
    (fromCrane (takeGridRelease h crane))) s

/-- DEPOSIT_REPORT (R127). -/
def execDepositReport (h : Hdr) (crane : Nat) (id : Identity) (width thickness mass : Int)
    (s : State) : Host.Outcome State Fault Refusal :=
  powered (field (.depositReport h crane id width thickness mass) Kind.depositReport h true
    (fromCrane (takeDeposit h crane id width thickness mass))) s

/-- REMOVAL_REPORT (R106). -/
def execRemovalReport (h : Hdr) (crane : Nat) (id : Identity) (s : State) :
    Host.Outcome State Fault Refusal :=
  powered (field (.removalReport h crane id) Kind.removalReport h true
    (fromCrane (fun _ => takeRemoval id))) s

/-- GRANT_TIMEOUT (R130). -/
def execGrantTimeout (elapsed : Nat) (s : State) : Host.Outcome State Fault Refusal :=
  powered (fun s =>
    let t := elapse elapsed s
    match t.grantRunOut with
    | none => t
    | some g => finish (takeGrantTimeout g t)) s

end Sys2Proof.Machine
end

