-- ==== Sys2Proof/Machine/DriveReports.lean ====
section
/-! DEFINITION. The drives' telegrams: TABLE_REPORT, STROKE_REPORT, DISCHARGE_REPORT and the six phases of
CHARGER_REPORT; and the expiries of the sequencers' timers (chapters 1, 3 and 4). -/

namespace Sys2Proof.Machine

/-! ## Expected reports (R68) -/

/-- R68: the phases a state expects. -/
def phaseExpected : SeqState → ChargerPhase → Bool
  | .pick, .lifted => true
  | .pick, .refused => true
  | .pick, .fault => true
  | .carry, .atDepth => true
  | .carry, .fault => true
  | .lower, .lowered => true
  | .lower, .fault => true
  | .retract, .retracted => true
  | .retract, .fault => true
  | _, _ => false

/-- R68: the tag is the cycle's, or 0 with FAULT. -/
def tagExpected (cycle : Option CycleRecord) (phase : ChargerPhase) (tag : Nat) : Bool :=
  match cycle with
  | none => false
  | some c => c.tag == tag || (phase == .fault && tag == 0)

/-- R68: a report is expected. -/
def reportExpected (s : State) (k : Furnace) (phase : ChargerPhase) (tag : Nat) : Bool :=
  phaseExpected (s.seq k).state phase && tagExpected (s.cycle k) phase tag

/-- R68: a charger report from a charger role is handed to its sequencer. -/
def fromCharger (phase : ChargerPhase) (tag : Nat) (act : Furnace → State → State) (r : Role)
    (s : State) : State :=
  match r with
  | .charger k =>
    if reportExpected s k phase tag then finish (act k s)
    else raise (.unexpectedCharger k (s.seq k).state phase tag) s
  | _ => s

/-! ## The phases (R66 to R71) -/

/-- R50, R67: the in-flight record made from a table record. -/
def makeInFlight (r : TableRecord) (c : CycleRecord) : InFlight :=
  { record := r, lane := c.lane, target := c.target, certainty := .normal }

/-- The in-flight record of sequencer k is made or deleted. -/
def putInFlight (k : Furnace) (f : Option InFlight) (s : State) : State :=
  s.setSeq k { s.seq k with inflight := f }

/-- R67: LIFTED. -/
def takeLifted (k : Furnace) (s : State) : State :=
  match s.cycle k with
  | none => s
  | some c =>
    match s.findTag c.tag with
    | none => s
    | some r =>
      let s := releaseHold k (deleteRecord r (putInFlight k (some (makeInFlight r c)) s))
      evalPresence (startTimer k .carry (putSeqState k .carry .none s))

/-- R69: AT_DEPTH. -/
def takeAtDepth (k : Furnace) (s : State) : State :=
  startTimer k .lower (putSeqState k .lower .none s)

/-- R70: the measured landing front. -/
def State.landingFront (s : State) (k : Furnace) : Int :=
  s.depth k + (match s.geometry k with | none => 0 | some g => g.armOffset)

/-- R70: the landing has been taken: the in-flight record is deleted, RETRACT is entered. -/
def enterRetract (k : Furnace) (s : State) : State :=
  startTimer k .retract (putSeqState k .retract .none (putInFlight k none s))

/-- R70: LOWERED. -/
def takeLowered (k : Furnace) (s : State) : State :=
  match s.cycle k, (s.seq k).inflight with
  | some c, some f =>
    let front := s.landingFront k
    let t := updateCycle k (fun c => { c with measured := some front }) s
    match landSlab k f c front t with
    | none => enterHeld k .mapFullLanding none t
    | some u => enterRetract k u
  | _, _ => s

/-- R71, R75, R81: carriage Ck's depth is not greater than the retract clear depth. -/
def State.armsClear (s : State) (k : Furnace) : Bool :=
  match s.geometry k with
  | none => false
  | some g => decide (s.depth k ≤ g.retractClear)

/-- R71: RETRACTED. -/
def takeRetracted (k : Furnace) (s : State) : State :=
  if s.armsClear k then enterIdle k s else enterHeld k .retractPosition none s

/-! ## The beam drives and discharge controllers (R12, R16) -/

/-- A report of a beam drive role. -/
def fromBeam (act : Furnace → State → State) (r : Role) (s : State) : State :=
  match r with
  | .beam k => finish (act k s)
  | _ => s

/-- A report of a discharge controller role. -/
def fromDischarge (act : Furnace → State → State) (r : Role) (s : State) : State :=
  match r with
  | .discharge k => finish (act k s)
  | _ => s

/-- R12 to R15, R63: an observed STROKE_REPORT of furnace k. -/
def takeStrokeReport (performed : Int) (k : Furnace) (s : State) : State :=
  strokeHandedOn k (lengthTaken performed) (mapStroke k performed s)

/-- R16 to R19, R64: an observed DISCHARGE_REPORT of furnace k. -/
def takeDischargeReport (count : Nat) (id1 id2 : Identity) (k : Furnace) (s : State) : State :=
  dischargeHandedOn k (mapDischarge k count id1 id2 s)

/-- R98: a TABLE_REPORT from the table drive; its outcome code has been checked (R171). -/
def fromTableDrive (number : Nat) (outcome : Code MoveOutcome) (r : Role) (s : State) : State :=
  match r, outcome with
  | .tableDrive, .val o => finish (takeTableReport number o s)
  | _, _ => s

/-! ## Timers (R53, R62, R64, R66, R69, R71) -/

/-- R53: an expiry has an effect when its timer runs and has run out (log 3). -/
def timerOut (k : Furnace) (which : TimeoutKind) (s : State) : Bool :=
  s.ret.mode != .retain && ((s.cycle k).bind (·.timer)) == some ⟨which, 0⟩

/-- An expiry of a state timer of sequencer k. -/
def expire (k : Furnace) (which : TimeoutKind) (elapsed : Nat) (act : State → State) (s : State) :
    State :=
  let t := elapse elapsed s
  if timerOut k which t then finish (act t) else t

/-- R62: the positioning timer. -/
def takePositioningTimeout (k : Furnace) (s : State) : State :=
  enterHeld k (.timeout .positioning) none (abandonMove k .timeout s)

/-- R64: the stroke timer. -/
def takeStrokeTimeout (k : Furnace) (s : State) : State := enterHeld k (.timeout .stroke) none s

/-- R66, R69, R71: a timer of PICK, CARRY, LOWER or RETRACT. -/
def takeChargeTimeout (k : Furnace) (which : TimeoutKind) (s : State) : State :=
  enterHeld k (.timeout which) none (sendChargerStop k .timeout s)

/-! ## The commands -/

/-- TABLE_REPORT (R98). -/
def execTableReport (h : Hdr) (number : Nat) (outcome : Code MoveOutcome) (fault : Nat) (s : State) :
    Host.Outcome State Fault Refusal :=
  powered (field (.tableReport h number outcome fault) Kind.tableReport h (Code.good outcome)
    (fromTableDrive number outcome)) s

/-- STROKE_REPORT (R12). A report whose length is missing (R171) has not the form of its kind and fails in
format: the model's choice (log 38). -/
def execStrokeReport (h : Hdr) (performed : Int) (s : State) : Host.Outcome State Fault Refusal :=
  powered (field (.strokeReport h performed) Kind.strokeReport h (figureGiven performed)
    (fromBeam (takeStrokeReport performed))) s

/-- DISCHARGE_REPORT (R16). -/
def execDischargeReport (h : Hdr) (count : Nat) (id1 id2 : Identity) (s : State) :
    Host.Outcome State Fault Refusal :=
  powered (field (.dischargeReport h count id1 id2) Kind.dischargeReport h true
    (fromDischarge (takeDischargeReport count id1 id2))) s

/-- LIFTED (R67). -/
def execLifted (h : Hdr) (tag fault : Nat) (s : State) : Host.Outcome State Fault Refusal :=
  powered (field (.lifted h tag fault) Kind.chargerReport h true
    (fromCharger .lifted tag takeLifted)) s

/-- AT_DEPTH (R69). -/
def execAtDepth (h : Hdr) (tag fault : Nat) (s : State) : Host.Outcome State Fault Refusal :=
  powered (field (.atDepth h tag fault) Kind.chargerReport h true
    (fromCharger .atDepth tag takeAtDepth)) s

/-- LOWERED (R70). -/
def execLowered (h : Hdr) (tag fault : Nat) (s : State) : Host.Outcome State Fault Refusal :=
  powered (field (.lowered h tag fault) Kind.chargerReport h true
    (fromCharger .lowered tag takeLowered)) s

/-- RETRACTED (R71). -/
def execRetracted (h : Hdr) (tag fault : Nat) (s : State) : Host.Outcome State Fault Refusal :=
  powered (field (.retracted h tag fault) Kind.chargerReport h true
    (fromCharger .retracted tag takeRetracted)) s

/-- CHARGER_REPORT_REFUSED (R66). -/
def execChargerReportRefused (h : Hdr) (tag fault : Nat) (s : State) :
    Host.Outcome State Fault Refusal :=
  powered (field (.chargerReportRefused h tag fault) Kind.chargerReport h true
    (fromCharger .refused tag (fun k => enterHeld k .chargerRefused (some fault)))) s

/-- CHARGER_REPORT_FAULT (R66, R69, R71). -/
def execChargerReportFault (h : Hdr) (tag fault : Nat) (s : State) :
    Host.Outcome State Fault Refusal :=
  powered (field (.chargerReportFault h tag fault) Kind.chargerReport h true
    (fromCharger .fault tag (fun k => enterHeld k .chargerFault (some fault)))) s

/-- POSITIONING_TIMEOUT (R62). -/
def execPositioningTimeout (k : Furnace) (elapsed : Nat) (s : State) :
    Host.Outcome State Fault Refusal :=
  powered (expire k .positioning elapsed (takePositioningTimeout k)) s

/-- STROKE_TIMEOUT (R64). -/
def execStrokeTimeout (k : Furnace) (elapsed : Nat) (s : State) :
    Host.Outcome State Fault Refusal :=
  powered (expire k .stroke elapsed (takeStrokeTimeout k)) s

/-- PICK_TIMEOUT (R66). -/
def execPickTimeout (k : Furnace) (elapsed : Nat) (s : State) : Host.Outcome State Fault Refusal :=
  powered (expire k .pick elapsed (takeChargeTimeout k .pick)) s

/-- CARRY_TIMEOUT (R69). -/
def execCarryTimeout (k : Furnace) (elapsed : Nat) (s : State) : Host.Outcome State Fault Refusal :=
  powered (expire k .carry elapsed (takeChargeTimeout k .carry)) s

/-- LOWER_TIMEOUT (R69). -/
def execLowerTimeout (k : Furnace) (elapsed : Nat) (s : State) : Host.Outcome State Fault Refusal :=
  powered (expire k .lower elapsed (takeChargeTimeout k .lower)) s

/-- RETRACT_TIMEOUT (R71). -/
def execRetractTimeout (k : Furnace) (elapsed : Nat) (s : State) :
    Host.Outcome State Fault Refusal :=
  powered (expire k .retract elapsed (takeChargeTimeout k .retract)) s

end Sys2Proof.Machine
end

