-- ==== Sys2Proof/Machine/Loads.lean ====
section
/-! DEFINITION. LOAD_TABLE for each of the thirteen tables (R188 and the owning rules): the checks in their
order, and the table as an accepted load leaves it. -/

namespace Sys2Proof.Machine

/-- What the owning rule answers: the code and entry index of the first failing check, or the fields of
the RESPONSE and the effect. -/
abbrev LoadResult := Except (RespCode × Nat) (RespData × (State → State))

/-- R191: the table that the latch records of a LOAD_TABLE that fails in form; an empty payload carries no
table id, and the table id 0 then stands for it: the model's choice (log 31). -/
def sentTable (h : Hdr) (t : TableId) : LatchItem := if h.length = 0 then .loadUnknown 0 else .load t

/-- R188: a LOAD_TABLE of a table with a number of entries, whose payload fits its kind or not; `own` is the
owning rule's checks. -/
def takeLoad (h : Hdr) (t : TableId) (count : Nat) (own : State → LoadResult) (fits : Bool)
    (s : State) : State :=
  if s.mgmt.latch.isSome then respond h Kind.loadTable .latched none .none s
  else if !fits then refuseAndLatch h Kind.loadTable (sentTable h t) .illegalValue none s
  else if count = 0 ∨ 16 < count then
    refuseAndLatch h Kind.loadTable (.load t) .outOfRange (some 0) s
  else
    match own s with
    | .error (c, i) => refuseAndLatch h Kind.loadTable (.load t) c (some i) s
    | .ok (d, f) => f (respond h Kind.loadTable .ok none d s)

/-- The selector of a furnace table, and NOT_WHILE_ARMED (R28, R32, R54, R164, R165). The entry index is 0, as
R28, R54, R164 and R165 have it; for GAP_RULES, where R32 names none, it is the model's choice (log 45). -/
def forFurnace (sel : Code Furnace) (s : State) (f : Furnace → LoadResult) : LoadResult :=
  match sel with
  | .bad _ => .error (.illegalValue, 0)
  | .val k => if s.armed k then .error (.notWhileArmed, 0) else f k

/-- The position of the first entry that fails a test; `i` is the index of the first entry. -/
def firstFail {α : Type} (ok : Nat → α → Bool) : Nat → List α → Option Nat
  | _, [] => none
  | i, x :: xs => if ok i x then firstFail ok (i + 1) xs else some i

/-- A check of every entry: the code with the index of the first that fails, or on. -/
def checkEach {α : Type} (ok : Nat → α → Bool) (code : RespCode) (first : Nat) (xs : List α)
    (next : LoadResult) : LoadResult :=
  match firstFail ok first xs with
  | some i => .error (code, i)
  | none => next

/-- R171: the figures of every entry are there, before the ranges are judged (log 38). -/
def figuresGiven (first : Nat) (xs : List Int) (next : LoadResult) : LoadResult :=
  checkEach (fun _ x => figureGiven x) .illegalValue first xs next

/-- The entries from an index are replaced. -/
def writeAt {α : Type} (first : Nat) (xs l : List α) : List α :=
  l.take first ++ xs ++ l.drop (first + xs.length)

/-! ## FURNACE_GEOMETRY (R28) -/

/-- R171: an entry's fields as they are read. -/
def GeometryEntry.asRead (e : GeometryEntry) : GeometryEntry :=
  { lEff := figureRead e.lEff, zMin := figureRead e.zMin, zMax := figureRead e.zMax
    dDoor := figureRead e.dDoor, sNom := figureRead e.sNom, basis := codeRead e.basis
    lPair := figureRead e.lPair, pairTolerance := figureRead e.pairTolerance
    landingTolerance := figureRead e.landingTolerance, armOffset := figureRead e.armOffset
    retractClear := figureRead e.retractClear, policy := codeRead e.policy }

/-- R28, check 4: a field that must be present is missing, or a code names no value. -/
def GeometryEntry.complete (e : GeometryEntry) : Bool :=
  e.lEff.isSome && e.zMin.isSome && e.zMax.isSome && e.dDoor.isSome && e.sNom.isSome && e.lPair.isSome
    && e.pairTolerance.isSome && e.landingTolerance.isSome && e.armOffset.isSome
    && e.retractClear.isSome && goodWhereGiven e.basis && goodWhereGiven e.policy

/-- R28: the record a complete entry gives; codes left out keep their value, or take the default. -/
def GeometryEntry.record (old : Option FurnaceGeometry) (e : GeometryEntry) : FurnaceGeometry :=
  { lEff := e.lEff.getD 0, zMin := e.zMin.getD 0, zMax := e.zMax.getD 0, dDoor := e.dDoor.getD 0
    sNom := e.sNom.getD 0
    basis := (givenCode e.basis).getD ((old.map (·.basis)).getD .nominal)
    lPair := e.lPair.getD 0, pairTolerance := e.pairTolerance.getD 0
    landingTolerance := e.landingTolerance.getD 0, armOffset := e.armOffset.getD 0
    retractClear := e.retractClear.getD 0
    policy := (givenCode e.policy).getD ((old.map (·.policy)).getD .trap) }

/-- R27: the ranges of the fields. -/
def FurnaceGeometry.inRanges (g : FurnaceGeometry) : Bool :=
  inRange 10000 60000 g.lEff && decide (0 ≤ g.zMin) && decide (g.zMax ≤ 10000)
    && inRange 0 1000 g.dDoor && inRange 200 800 g.sNom
    && (g.lPair == 0 || inRange 1500 7000 g.lPair) && inRange 0 400 g.pairTolerance
    && inRange 10 200 g.landingTolerance && inRange (-1000) 1000 g.armOffset
    && inRange (-6000) 0 g.retractClear

/-- R27: the two relations. -/
def FurnaceGeometry.related (g : FurnaceGeometry) : Bool :=
  decide (g.zMin < g.zMax) && decide (g.zMax < g.lEff)

def putGeometry (k : Furnace) (g : FurnaceGeometry) (s : State) : State :=
  s.setCfg { s.cfg with geometry := s.cfg.geometry.set k (some g) }

/-- R28: the checks. -/
def ownFurnaceGeometry (sel : Code Furnace) (first : Nat) (entries : List GeometryEntry)
    (s : State) : LoadResult :=
  forFurnace sel s fun k =>
    match first, entries with
    | 0, [sent] =>
      let e := GeometryEntry.asRead sent
      let g := GeometryEntry.record (s.geometry k) e
      if !GeometryEntry.complete e then .error (.illegalValue, 0)
      else if !g.inRanges then .error (.outOfRange, 0)
      else if !g.related then .error (.illegalValue, 0)
      else .ok (.none, putGeometry k g)
    | _, _ => .error (.outOfRange, 0)

/-! ## GAP_RULES (R32) -/

def putGaps (k : Furnace) (l : List Int) (s : State) : State :=
  s.setCfg { s.cfg with gaps := s.cfg.gaps.set k l }

/-- R32: the checks. -/
def ownGapRules (sel : Code Furnace) (first : Nat) (entries : List Int) (s : State) : LoadResult :=
  forFurnace sel s fun k =>
    if 8 < first + entries.length then .error (.outOfRange, first)
    else figuresGiven first entries (checkEach (fun _ x => inRange 0 2000 x) .outOfRange first entries
      (.ok (.none, putGaps k (writeAt first entries (s.cfg.gaps.get k)))))

/-! ## THICKNESS_CLASSES (R31) -/

/-- The boundaries as a list, and back. -/
def Bounds.toList (b : Bounds) : List Int := [b.b1, b.b2, b.b3]

def Bounds.ofList (l : List Int) : Bounds := ⟨l.getD 0 0, l.getD 1 0, l.getD 2 0⟩

def putBounds (b : Bounds) (s : State) : State := s.setCfg { s.cfg with bounds := b }

/-- R31: the checks. -/
def ownThicknessClasses (first : Nat) (entries : List Int) (s : State) : LoadResult :=
  if 3 < first + entries.length then .error (.outOfRange, first)
  else
    let b := Bounds.ofList (writeAt first entries s.cfg.bounds.toList)
    figuresGiven first entries (checkEach (fun _ x => inRange 100 500 x) .outOfRange first entries
      (if b.b2 ≤ b.b1 then .error (.illegalValue, 1)
       else if b.b3 ≤ b.b2 then .error (.illegalValue, 2)
       else .ok (.none, putBounds b)))

/-! ## CHARGER_TIMING (R54) -/

/-- R53: the range of the timeout at an index. -/
def timeoutRange : Nat → Int × Int
  | 0 => (5, 120)
  | 1 => (10, 120)
  | 2 => (5, 60)
  | 3 => (5, 120)
  | 4 => (5, 60)
  | _ => (5, 120)

def putTiming (k : Furnace) (l : List Nat) (s : State) : State :=
  s.setCfg { s.cfg with timing := s.cfg.timing.set k l }

/-- R54: the checks. -/
def ownChargerTiming (sel : Code Furnace) (first : Nat) (entries : List Int) (s : State) :
    LoadResult :=
  forFurnace sel s fun k =>
    if 6 < first + entries.length then .error (.outOfRange, first)
    else figuresGiven first entries
      (checkEach (fun i x => inRange (timeoutRange i).1 (timeoutRange i).2 x) .outOfRange first entries
        (.ok (.none, putTiming k (writeAt first (entries.map Int.toNat) (s.cfg.timing.get k)))))

/-! ## TABLE_GEOMETRY (R86) -/

/-- R171: an entry's fields as they are read. -/
def TableGeometryEntry.asRead (e : TableGeometryEntry) : TableGeometryEntry :=
  { xTS := figureRead e.xTS, xGS := figureRead e.xGS, xG := figureRead e.xG, xGE := figureRead e.xGE
    xMS := figureRead e.xMS, xD1 := figureRead e.xD1, xD2 := figureRead e.xD2, xTE := figureRead e.xTE
    x1A := figureRead e.x1A, x1C := figureRead e.x1C, x1B := figureRead e.x1B
    x2A := figureRead e.x2A, x2C := figureRead e.x2C, x2B := figureRead e.x2B
    trackingTolerance := figureRead e.trackingTolerance
    positioningTolerance := figureRead e.positioningTolerance
    lengthTolerance := figureRead e.lengthTolerance }

/-- The fourteen position fields of an entry. -/
def TableGeometryEntry.positions (e : TableGeometryEntry) : List (Option Int) :=
  [e.xTS, e.xGS, e.xG, e.xGE, e.xMS, e.xD1, e.xD2, e.xTE, e.x1A, e.x1C, e.x1B, e.x2A, e.x2C, e.x2B]

/-- R86: the record an entry with every position gives; a tolerance left out keeps its value, or takes
the default. -/
def TableGeometryEntry.record (old : Option TableGeometry) (e : TableGeometryEntry) : TableGeometry :=
  { xTS := e.xTS.getD 0, xGS := e.xGS.getD 0, xG := e.xG.getD 0, xGE := e.xGE.getD 0
    xMS := e.xMS.getD 0, xD1 := e.xD1.getD 0, xD2 := e.xD2.getD 0, xTE := e.xTE.getD 0
    x1A := e.x1A.getD 0, x1C := e.x1C.getD 0, x1B := e.x1B.getD 0
    x2A := e.x2A.getD 0, x2C := e.x2C.getD 0, x2B := e.x2B.getD 0
    trackingTolerance := e.trackingTolerance.getD ((old.map (·.trackingTolerance)).getD 150)
    positioningTolerance := e.positioningTolerance.getD ((old.map (·.positioningTolerance)).getD 40)
    lengthTolerance := e.lengthTolerance.getD ((old.map (·.lengthTolerance)).getD 60) }

/-- The charge positions. -/
def TableGeometry.charges (g : TableGeometry) : List Int := [g.x1A, g.x1C, g.x1B, g.x2A, g.x2C, g.x2B]

/-- R86: the ranges. -/
def TableGeometry.inRanges (g : TableGeometry) : Bool :=
  ([g.xTS, g.xGS, g.xG, g.xGE, g.xMS, g.xD1, g.xD2, g.xTE] ++ g.charges).all (inRange 0 200000)
    && inRange 20 500 g.trackingTolerance && inRange 10 200 g.positioningTolerance
    && inRange 10 300 g.lengthTolerance

/-- R86, check 5. -/
def TableGeometry.ordered (g : TableGeometry) : Bool :=
  decide (g.xTS < g.xGS) && decide (g.xGS < g.xG) && decide (g.xG ≤ g.xGE) && decide (g.xGE < g.xMS)
    && decide (g.xMS < g.xD1) && decide (g.xD1 < g.xD2) && decide (g.xD2 < g.xTE)
    && g.charges.all fun x => decide (g.xMS < x) && decide (x < g.xTE)

def putTableGeometry (g : TableGeometry) (s : State) : State :=
  s.setCfg { s.cfg with tableGeometry := some g }

/-- R86, R145, R148: the table list holds a record, or the table arbiter is MOVING. -/
def State.tableBusyForLoad (s : State) : Bool := !s.tracker.table.isEmpty || s.arb.motion.moving

/-- R86: the checks. -/
def ownTableGeometry (first : Nat) (entries : List TableGeometryEntry) (s : State) : LoadResult :=
  if s.tableBusyForLoad then .error (.busy, 0)
  else
    match first, entries with
    | 0, [sent] =>
      let e := TableGeometryEntry.asRead sent
      let g := TableGeometryEntry.record s.cfg.tableGeometry e
      if !(TableGeometryEntry.positions e).all Option.isSome then .error (.illegalValue, 0)
      else if !g.inRanges then .error (.outOfRange, 0)
      else if !g.ordered then .error (.illegalValue, 0)
      else .ok (.none, putTableGeometry g)
    | _, _ => .error (.outOfRange, 0)

/-! ## COUNTER_SETUP (R145) -/

/-- R171: an entry's fields as they are read. -/
def CounterSetupEntry.asRead (e : CounterSetupEntry) : CounterSetupEntry :=
  { multiplier := codeRead e.multiplier, invert := codeRead e.invert, scale := figureRead e.scale
    gatePeriod := figureRead e.gatePeriod, markerUse := codeRead e.markerUse
    edgeRising := codeRead e.edgeRising, homeDirection := codeRead e.homeDirection
    homePosition := figureRead e.homePosition, homeTolerance := figureRead e.homeTolerance }

/-- R145, check 5. -/
def CounterSetupEntry.codesOk (c : CounterId) (e : CounterSetupEntry) : Bool :=
  goodWhereGiven e.multiplier && goodWhereGiven e.invert && goodWhereGiven e.markerUse
    && goodWhereGiven e.edgeRising && goodWhereGiven e.homeDirection
    && (match e.gatePeriod with
        | none => true
        | some p => p == 10 || p == 20 || p == 50 || p == 100)
    && !(c == .t && givenCode e.markerUse == some .home)

/-- R145, check 6. -/
def CounterSetupEntry.rangesOk (e : CounterSetupEntry) : Bool :=
  rangeWhereGiven 1 2000 e.scale && rangeWhereGiven (-10000) 10000 e.homePosition
    && rangeWhereGiven 1 200 e.homeTolerance

/-- R145: the setup with the fields an entry carries. -/
def CounterSetupEntry.applied (x : CounterSetup) (e : CounterSetupEntry) : CounterSetup :=
  { multiplier := (givenCode e.multiplier).getD x.multiplier
    invert := (givenCode e.invert).getD x.invert
    scale := e.scale.getD x.scale
    gatePeriod := (e.gatePeriod.map Int.toNat).getD x.gatePeriod
    markerUse := (givenCode e.markerUse).getD x.markerUse
    edgeRising := (givenCode e.edgeRising).getD x.edgeRising
    homeDirection := (givenCode e.homeDirection).getD x.homeDirection
    homePosition := e.homePosition.getD x.homePosition
    homeTolerance := e.homeTolerance.getD x.homeTolerance }

/-- R143, R145: the counter after a setup load: its gate starts anew, a carriage counter is UNHOMED. -/
def Counter.reloaded (c : CounterId) (period : Nat) (x : Counter) : Counter :=
  if c = .t then { x with gateStart := x.acc, gateLeft := period }
  else { x with gateStart := x.acc, gateLeft := period, homed := false, lastHomeDev := none }

def putCounterSetup (c : CounterId) (x : CounterSetup) (s : State) : State :=
  let s := s.setCfg { s.cfg with counterSetup := s.cfg.counterSetup.set c x }
  s.setCounter c ((s.counter c).reloaded c x.gatePeriod)

/-- R145, checks 2 and 3. -/
def counterBar (c : CounterId) (s : State) : Option RespCode :=
  match furnaceOf c with
  | some k => if s.armed k then some .notWhileArmed else none
  | none => if s.tableBusyForLoad then some .busy else none

/-- R145: the checks. -/
def ownCounterSetup (sel : Code CounterId) (first : Nat) (entries : List CounterSetupEntry)
    (s : State) : LoadResult :=
  match sel with
  | .bad _ => .error (.illegalValue, 0)
  | .val c =>
    match counterBar c s with
    | some code => .error (code, 0)
    | none =>
      match first, entries with
      | 0, [sent] =>
        let e := CounterSetupEntry.asRead sent
        if !CounterSetupEntry.codesOk c e then .error (.illegalValue, 0)
        else if !CounterSetupEntry.rangesOk e then .error (.outOfRange, 0)
        else .ok (.none, putCounterSetup c (CounterSetupEntry.applied (s.cfg.counterSetup.get c) e))
      | _, _ => .error (.outOfRange, 0)

/-! ## SENSOR_SETUP (R148) -/

/-- R148: the input at an index. -/
def sensorIndex : Nat → Option SensorId
  | 0 => some .ms
  | 1 => some .gp
  | 2 => some .d1
  | 3 => some .d2
  | 4 => some .te
  | _ => none

/-- R171: an entry's fields as they are read. -/
def SensorSetupEntry.asRead (e : SensorSetupEntry) : SensorSetupEntry :=
  { filterTime := figureRead e.filterTime, invert := codeRead e.invert }

/-- R148: the setup with the fields an entry carries. -/
def SensorSetupEntry.applied (x : SensorSetup) (e : SensorSetupEntry) : SensorSetup :=
  { filterTime := (e.filterTime.map Int.toNat).getD x.filterTime
    invert := (givenCode e.invert).getD x.invert }

/-- R148: the input takes its setup, its pending change is abandoned and its taken level is read again. -/
def putSensorSetup (i : SensorId) (x : SensorSetup) (s : State) : State :=
  let s := s.setCfg { s.cfg with sensorSetup := s.cfg.sensorSetup.set i x }
  s.setSensor i { s.sensor i with pending := none, taken := rawLevel x (s.sensor i) }

/-- R148: the entries of a load, the first at index `i`. -/
def putSensorSetups : Nat → List SensorSetupEntry → State → State
  | _, [], s => s
  | i, e :: es, s =>
    match sensorIndex i with
    | none => s
    | some id => putSensorSetups (i + 1) es (putSensorSetup id (SensorSetupEntry.applied (s.cfg.sensorSetup.get id) e) s)

/-- R148: the checks; the grid watch is evaluated again and GP's level may have changed (R95, R125). -/
def ownSensorSetup (first : Nat) (sent : List SensorSetupEntry) (s : State) : LoadResult :=
  let entries := sent.map SensorSetupEntry.asRead
  if s.tableBusyForLoad || s.grid.grant.isSome then .error (.busy, first)
  else if 5 < first + entries.length then .error (.outOfRange, first)
  else
    checkEach (fun _ e => rangeWhereGiven 0 50 e.filterTime) .outOfRange first entries
      (checkEach (fun _ e => goodWhereGiven e.invert) .illegalValue first entries
        (.ok (.none, fun s => finish (markList (evalPresence (putSensorSetups first entries s))))))

/-! ## WINDOW_POOL (R162) -/

/-- R162, check 3: the codes of an entry, and the edges that R171 counts as missing (log 38); an EMPTY entry
stands in no free load. -/
def PoolLoadEntry.codesOk (free : Bool) : PoolLoadEntry → Bool
  | .empty => !free
  | .badKind _ => false
  | .window basis on off speed mask lead =>
    Code.good basis && Code.good speed && Code.good lead && decide (mask ≠ 0)
      && decide (mask.toNat < 128) && figureGiven on && figureGiven off

/-- R155: the window of an entry whose codes are good and whose edges are there. -/
def PoolLoadEntry.window? : PoolLoadEntry → Option Window
  | .window (.val basis) on off (.val speed) mask (.val lead) =>
    if figureGiven on && figureGiven off then some { basis, on, off, speed, mask, lead } else none
  | _ => none

/-- R155: the edges lie in the range of their basis. -/
def Window.edgesInRange (w : Window) : Bool :=
  match w.basis with
  | .fixed => inRange (-20000) 20000 w.on && inRange (-20000) 20000 w.off
  | .target => inRange (-10000) 10000 w.on && inRange (-10000) 10000 w.off

/-- R162, check 4. -/
def edgeCheck : Option Window → Option RespCode
  | none => none
  | some w =>
    if !w.edgesInRange then some .outOfRange else if w.off ≤ w.on then some .illegalValue else none

/-- The empty pool indices in order; `i` is the index of the first entry. -/
def emptyIndices : Nat → List (Option Window) → List Nat
  | _, [] => []
  | i, none :: l => i :: emptyIndices (i + 1) l
  | i, some _ :: l => emptyIndices (i + 1) l

/-- R162: the pool index each entry is written at; none where no empty index is left. -/
def poolPlaces (free : Bool) (first count : Nat) (pool : List (Option Window)) : List (Option Nat) :=
  if free then (List.range count).map fun i => (emptyIndices 0 pool)[i]?
  else (List.range count).map fun i => some (first + i)

/-- One entry is written. -/
def writePool (place : Option Nat) (e : PoolLoadEntry) (pool : List (Option Window)) :
    List (Option Window) :=
  match place with
  | none => pool
  | some i => pool.set i (PoolLoadEntry.window? e)

/-- R162: the pool as the whole load would leave it. -/
def poolAfter : List (Option Nat) → List PoolLoadEntry → List (Option Window) → List (Option Window)
  | p :: ps, e :: es, pool => poolAfter ps es (writePool p e pool)
  | _, _, pool => pool

/-- R162, check 6: a set of a furnace whose sequencer is not OFFLINE references an index. -/
def armedReference (s : State) (i : Nat) : Bool :=
  (s.armed .f1 && references s.cfg.sets.f1 i) || (s.armed .f2 && references s.cfg.sets.f2 i)

/-- R162, check 7: a set of an OFFLINE furnace references an index. -/
def offlineReference (s : State) (i : Nat) : Bool :=
  (!s.armed .f1 && references s.cfg.sets.f1 i) || (!s.armed .f2 && references s.cfg.sets.f2 i)

/-- R162, checks 3 to 8 of one entry; `pool` is the pool as the whole load would leave it. -/
def poolEntryCheck (s : State) (free : Bool) (pool : List (Option Window)) (place : Option Nat)
    (e : PoolLoadEntry) : Option RespCode :=
  if !PoolLoadEntry.codesOk free e then some .illegalValue
  else
    match edgeCheck (PoolLoadEntry.window? e) with
    | some c => some c
    | none =>
      match place with
      | none => some .poolFull
      | some i =>
        if !free && armedReference s i then some .notWhileArmed
        else if (PoolLoadEntry.window? e).isNone && offlineReference s i then some .illegalValue
        else if (PoolLoadEntry.window? e).isSome
            && (indexOverlaps pool s.cfg.sets.f1 i || indexOverlaps pool s.cfg.sets.f2 i) then
          some .overlap
        else none

/-- R162: the first entry that fails, with its code and position; `i` is the position of the first. -/
def poolCheck (s : State) (free : Bool) (pool : List (Option Window)) :
    Nat → List (Option Nat) → List PoolLoadEntry → Option (RespCode × Nat)
  | i, p :: ps, e :: es =>
    match poolEntryCheck s free pool p e with
    | some c => some (c, i)
    | none => poolCheck s free pool (i + 1) ps es
  | _, _, _ => none

def putPool (pool : List (Option Window)) (s : State) : State :=
  refreshLines (s.setCfg { s.cfg with pool })

/-- R162: the checks. -/
def ownWindowPool (first : Nat) (entries : List PoolLoadEntry) (s : State) : LoadResult :=
  let free := first == 255
  if !free && decide (95 < first) then .error (.outOfRange, 0)
  else if !free && decide (96 < first + entries.length) then .error (.outOfRange, first)
  else
    let places := poolPlaces free first entries.length s.cfg.pool
    let pool := poolAfter places entries s.cfg.pool
    match poolCheck s free pool 0 places entries with
    | some (c, i) => .error (c, if free then i else first + i)
    | none => .ok (.poolIndices (places.filterMap id), putPool pool)

/-! ## WINDOW_SETS (R164) -/

def putSets (k : Furnace) (l : List (List Nat)) (s : State) : State :=
  refreshLines (s.setCfg { s.cfg with sets := s.cfg.sets.set k l })

/-- R164: the checks. -/
def ownWindowSets (sel : Code Furnace) (first : Nat) (entries : List (List Nat)) (s : State) :
    LoadResult :=
  forFurnace sel s fun k =>
    if 32 < first + entries.length then .error (.outOfRange, first)
    else
      checkEach (fun _ l => decide (l.length ≤ 4) && l.all fun i => decide (i ≤ 95)) .outOfRange first
        entries
        (checkEach (fun _ l => l.all fun i => (s.cfg.pool.getD i none).isSome) .illegalValue first entries
          (checkEach (fun _ l => !listOverlaps s.cfg.pool l) .overlap first entries
            (.ok (.none, putSets k (writeAt first entries (s.cfg.sets.get k))))))

/-! ## LINE_SETTINGS (R165) -/

/-- R171: an entry's fields as they are read. -/
def LineEntry.asRead : LineEntry → LineEntry
  | .stopLevel c => .stopLevel c
  | .speedLead a b c d => .speedLead (figureRead a) (figureRead b) (figureRead c) (figureRead d)

/-- R165, check 4: a stop level at indices 0 to 7 with a good code, the speed and lead record at 8. -/
def lineCodeOk (i : Nat) : LineEntry → Bool
  | .stopLevel c => decide (i < 8) && Code.good c
  | .speedLead .. => i == 8

/-- R157, R165, check 5. -/
def lineRangeOk (_i : Nat) : LineEntry → Bool
  | .stopLevel _ => true
  | .speedLead a b c d =>
    rangeWhereGiven 0 100 a && rangeWhereGiven 0 2000 b && rangeWhereGiven 0 500 c
      && rangeWhereGiven 0 300 d

/-- R165: one entry at an index. -/
def putLineEntry (i : Nat) (x : LineSettings) : LineEntry → LineSettings
  | .stopLevel (.val l) => { x with stops := x.stops.set i l }
  | .stopLevel (.bad _) => x
  | .speedLead a b c d =>
    { x with vStill := a.getD x.vStill, vSlow := b.getD x.vSlow, lead := c.getD x.lead,
             maxAdvance := d.getD x.maxAdvance }

/-- R165: the entries, the first at index `i`. -/
def putLineEntries : Nat → List LineEntry → LineSettings → LineSettings
  | _, [], x => x
  | i, e :: es, x => putLineEntries (i + 1) es (putLineEntry i x e)

def putLineSettings (k : Furnace) (x : LineSettings) (s : State) : State :=
  refreshLines (s.setCfg { s.cfg with lineSettings := s.cfg.lineSettings.set k x })

/-- R165: the checks. -/
def ownLineSettings (sel : Code Furnace) (first : Nat) (sent : List LineEntry) (s : State) :
    LoadResult :=
  let entries := sent.map LineEntry.asRead
  forFurnace sel s fun k =>
    if 9 < first + entries.length then .error (.outOfRange, first)
    else
      checkEach lineCodeOk .illegalValue first entries
        (checkEach lineRangeOk .outOfRange first entries
          (.ok (.none, putLineSettings k (putLineEntries first entries (s.cfg.lineSettings.get k)))))

/-! ## PASSAGE (R178) -/

/-- R178, check 2. The kind code 0xFF is a kind of R170's range and no missing field: the model's choice
(log 38). -/
def PassageLoadEntry.codesOk : PassageLoadEntry → Bool
  | .empty => true
  | .bound kind a => decide (kind ≤ 255) && Code.good a
  | .badKind _ => false

/-- R178, check 3: the action may stand with the kind. -/
def actionAllowed (kind : Nat) : Action → Bool
  | .observe => isObservable kind
  | .guardTable => kind == Kind.manualTableMove
  | .guardStroke => kind == Kind.manualStroke
  | .forward => true
  | .drop => true

/-- The table entry of a load entry. -/
def PassageLoadEntry.entry : PassageLoadEntry → Option (Nat × Action)
  | .bound kind (.val a) => some (kind, a)
  | _ => none

def PassageLoadEntry.allowed (e : PassageLoadEntry) : Bool :=
  match PassageLoadEntry.entry e with
  | none => true
  | some (kind, a) => actionAllowed kind a

/-- R178, check 4: the first index whose kind stands at a lower one; `seen` are the kinds at the lower
indices. -/
def duplicateKind (seen : List Nat) : Nat → List (Option (Nat × Action)) → Option Nat
  | _, [] => none
  | i, none :: l => duplicateKind seen (i + 1) l
  | i, some (k, _) :: l => if seen.contains k then some i else duplicateKind (k :: seen) (i + 1) l

def putPassage (l : List (Option (Nat × Action))) (s : State) : State :=
  s.setCfg { s.cfg with passage := l }

/-- R178: the checks. -/
def ownPassage (first : Nat) (entries : List PassageLoadEntry) (s : State) : LoadResult :=
  if 32 < first + entries.length then .error (.outOfRange, first)
  else
    let l := writeAt first (entries.map PassageLoadEntry.entry) s.cfg.passage
    checkEach (fun _ e => PassageLoadEntry.codesOk e) .illegalValue first entries
      (checkEach (fun _ e => PassageLoadEntry.allowed e) .illegalValue first entries
        (match duplicateKind [] 0 l with
         | some i => .error (.duplicate, i)
         | none => .ok (.none, putPassage l)))

/-! ## STATUS_MAP (R196) -/

def putStatusMap (l : List Nat) (s : State) : State := s.setCfg { s.cfg with statusMap := l }

/-- R196: the checks; a quantity number carried as 0xFF is missing (R171, log 38). -/
def ownStatusMap (first : Nat) (entries : List Nat) (s : State) : LoadResult :=
  if 16 < first + entries.length then .error (.outOfRange, first)
  else checkEach (fun _ q => byteGiven q) .illegalValue first entries
    (checkEach (fun _ q => decide (q ≤ 26)) .outOfRange first entries
      (.ok (.none, putStatusMap (writeAt first entries s.cfg.statusMap))))

/-! ## PART_SETTINGS (R190, R174) -/

/-- What a PART_SETTINGS load has taken so far. -/
structure SettingsTaken where
  settings : PartSettings
  partners : Option Partners
  taken : List ReadEntry
  deriving DecidableEq, Repr

/-- R174: the list from eleven stations. -/
def Partners.ofList : List Nat → Option Partners
  | [a, b, c, d, e, f, g, h, i, j, k] => some ⟨a, b, c, d, e, f, g, h, i, j, k⟩
  | _ => none

/-- Whether a station stands twice in a list. -/
def namedTwice : List Nat → Bool
  | [] => false
  | x :: xs => xs.contains x || namedTwice xs

/-- R174: the checks of a partner list; a station carried as 0xFF is missing (R171, log 38). -/
def partnersCheck (s : State) (l : List Nat) : Except RespCode Partners :=
  match Partners.ofList l with
  | none => .error .illegalValue
  | some p =>
    if !l.all byteGiven then .error .illegalValue
    else if l.any fun x => decide (62 < x) then .error .outOfRange
    else if namedTwice l || l.any (fun x => s.links.station == some x) then .error .illegalValue
    else if s.armed .f1 || s.armed .f2 then .error .notWhileArmed
    else if s.arb.motion.moving || s.grid.grant.isSome || !s.grid.queue.isEmpty then .error .busy
    else .ok p

/-- R190: a figure at an index 0 to 3, clamped or refused. -/
def takeFigure (i : Nat) (x : Int) (t : PartSettings) : Except RespCode (PartSettings × Nat) :=
  match i with
  | 0 => let v := (clampInt 100 5000 x).toNat; .ok ({ t with statusPeriod := v }, v)
  | 1 => let v := (clampInt 1 60 x).toNat; .ok ({ t with supervisionPeriod := v }, v)
  | 2 => if inRange 1 8 x then .ok ({ t with lookAhead := x.toNat }, x.toNat) else .error .outOfRange
  | 3 =>
    if inRange 30 600 x then .ok ({ t with grantTimeout := x.toNat }, x.toNat) else .error .outOfRange
  | _ => .error .illegalValue

/-- R190: one entry at an index; a figure carried with its absent value is missing (R171, log 38). -/
def takeSetting (s : State) (i : Nat) (e : SettingEntry) (t : SettingsTaken) :
    Except RespCode SettingsTaken :=
  match e with
  | .figure x =>
    if !figureGiven x then .error .illegalValue
    else
      match takeFigure i x t.settings with
      | .error c => .error c
      | .ok (p, v) => .ok { t with settings := p, taken := t.taken ++ [.figure v] }
  | .partners l =>
    if i ≠ 4 then .error .illegalValue
    else
      match partnersCheck s l with
      | .error c => .error c
      | .ok p => .ok { t with partners := some p, taken := t.taken ++ [.partners (some p)] }

/-- R190: the entries in index order, the first at index `i`. -/
def takeSettings (s : State) : Nat → List SettingEntry → SettingsTaken →
    Except (RespCode × Nat) SettingsTaken
  | _, [], t => .ok t
  | i, e :: es, t =>
    match takeSetting s i e t with
    | .error c => .error (c, i)
    | .ok t' => takeSettings s (i + 1) es t'

def putSettings (t : SettingsTaken) (s : State) : State :=
  s.setCfg { s.cfg with settings := t.settings, partners := t.partners }

/-- R190: the checks. -/
def ownPartSettings (first : Nat) (entries : List SettingEntry) (s : State) : LoadResult :=
  if 5 < first + entries.length then .error (.outOfRange, first)
  else
    match takeSettings s first entries ⟨s.cfg.settings, s.cfg.partners, []⟩ with
    | .error e => .error e
    | .ok t => .ok (.settingsTaken t.taken, putSettings t)

/-! ## The commands -/

/-- LOAD_FURNACE_GEOMETRY (R28). -/
def execLoadFurnaceGeometry (h : Hdr) (sel : Code Furnace) (first : Nat)
    (entries : List GeometryEntry) (s : State) : Host.Outcome State Fault Refusal :=
  powered (manage (.loadFurnaceGeometry h sel first entries) Kind.loadTable h
    (takeLoad h .furnaceGeometry entries.length (ownFurnaceGeometry sel first entries))) s

/-- LOAD_GAP_RULES (R32). -/
def execLoadGapRules (h : Hdr) (sel : Code Furnace) (first : Nat) (entries : List Int) (s : State) :
    Host.Outcome State Fault Refusal :=
  powered (manage (.loadGapRules h sel first entries) Kind.loadTable h
    (takeLoad h .gapRules entries.length (ownGapRules sel first entries))) s

/-- LOAD_THICKNESS_CLASSES (R31). -/
def execLoadThicknessClasses (h : Hdr) (first : Nat) (entries : List Int) (s : State) :
    Host.Outcome State Fault Refusal :=
  powered (manage (.loadThicknessClasses h first entries) Kind.loadTable h
    (takeLoad h .thicknessClasses entries.length (ownThicknessClasses first entries))) s

/-- LOAD_CHARGER_TIMING (R54). -/
def execLoadChargerTiming (h : Hdr) (sel : Code Furnace) (first : Nat) (entries : List Int)
    (s : State) : Host.Outcome State Fault Refusal :=
  powered (manage (.loadChargerTiming h sel first entries) Kind.loadTable h
    (takeLoad h .chargerTiming entries.length (ownChargerTiming sel first entries))) s

/-- LOAD_TABLE_GEOMETRY (R86). -/
def execLoadTableGeometry (h : Hdr) (first : Nat) (entries : List TableGeometryEntry) (s : State) :
    Host.Outcome State Fault Refusal :=
  powered (manage (.loadTableGeometry h first entries) Kind.loadTable h
    (takeLoad h .tableGeometry entries.length (ownTableGeometry first entries))) s

/-- LOAD_COUNTER_SETUP (R145). -/
def execLoadCounterSetup (h : Hdr) (sel : Code CounterId) (first : Nat)
    (entries : List CounterSetupEntry) (s : State) : Host.Outcome State Fault Refusal :=
  powered (manage (.loadCounterSetup h sel first entries) Kind.loadTable h
    (takeLoad h .counterSetup entries.length (ownCounterSetup sel first entries))) s

/-- LOAD_SENSOR_SETUP (R148). -/
def execLoadSensorSetup (h : Hdr) (first : Nat) (entries : List SensorSetupEntry) (s : State) :
    Host.Outcome State Fault Refusal :=
  powered (manage (.loadSensorSetup h first entries) Kind.loadTable h
    (takeLoad h .sensorSetup entries.length (ownSensorSetup first entries))) s

/-- LOAD_WINDOW_POOL (R162). -/
def execLoadWindowPool (h : Hdr) (first : Nat) (entries : List PoolLoadEntry) (s : State) :
    Host.Outcome State Fault Refusal :=
  powered (manage (.loadWindowPool h first entries) Kind.loadTable h
    (takeLoad h .windowPool entries.length (ownWindowPool first entries))) s

/-- LOAD_WINDOW_SETS (R164). -/
def execLoadWindowSets (h : Hdr) (sel : Code Furnace) (first : Nat) (entries : List (List Nat))
    (s : State) : Host.Outcome State Fault Refusal :=
  powered (manage (.loadWindowSets h sel first entries) Kind.loadTable h
    (takeLoad h .windowSets entries.length (ownWindowSets sel first entries))) s

/-- LOAD_LINE_SETTINGS (R165). -/
def execLoadLineSettings (h : Hdr) (sel : Code Furnace) (first : Nat) (entries : List LineEntry)
    (s : State) : Host.Outcome State Fault Refusal :=
  powered (manage (.loadLineSettings h sel first entries) Kind.loadTable h
    (takeLoad h .lineSettings entries.length (ownLineSettings sel first entries))) s

/-- LOAD_PASSAGE (R178). -/
def execLoadPassage (h : Hdr) (first : Nat) (entries : List PassageLoadEntry) (s : State) :
    Host.Outcome State Fault Refusal :=
  powered (manage (.loadPassage h first entries) Kind.loadTable h
    (takeLoad h .passage entries.length (ownPassage first entries))) s

/-- LOAD_STATUS_MAP (R196). -/
def execLoadStatusMap (h : Hdr) (first : Nat) (entries : List Nat) (s : State) :
    Host.Outcome State Fault Refusal :=
  powered (manage (.loadStatusMap h first entries) Kind.loadTable h
    (takeLoad h .statusMap entries.length (ownStatusMap first entries))) s

/-- LOAD_PART_SETTINGS (R190). -/
def execLoadPartSettings (h : Hdr) (first : Nat) (entries : List SettingEntry) (s : State) :
    Host.Outcome State Fault Refusal :=
  powered (manage (.loadPartSettings h first entries) Kind.loadTable h
    (takeLoad h .partSettings entries.length (ownPartSettings first entries))) s

end Sys2Proof.Machine
end

