-- ==== Sys2Proof/Machine/Reads.lean ====
section
/-! DEFINITION. READ_TABLE for each of the thirteen tables (R189 and the owning rules). A read changes
nothing but the plant transmit queue, which takes its RESPONSE. -/

namespace Sys2Proof.Machine

/-- What the owning rule answers: a refusal, or the entries. -/
abbrev ReadResult := Except RespCode RespData

/-- R189: a READ_TABLE, whose payload fits its kind or not (R187); `own` is the owning rule's answer. -/
def takeRead (h : Hdr) (own : State → ReadResult) (fits : Bool) (s : State) : State :=
  if !fits then respond h Kind.readTable .illegalValue none .none s
  else
    match own s with
    | .error c => respond h Kind.readTable c none .none s
    | .ok d => respond h Kind.readTable .ok none d s

/-- R189: a first index and a count, in a table whose last index is `last`. -/
def readRange (first count last : Nat) (r : ReadResult) : ReadResult :=
  if count = 0 ∨ 16 < count ∨ last < first then .error .outOfRange else r

/-- R189: the entries from the first index for the count asked, cut at the last. -/
def slice {α : Type} (first count : Nat) (l : List α) : List α := (l.drop first).take count

/-- The selector of a table. -/
def forSelector {α : Type} (sel : Code α) (f : α → ReadResult) : ReadResult :=
  match sel with
  | .bad _ => .error .illegalValue
  | .val a => f a

/-- R189: a table of one record, which may have no values. -/
def oneRecord {α : Type} (first count : Nat) (r : Option α) (f : α → RespData) : ReadResult :=
  readRange first count 0
    (match r with
     | none => .error .notConfigured
     | some a => .ok (f a))

/-- R29. -/
def ownReadFurnaceGeometry (sel : Code Furnace) (first count : Nat) (s : State) : ReadResult :=
  forSelector sel fun k => oneRecord first count (s.geometry k) .geometry

/-- R32. -/
def ownReadGapRules (sel : Code Furnace) (first count : Nat) (s : State) : ReadResult :=
  forSelector sel fun k =>
    readRange first count 7 (.ok (.figures (slice first count (s.cfg.gaps.get k))))

/-- R30, R189. -/
def ownReadThicknessClasses (first count : Nat) (s : State) : ReadResult :=
  readRange first count 2 (.ok (.figures (slice first count s.cfg.bounds.toList)))

/-- R54. -/
def ownReadChargerTiming (sel : Code Furnace) (first count : Nat) (s : State) : ReadResult :=
  forSelector sel fun k =>
    readRange first count 5 (.ok (.durations (slice first count (s.cfg.timing.get k))))

/-- R86. -/
def ownReadTableGeometry (first count : Nat) (s : State) : ReadResult :=
  oneRecord first count s.cfg.tableGeometry .tableGeometry

/-- R145. -/
def ownReadCounterSetup (sel : Code CounterId) (first count : Nat) (s : State) : ReadResult :=
  forSelector sel fun c => oneRecord first count (some (s.cfg.counterSetup.get c)) .counterSetup

/-- The five setups in index order (R148). -/
def sensorSetups (p : PerSensor SensorSetup) : List SensorSetup := [p.ms, p.gp, p.d1, p.d2, p.te]

/-- R148. -/
def ownReadSensorSetup (first count : Nat) (s : State) : ReadResult :=
  readRange first count 4 (.ok (.sensorSetups (slice first count (sensorSetups s.cfg.sensorSetup))))

/-- R166: the number of set lines of both furnaces that reference a pool index. -/
def State.referenced (s : State) (i : Nat) : Nat :=
  referenceCount s.cfg.sets.f1 i + referenceCount s.cfg.sets.f2 i

/-- R166: the entries with their reference counts; `i` is the index of the first. -/
def poolReport (s : State) : Nat → List (Option Window) → List (Option Window × Nat)
  | _, [] => []
  | i, w :: l => (w, s.referenced i) :: poolReport s (i + 1) l

/-- R166. -/
def ownReadWindowPool (first count : Nat) (s : State) : ReadResult :=
  readRange first count 95 (.ok (.poolEntries (poolReport s first (slice first count s.cfg.pool))))

/-- R166. -/
def ownReadWindowSets (sel : Code Furnace) (first count : Nat) (s : State) : ReadResult :=
  forSelector sel fun k =>
    readRange first count 31 (.ok (.lineLists (slice first count (s.cfg.sets.get k))))

/-- R165, R166: the nine entries in index order. -/
def LineSettings.toEntries (x : LineSettings) : List ReadEntry :=
  x.stops.map .stopLevel ++ [.speedLead x.vStill x.vSlow x.lead x.maxAdvance]

/-- R166. -/
def ownReadLineSettings (sel : Code Furnace) (first count : Nat) (s : State) : ReadResult :=
  forSelector sel fun k =>
    readRange first count 8 (.ok (.entries (slice first count (s.cfg.lineSettings.get k).toEntries)))

/-- R178. -/
def ownReadPassage (first count : Nat) (s : State) : ReadResult :=
  readRange first count 31 (.ok (.passage (slice first count s.cfg.passage)))

/-- R196. -/
def ownReadStatusMap (first count : Nat) (s : State) : ReadResult :=
  readRange first count 15 (.ok (.quantities (slice first count s.cfg.statusMap)))

/-- R190: the five entries in index order. -/
def settingEntries (t : Tables) : List ReadEntry :=
  [.figure t.settings.statusPeriod, .figure t.settings.supervisionPeriod, .figure t.settings.lookAhead,
   .figure t.settings.grantTimeout, .partners t.partners]

/-- R189, R190. -/
def ownReadPartSettings (first count : Nat) (s : State) : ReadResult :=
  readRange first count 4 (.ok (.entries (slice first count (settingEntries s.cfg))))

/-! ## The commands -/

/-- READ_FURNACE_GEOMETRY (R29). -/
def execReadFurnaceGeometry (h : Hdr) (sel : Code Furnace) (first count : Nat) (s : State) :
    Host.Outcome State Fault Refusal :=
  powered (manage (.readFurnaceGeometry h sel first count) Kind.readTable h
    (takeRead h (ownReadFurnaceGeometry sel first count))) s

/-- READ_GAP_RULES (R32). -/
def execReadGapRules (h : Hdr) (sel : Code Furnace) (first count : Nat) (s : State) :
    Host.Outcome State Fault Refusal :=
  powered (manage (.readGapRules h sel first count) Kind.readTable h
    (takeRead h (ownReadGapRules sel first count))) s

/-- READ_THICKNESS_CLASSES (R189). -/
def execReadThicknessClasses (h : Hdr) (first count : Nat) (s : State) :
    Host.Outcome State Fault Refusal :=
  powered (manage (.readThicknessClasses h first count) Kind.readTable h
    (takeRead h (ownReadThicknessClasses first count))) s

/-- READ_CHARGER_TIMING (R54). -/
def execReadChargerTiming (h : Hdr) (sel : Code Furnace) (first count : Nat) (s : State) :
    Host.Outcome State Fault Refusal :=
  powered (manage (.readChargerTiming h sel first count) Kind.readTable h
    (takeRead h (ownReadChargerTiming sel first count))) s

/-- READ_TABLE_GEOMETRY (R86). -/
def execReadTableGeometry (h : Hdr) (first count : Nat) (s : State) :
    Host.Outcome State Fault Refusal :=
  powered (manage (.readTableGeometry h first count) Kind.readTable h
    (takeRead h (ownReadTableGeometry first count))) s

/-- READ_COUNTER_SETUP (R145). -/
def execReadCounterSetup (h : Hdr) (sel : Code CounterId) (first count : Nat) (s : State) :
    Host.Outcome State Fault Refusal :=
  powered (manage (.readCounterSetup h sel first count) Kind.readTable h
    (takeRead h (ownReadCounterSetup sel first count))) s

/-- READ_SENSOR_SETUP (R148). -/
def execReadSensorSetup (h : Hdr) (first count : Nat) (s : State) :
    Host.Outcome State Fault Refusal :=
  powered (manage (.readSensorSetup h first count) Kind.readTable h
    (takeRead h (ownReadSensorSetup first count))) s

/-- READ_WINDOW_POOL (R166). -/
def execReadWindowPool (h : Hdr) (first count : Nat) (s : State) :
    Host.Outcome State Fault Refusal :=
  powered (manage (.readWindowPool h first count) Kind.readTable h
    (takeRead h (ownReadWindowPool first count))) s

/-- READ_WINDOW_SETS (R166). -/
def execReadWindowSets (h : Hdr) (sel : Code Furnace) (first count : Nat) (s : State) :
    Host.Outcome State Fault Refusal :=
  powered (manage (.readWindowSets h sel first count) Kind.readTable h
    (takeRead h (ownReadWindowSets sel first count))) s

/-- READ_LINE_SETTINGS (R166). -/
def execReadLineSettings (h : Hdr) (sel : Code Furnace) (first count : Nat) (s : State) :
    Host.Outcome State Fault Refusal :=
  powered (manage (.readLineSettings h sel first count) Kind.readTable h
    (takeRead h (ownReadLineSettings sel first count))) s

/-- READ_PASSAGE (R178). -/
def execReadPassage (h : Hdr) (first count : Nat) (s : State) :
    Host.Outcome State Fault Refusal :=
  powered (manage (.readPassage h first count) Kind.readTable h
    (takeRead h (ownReadPassage first count))) s

/-- READ_STATUS_MAP (R196). -/
def execReadStatusMap (h : Hdr) (first count : Nat) (s : State) :
    Host.Outcome State Fault Refusal :=
  powered (manage (.readStatusMap h first count) Kind.readTable h
    (takeRead h (ownReadStatusMap first count))) s

/-- READ_PART_SETTINGS (R189). -/
def execReadPartSettings (h : Hdr) (first count : Nat) (s : State) :
    Host.Outcome State Fault Refusal :=
  powered (manage (.readPartSettings h first count) Kind.readTable h
    (takeRead h (ownReadPartSettings first count))) s

end Sys2Proof.Machine
end

