-- ==== Sys2Proof/Machine/Queries.lean ====
section
/-! DEFINITION. The seven queries (R24, R47, R79, R107, R132, R133, R150). -/

namespace Sys2Proof.Machine

/-- R193: a QUERY, whose payload fits its kind or not (R187); `own` is the owner's answer. -/
def takeQuery (h : Hdr) (codesOk : Bool) (own : State → ReadResult) (fits : Bool) (s : State) : State :=
  if !fits || !codesOk then respond h Kind.query .illegalValue none .none s
  else
    match own s with
    | .error c => respond h Kind.query c none .none s
    | .ok d => respond h Kind.query .ok none d s

/-! ## MAP (R24) -/

/-- R24: the summary of a row. -/
def Row.summary (r : Row) : RowSummary :=
  { front := r.front, extent := r.extent, lanes := r.occ.slabs.map fun x => (x.1, x.2.tag)
    pairOpen := r.pairOpen, overrun := r.overrun }

/-- R24, rows form. -/
def mapRowsAnswer (k : Furnace) (first : Nat) (s : State) : ReadResult :=
  let rows := (s.map k).rows
  if rows.length < first then .error .outOfRange
  else .ok (.mapRows k rows.length first ((slice first 8 rows).map Row.summary))

/-- Where a tag lies in the two maps. -/
def State.locateTag (s : State) (tag : Nat) : Option (Furnace × Place) :=
  match s.maps.f1.locateTag tag with
  | some p => some (.f1, p)
  | none => (s.maps.f2.locateTag tag).map fun p => (.f2, p)

/-- R171: the tag or sequence number a query requires is there (log 29, log 38). -/
def queryGiven (x : Nat) (next : ReadResult) : ReadResult :=
  if tagGiven x then next else .error .illegalValue

/-- R24, slab form. -/
def mapSlabAnswer (tag : Nat) (s : State) : ReadResult :=
  queryGiven tag
    (match s.locateTag tag with
     | none => .error .unknownTag
     | some (k, p) => .ok (.mapSlab p.slab k p.row p.lane p.front))

/-- Whether the codes of a QUERY MAP are good. -/
def mapQueryOk : MapQuery → Bool
  | .rows sel _ => Code.good sel
  | .slab _ => true

/-- R24. -/
def ownQueryMap (q : MapQuery) (s : State) : ReadResult :=
  match q with
  | .rows (.val k) first => mapRowsAnswer k first s
  | .rows (.bad _) _ => .error .illegalValue
  | .slab tag => mapSlabAnswer tag s

/-! ## TABLE_LIST (R107) -/

/-- R107: the records of the list form; `i` is the index of the first. -/
def recordSummaries (travel : Int) : Nat → List TableRecord → List RecordSummary
  | _, [] => []
  | i, r :: rs =>
    { index := i, tag := r.tag, head := r.head travel, centre := r.centre travel, state := r.state,
      dest := r.dest } :: recordSummaries travel (i + 1) rs

/-- R107, list form. -/
def tableListAnswer (s : State) : RespData :=
  .tableList s.travel s.tracker.table.length (recordSummaries s.travel 0 s.tracker.table) s.arb.motion
    s.arb.holds s.arb.gridHold s.arb.requests (s.tracker.measuring.map (·.tag)) (s.present .gp)
    s.tracker.unidentified

/-- R107. -/
def ownQueryTableList (q : TableQuery) (s : State) : ReadResult :=
  match q with
  | .list => .ok (tableListAnswer s)
  | .record tag =>
    queryGiven tag
      (match s.findTag tag with
       | none => .error .unknownTag
       | some r =>
         .ok (.tableRecord r (r.head s.travel) (r.tail s.travel) (r.centre s.travel) r.assumed))

/-! ## SCHEDULE (R132) -/

/-- R132: the place of an identity in the schedule; `i` is the position of the first entry. -/
def schedulePlace (id : Identity) : Nat → List ScheduleEntry → Option (ScheduleEntry × Nat)
  | _, [] => none
  | i, e :: l => if e.id = id then some (e, i) else schedulePlace id (i + 1) l

/-- R132; the sequence number 0 of a range form is missing (R171, log 38). -/
def ownQuerySchedule (q : ScheduleQuery) (s : State) : ReadResult :=
  match q with
  | .range seq =>
    queryGiven seq (.ok (.scheduleRange s.schedule.length (plannedCount s.schedule)
      ((s.schedule.filter fun e => decide (seq ≤ e.seq)).take 8)))
  | .identity id =>
    match schedulePlace id 0 s.schedule with
    | none => .error .unknownTag
    | some (e, i) => .ok (.scheduleEntry e i (plannedAhead e.seq s.schedule))

/-! ## INFLIGHT, GRID, COUNTERS, HOLDS (R79, R133, R150, R47) -/

/-- R79: whether a request is granted; a skipped request waits (R94). -/
def PosRequest.isGranted (q : PosRequest) : Bool := q.status == .granted

/-- R79: the request is given as granted or not. -/
def ownQueryInflight (sel : Code Furnace) (s : State) : ReadResult :=
  forSelector sel fun k =>
    .ok (.inflight (s.seq k) (s.arb.holds.get k) ((s.arb.requests.get k).map PosRequest.isGranted))

/-- R133. -/
def ownQueryGrid (s : State) : ReadResult :=
  .ok (.grid s.grid.grant
    (s.gridOrder.map fun q => (q, (plannedEntry q.id s.schedule).map (·.seq)))
    s.grantConditions (s.present .gp) s.tracker.unidentified)

/-- R138, R142: the carriage depth of a counter, where it is valid. -/
def State.depthOf (s : State) (c : CounterId) : Option Int :=
  match furnaceOf c with
  | none => none
  | some k => if s.homed k then some (s.depth k) else none

/-- R150: a counter. -/
def State.counterReport (s : State) (c : CounterId) : CounterReport :=
  { setup := s.cfg.counterSetup.get c, counter := s.counter c, position := roundMm (s.counter c).acc
    depth := s.depthOf c }

/-- R150: a sensor input. -/
def State.sensorReport (s : State) (i : SensorId) : SensorReport :=
  let x := s.sensor i
  { setup := s.cfg.sensorSetup.get i, raw := rawLevel (s.cfg.sensorSetup.get i) x, sensor := x
    latestMm := roundMm x.latest, previousMm := roundMm x.previous }

/-- R150. -/
def ownQueryCounters (s : State) : ReadResult :=
  .ok (.counters ⟨s.counterReport .t, s.counterReport .c1, s.counterReport .c2⟩
    ⟨s.sensorReport .ms, s.sensorReport .gp, s.sensorReport .d1, s.sensorReport .d2,
     s.sensorReport .te⟩)

/-- R47: a furnace's part. -/
def State.holdsReport (s : State) (k : Furnace) : HoldsReport :=
  { holds := (s.placeOf k).holds, lastStroke := (s.placeOf k).lastStroke
    basisPolicy := (s.geometry k).map fun g => (g.basis, g.policy) }

/-- R47: the answer. -/
def ownQueryHolds (s : State) : ReadResult :=
  .ok (.holds ⟨s.holdsReport .f1, s.holdsReport .f2⟩ s.counterHolds)

/-- R47: with the clear option, every hold that the answer reports as set is cleared. -/
def takeQueryHolds (h : Hdr) (clear : Code Bool) (fits : Bool) (s : State) : State :=
  let t := takeQuery h (Code.good clear) ownQueryHolds fits s
  if fits && Code.value clear == some true then clearAllHolds t else t

/-! ## The commands -/

/-- QUERY_MAP (R24). -/
def execQueryMap (h : Hdr) (q : MapQuery) (s : State) : Host.Outcome State Fault Refusal :=
  powered (manage (.queryMap h q) Kind.query h (takeQuery h (mapQueryOk q) (ownQueryMap q))) s

/-- QUERY_TABLE_LIST (R107). -/
def execQueryTableList (h : Hdr) (q : TableQuery) (s : State) : Host.Outcome State Fault Refusal :=
  powered (manage (.queryTableList h q) Kind.query h (takeQuery h true (ownQueryTableList q))) s

/-- QUERY_SCHEDULE (R132). -/
def execQuerySchedule (h : Hdr) (q : ScheduleQuery) (s : State) :
    Host.Outcome State Fault Refusal :=
  powered (manage (.querySchedule h q) Kind.query h (takeQuery h true (ownQuerySchedule q))) s

/-- QUERY_INFLIGHT (R79). -/
def execQueryInflight (h : Hdr) (sel : Code Furnace) (s : State) :
    Host.Outcome State Fault Refusal :=
  powered (manage (.queryInflight h sel) Kind.query h
    (takeQuery h (Code.good sel) (ownQueryInflight sel))) s

/-- QUERY_GRID (R133). -/
def execQueryGrid (h : Hdr) (s : State) : Host.Outcome State Fault Refusal :=
  powered (manage (.queryGrid h) Kind.query h (takeQuery h true ownQueryGrid)) s

/-- QUERY_COUNTERS (R150). -/
def execQueryCounters (h : Hdr) (s : State) : Host.Outcome State Fault Refusal :=
  powered (manage (.queryCounters h) Kind.query h (takeQuery h true ownQueryCounters)) s

/-- QUERY_HOLDS (R47). -/
def execQueryHolds (h : Hdr) (clear : Code Bool) (s : State) : Host.Outcome State Fault Refusal :=
  powered (manage (.queryHolds h clear) Kind.query h (takeQueryHolds h clear)) s

end Sys2Proof.Machine
end

