-- ==== Sys2Proof/Machine/Edits.lean ====
section
/-! DEFINITION. SCHEDULE_EDIT (R114) and the three map edits (R20 to R23). -/

namespace Sys2Proof.Machine

/-! ## SCHEDULE_EDIT (R114) -/

/-- R114, R191: the operation code the latch records for a refusal at an entry index. -/
def failingOp (ops : List SchedOp) (i : Nat) : Option SchedOpCode := (ops[i]?).map SchedOp.code

/-- R114: the schedule as an accepted edit leaves it; the edit is an occasion for a grant evaluation. -/
def putSchedule (l : List ScheduleEntry) (s : State) : State := finish (markGrid (s.setSchedule l))

/-- R114; the payload fits its kind or not (R187). -/
def takeScheduleEdit (h : Hdr) (ops : List SchedOp) (fits : Bool) (s : State) : State :=
  if s.mgmt.latch.isSome then respond h Kind.scheduleEdit .latched none .none s
  else if !fits then refuseAndLatch h Kind.scheduleEdit (.schedule none) .illegalValue none s
  else if ops.length = 0 ∨ 8 < ops.length then
    refuseAndLatch h Kind.scheduleEdit (.schedule none) .outOfRange (some 0) s
  else
    match scheduleOps s.idHeld 0 ops s.schedule with
    | .error (c, i) =>
      refuseAndLatch h Kind.scheduleEdit (.schedule (failingOp ops i)) c (some i) s
    | .ok l =>
      putSchedule l
        (respond h Kind.scheduleEdit .ok none (.scheduleCounts l.length (plannedCount l)) s)

/-! ## MAP_EDIT (R20) -/

/-- What an edit's checks answer: the code of the first that fails, or the fields and the effect. -/
abbrev EditResult := Except RespCode (RespData × (State → State))

/-- R20: the operation that the latch records of a MAP_EDIT that fails in form; an empty payload carries none:
the model's choice (log 31). -/
def sentMapOp (h : Hdr) (op : MapOpCode) : LatchItem := .map (if h.length = 0 then none else some op)

/-- R20: a MAP_EDIT of an operation, whose payload fits its kind or not (R187); `own` makes checks 3 to 6. -/
def takeMapEdit (h : Hdr) (op : MapOpCode) (own : State → EditResult) (fits : Bool) (s : State) : State :=
  if s.mgmt.latch.isSome then respond h Kind.mapEdit .latched none .none s
  else if !fits then refuseAndLatch h Kind.mapEdit (sentMapOp h op) .illegalValue (some 0) s
  else
    match own s with
    | .error c => refuseAndLatch h Kind.mapEdit (.map (some op)) c (some 0) s
    | .ok (d, f) => finish (f (respond h Kind.mapEdit .ok none d s))

/-- R20, R171: the fields an edit requires are there; one that is missing refuses it before its range is judged
(log 38). -/
def editGiven (ok : Bool) (next : EditResult) : EditResult := if ok then next else .error .illegalValue

/-- R20, check 5: the states in which a map edit is refused. -/
def SeqState.cycling : SeqState → Bool
  | .positioning => true
  | .room => true
  | .pick => true
  | .carry => true
  | .lower => true
  | .retract => true
  | _ => false

/-- R57, R125: an accepted edit on map k is an occasion. -/
def markEdit (k : Furnace) (s : State) : State := markGrid (markStart k s)

/-- R21: the slab leaves its row. -/
def deleteSlabAt (k : Furnace) (p : Place) (s : State) : State :=
  markEdit k (s.setMap k { s.map k with rows := removeAt p.lane p.row (s.map k).rows })

/-- R21: DELETE_SLAB. -/
def ownDeleteSlab (tag : Nat) (s : State) : EditResult :=
  editGiven (tagGiven tag)
    (match s.locateTag tag with
     | none => .error .unknownTag
     | some (k, p) =>
       if (s.seq k).state.cycling then .error .notWhileCharging
       else .ok (.deleted p.slab.tag p.slab.id k p.row p.lane, deleteSlabAt k p))

/-- R22: the new span keeps clear of the rows ahead and behind. -/
def frontFits (rows : List Row) (i : Nat) (front extent : Int) : Bool :=
  (i == 0 || (match rows[i - 1]? with
              | none => true
              | some a => decide (front ≤ a.trailing)))
    && (match rows[i + 1]? with
        | none => true
        | some b => decide (b.front ≤ front - extent))

/-- R22, R5: the row takes its front edge. -/
def Row.moved (front : Int) (beyond : Bool) (r : Row) : Row :=
  { r with front, pairOpen := false, overrun := beyond }

/-- R22, R5: the row's front edge is set, with OVERRUN where it is newly beyond L_eff. -/
def moveRow (k : Furnace) (i : Nat) (r : Row) (front : Int) (s : State) : State :=
  let o := s.beyond k front
  let t := markEdit k (s.setMap k { s.map k with rows := (s.map k).rows.set i (r.moved front o) })
  if o && !r.overrun then raise (.overrun k i front r.tagIds) t else t

/-- R22: SET_ROW_FRONT. -/
def ownSetRowFront (sel : Code Furnace) (row : Nat) (front : Int) (s : State) : EditResult :=
  editGiven (figureGiven front)
    (if 100000 < front then .error .outOfRange
     else
       match sel with
       | .bad _ => .error .illegalValue
       | .val k =>
         match (s.map k).rows[row]? with
         | none => .error .outOfRange
         | some r =>
           if front - r.extent < 0 then .error .outOfRange
           else if (s.seq k).state.cycling then .error .notWhileCharging
           else if !frontFits (s.map k).rows row front r.extent then .error .mapConflict
           else .ok (.rowFront k row front, moveRow k row r front))

/-- R23: the field ranges of check 3. -/
def insertRangesOk (front width length thickness : Int) (group : Nat) (mass : Int) : Bool :=
  inRange 800 2800 width && inRange 1500 12000 length && inRange 100 500 thickness
    && decide (group ≤ 15) && inRange 0 200000 mass && editRange front width

/-- R23: the furnace slab record of an INSERT_SLAB. -/
def insertedSlab (tag : Nat) (id : Identity) (width length thickness : Int) (group : Nat) (mass : Int)
    (clock : Word32) : FurnaceSlab :=
  { tag, id, width, length, thickness, mass := massField mass, group, chargedAt := clock,
    deviation := none, substituted := false }

/-- R23: the slab enters the map. -/
def insertSlab (k : Furnace) (front : Int) (x : FurnaceSlab) (s : State) : State :=
  markEdit k (removePlanned x.id (insertSlabRow k front x (takeTag x.tag s)))

/-- R23, R171: the fields an INSERT_SLAB requires are there. -/
def insertGiven (front width length thickness : Int) (group : Nat) : Bool :=
  [front, width, length, thickness].all figureGiven && byteGiven group

/-- R23: INSERT_SLAB. -/
def ownInsertSlab (sel : Code Furnace) (front : Int) (id : Identity) (width length thickness : Int)
    (group : Nat) (mass : Int) (s : State) : EditResult :=
  editGiven (insertGiven front width length thickness group)
    (if !insertRangesOk front width length thickness group mass then .error .outOfRange
     else if !idCharsOk id then .error .illegalValue
     else
       match sel with
       | .bad _ => .error .illegalValue
       | .val k =>
         if (s.geometry k).isNone then .error .notConfigured
         else if (s.seq k).state.cycling then .error .notWhileCharging
         else if s.idHeld id then .error .duplicate
         else
           match insertChecks front width (s.map k) with
           | .error c => .error c
           | .ok () =>
             let x := insertedSlab s.freshTag id width length thickness group mass s.ret.clock
             .ok (.inserted x.tag k (insertIndex front (s.map k).rows), insertSlab k front x))

/-! ## The commands -/

/-- SCHEDULE_EDIT (R114). -/
def execScheduleEdit (h : Hdr) (ops : List SchedOp) (s : State) : Host.Outcome State Fault Refusal :=
  powered (manage (.scheduleEdit h ops) Kind.scheduleEdit h (takeScheduleEdit h ops)) s

/-- DELETE_SLAB (R21). -/
def execDeleteSlab (h : Hdr) (tag : Nat) (s : State) : Host.Outcome State Fault Refusal :=
  powered (manage (.deleteSlab h tag) Kind.mapEdit h
    (takeMapEdit h .deleteSlab (ownDeleteSlab tag))) s

/-- SET_ROW_FRONT (R22). -/
def execSetRowFront (h : Hdr) (sel : Code Furnace) (row : Nat) (front : Int) (s : State) :
    Host.Outcome State Fault Refusal :=
  powered (manage (.setRowFront h sel row front) Kind.mapEdit h
    (takeMapEdit h .setRowFront (ownSetRowFront sel row front))) s

/-- INSERT_SLAB (R23). -/
def execInsertSlab (h : Hdr) (sel : Code Furnace) (front : Int) (id : Identity)
    (width length thickness : Int) (group : Nat) (mass : Int) (s : State) :
    Host.Outcome State Fault Refusal :=
  powered (manage (.insertSlab h sel front id width length thickness group mass) Kind.mapEdit h
    (takeMapEdit h .insertSlab (ownInsertSlab sel front id width length thickness group mass))) s

end Sys2Proof.Machine
end

