-- ==== Sys2Proof/Machine/Commands.lean ====
section
/-! DEFINITION. The COMMAND telegrams of the sequencers, the table tracker, the holds, the latch and the
links (R46, R55, R56, R73 to R75, R103 to R105, R185, R191). -/

namespace Sys2Proof.Machine

/-- What an owner answers a command: a refusal with its fields, or the fields and the effect. -/
abbrev CommandResult := Except (RespCode × RespData) (RespData × (State → State))

/-- R192: a COMMAND, whose payload fits its kind or not; `own` is the owner's rule. The RESPONSE takes its
place first, the effect follows (R187; with CLEAR_LINK: log 40). -/
def takeCommand (h : Hdr) (own : State → CommandResult) (fits : Bool) (s : State) : State :=
  if !fits then respond h Kind.command .illegalValue none .none s
  else
    match own s with
    | .error (c, d) => respond h Kind.command c none d s
    | .ok (d, f) => finish (f (respond h Kind.command .ok none d s))

/-- A refusal with no fields. -/
def refuse (c : RespCode) : CommandResult := .error (c, .none)

/-- The furnace selector of a command. -/
def forSelected (sel : Code Furnace) (f : Furnace → CommandResult) : CommandResult :=
  match sel with
  | .bad _ => refuse .illegalValue
  | .val k => f k

/-! ## Arming (R55, R56) -/

/-- R55: the first table the furnace needs that has no values. -/
def missingTable (s : State) (k : Furnace) : Option MissingTable :=
  if (s.geometry k).isNone then some .geometry
  else if s.cfg.tableGeometry.isNone then some .tableGeometry
  else if s.cfg.partners.isNone then some .partners
  else none

/-- R55: ARM_FURNACE. -/
def ownArm (sel : Code Furnace) (s : State) : CommandResult :=
  forSelected sel fun k =>
    if s.ret.mode ≠ .run then refuse .wrongMode
    else if s.armed k then refuse .busy
    else
      match missingTable s k with
      | some t => .error (.notConfigured, .missing t)
      | none => .ok (.none, enterIdle k)

/-- R56: the effect of an accepted DISARM_FURNACE. A charger that has left POSITIONING while its unwanted move
still runs sends no second TABLE_HALT, as R56 has it for POSITIONING alone: the model's choice where R99 names
no state (log 46). -/
def disarm (k : Furnace) (s : State) : State :=
  match (s.seq k).state with
  | .offline => s
  | .positioning => enterOffline k (abandonMove k .disarmed s)
  | _ => enterOffline k s

/-- R56: the states in which DISARM_FURNACE is refused. -/
def disarmRefused (q : Sequencer) : Bool :=
  match q.state with
  | .pick => true
  | .carry => true
  | .lower => true
  | .retract => true
  | .held => q.inflight.isSome
  | _ => false

/-- R56: DISARM_FURNACE. -/
def ownDisarm (sel : Code Furnace) (s : State) : CommandResult :=
  forSelected sel fun k => if disarmRefused (s.seq k) then refuse .busy else .ok (.none, disarm k)

/-! ## Stop, release, resolve (R73, R74, R75) -/

/-- R73: the effect of STOP_CHARGER on the sequencer. -/
def stopSequencer (k : Furnace) (s : State) : State :=
  match (s.seq k).state with
  | .offline => s
  | .held => s
  | .positioning => enterHeld k .stopped none (abandonMove k .stopped s)
  | _ => enterHeld k .stopped none s

/-- R73: STOP_CHARGER. -/
def ownStop (sel : Code Furnace) (_s : State) : CommandResult :=
  forSelected sel fun k => .ok (.none, fun s => stopSequencer k (sendChargerStop k .command s))

/-- R74: RELEASE_CHARGER. -/
def ownRelease (sel : Code Furnace) (s : State) : CommandResult :=
  forSelected sel fun k =>
    if (s.seq k).state = .held then
      if (s.seq k).inflight.isSome then refuse .busy else .ok (.none, enterIdle k)
    else .ok (.sequencerState (s.seq k).state, fun s => s)

/-- R75, R11, R50: the in-flight record a resolution is for: that of a sequencer in HELD (log 27). -/
def Sequencer.unresolved (q : Sequencer) : Option InFlight :=
  if q.state = .held then q.inflight else none

/-- R75: the state that follows a resolution. -/
def resolvedState (s : State) (k : Furnace) : SeqState := if s.armsClear k then .idle else .held

/-- R75: the sequencer after an accepted resolution. -/
def afterResolution (k : Furnace) (s : State) : State :=
  let s := markGrid (putInFlight k none s)
  if s.armsClear k then enterIdle k s else s

/-- R2, R11: the width of the slab a resolution insert takes. -/
def resolutionWidth (f : InFlight) (o : Option Operands) : Int := (slabFrom f o none 0).width

/-- The operands of the final computation of sequencer k's cycle. -/
def State.finalOperands (s : State) (k : Furnace) : Option Operands :=
  (s.cycle k).bind CycleRecord.operands

/-- R11, R75: RESOLVE_INFLIGHT with outcome LANDED; a front edge that R171 counts as missing is refused before
its range is judged (log 38). -/
def ownResolveLanded (sel : Code Furnace) (front : Int) (s : State) : CommandResult :=
  forSelected sel fun k =>
    match (s.seq k).unresolved with
    | none => refuse .illegalValue
    | some f =>
      let o := s.finalOperands k
      if !figureGiven front then refuse .illegalValue
      else if !editRange front (resolutionWidth f o) then refuse .outOfRange
      else
        match insertChecks front (resolutionWidth f o) (s.map k) with
        | .error c => refuse c
        | .ok () =>
          .ok (.resolved f.record.tag true (resolvedState s k),
            fun s => afterResolution k (resolutionInsert k f o front s))

/-- R75: RESOLVE_INFLIGHT with outcome REMOVED. -/
def ownResolveRemoved (sel : Code Furnace) (s : State) : CommandResult :=
  forSelected sel fun k =>
    match (s.seq k).unresolved with
    | none => refuse .illegalValue
    | some f =>
      .ok (.resolved f.record.tag false (resolvedState s k),
        fun s => afterResolution k (revertLink f.record.link s))

/-! ## Slab records (R103, R104, R105) -/

/-- R103, R104: the record a command's tag names. The tag 0 is a missing field (R171), refused before the table
list is searched (log 29). -/
def forTag (tag : Nat) (s : State) (f : TableRecord → CommandResult) : CommandResult :=
  if !tagGiven tag then refuse .illegalValue
  else
    match s.findTag tag with
    | none => refuse .unknownTag
    | some r => f r

/-- R103, check 3: the ranges of the fields given. -/
def acceptRangesOk (width length thickness : Option Int) (group : Option Nat) : Bool :=
  figuresInRange group width length thickness

/-- A field given replaces the record's, present or absent. -/
def given {α : Type} (x old : Option α) : Option α :=
  match x with
  | some a => some a
  | none => old

/-- R103: the record as an accepted ACCEPT_SLAB leaves it. -/
def TableRecord.accepted (width length thickness : Option Int) (group : Option Nat)
    (dest : Option Furnace) (r : TableRecord) : TableRecord :=
  { r with width := given width r.width, measured := given length r.measured
           thickness := given thickness r.thickness, group := given group r.group
           dest := given dest r.dest, state := .ready }

/-- R103, R85, R95: the record is accepted; it becomes READY. -/
def acceptRecord (r : TableRecord) (s : State) : State :=
  markStarts (markList (raise (.slabReady r.tag r.id r.dest) (updateRecord r.tag (fun _ => r) s)))

/-- R103: ACCEPT_SLAB with its fields as they are read. -/
def acceptFields (tag : Nat) (width length thickness : Option Int) (group : Option Nat)
    (dest : Option (Code Furnace)) (s : State) : CommandResult :=
  forTag tag s fun r =>
    if s.positioned tag then refuse .busy
    else if !acceptRangesOk width length thickness group then refuse .outOfRange
    else if !goodWhereGiven dest then refuse .illegalValue
    else if r.dest.isNone && dest.isNone then refuse .illegalValue
    else
      let r' := r.accepted width length thickness group (givenCode dest)
      .ok (.accepted r'.tag (r'.head s.travel) r', acceptRecord r')

/-- R103, R171: ACCEPT_SLAB. -/
def ownAcceptSlab (tag : Nat) (width length thickness : Option Int) (group : Option Nat)
    (dest : Option (Code Furnace)) (s : State) : CommandResult :=
  acceptFields tag (figureRead width) (figureRead length) (figureRead thickness) (byteRead group)
    (codeRead dest) s

/-- R104: the record becomes REJECT with destination none; SLAB_HELD has the state REJECT in the place of its
cause (log 47). -/
def rejectRecord (r : TableRecord) (s : State) : State :=
  markReady r.ready (markList (raise (.slabHeld r.tag r.id none (some r.state) (r.head s.travel))
    (updateRecord r.tag (fun x => { x with state := .reject, dest := none }) s)))

/-- R104: the checks REJECT_SLAB and REMOVE_SLAB share. -/
def forFreeRecord (tag : Nat) (s : State) (f : TableRecord → State → State) : CommandResult :=
  forTag tag s fun r =>
    if s.positioned tag then refuse .busy else .ok (.tagIdentity r.tag r.id, f r)

/-- R104: REJECT_SLAB. -/
def ownRejectSlab (tag : Nat) (s : State) : CommandResult := forFreeRecord tag s rejectRecord

/-- R104: the record is removed. -/
def removeRecord (r : TableRecord) (s : State) : State :=
  evalPresence (revertLink r.link (deleteRecord r s))

/-- R104: REMOVE_SLAB. -/
def ownRemoveSlab (tag : Nat) (s : State) : CommandResult := forFreeRecord tag s removeRecord

/-- R105, check 3: the ranges. -/
def enterRangesOk (width thickness mass : Int) : Bool :=
  inRange 800 2800 width && inRange 100 500 thickness && inRange 0 200000 mass

/-- R105, check 5. -/
def enterBusy (s : State) : Bool :=
  !s.present .gp || s.grid.grant.isSome || decide (8 ≤ s.tracker.table.length) || !s.tailsClear

/-- R105: ENTER_SLAB; a width or thickness that R171 counts as missing is refused before the ranges are judged
(log 38). -/
def ownEnterSlab (id : Identity) (width thickness mass : Int) (s : State) : CommandResult :=
  if s.ret.mode ≠ .run then refuse .wrongMode
  else if s.cfg.tableGeometry.isNone then refuse .notConfigured
  else if !(figureGiven width && figureGiven thickness) then refuse .illegalValue
  else if !enterRangesOk width thickness mass then refuse .outOfRange
  else if !idCharsOk id then refuse .illegalValue
  else if s.idHeld id then refuse .duplicate
  else if enterBusy s then refuse .busy
  else
    let r := s.depositRecord id width thickness mass
    .ok (.entered r.tag r.state, createRecord id width thickness mass)

/-! ## Holds, latch and links (R46, R191, R185) -/

/-- R46: the selected holds are cleared. -/
def clearSelected (sel : HoldSelection) (s : State) : State :=
  clearCounter (selectedCounter sel) (clearPlacement (selectedPlacement sel) s)

/-- R46: CLEAR_HOLDS. -/
def ownClearHolds (sel : HoldSelection) (s : State) : CommandResult :=
  if !HoldSelection.legal sel then refuse .illegalValue
  else .ok (.clearedHolds (selectedSet s sel), clearSelected sel)

/-- R191: CLEAR_ERROR. -/
def ownClearError (s : State) : CommandResult := .ok (.clearedLatch s.mgmt.latch, setLatch none)

/-- R185: the flags of the ports selected are cleared, behind the RESPONSE (log 40). -/
def clearFlags (sel : LinkSelection) (s : State) : State :=
  s.setLinks (clearLinkFlags (LinkSelection.ports sel) s.links)

/-- R185: CLEAR_LINK. -/
def ownClearLink (sel : Code LinkSelection) (s : State) : CommandResult :=
  match sel with
  | .bad _ => refuse .illegalValue
  | .val l => .ok (.clearedFlags (flagsOf l s.links), clearFlags l)

/-! ## The commands -/

/-- ARM_FURNACE (R55). -/
def execArmFurnace (h : Hdr) (sel : Code Furnace) (s : State) : Host.Outcome State Fault Refusal :=
  powered (manage (.armFurnace h sel) Kind.command h (takeCommand h (ownArm sel))) s

/-- DISARM_FURNACE (R56). -/
def execDisarmFurnace (h : Hdr) (sel : Code Furnace) (s : State) :
    Host.Outcome State Fault Refusal :=
  powered (manage (.disarmFurnace h sel) Kind.command h (takeCommand h (ownDisarm sel))) s

/-- STOP_CHARGER (R73). -/
def execStopCharger (h : Hdr) (sel : Code Furnace) (s : State) : Host.Outcome State Fault Refusal :=
  powered (manage (.stopCharger h sel) Kind.command h (takeCommand h (ownStop sel))) s

/-- RELEASE_CHARGER (R74). -/
def execReleaseCharger (h : Hdr) (sel : Code Furnace) (s : State) :
    Host.Outcome State Fault Refusal :=
  powered (manage (.releaseCharger h sel) Kind.command h (takeCommand h (ownRelease sel))) s

/-- RESOLVE_INFLIGHT_LANDED (R11, R75). -/
def execResolveInflightLanded (h : Hdr) (sel : Code Furnace) (front : Int) (s : State) :
    Host.Outcome State Fault Refusal :=
  powered (manage (.resolveInflightLanded h sel front) Kind.command h
    (takeCommand h (ownResolveLanded sel front))) s

/-- RESOLVE_INFLIGHT_REMOVED (R75). -/
def execResolveInflightRemoved (h : Hdr) (sel : Code Furnace) (s : State) :
    Host.Outcome State Fault Refusal :=
  powered (manage (.resolveInflightRemoved h sel) Kind.command h
    (takeCommand h (ownResolveRemoved sel))) s

/-- ACCEPT_SLAB (R103). -/
def execAcceptSlab (h : Hdr) (tag : Nat) (width length thickness : Option Int) (group : Option Nat)
    (dest : Option (Code Furnace)) (s : State) : Host.Outcome State Fault Refusal :=
  powered (manage (.acceptSlab h tag width length thickness group dest) Kind.command h
    (takeCommand h (ownAcceptSlab tag width length thickness group dest))) s

/-- REJECT_SLAB (R104). -/
def execRejectSlab (h : Hdr) (tag : Nat) (s : State) : Host.Outcome State Fault Refusal :=
  powered (manage (.rejectSlab h tag) Kind.command h (takeCommand h (ownRejectSlab tag))) s

/-- REMOVE_SLAB (R104). -/
def execRemoveSlab (h : Hdr) (tag : Nat) (s : State) : Host.Outcome State Fault Refusal :=
  powered (manage (.removeSlab h tag) Kind.command h (takeCommand h (ownRemoveSlab tag))) s

/-- ENTER_SLAB (R105). -/
def execEnterSlab (h : Hdr) (id : Identity) (width thickness mass : Int) (s : State) :
    Host.Outcome State Fault Refusal :=
  powered (manage (.enterSlab h id width thickness mass) Kind.command h
    (takeCommand h (ownEnterSlab id width thickness mass))) s

/-- CLEAR_HOLDS (R46). -/
def execClearHolds (h : Hdr) (sel : HoldSelection) (s : State) : Host.Outcome State Fault Refusal :=
  powered (manage (.clearHolds h sel) Kind.command h (takeCommand h (ownClearHolds sel))) s

/-- CLEAR_ERROR (R191). -/
def execClearError (h : Hdr) (s : State) : Host.Outcome State Fault Refusal :=
  powered (manage (.clearError h) Kind.command h (takeCommand h ownClearError)) s

/-- CLEAR_LINK (R185). -/
def execClearLink (h : Hdr) (sel : Code LinkSelection) (s : State) :
    Host.Outcome State Fault Refusal :=
  powered (manage (.clearLink h sel) Kind.command h (takeCommand h (ownClearLink sel))) s

end Sys2Proof.Machine
end

