-- ==== Sys2Proof/Machine/Retention.lean ====
section
/-! DEFINITION. Supervision and STATUS (chapter 9, sections 9.6 and 9.7), the seconds clock, the supply
events, RESUME, the resets and the cold start (chapter 10). -/

namespace Sys2Proof.Machine

/-! ## STATUS (R195, R196) -/

/-- R195: a sequencer's part of the header. -/
def Sequencer.status (q : Sequencer) : SeqStatus :=
  { state := q.state, cause := q.cause, waiting := q.waiting }

/-- R195, R199: the fixed header. -/
def State.statusHeader (s : State) : StatusHeader :=
  { mode := s.ret.mode, start := s.ret.startKind, backup := s.ret.backup
    heldCount := s.ret.held.length, overflow := s.ret.overflow
    supervisionOk := s.mgmt.supervision.isOk
    latch := s.mgmt.latch
    seqs := ⟨s.seqs.f1.status, s.seqs.f2.status⟩
    motion := s.arb.motion, chargerHolds := s.arb.holds, gridHold := s.arb.gridHold
    holder := s.grid.grant.map (·.crane)
    placementHolds := ⟨s.place.f1.holds, s.place.f2.holds⟩
    counterHolds := s.counterHolds
    plantUp := s.links.plant.up, yardUp := s.links.yard.up
    flags := s.links.flags
    lines := ⟨s.windows.f1.lines, s.windows.f2.lines⟩ }

/-- R150: the depth a mapped word carries. -/
def State.depthFigure (s : State) (k : Furnace) : Int :=
  if s.homed k then s.depth k else absentFigure

/-- R196: the value of a quantity. -/
def State.quantity (s : State) : Nat → Int
  | 1 => s.travel
  | 2 => s.depthFigure .f1
  | 3 => s.depthFigure .f2
  | 4 => s.counters.t.speed
  | 5 => s.counters.c1.speed
  | 6 => s.counters.c2.speed
  | 7 => s.counters.t.raw.toNat
  | 8 => s.counters.c1.raw.toNat
  | 9 => s.counters.c2.raw.toNat
  | 10 => s.maps.f1.rows.length
  | 11 => s.maps.f2.rows.length
  | 12 => s.maps.f1.slabCount
  | 13 => s.maps.f2.slabCount
  | 14 => s.maps.f1.lastLanding
  | 15 => s.maps.f2.lastLanding
  | 16 => s.maps.f1.firstFront
  | 17 => s.maps.f2.firstFront
  | 18 => s.maps.f1.chargeEnd
  | 19 => s.maps.f2.chargeEnd
  | 20 => s.tracker.table.length
  | 21 => s.schedule.length
  | 22 => plannedCount s.schedule
  | 23 => s.grid.queue.length
  | 24 => s.ret.clock.toNat
  | 25 => s.links.plant.queue.length
  | 26 => s.links.yard.queue.length
  | _ => 0

/-- R196: the sixteen mapped words. -/
def State.statusWords (s : State) : List Word32 := s.cfg.statusMap.map fun q => word32 (s.quantity q)

/-- R195: a STATUS is formed from the state as it stands and placed in the plant queue. -/
def sendStatus (s : State) : State :=
  sendOwn .plant s.reportStation 0 (.status s.statusHeader s.statusWords) s

/-- R195: the status timer starts with the status period. -/
def startStatusTimer (s : State) : State :=
  s.setMgmt { s.mgmt with statusTimer := some s.cfg.settings.statusPeriod }

/-- R195: STATUS_TIMER_EXPIRY has an effect when the timer runs and has run out (log 3). -/
def statusDue (s : State) : Bool := s.mgmt.statusTimer == some 0 && s.ret.mode != .retain

/-- R195: the expiry of the status timer. -/
def takeStatusExpiry (s : State) : State := startStatusTimer (sendStatus s)

/-! ## Supervision (R194) -/

/-- R194: the period, in s, of a supervision timer that has run out (log 3). -/
def supervisionOut (s : State) : Option Nat :=
  match s.mgmt.supervision with
  | .lost => none
  | .ok period left => if left = 0 ∧ s.ret.mode ≠ .retain then some period else none

/-- R194: the expiry of the supervision timer. -/
def takeSupervisionExpiry (period : Nat) (s : State) : State :=
  raise (.supervisionLost period) (putSupervision .lost s)

/-! ## The loss of main supply (R199) -/

/-- The part with no supply (R199, log 17): it keeps no state. -/
def powerOff (s : State) : State :=
  { State.cold ColdInputs.chosen with pending := s.pending, power := false }

/-- The part mode changes. -/
def putMode (m : Mode) (s : State) : State := s.setRet { s.ret with mode := m }

/-- R199: the mode changes and MODE_CHANGED is raised. -/
def changeMode (m : Mode) (s : State) : State :=
  raise (.modeChanged s.ret.mode m s.ret.startKind) (putMode m s)

/-- R186: a port at the entry into RETAIN: DOWN, its queue emptied without flags. -/
def PortState.retained (p : PortState) : PortState := { p with up := false, queue := [] }

/-- R186, R169: a port at the entry into RESTORED: it comes UP, where it has a link, with an empty queue
(log 24). -/
def PortState.restored (p : PortState) : PortState := { p with up := p.link, queue := [] }

/-- R186: both ports change. -/
def changePorts (f : PortState → PortState) (s : State) : State :=
  s.setLinks { s.links with plant := f s.links.plant, yard := f s.links.yard }

/-- R134, R109, R87: the grant ends and the queue is emptied without answers; the table arbiter is STILL
with no holds and no requests. -/
def dropMotion (s : State) : State :=
  let granted := s.grid.grant.isSome
  let s := s.setGrid { s.grid with grant := none, queue := [] }
  let s := s.setArb { Arbiter.cold with nextMove := s.arb.nextMove }
  if granted then evalPresence s else s

/-- R195: the status timer does not run in RETAIN. -/
def stopStatusTimer (s : State) : State := s.setMgmt { s.mgmt with statusTimer := none }

/-- R161: the stopped levels of a HELD sequencer's lines become OFF. -/
def darken (k : Furnace) (s : State) : State :=
  if (s.seq k).state = .held then putStopped k (some (List.replicate 8 false)) s else s

/-- R199: the entry into RETAIN. -/
def enterRetain (s : State) : State :=
  darken .f2 (darken .f1 (dropMotion (stopStatusTimer
    (changePorts PortState.retained (changeMode .retain s)))))

/-- R199: the loss of main supply. -/
def mainLost (s : State) : State :=
  if s.ret.mode = .retain then s
  else if s.ret.backup then finish (enterRetain s)
  else powerOff s

/-- R199: the loss of backup supply; it matters in RETAIN alone (log 25). -/
def backupLost (s : State) : State := if s.ret.mode = .retain then powerOff s else s

/-! ## The return of main supply (R202, R81) -/

/-- R81: sequencer k changes state by its restore table. -/
def restoreSequencer (k : Furnace) (s : State) : State :=
  match (s.seq k).state with
  | .offline => s
  | .idle => s
  | .held => s
  | .positioning => enterIdle k s
  | .room => enterIdle k s
  | .pick => enterHeld k .restored none s
  | .carry => enterHeld k .restored none s
  | .lower => enterHeld k .restored none s
  | .retract => if s.armsClear k then enterIdle k s else enterHeld k .restored none s

/-- R81: the slab of a sequencer that stands in PICK. -/
def pickedTag (s : State) (k : Furnace) : Option Nat :=
  if (s.seq k).state = .pick then (s.cycle k).map (·.tag) else none

/-- R81, R85: the restore hold: from any state to HELD(TRACKING). -/
def restoreHold (tag : Option Nat) (s : State) : State :=
  match tag.bind s.findTag with
  | none => s
  | some r =>
    raise (.slabHeld r.tag r.id (some .tracking) (some r.state) (r.head s.travel))
      (updateRecord r.tag (fun x => { x with state := .held .tracking }) s)

/-- R194: supervision becomes LOST at the entry into RESTORED (the period carried: log 21). -/
def loseSupervision (s : State) : State :=
  match s.mgmt.supervision with
  | .lost => s
  | .ok period _ => takeSupervisionExpiry period s

/-- R199: the start kind. -/
def putStart (v : StartKind) (s : State) : State := s.setRet { s.ret with startKind := v }

/-- R202: the entry into RESTORED, up to its STATUS. -/
def enterRestored (s : State) : State :=
  let p1 := pickedTag s .f1
  let p2 := pickedTag s .f2
  let s := changePorts PortState.restored (changeMode .restored (putStart .restored s))
  let s := restoreSequencer .f2 (restoreSequencer .f1 s)
  loseSupervision (restoreHold p2 (restoreHold p1 s))

/-- R202: the return of main supply. -/
def mainReturns (s : State) : State :=
  if s.ret.mode = .retain then takeStatusExpiry (finish (enterRestored s)) else s

/-- R199: the level of the backup-supply input. -/
def putBackup (present : Bool) (s : State) : State := s.setRet { s.ret with backup := present }

/-! ## RESUME (R203) -/

/-- R203: the held events are sent, the oldest first. -/
def deliverHeld (s : State) : State := s.ret.held.foldl (fun s e => sendEvent e s) s

/-- R203, R205: the held-event list is emptied and HELD_OVERFLOW cleared. -/
def clearHeldList (s : State) : State := s.setRet { s.ret with held := [], overflow := false }

/-- R203: steps 2 to 4, and the occasions of the entry into RUN. -/
def resumeRun (s : State) : State :=
  markGrid (markStarts (changeMode .run (clearHeldList (deliverHeld s))))

/-- R203, R183: the held entries that a RESUME delivers: as many as find one of the 24 places of the plant queue
behind the RESPONSE. One that is discarded is not delivered (log 43). -/
def State.heldDelivered (s : State) : Nat := min s.ret.held.length (23 - s.links.plant.queue.length)

/-- R203: RESUME. -/
def ownResume (s : State) : CommandResult :=
  match s.ret.mode with
  | .run => refuse .wrongMode
  | .retain => refuse .wrongMode
  | .restored => .ok (.resumed s.heldDelivered s.ret.overflow, resumeRun)

/-! ## Resets (R204, R205) -/

/-- R204: the states in which the resets are refused. -/
def SeqState.chargeBusy : SeqState → Bool
  | .pick => true
  | .carry => true
  | .lower => true
  | .retract => true
  | _ => false

/-- R204: a reset is refused BUSY. -/
def resetRefused (s : State) : Bool := (s.seq .f1).state.chargeBusy || (s.seq .f2).state.chargeBusy

/-- R134: the holder is answered WITHDRAWN with the reason RESET. -/
def withdrawHolder (s : State) : State :=
  match s.grid.grant with
  | none => s
  | some g => answerCrane g.crane (some g.id) g.reference .withdrawnReset s

/-- R134: each crane with a queued request is answered WITHDRAWN with the reason RESET, in grant order
(log 5). -/
def withdrawQueued (s : State) : State :=
  s.gridOrder.foldl (fun s q => answerCrane q.crane (some q.id) q.reference .withdrawnReset s) s

/-- R134, R109: what a reset sends, with the partner list as it stands. -/
def sendResetNotices (s : State) : State := sendHalt .reset (withdrawQueued (withdrawHolder s))

/-- R204: the tracking state after RESET_TRACKING. -/
def clearTracking (s : State) : State :=
  { s with
    maps := ⟨.empty, .empty⟩
    tracker := { Tracker.cold with nextTag := s.tracker.nextTag }
    seqs := ⟨.offline, .offline⟩
    grid := .cold
    arb := { Arbiter.cold with nextMove := s.arb.nextMove }
    place := ⟨.cold, .cold⟩
    windows := ⟨{ s.windows.f1 with stopped := none }, { s.windows.f2 with stopped := none }⟩
    due := .none }

/-- R149: the counter holds are cleared. -/
def clearCounterHolds (s : State) : State := clearCounter (selectedCounter .all) s

/-- R204: RESET_TRACKING applied, behind its RESPONSE. -/
def resetTracking (s : State) : State :=
  evalPresence (clearCounterHolds (clearTracking (revertAll (sendResetNotices s))))

/-- R204: RESET_TRACKING. -/
def ownResetTracking (s : State) : CommandResult :=
  if resetRefused s then refuse .busy else .ok (.none, resetTracking)

/-- R151: a counter at its cold values, its phase reference at the pair the phases show. -/
def Counter.coldAgain (x : Counter) : Counter := .cold x.phase

/-- R151: a sensor input at its cold values. -/
def Sensor.coldAgain (x : Sensor) : Sensor := .cold x.electrical

/-- R186: a port after RESET_ALL: its flags are clear, the rest stands. -/
def PortState.reset (p : PortState) : PortState := p.clearFlags

/-- R205: every block at its cold values, but for the ports with their queues, the station address and
what the inputs show. -/
def coldBlocks (s : State) : State :=
  { s with
    ret := { s.ret with startKind := .cold, clock := 0, held := [], overflow := false }
    cfg := .default
    links := { s.links with plant := s.links.plant.reset, yard := s.links.yard.reset }
    mgmt := .cold
    schedule := []
    grid := .cold
    tracker := .cold
    arb := .cold
    seqs := ⟨.offline, .offline⟩
    place := ⟨.cold, .cold⟩
    maps := ⟨.empty, .empty⟩
    counters := ⟨s.counters.t.coldAgain, s.counters.c1.coldAgain, s.counters.c2.coldAgain⟩
    sensors := ⟨s.sensors.ms.coldAgain, s.sensors.gp.coldAgain, s.sensors.d1.coldAgain,
      s.sensors.d2.coldAgain, s.sensors.te.coldAgain⟩
    windows := ⟨.cold, .cold⟩
    due := .none }

/-- R205: the mode after RESET_ALL; MODE_CHANGED where it changes. -/
def runAgain (s : State) : State := if s.ret.mode = .run then s else changeMode .run s

/-- R205: RESET_ALL applied, behind its RESPONSE. A MODE_CHANGED is formed last, with the partner list
without values and the clock at 0 (log 41). -/
def resetAll (s : State) : State := evalPresence (runAgain (coldBlocks (sendResetNotices s)))

/-- R205: RESET_ALL. -/
def ownResetAll (s : State) : CommandResult :=
  if resetRefused s then refuse .busy else .ok (.none, resetAll)

/-! ## The cold start (R206) -/

/-- R206, R108: every block at its cold values with what the inputs show, and the grid watch evaluated. -/
def coldStart (i : ColdInputs) (s : State) : State :=
  evalPresence { State.cold i with pending := s.pending }

/-! ## The commands -/

/-- HEARTBEAT (R194). -/
def execHeartbeat (h : Hdr) (s : State) : Host.Outcome State Fault Refusal :=
  powered (manage (.heartbeat h) Kind.heartbeat h (takeHeartbeat h)) s

/-- RESUME (R203). -/
def execResume (h : Hdr) (s : State) : Host.Outcome State Fault Refusal :=
  powered (manage (.resume h) Kind.command h (takeCommand h ownResume)) s

/-- RESET_TRACKING (R204). -/
def execResetTracking (h : Hdr) (s : State) : Host.Outcome State Fault Refusal :=
  powered (manage (.resetTracking h) Kind.command h (takeCommand h ownResetTracking)) s

/-- RESET_ALL (R205). -/
def execResetAll (h : Hdr) (s : State) : Host.Outcome State Fault Refusal :=
  powered (manage (.resetAll h) Kind.command h (takeCommand h ownResetAll)) s

/-- SUPERVISION_TIMEOUT (R194). -/
def execSupervisionTimeout (elapsed : Nat) (s : State) : Host.Outcome State Fault Refusal :=
  powered (fun s =>
    let t := elapse elapsed s
    match supervisionOut t with
    | none => t
    | some p => finish (takeSupervisionExpiry p t)) s

/-- STATUS_TIMER_EXPIRY (R195). -/
def execStatusTimerExpiry (elapsed : Nat) (s : State) : Host.Outcome State Fault Refusal :=
  powered (fun s =>
    let t := elapse elapsed s
    if statusDue t then takeStatusExpiry t else t) s

/-- SECONDS_CLOCK_STEP (R200). -/
def execSecondsClockStep (elapsed : Nat) (s : State) : Host.Outcome State Fault Refusal :=
  powered (fun s =>
    let t := elapse elapsed s
    t.setRet { t.ret with clock := t.ret.clock + 1 }) s

/-- MAIN_SUPPLY_LOST (R199). -/
def execMainSupplyLost (s : State) : Host.Outcome State Fault Refusal := powered mainLost s

/-- MAIN_SUPPLY_RETURNS (R202). -/
def execMainSupplyReturns (s : State) : Host.Outcome State Fault Refusal := powered mainReturns s

/-- BACKUP_SUPPLY_LOST (R199). -/
def execBackupSupplyLost (s : State) : Host.Outcome State Fault Refusal := powered backupLost s

/-- BACKUP_SENSE_CHANGE (R199). -/
def execBackupSenseChange (present : Bool) (s : State) : Host.Outcome State Fault Refusal :=
  powered (putBackup present) s

/-- COLD_START (R206): it acts whether the part is on or has stopped. -/
def execColdStart (inputs : ColdInputs) (s : State) : Host.Outcome State Fault Refusal :=
  .next (coldStart inputs s)

end Sys2Proof.Machine
end

