-- ==== Sys2Proof/Machine/Dispatch.lean ====
section
/-! DEFINITION. The meaning of every command: one arm for each constructor of `Instr`, in the order of
spec/opcode_table.json. -/

namespace Sys2Proof.Machine

def exec (i : Instr) (s : State) : Host.Outcome State Fault Refusal :=
  match i with
  | .frameCheckFailed port => Sys2Proof.Machine.execFrameCheckFailed port s
  | .forwardedFrame port etherDst etherSrc etherType bytes => Sys2Proof.Machine.execForwardedFrame port etherDst etherSrc etherType bytes s
  | .malformedTelegram t => Sys2Proof.Machine.execMalformedTelegram t s
  | .wrongKindTelegram t => Sys2Proof.Machine.execWrongKindTelegram t s
  | .notFromYard t => Sys2Proof.Machine.execNotFromYard t s
  | .passingTelegram t => Sys2Proof.Machine.execPassingTelegram t s
  | .gridRequest h crane id => Sys2Proof.Machine.execGridRequest h crane id s
  | .gridRelease h crane => Sys2Proof.Machine.execGridRelease h crane s
  | .depositReport h crane id width thickness mass => Sys2Proof.Machine.execDepositReport h crane id width thickness mass s
  | .removalReport h crane id => Sys2Proof.Machine.execRemovalReport h crane id s
  | .tableReport h number outcome faultCode => Sys2Proof.Machine.execTableReport h number outcome faultCode s
  | .manualTableMove h payload => Sys2Proof.Machine.execManualTableMove h payload s
  | .manualStroke h payload => Sys2Proof.Machine.execManualStroke h payload s
  | .strokeReport h performed => Sys2Proof.Machine.execStrokeReport h performed s
  | .dischargeReport h count id1 id2 => Sys2Proof.Machine.execDischargeReport h count id1 id2 s
  | .lifted h tag faultCode => Sys2Proof.Machine.execLifted h tag faultCode s
  | .atDepth h tag faultCode => Sys2Proof.Machine.execAtDepth h tag faultCode s
  | .lowered h tag faultCode => Sys2Proof.Machine.execLowered h tag faultCode s
  | .retracted h tag faultCode => Sys2Proof.Machine.execRetracted h tag faultCode s
  | .chargerReportRefused h tag faultCode => Sys2Proof.Machine.execChargerReportRefused h tag faultCode s
  | .chargerReportFault h tag faultCode => Sys2Proof.Machine.execChargerReportFault h tag faultCode s
  | .heartbeat h => Sys2Proof.Machine.execHeartbeat h s
  | .loadFurnaceGeometry h sel first entries => Sys2Proof.Machine.execLoadFurnaceGeometry h sel first entries s
  | .loadGapRules h sel first entries => Sys2Proof.Machine.execLoadGapRules h sel first entries s
  | .loadThicknessClasses h first entries => Sys2Proof.Machine.execLoadThicknessClasses h first entries s
  | .loadChargerTiming h sel first entries => Sys2Proof.Machine.execLoadChargerTiming h sel first entries s
  | .loadTableGeometry h first entries => Sys2Proof.Machine.execLoadTableGeometry h first entries s
  | .loadCounterSetup h sel first entries => Sys2Proof.Machine.execLoadCounterSetup h sel first entries s
  | .loadSensorSetup h first entries => Sys2Proof.Machine.execLoadSensorSetup h first entries s
  | .loadWindowPool h first entries => Sys2Proof.Machine.execLoadWindowPool h first entries s
  | .loadWindowSets h sel first entries => Sys2Proof.Machine.execLoadWindowSets h sel first entries s
  | .loadLineSettings h sel first entries => Sys2Proof.Machine.execLoadLineSettings h sel first entries s
  | .loadPassage h first entries => Sys2Proof.Machine.execLoadPassage h first entries s
  | .loadStatusMap h first entries => Sys2Proof.Machine.execLoadStatusMap h first entries s
  | .loadPartSettings h first entries => Sys2Proof.Machine.execLoadPartSettings h first entries s
  | .readFurnaceGeometry h sel first count => Sys2Proof.Machine.execReadFurnaceGeometry h sel first count s
  | .readGapRules h sel first count => Sys2Proof.Machine.execReadGapRules h sel first count s
  | .readThicknessClasses h first count => Sys2Proof.Machine.execReadThicknessClasses h first count s
  | .readChargerTiming h sel first count => Sys2Proof.Machine.execReadChargerTiming h sel first count s
  | .readTableGeometry h first count => Sys2Proof.Machine.execReadTableGeometry h first count s
  | .readCounterSetup h sel first count => Sys2Proof.Machine.execReadCounterSetup h sel first count s
  | .readSensorSetup h first count => Sys2Proof.Machine.execReadSensorSetup h first count s
  | .readWindowPool h first count => Sys2Proof.Machine.execReadWindowPool h first count s
  | .readWindowSets h sel first count => Sys2Proof.Machine.execReadWindowSets h sel first count s
  | .readLineSettings h sel first count => Sys2Proof.Machine.execReadLineSettings h sel first count s
  | .readPassage h first count => Sys2Proof.Machine.execReadPassage h first count s
  | .readStatusMap h first count => Sys2Proof.Machine.execReadStatusMap h first count s
  | .readPartSettings h first count => Sys2Proof.Machine.execReadPartSettings h first count s
  | .scheduleEdit h ops => Sys2Proof.Machine.execScheduleEdit h ops s
  | .deleteSlab h tag => Sys2Proof.Machine.execDeleteSlab h tag s
  | .setRowFront h sel row front => Sys2Proof.Machine.execSetRowFront h sel row front s
  | .insertSlab h sel front id width length thickness group mass => Sys2Proof.Machine.execInsertSlab h sel front id width length thickness group mass s
  | .armFurnace h sel => Sys2Proof.Machine.execArmFurnace h sel s
  | .disarmFurnace h sel => Sys2Proof.Machine.execDisarmFurnace h sel s
  | .stopCharger h sel => Sys2Proof.Machine.execStopCharger h sel s
  | .releaseCharger h sel => Sys2Proof.Machine.execReleaseCharger h sel s
  | .resolveInflightLanded h sel front => Sys2Proof.Machine.execResolveInflightLanded h sel front s
  | .resolveInflightRemoved h sel => Sys2Proof.Machine.execResolveInflightRemoved h sel s
  | .acceptSlab h tag width length thickness group dest => Sys2Proof.Machine.execAcceptSlab h tag width length thickness group dest s
  | .rejectSlab h tag => Sys2Proof.Machine.execRejectSlab h tag s
  | .removeSlab h tag => Sys2Proof.Machine.execRemoveSlab h tag s
  | .enterSlab h id width thickness mass => Sys2Proof.Machine.execEnterSlab h id width thickness mass s
  | .clearHolds h sel => Sys2Proof.Machine.execClearHolds h sel s
  | .clearError h => Sys2Proof.Machine.execClearError h s
  | .clearLink h sel => Sys2Proof.Machine.execClearLink h sel s
  | .resume h => Sys2Proof.Machine.execResume h s
  | .resetTracking h => Sys2Proof.Machine.execResetTracking h s
  | .resetAll h => Sys2Proof.Machine.execResetAll h s
  | .queryMap h q => Sys2Proof.Machine.execQueryMap h q s
  | .queryTableList h q => Sys2Proof.Machine.execQueryTableList h q s
  | .querySchedule h q => Sys2Proof.Machine.execQuerySchedule h q s
  | .queryInflight h sel => Sys2Proof.Machine.execQueryInflight h sel s
  | .queryGrid h => Sys2Proof.Machine.execQueryGrid h s
  | .queryCounters h => Sys2Proof.Machine.execQueryCounters h s
  | .queryHolds h clear => Sys2Proof.Machine.execQueryHolds h clear s
  | .positioningTimeout k elapsed => Sys2Proof.Machine.execPositioningTimeout k elapsed s
  | .strokeTimeout k elapsed => Sys2Proof.Machine.execStrokeTimeout k elapsed s
  | .pickTimeout k elapsed => Sys2Proof.Machine.execPickTimeout k elapsed s
  | .carryTimeout k elapsed => Sys2Proof.Machine.execCarryTimeout k elapsed s
  | .lowerTimeout k elapsed => Sys2Proof.Machine.execLowerTimeout k elapsed s
  | .retractTimeout k elapsed => Sys2Proof.Machine.execRetractTimeout k elapsed s
  | .grantTimeout elapsed => Sys2Proof.Machine.execGrantTimeout elapsed s
  | .supervisionTimeout elapsed => Sys2Proof.Machine.execSupervisionTimeout elapsed s
  | .statusTimerExpiry elapsed => Sys2Proof.Machine.execStatusTimerExpiry elapsed s
  | .gateEnd c elapsed => Sys2Proof.Machine.execGateEnd c elapsed s
  | .secondsClockStep elapsed => Sys2Proof.Machine.execSecondsClockStep elapsed s
  | .encoderStep c a b => Sys2Proof.Machine.execEncoderStep c a b s
  | .markerEdge c rising => Sys2Proof.Machine.execMarkerEdge c rising s
  | .rawTransition input electrical => Sys2Proof.Machine.execRawTransition input electrical s
  | .filterTimeElapsed input elapsed => Sys2Proof.Machine.execFilterTimeElapsed input elapsed s
  | .portDown p => Sys2Proof.Machine.execPortDown p s
  | .portUp p => Sys2Proof.Machine.execPortUp p s
  | .frameSent p => Sys2Proof.Machine.execFrameSent p s
  | .mainSupplyLost => Sys2Proof.Machine.execMainSupplyLost s
  | .mainSupplyReturns => Sys2Proof.Machine.execMainSupplyReturns s
  | .backupSupplyLost => Sys2Proof.Machine.execBackupSupplyLost s
  | .backupSenseChange present => Sys2Proof.Machine.execBackupSenseChange present s
  | .coldStart inputs => Sys2Proof.Machine.execColdStart inputs s

end Sys2Proof.Machine
end

