-- ==== Sys2Proof/Safety.lean ====
section
/-! DEFINITION. What the statements speak of: which telegrams reach the part's units, and the conditions
on a state that the manual says always stand (R3, R4, R6, R83, R93, R101, R111, R153, R169, R183, R201). -/

namespace Sys2Proof.Machine

/-! ## Telegrams that reach a unit -/

/-- A telegram is received and has the form of R170: its port is UP, its length field is at most 120, its
frame is not cut short, its source is neither 63 nor the part's own station. -/
abbrev Received (s : State) (h : Hdr) : Prop :=
  s.power = true ∧ (s.links.port h.port).up = true ∧ h.length ≤ 120 ∧ h.truncated = false
    ∧ h.source ≠ 63 ∧ s.links.station ≠ some h.source

/-- A management telegram that the management unit takes (R175, R176): received at the plant port and
addressed to the part. -/
abbrev Managed (s : State) (h : Hdr) : Prop :=
  Received s h ∧ h.port = .plant ∧ s.links.station = some h.dest

/-- A field telegram addressed to the part that comes from a role of its kind (R175, R177). -/
abbrev FieldTaken (s : State) (kind : Nat) (h : Hdr) (r : Role) : Prop :=
  Received s h ∧ s.links.station = some h.dest ∧ roleOf s kind h = .ok r
    ∧ fieldLength kind = some h.length

/-- A passing telegram of a kind with the action OBSERVE that comes from a role of its kind (R179). -/
abbrev FieldObserved (s : State) (kind : Nat) (h : Hdr) (r : Role) : Prop :=
  Received s h ∧ s.links.station ≠ some h.dest ∧ actionOf s.cfg.passage kind = .observe
    ∧ roleOf s kind h = .ok r ∧ fieldLength kind = some h.length

/-! ## Maps (R1, R3, R4) -/

/-- R3, R4: neighbouring rows stand in order and share no depth; a row with one behind it is not
pair-open. -/
def rowsOrdered : List Row → Bool
  | [] => true
  | [_] => true
  | a :: b :: l =>
    decide (b.front < a.front) && decide (b.front ≤ a.trailing) && !a.pairOpen && rowsOrdered (b :: l)

/-- R1, R2, R4: the extent is the greatest width of the row's slabs, the widths lie in their range, and a
pair-open row holds one slab, in lane A. -/
def Row.wf (r : Row) : Bool :=
  decide (r.extent = r.occ.extent) && r.slabs.all (fun x => inRange 800 2800 x.width)
    && (!r.pairOpen || (match r.occ with | .a _ => true | _ => false))

/-- R3, R4: the order of a furnace map. -/
def FurnaceMap.wf (m : FurnaceMap) : Bool :=
  decide (m.rows.length ≤ 64) && rowsOrdered m.rows && m.rows.all Row.wf

/-- Both maps stand in order. -/
abbrev MapsInOrder (s : State) : Prop := s.maps.f1.wf = true ∧ s.maps.f2.wf = true

/-- R110, R82: the width of a table record and its nominal width lie in their range, where they are there. -/
def TableRecord.widthOk (r : TableRecord) : Bool :=
  r.width.all (inRange 800 2800) && (r.nominals.map (·.width)).all (inRange 800 2800)

/-- R49, R50: what sequencer k may land has a width in its range: that of its in-flight record and that of
its final computation, which has been made in PICK, CARRY and LOWER and wherever a slab is in flight. -/
abbrev SequencerWidths (s : State) (k : Furnace) : Prop :=
  (∀ f ∈ (s.seqs.get k).inflight, f.record.widthOk = true)
    ∧ (∀ o ∈ s.finalOperands k, inRange 800 2800 o.width.value = true)
    ∧ ((s.seqs.get k).state = .pick ∨ (s.seqs.get k).state = .carry ∨ (s.seqs.get k).state = .lower
        ∨ (s.seqs.get k).inflight.isSome = true → (s.finalOperands k).isSome = true)

/-- R2, R82, R110: every width that may come into a map lies in 800 to 2,800 mm. -/
abbrev WidthsInRange (s : State) : Prop :=
  (∀ r ∈ s.tracker.table, r.widthOk = true) ∧ (∀ e ∈ s.schedule, inRange 800 2800 e.width = true)
    ∧ SequencerWidths s .f1 ∧ SequencerWidths s .f2

/-! ## Tags and identities (R6) -/

/-- A figure of every slab in the part's account: the table list, the two in-flight records, the maps. -/
def State.account {α : Type} (ofRecord : TableRecord → α) (ofSlab : FurnaceSlab → α) (s : State) :
    List α :=
  (s.tracker.table ++ (s.seqs.f1.inflight.map (·.record)).toList
      ++ (s.seqs.f2.inflight.map (·.record)).toList).map ofRecord
    ++ (s.maps.f1.slabs ++ s.maps.f2.slabs).map ofSlab

/-- R6: no tag and no identity is held twice. -/
abbrev HeldOnce (s : State) : Prop :=
  (s.account (·.tag) (·.tag)).Nodup ∧ (s.account (·.id) (·.id)).Nodup

/-! ## Schedule (R111) -/

/-- R111: strictly rising sequence numbers. -/
def seqsRise : List ScheduleEntry → Bool
  | [] => true
  | [_] => true
  | a :: b :: l => decide (a.seq < b.seq) && seqsRise (b :: l)

/-- R111: no identity stands twice. -/
def idsDiffer : List ScheduleEntry → Bool
  | [] => true
  | a :: l => l.all (fun e => e.id != a.id) && idsDiffer l

/-- R111: the order of the schedule table. -/
abbrev ScheduleInOrder (s : State) : Prop :=
  seqsRise s.schedule = true ∧ idsDiffer s.schedule = true ∧ s.schedule.length ≤ 256

/-! ## The table (R83, R93, R101) -/

/-- R83: at most 8 records; a place is kept free for the deposit of a grant (R125). -/
abbrev TableBounded (s : State) : Prop :=
  s.tracker.table.length ≤ 8 ∧ (s.grid.grant.isSome = true → s.tracker.table.length < 8)

/-- R83: the heads stand in strictly falling order from the first record to the last. -/
abbrev TableInOrder (s : State) : Prop :=
  s.tracker.table.Pairwise fun a b => b.anchor < a.anchor

/-- R88, R105: the commands that may create a table record. -/
def mayCreate : Option Instr → Bool
  | some (.depositReport ..) => true
  | some (.enterSlab ..) => true
  | _ => false

/-- R83, R87, R88: where the command at the front of the queue may create a record, X_G lies upstream of every
head of the list. -/
abbrev CreatedIsLast (s : State) : Prop :=
  mayCreate s.pending.head? = true →
    ∃ g, s.cfg.tableGeometry = some g ∧ ∀ r ∈ s.tracker.table, g.xG < r.anchor + s.travel

/-- R93, R101: while the table moves no hold stands. -/
abbrev MotionExcludesHolds (s : State) : Prop :=
  s.arb.motion.moving = true → s.chargerHold = false ∧ s.arb.gridHold = none

/-- R121, R101: the grid hold is that of the crane with the grant. -/
abbrev GridHoldIsGrant (s : State) : Prop := s.arb.gridHold = s.grid.grant.map (·.crane)

/-! ## Loaded tables -/

/-- The number of entries of each loaded table: 8 gaps (R32), 6 timeouts (R53), 96 pool entries (R155), 32
set lines (R156), 8 stop levels (R157), 32 passage entries (R178), 16 mapped words (R196). -/
abbrev TablesShaped (s : State) : Prop :=
  s.cfg.gaps.f1.length = 8 ∧ s.cfg.gaps.f2.length = 8 ∧ s.cfg.timing.f1.length = 6
    ∧ s.cfg.timing.f2.length = 6 ∧ s.cfg.pool.length = 96 ∧ s.cfg.sets.f1.length = 32
    ∧ s.cfg.sets.f2.length = 32 ∧ s.cfg.lineSettings.f1.stops.length = 8
    ∧ s.cfg.lineSettings.f2.stops.length = 8 ∧ s.cfg.passage.length = 32
    ∧ s.cfg.statusMap.length = 16

/-! ## Queues, held events, lines -/

/-- R183: at most 24 frames in each transmit queue. -/
abbrev QueuesBounded (s : State) : Prop :=
  s.links.plant.queue.length ≤ 24 ∧ s.links.yard.queue.length ≤ 24

/-- R169, R184, R186: a port is UP while it has a link, but in RETAIN DOWN; the queue of a port that is
DOWN is empty. -/
abbrev PortFollowsLink (m : Mode) (p : PortState) : Prop :=
  p.up = (p.link && m != .retain) ∧ (p.up = false → p.queue = [])

/-- Both ports follow their links. -/
abbrev PortsFollowLinks (s : State) : Prop :=
  PortFollowsLink s.ret.mode s.links.plant ∧ PortFollowsLink s.ret.mode s.links.yard

/-- R201: at most 16 held events. -/
abbrev HeldBounded (s : State) : Prop := s.ret.held.length ≤ 16

/-- R153, R159: each of the sixteen lines stands at the level that R153 gives. -/
abbrev LinesFollow (s : State) : Prop :=
  s.windows.f1.lines = s.lineLevels .f1 ∧ s.windows.f2.lines = s.lineLevels .f2

/-- What an event of a sequencer leaves alone: tables, management items, schedule, grid, table list,
placement holds, maps, counters, sensor inputs, mode and clock. -/
abbrev KeepsAccounts (s t : State) : Prop :=
  t.cfg = s.cfg ∧ t.mgmt = s.mgmt ∧ t.schedule = s.schedule ∧ t.grid = s.grid ∧ t.tracker = s.tracker
    ∧ t.place = s.place ∧ t.maps = s.maps ∧ t.counters = s.counters ∧ t.sensors = s.sensors
    ∧ t.ret.mode = s.ret.mode ∧ t.ret.clock = s.ret.clock

/-! ## Sequencers (R48, R50, R51) -/

/-- R51, R50: a sequencer that was q has entered HELD with a cause: its timer is stopped, no stroke is
outstanding, and a slab in flight is UNCERTAIN. -/
abbrev HeldFrom (cause : HeldCause) (q q' : Sequencer) : Prop :=
  q'.state = .held ∧ q'.cause = some cause ∧ q'.waiting = .none
    ∧ q'.cycle = q.cycle.map (fun c => { c with timer := none, outstanding := 0 })
    ∧ q'.inflight = q.inflight.map (fun f => { f with certainty := .uncertain })

/-- R49, R57: a sequencer that was q has entered IDLE, before its start evaluation. -/
abbrev IdleFrom (q q' : Sequencer) : Prop :=
  q'.state = .idle ∧ q'.cause = none ∧ q'.waiting = .none ∧ q'.cycle = none
    ∧ q'.inflight = q.inflight

/-- R53: the state in which a timeout runs. -/
def timerState : TimeoutKind → SeqState
  | .positioning => .positioning
  | .stroke => .room
  | .pick => .pick
  | .carry => .carry
  | .lower => .lower
  | .retract => .retract

/-- R48, R50: sequencer k holds what its state says it holds; its positioning request stands with the
table arbiter in POSITIONING alone (R58, R61), and its timer runs in its own state alone (R53). -/
abbrev SequencerConsistent (s : State) (k : Furnace) : Prop :=
  ((s.seqs.get k).inflight.isSome = true →
      (s.seqs.get k).state = .carry ∨ (s.seqs.get k).state = .lower ∨ (s.seqs.get k).state = .held)
    ∧ ((s.seqs.get k).state = .carry ∨ (s.seqs.get k).state = .lower →
      (s.seqs.get k).inflight.isSome = true)
    ∧ ((s.seqs.get k).state = .idle ∨ (s.seqs.get k).state = .offline → (s.seqs.get k).cycle = none)
    ∧ ((s.seqs.get k).state ≠ .idle → (s.seqs.get k).state ≠ .offline →
      (s.seqs.get k).state ≠ .held → (s.seqs.get k).cycle.isSome = true)
    ∧ ((s.seqs.get k).cause.isSome = true ↔ (s.seqs.get k).state = .held)
    ∧ ((s.arb.requests.get k).isSome = true → (s.seqs.get k).state = .positioning)
    ∧ (∀ w ∈ ((s.seqs.get k).cycle.bind (·.timer)).map (·.which),
      (s.seqs.get k).state = timerState w)

/-- R48, R109: outside RETAIN charger k's hold on the table is recorded in ROOM and PICK, and there alone; in
RETAIN no charger hold is. -/
abbrev HoldFollows (s : State) (k : Furnace) : Prop :=
  (s.ret.mode ≠ .retain → (s.arb.holds.get k = true ↔
      (s.seqs.get k).state = .room ∨ (s.seqs.get k).state = .pick))
    ∧ (s.ret.mode = .retain → s.arb.holds.get k = false)

/-- R48, R109 for both chargers. -/
abbrev HoldsFollow (s : State) : Prop := HoldFollows s .f1 ∧ HoldFollows s .f2

/-- R55, R57, R58: an armed sequencer k, and one whose move runs, has its geometry and that of the table, and the
slab of its cycle in POSITIONING, ROOM and PICK is a record of the table list for its furnace. -/
abbrev CycleSlab (s : State) (k : Furnace) : Prop :=
  ((s.seqs.get k).state ≠ .offline ∨ (∃ n, s.arb.motion = .positioning k n true) →
      (s.cfg.geometry.get k).isSome = true ∧ s.cfg.tableGeometry.isSome = true)
    ∧ ((s.seqs.get k).state = .positioning ∨ (s.seqs.get k).state = .room ∨ (s.seqs.get k).state = .pick →
      (((s.seqs.get k).cycle.bind fun c => s.tracker.table.find? fun r => r.tag == c.tag).bind (·.dest))
        = some k)

/-- R55, R57, R58 for both sequencers. -/
abbrev CycleSlabs (s : State) : Prop := CycleSlab s .f1 ∧ CycleSlab s .f2

/-- R109: in RETAIN the table arbiter has no positioning request. -/
abbrev RetainRequests (s : State) : Prop := s.ret.mode = .retain → s.arb.requests = ⟨none, none⟩

/-- R48, R50 for both sequencers. -/
abbrev SequencersConsistent (s : State) : Prop :=
  SequencerConsistent s .f1 ∧ SequencerConsistent s .f2

/-! ## Moves abandoned (R93, R99) -/

/-- R99: TABLE_HALT with a reason for a move that charger k owns, wanted or not; none for another motion. -/
def haltFor (k : Furnace) (m : Motion) (reason : HaltReason) (s : State) : State :=
  match m with
  | .positioning k' n _ => if k' = k then sendField .tableDrive 0 (.tableHalt n reason) s else s
  | _ => s

/-- R98: a motion after sequencer k has left POSITIONING: a move that it owns is no longer wanted. -/
def unwantedFor (k : Furnace) (m : Motion) : Motion :=
  match m with
  | .positioning k' n w => if k' = k then .positioning k' n false else .positioning k' n w
  | m => m

/-! ## Matches and refusals (R119, R120, R188, R191) -/

/-- R119, R120: the destination and the state of a record matched to the PLANNED entry e, by the armed
furnaces, their maps, the look-ahead and the PLANNED entries ahead as they stand. -/
abbrev MatchedTo (s : State) (e : ScheduleEntry) (r : TableRecord) : Prop :=
  ∃ k, r.dest = some k ∧ (∀ k', e.dest = .to k' → k = k')
    ∧ (e.dest = .either →
      k = if s.seqs.f2.state ≠ .offline ∧ (s.seqs.f1.state = .offline
          ∨ s.maps.f2.rows.length < s.maps.f1.rows.length) then .f2 else .f1)
    ∧ r.state =
      if (s.seqs.get k).state = .offline then .held .offlineFurnace
      else if s.cfg.settings.lookAhead
          ≤ (s.schedule.filter fun x => x.state == .planned && decide (x.seq < e.seq)).length then
        .held .outOfSequence
      else .ready

/-- R188, R191: what a refused LOAD_TABLE leaves: its RESPONSE with the code and the entry index, and the
error latch with its record. No table changes. -/
abbrev LoadRefused (h : Hdr) (t : TableId) (code : RespCode) (entry : Option Nat) (s : State) :
    Host.Outcome State Fault Refusal :=
  .next { respond h Kind.loadTable code entry .none s with
    mgmt := { s.mgmt with latch := some ⟨code, .load t, entry⟩ } }

/-- R20, R191: what a refused MAP_EDIT leaves: its RESPONSE (with the entry index 0: log 31) and the error latch
with the code, the operation and entry index 0. No map changes. -/
abbrev MapEditRefused (h : Hdr) (op : MapOpCode) (code : RespCode) (s : State) :
    Host.Outcome State Fault Refusal :=
  .next { respond h Kind.mapEdit code (some 0) .none s with
    mgmt := { s.mgmt with latch := some ⟨code, .map (some op), some 0⟩ } }

/-- R114, R191: what a SCHEDULE_EDIT of one operation that is refused leaves: its RESPONSE and the error latch
with the code, the operation and entry index 0. The schedule does not change. -/
abbrev OperationRefused (h : Hdr) (op : SchedOpCode) (code : RespCode) (s : State) :
    Host.Outcome State Fault Refusal :=
  .next { respond h Kind.scheduleEdit code (some 0) .none s with
    mgmt := { s.mgmt with latch := some ⟨code, .schedule (some op), some 0⟩ } }

/-- R163: no two windows that a line's list names are of one basis and share a depth. -/
abbrev WindowsApart (pool : List (Option Window)) (l : List Nat) : Prop :=
  (l.filterMap fun i => pool.getD i none).Pairwise fun v w =>
    ¬ (v.basis = w.basis ∧ v.on < w.off ∧ w.on < v.off)

/-- R188: `n` is the table index of the first of the entries `xs`, loaded from index `first` on, that fails a
test. -/
abbrev FirstFails {α : Type} (ok : Nat → α → Prop) (first : Nat) (xs : List α) (n : Nat) : Prop :=
  ∃ pre x post, xs = pre ++ x :: post ∧ n = first + pre.length
    ∧ (∀ i y, pre[i]? = some y → ok (first + i) y) ∧ ¬ ok n x

end Sys2Proof.Machine
end

