-- ==== Sys2Proof/Certificates/Slice0/Obligations.lean ====
section
/-! DEFINITION. The statements for the provers, from the numbered rules of spec/. Each is about the
meanings that `exec` calls or about `step`; `Received`, `Managed`, `FieldTaken`, `FieldObserved` and the
conditions on a state are in Sys2Proof/Safety.lean. -/

open Sys2Proof Sys2Proof.Machine

/-! ## Steps, reset, and what every step keeps -/

/-- The model's form of a block: a step takes the command at the front of the queue with the queue's rest; with
an empty queue the part idles (DESIGN CHOICE, log 2); every command answers a next state. -/
def Obligations.StepTakesFrontCommand : Prop :=
  (∀ (c : Instr) (rest : List Instr) (s : State), s.pending = c :: rest →
    step s = exec c { s with pending := rest })
  ∧ (∀ s : State, s.pending = [] → step s = .next s)
  ∧ (∀ (c : Instr) (s : State), ∃ t, exec c s = .next t)

/-- R206, R198, R26, R108, R109, R113, R134, R80, R167, R151: what the part holds right after reset. The levels
the inputs show are the model's choice (log 1) and are not stated. -/
def Obligations.ResetState : Prop :=
  let s := State.reset
  (s.ret.mode = .run ∧ s.ret.startKind = .cold ∧ s.ret.clock = 0 ∧ s.ret.held = []
      ∧ s.ret.overflow = false)
    ∧ (s.mgmt.latch = none ∧ s.mgmt.supervision = .lost ∧ s.mgmt.statusTimer = some 500)
    ∧ s.cfg = Tables.default
    ∧ (s.cfg.geometry.f1 = none ∧ s.cfg.geometry.f2 = none ∧ s.cfg.tableGeometry = none
      ∧ s.cfg.partners = none)
    ∧ (s.cfg.bounds = ⟨180, 260, 340⟩ ∧ s.cfg.gaps.f1 = [50, 70, 90, 110, 400, 450, 500, 550]
      ∧ s.cfg.gaps.f2 = [50, 70, 90, 110, 400, 450, 500, 550]
      ∧ s.cfg.timing.f1 = [40, 45, 20, 40, 20, 40] ∧ s.cfg.timing.f2 = [40, 45, 20, 40, 20, 40])
    ∧ (s.cfg.settings = ⟨500, 10, 2, 180⟩
      ∧ s.cfg.statusMap = [1, 2, 3, 5, 6, 10, 11, 14, 15, 20, 22, 24, 0, 0, 0, 0])
    ∧ (s.schedule = [] ∧ s.tracker.table = [] ∧ s.tracker.nextTag = 1 ∧ s.tracker.measuring = none
      ∧ s.tracker.unidentified = false)
    ∧ (s.grid.queue = [] ∧ s.grid.grant = none ∧ s.grid.nextRank = 1)
    ∧ (s.arb.motion = .still ∧ s.arb.holds.f1 = false ∧ s.arb.holds.f2 = false ∧ s.arb.gridHold = none
      ∧ s.arb.requests.f1 = none ∧ s.arb.requests.f2 = none ∧ s.arb.nextMove = 1)
    ∧ (s.seqs.f1 = .offline ∧ s.seqs.f2 = .offline)
    ∧ (s.maps.f1.rows = [] ∧ s.maps.f2.rows = [] ∧ s.maps.f1.lastLanding = 0
      ∧ s.maps.f2.lastLanding = 0)
    ∧ (s.place.f1.holds = .clear ∧ s.place.f2.holds = .clear ∧ s.place.f1.lastStroke = none
      ∧ s.place.f2.lastStroke = none)
    ∧ (s.counters.t.acc = 0 ∧ s.counters.t.raw = 0 ∧ s.counters.c1.homed = false
      ∧ s.counters.c2.homed = false)
    ∧ (s.links.plant.queue = [] ∧ s.links.yard.queue = [] ∧ s.links.flags = [])
    ∧ (s.windows.f1.lines = List.replicate 8 false ∧ s.windows.f2.lines = List.replicate 8 false
      ∧ s.windows.f1.stopped = none ∧ s.windows.f2.stopped = none)

/-- The conditions of the statements below hold right after reset. -/
def Obligations.ConditionsAtReset : Prop :=
  LinesFollow State.reset ∧ QueuesBounded State.reset ∧ HeldBounded State.reset
    ∧ TablesShaped State.reset ∧ ScheduleInOrder State.reset ∧ MotionExcludesHolds State.reset
    ∧ GridHoldIsGrant State.reset ∧ TableBounded State.reset ∧ MapsInOrder State.reset
    ∧ SequencersConsistent State.reset ∧ PortsFollowLinks State.reset ∧ WidthsInRange State.reset
    ∧ HeldOnce State.reset ∧ RetainRequests State.reset ∧ HoldsFollow State.reset
    ∧ CycleSlabs State.reset ∧ TableInOrder State.reset

/-- R153, R154, R159: every step leaves each of the sixteen lines at the level that R153 gives. -/
def Obligations.LinesFollowEveryStep : Prop :=
  ∀ s t : State, LinesFollow s → step s = .next t → LinesFollow t

/-- R183, R201, R169, R184, R186: no step brings more than 24 frames into a transmit queue, nor more than 16
events into the held-event list. Every step leaves each port UP as its link stands, in RETAIN DOWN, and the
queue of a port that is DOWN empty. -/
def Obligations.BuffersBoundedEveryStep : Prop :=
  (∀ s t : State, QueuesBounded s → step s = .next t → QueuesBounded t)
  ∧ (∀ s t : State, HeldBounded s → step s = .next t → HeldBounded t)
  ∧ (∀ s t : State, PortsFollowLinks s → step s = .next t → PortsFollowLinks t)

/-- R32, R53, R155 to R157, R178, R196: no step changes the size of a loaded table. -/
def Obligations.TablesShapedEveryStep : Prop :=
  ∀ s t : State, TablesShaped s → step s = .next t → TablesShaped t

/-- R111: every step keeps the schedule in strictly rising order of sequence number, with no identity twice and
at most 256 entries. -/
def Obligations.ScheduleInOrderEveryStep : Prop :=
  ∀ s t : State, ScheduleInOrder s → step s = .next t → ScheduleInOrder t

/-- R93, R101, R121: while the table moves no charger hold and no grid hold stands, and the grid hold is always
that of the crane with the grant. -/
def Obligations.MotionExcludesHoldsEveryStep : Prop :=
  ∀ s t : State, MotionExcludesHolds s ∧ GridHoldIsGrant s → step s = .next t →
    MotionExcludesHolds t ∧ GridHoldIsGrant t

/-- R83, R125, R128: every step keeps at most 8 records in the table list, and a place free under a grant. R83,
R87, R88, R90: every step keeps the heads of the list in strictly falling order, from downstream to upstream,
where a command that may create a record finds X_G upstream of every head; the clear tails that R105 and R125
ask for say so. -/
def Obligations.TableBoundedEveryStep : Prop :=
  (∀ s t : State, TableBounded s → step s = .next t → TableBounded t)
  ∧ ((∀ s t : State, TableInOrder s → (s.tracker.table.map (·.tag)).Nodup → CreatedIsLast s →
    step s = .next t → TableInOrder t)
  ∧ (∀ (s : State) (g : TableGeometry), s.cfg.tableGeometry = some g → g.xG ≤ g.xGE →
    s.tailsClear = true → (∀ r ∈ s.tracker.table, 0 ≤ r.assumed) →
    ∀ r ∈ s.tracker.table, g.xG < r.anchor + s.travel))

/-- R48, R50, R58, R61, R101, R109: every step leaves both sequencers holding what their states say they hold:
the cycle record, the in-flight record, the cause, the request and the timer, and in RETAIN no positioning
request; and, where no tag is held twice and the table list and the maps are in order, an armed sequencer keeps
its geometry and the slab of its cycle in POSITIONING, ROOM and PICK in the table list for its furnace (R55,
R57, R58), and charger k's hold on the table stands exactly in ROOM and PICK, in RETAIN never. -/
def Obligations.SequencersConsistentEveryStep : Prop :=
  (∀ s t : State, SequencersConsistent s ∧ RetainRequests s → step s = .next t →
    SequencersConsistent t ∧ RetainRequests t)
  ∧ (∀ s t : State, SequencersConsistent s ∧ RetainRequests s → HeldOnce s ∧ TableBounded s ∧ MapsInOrder s →
    CycleSlabs s ∧ HoldsFollow s → step s = .next t → CycleSlabs t ∧ HoldsFollow t)

/-- R34, R57, R95, R125, R159: serving the occasions of an event changes no loaded table, schedule entry, map,
counter, sensor input or management item, and neither the mode nor the clock. -/
def Obligations.ServingKeeps : Prop :=
  ∀ s : State, (finish s).pending = s.pending ∧ (finish s).power = s.power ∧ (finish s).cfg = s.cfg
    ∧ (finish s).schedule = s.schedule ∧ (finish s).maps = s.maps ∧ (finish s).counters = s.counters
    ∧ (finish s).sensors = s.sensors ∧ (finish s).mgmt = s.mgmt ∧ (finish s).ret.mode = s.ret.mode
    ∧ (finish s).ret.clock = s.ret.clock ∧ (finish s).ret.backup = s.ret.backup
    ∧ ∀ k, ((finish s).seqs.get k).inflight = (s.seqs.get k).inflight

/-- R183, R184, R197, R201: an own telegram takes a place behind those in its port's queue while the port is UP
and holds fewer than 24 frames; otherwise it is discarded and sets OWN_DISCARDED. In RUN a raised event is sent
with the seconds clock; in RETAIN and RESTORED it is held, or, with 16 held, sets HELD_OVERFLOW. R170, R171,
R138, R182: the bytes of a telegram the part forms, its payload length at offset 4 where a byte holds it (log
44): a figure modulo 2^32, big-endian; the absent values; identities padded with spaces; BLOCKED with 0 in the
fields its reason does not carry; the fields of UNEXPECTED_REPORT. R68, R98, R121, R122, R127, R106, R12, R16:
the payload of each telegram of a field kind, field by field in the order of its rule, and of the length of its
field list (code bytes: log 6; layout: log 42). -/
def Obligations.OwnTelegramsAndEvents : Prop :=
  (∀ (p : Port) (dest reference : Nat) (body : OwnBody) (s : State),
    (s.links.station = none → sendOwn p dest reference body s = s)
      ∧ ∀ st, s.links.station = some st →
        sendOwn p dest reference body s = { s with
          links := s.links.setPort p (if (s.links.port p).up = true ∧ (s.links.port p).queue.length < 24 then
            { s.links.port p with queue := (s.links.port p).queue ++
                [.own { etherDst := 0xFFFFFFFFFFFF, etherSrc := Config.portAddress p,
                        etherType := 0xA7E1, dest, source := st, reference, body }] }
          else { s.links.port p with ownDiscarded := true }) })
  ∧ (∀ (e : Event) (s : State),
    (s.ret.mode = .run → raise e s =
        sendOwn .plant (match s.cfg.partners with | none => 63 | some ps => ps.scheduling) 0
          (.event ⟨e, s.ret.clock⟩) s)
      ∧ (s.ret.mode ≠ .run → s.ret.held.length < 16 → raise e s =
        { s with ret := { s.ret with held := s.ret.held ++ [⟨e, s.ret.clock⟩] } })
      ∧ (s.ret.mode ≠ .run → 16 ≤ s.ret.held.length → raise e s =
        { s with ret := { s.ret with overflow := true } }))
  ∧ ((∀ t : OwnTelegram, t.bytes = [byteOf t.dest, byteOf t.source, byteOf t.body.kind,
      byteOf t.reference, oneByte t.body.payload.length] ++ t.body.payload)
    ∧ (∀ n : Nat, n < 256 → (oneByte n).toNat = n ∧ (byteOf n).toNat = n
      ∧ (Field.byte n).bytes = [oneByte n])
    ∧ (∀ x : Identity, x.length ≤ 12 → (Field.identity x).bytes = x ++ List.replicate (12 - x.length) 32)
    ∧ (∀ c : CodeName, (Field.code c).bytes = [Config.codeByte c])
    ∧ (∀ x : Int, ∃ a b c d : Byte, (Field.figure x).bytes = [a, b, c, d]
      ∧ (16777216 * a.toNat + 65536 * b.toNat + 256 * c.toNat + d.toNat : Int) = x % 4294967296)
    ∧ (∀ n : Nat, n < 65536 → ∃ a b : Byte, (Field.tag n).bytes = [a, b]
      ∧ 256 * a.toNat + b.toNat = n)
    ∧ (Field.figure? none).bytes = [0x80, 0, 0, 0] ∧ (Field.byte? none).bytes = [0xFF]
    ∧ (Field.mass none).bytes = [0, 0, 0, 0]
    ∧ (∀ kind dest m c g, ∃ l, (OwnBody.blocked kind dest (.tableBusy m c g)).payload
        = [oneByte kind, oneByte dest] ++ l ++ [0, 0] ∧ l.length = 5)
    ∧ (∀ kind dest k st, ∃ a b c, (OwnBody.blocked kind dest (.charging k st)).payload
        = [oneByte kind, oneByte dest, a, 0, 0, 0, 0, b, c])
    ∧ (∀ kind dest r, r = .queueFull ∨ r = .notGuardedRole → ∃ a,
        (OwnBody.blocked kind dest r).payload = [oneByte kind, oneByte dest, a, 0, 0, 0, 0, 0, 0])
    ∧ (∀ l : List Nat, (RespData.durations l).fields = l.map fun x => Field.figure x)
    ∧ (∀ k st ph tag, (Event.unexpectedCharger k st ph tag).fields
        = [.code (.furnace k), .code (.seqState st), .code (.phase ph), .tag tag])
    ∧ (∀ m o n, (Event.unexpectedTable m o n).fields
        = [.code (.role .tableDrive), .code (.moving (m != .still)), .code (.moveOutcome o), .byte n]))
  ∧ ((∀ (h : Hdr) (tag fault : Nat), tag < 65536 → fault < 256 →
      ∀ x ∈ [(Instr.lifted h tag fault, ChargerPhase.lifted), (.atDepth h tag fault, .atDepth),
        (.lowered h tag fault, .lowered), (.retracted h tag fault, .retracted),
        (.chargerReportRefused h tag fault, .refused), (.chargerReportFault h tag fault, .fault)],
      ∃ l, Instr.fields x.1 = some (Kind.chargerReport, l) ∧ ∃ a b c : Byte,
        fieldBytes l = [a, b, Config.codeByte (.phase x.2), c]
          ∧ 256 * a.toNat + b.toNat = tag ∧ c.toNat = fault)
    ∧ (∀ h n o fault, ∃ l, Instr.fields (.tableReport h n (.val o) fault) = some (Kind.tableReport, l)
      ∧ fieldBytes l = [oneByte n, Config.codeByte (.moveOutcome o), oneByte fault])
    ∧ (∀ h c id, ∃ l, Instr.fields (.gridRequest h c id) = some (Kind.gridRequest, l)
      ∧ fieldBytes l = oneByte c :: identityBytes id)
    ∧ (∀ h c, ∃ l, Instr.fields (.gridRelease h c) = some (Kind.gridRelease, l)
      ∧ fieldBytes l = [oneByte c])
    ∧ (∀ h c id w th m, ∃ l, Instr.fields (.depositReport h c id w th m) = some (Kind.depositReport, l)
      ∧ fieldBytes l = oneByte c :: identityBytes id ++ (Field.figure w).bytes ++ (Field.figure th).bytes
        ++ fourBytes (word32 m))
    ∧ (∀ h c id, ∃ l, Instr.fields (.removalReport h c id) = some (Kind.removalReport, l)
      ∧ fieldBytes l = oneByte c :: identityBytes id)
    ∧ (∀ h x, ∃ l, Instr.fields (.strokeReport h x) = some (Kind.strokeReport, l)
      ∧ fieldBytes l = (Field.figure x).bytes)
    ∧ (∀ h n a b, ∃ l, Instr.fields (.dischargeReport h n a b) = some (Kind.dischargeReport, l)
      ∧ fieldBytes l = oneByte n :: identityBytes a ++ identityBytes b)
    ∧ (∀ i kind l, Instr.fields i = some (kind, l) →
      (isFieldTaken kind = true ∨ isObservable kind = true) →
      fieldLength kind = some (fieldBytes l).length))

/-! ## LOAD_TABLE: what an accepted load writes, and nothing else but its RESPONSE -/

/-- R28, R86, R31, R32, R54: FURNACE_GEOMETRY of an OFFLINE furnace and TABLE_GEOMETRY with an empty, still
table are replaced whole, fields left out keeping their value or taking the default; the gaps and timeouts of an
OFFLINE furnace and the thickness boundaries that a load names are replaced. R188, R191: a load that a check of
its rule refuses, the checks in their order, leaves the rule's code with the entry that fails and the error
latch with its record, and changes no table. The model's choices: NOT_WHILE_ARMED or BUSY stands before a bad
code in an entry (log 7); a missing required figure is refused ILLEGAL_VALUE before the ranges are judged (log
38); a GAP_RULES selector and NOT_WHILE_ARMED answer entry index 0 (log 45). -/
def Obligations.LoadRecordsAndFigures : Prop :=
  ((∀ (h : Hdr) (k : Furnace) (lEff zMin zMax dDoor sNom lPair pairTol landTol arm clear : Int)
      (basis : Option StrokeBasis) (policy : Option FaultPolicy) (s : State),
    Managed s h → s.mgmt.latch = none → (s.seqs.get k).state = .offline →
    10000 ≤ lEff → lEff ≤ 60000 → 0 ≤ zMin → zMax ≤ 10000 → 0 ≤ dDoor → dDoor ≤ 1000 →
    200 ≤ sNom → sNom ≤ 800 → (lPair = 0 ∨ (1500 ≤ lPair ∧ lPair ≤ 7000)) → 0 ≤ pairTol →
    pairTol ≤ 400 → 10 ≤ landTol → landTol ≤ 200 → -1000 ≤ arm → arm ≤ 1000 → -6000 ≤ clear →
    clear ≤ 0 → zMin < zMax → zMax < lEff →
    let i := Instr.loadFurnaceGeometry h (.val k) 0
        [{ lEff := some lEff, zMin := some zMin, zMax := some zMax, dDoor := some dDoor,
           sNom := some sNom, basis := basis.map .val, lPair := some lPair,
           pairTolerance := some pairTol, landingTolerance := some landTol, armOffset := some arm,
           retractClear := some clear, policy := policy.map .val }]
    formFits i = true → exec i s =
      .next { respond h Kind.loadTable .ok none .none s with
        cfg := { s.cfg with
          geometry := s.cfg.geometry.set k (some
          { lEff, zMin, zMax, dDoor, sNom, lPair, pairTolerance := pairTol,
            landingTolerance := landTol, armOffset := arm, retractClear := clear
            basis := basis.getD (((s.cfg.geometry.get k).map (·.basis)).getD .nominal)
            policy := policy.getD (((s.cfg.geometry.get k).map (·.policy)).getD .trap) }) } })
  ∧ (∀ (h : Hdr) (g : TableGeometry) (track pos len : Option Int) (s : State),
    Managed s h → s.mgmt.latch = none → s.tracker.table = [] →
    s.arb.motion = .still →
    (∀ x ∈ [g.xTS, g.xGS, g.xG, g.xGE, g.xMS, g.xD1, g.xD2, g.xTE, g.x1A, g.x1C, g.x1B, g.x2A, g.x2C,
      g.x2B], 0 ≤ x ∧ x ≤ 200000) →
    g.xTS < g.xGS → g.xGS < g.xG → g.xG ≤ g.xGE → g.xGE < g.xMS → g.xMS < g.xD1 → g.xD1 < g.xD2 →
    g.xD2 < g.xTE →
    (∀ x ∈ [g.x1A, g.x1C, g.x1B, g.x2A, g.x2C, g.x2B], g.xMS < x ∧ x < g.xTE) →
    g.trackingTolerance = track.getD ((s.cfg.tableGeometry.map (·.trackingTolerance)).getD 150) →
    g.positioningTolerance = pos.getD ((s.cfg.tableGeometry.map (·.positioningTolerance)).getD 40) →
    g.lengthTolerance = len.getD ((s.cfg.tableGeometry.map (·.lengthTolerance)).getD 60) →
    20 ≤ g.trackingTolerance → g.trackingTolerance ≤ 500 → 10 ≤ g.positioningTolerance →
    g.positioningTolerance ≤ 200 → 10 ≤ g.lengthTolerance → g.lengthTolerance ≤ 300 →
    let i := Instr.loadTableGeometry h 0
        [{ xTS := some g.xTS, xGS := some g.xGS, xG := some g.xG, xGE := some g.xGE,
           xMS := some g.xMS, xD1 := some g.xD1, xD2 := some g.xD2, xTE := some g.xTE,
           x1A := some g.x1A, x1C := some g.x1C, x1B := some g.x1B, x2A := some g.x2A,
           x2C := some g.x2C, x2B := some g.x2B, trackingTolerance := track,
           positioningTolerance := pos, lengthTolerance := len }]
    formFits i = true → exec i s =
      .next { respond h Kind.loadTable .ok none .none s with
        cfg := { s.cfg with tableGeometry := some g } }))
  ∧ ((∀ (h : Hdr) (k : Furnace) (first : Nat) (entries : List Int) (s : State),
    Managed s h → formFits (.loadGapRules h (.val k) first entries) = true →
    s.mgmt.latch = none → (s.seqs.get k).state = .offline →
    entries ≠ [] → first + entries.length ≤ 8 → (∀ x ∈ entries, 0 ≤ x ∧ x ≤ 2000) →
    exec (.loadGapRules h (.val k) first entries) s =
      .next { respond h Kind.loadTable .ok none .none s with
        cfg := { s.cfg with
          gaps := s.cfg.gaps.set k ((s.cfg.gaps.get k).take first ++ entries
            ++ (s.cfg.gaps.get k).drop (first + entries.length)) } })
  ∧ (∀ (h : Hdr) (first : Nat) (entries : List Int) (b : Bounds) (s : State),
    Managed s h → formFits (.loadThicknessClasses h first entries) = true →
    s.mgmt.latch = none → entries ≠ [] → first + entries.length ≤ 3 →
    (∀ x ∈ entries, 100 ≤ x ∧ x ≤ 500) →
    [b.b1, b.b2, b.b3] = [s.cfg.bounds.b1, s.cfg.bounds.b2, s.cfg.bounds.b3].take first ++ entries
      ++ [s.cfg.bounds.b1, s.cfg.bounds.b2, s.cfg.bounds.b3].drop (first + entries.length) →
    b.b1 < b.b2 → b.b2 < b.b3 →
    exec (.loadThicknessClasses h first entries) s =
      .next { respond h Kind.loadTable .ok none .none s with cfg := { s.cfg with bounds := b } })
  ∧ (∀ (h : Hdr) (k : Furnace) (first : Nat) (entries : List Nat) (s : State),
    Managed s h → formFits (.loadChargerTiming h (.val k) first (entries.map Int.ofNat)) = true →
    s.mgmt.latch = none → (s.seqs.get k).state = .offline →
    entries ≠ [] → first + entries.length ≤ 6 →
    (∀ i x, entries[i]? = some x →
      [5, 10, 5, 5, 5, 5].getD (first + i) 0 ≤ x ∧ x ≤ [120, 120, 60, 120, 60, 120].getD (first + i) 0) →
    exec (.loadChargerTiming h (.val k) first (entries.map Int.ofNat)) s =
      .next { respond h Kind.loadTable .ok none .none s with
        cfg := { s.cfg with
          timing := s.cfg.timing.set k ((s.cfg.timing.get k).take first ++ entries
            ++ (s.cfg.timing.get k).drop (first + entries.length)) } }))
  ∧ (∀ (h : Hdr) (s : State), Managed s h → s.mgmt.latch = none →
    let sized := fun (n : Nat) => 1 ≤ n ∧ n ≤ 16
    let missing := fun (l : List (Option Int)) => ∃ x ∈ l, x = none ∨ x = some absentFigure
    (let refused := fun (k : Code Furnace) (first : Nat) (es : List GeometryEntry) (c : RespCode) =>
        formFits (.loadFurnaceGeometry h k first es) = true →
        exec (.loadFurnaceGeometry h k first es) s = LoadRefused h .furnaceGeometry c (some 0) s
      let offline := fun (k : Furnace) => (s.seqs.get k).state = .offline
      let figures := fun (e : GeometryEntry) => [e.lEff, e.zMin, e.zMax, e.dDoor, e.sNom, e.lPair,
        e.pairTolerance, e.landingTolerance, e.armOffset, e.retractClear]
      let entry := fun (g : FurnaceGeometry) => ({
        lEff := some g.lEff, zMin := some g.zMin, zMax := some g.zMax, dDoor := some g.dDoor
        sNom := some g.sNom, basis := some (.val g.basis), lPair := some g.lPair
        pairTolerance := some g.pairTolerance, landingTolerance := some g.landingTolerance
        armOffset := some g.armOffset, retractClear := some g.retractClear
        policy := some (.val g.policy) } : GeometryEntry)
      let ranges := fun (g : FurnaceGeometry) => 10000 ≤ g.lEff ∧ g.lEff ≤ 60000 ∧ 0 ≤ g.zMin
        ∧ g.zMax ≤ 10000 ∧ 0 ≤ g.dDoor ∧ g.dDoor ≤ 1000 ∧ 200 ≤ g.sNom ∧ g.sNom ≤ 800
        ∧ (g.lPair = 0 ∨ (1500 ≤ g.lPair ∧ g.lPair ≤ 7000)) ∧ 0 ≤ g.pairTolerance
        ∧ g.pairTolerance ≤ 400 ∧ 10 ≤ g.landingTolerance ∧ g.landingTolerance ≤ 200
        ∧ -1000 ≤ g.armOffset ∧ g.armOffset ≤ 1000 ∧ -6000 ≤ g.retractClear ∧ g.retractClear ≤ 0;
      (∀ raw first es, sized es.length → refused (.bad raw) first es .illegalValue)
      ∧ (∀ k first es, sized es.length → ¬ offline k → refused (.val k) first es .notWhileArmed)
      ∧ (∀ k first es, sized es.length → offline k → (first ≠ 0 ∨ es.length ≠ 1) →
        refused (.val k) first es .outOfRange)
      ∧ (∀ k e, offline k → (missing (figures e) ∨ (∃ raw, raw ≠ 255 ∧ e.basis = some (.bad raw))
          ∨ (∃ raw, raw ≠ 255 ∧ e.policy = some (.bad raw))) → refused (.val k) 0 [e] .illegalValue)
      ∧ (∀ k g, offline k → ¬ missing (figures (entry g)) → ¬ ranges g →
        refused (.val k) 0 [entry g] .outOfRange)
      ∧ (∀ k g, offline k → ¬ missing (figures (entry g)) → ranges g →
        (g.zMax ≤ g.zMin ∨ g.lEff ≤ g.zMax) → refused (.val k) 0 [entry g] .illegalValue))
    ∧ (let refused := fun (first : Nat) (es : List TableGeometryEntry) (c : RespCode) =>
        formFits (.loadTableGeometry h first es) = true →
        exec (.loadTableGeometry h first es) s = LoadRefused h .tableGeometry c (some 0) s
      let busy := s.tracker.table ≠ [] ∨ s.arb.motion ≠ .still
      let positions := fun (e : TableGeometryEntry) => [e.xTS, e.xGS, e.xG, e.xGE, e.xMS, e.xD1, e.xD2,
        e.xTE, e.x1A, e.x1C, e.x1B, e.x2A, e.x2C, e.x2B]
      let entry := fun (g : TableGeometry) => ({
        xTS := some g.xTS, xGS := some g.xGS, xG := some g.xG, xGE := some g.xGE, xMS := some g.xMS
        xD1 := some g.xD1, xD2 := some g.xD2, xTE := some g.xTE, x1A := some g.x1A, x1C := some g.x1C
        x1B := some g.x1B, x2A := some g.x2A, x2C := some g.x2C, x2B := some g.x2B
        trackingTolerance := some g.trackingTolerance
        positioningTolerance := some g.positioningTolerance
        lengthTolerance := some g.lengthTolerance } : TableGeometryEntry)
      let given := fun (g : TableGeometry) => ¬ missing (positions (entry g))
        ∧ g.trackingTolerance ≠ absentFigure ∧ g.positioningTolerance ≠ absentFigure
        ∧ g.lengthTolerance ≠ absentFigure
      let charges := fun (g : TableGeometry) => [g.x1A, g.x1C, g.x1B, g.x2A, g.x2C, g.x2B]
      let ranges := fun (g : TableGeometry) =>
        (∀ x ∈ [g.xTS, g.xGS, g.xG, g.xGE, g.xMS, g.xD1, g.xD2, g.xTE] ++ charges g,
          0 ≤ x ∧ x ≤ 200000)
        ∧ 20 ≤ g.trackingTolerance ∧ g.trackingTolerance ≤ 500 ∧ 10 ≤ g.positioningTolerance
        ∧ g.positioningTolerance ≤ 200 ∧ 10 ≤ g.lengthTolerance ∧ g.lengthTolerance ≤ 300
      let ordered := fun (g : TableGeometry) => g.xTS < g.xGS ∧ g.xGS < g.xG ∧ g.xG ≤ g.xGE
        ∧ g.xGE < g.xMS ∧ g.xMS < g.xD1 ∧ g.xD1 < g.xD2 ∧ g.xD2 < g.xTE
        ∧ (∀ x ∈ charges g, g.xMS < x ∧ x < g.xTE);
      (∀ first es, sized es.length → busy → refused first es .busy)
      ∧ (∀ first es, sized es.length → ¬ busy → (first ≠ 0 ∨ es.length ≠ 1) →
        refused first es .outOfRange)
      ∧ (∀ e, ¬ busy → missing (positions e) → refused 0 [e] .illegalValue)
      ∧ (∀ g, ¬ busy → given g → ¬ ranges g → refused 0 [entry g] .outOfRange)
      ∧ (∀ g, ¬ busy → given g → ranges g → ¬ ordered g → refused 0 [entry g] .illegalValue)))
  ∧ (∀ (h : Hdr) (s : State), Managed s h → s.mgmt.latch = none →
    let sized := fun (n : Nat) => 1 ≤ n ∧ n ≤ 16
    let offline := fun (k : Furnace) => (s.seqs.get k).state = .offline
    (let refused := fun (k : Code Furnace) (first : Nat) (es : List Int) (c : RespCode) (n : Nat) =>
        formFits (.loadGapRules h k first es) = true →
        exec (.loadGapRules h k first es) s = LoadRefused h .gapRules c (some n) s;
      (∀ raw first es, sized es.length → refused (.bad raw) first es .illegalValue 0)
      ∧ (∀ k first es, sized es.length → ¬ offline k → refused (.val k) first es .notWhileArmed 0)
      ∧ (∀ k first es, sized es.length → offline k → 8 < first + es.length →
        refused (.val k) first es .outOfRange first)
      ∧ (∀ k first es n, sized es.length → offline k → first + es.length ≤ 8 →
        FirstFails (fun _ x => x ≠ absentFigure) first es n → refused (.val k) first es .illegalValue n)
      ∧ (∀ k first es n, sized es.length → offline k → first + es.length ≤ 8 → (∀ x ∈ es, x ≠ absentFigure) →
        FirstFails (fun _ x => 0 ≤ x ∧ x ≤ 2000) first es n →
        refused (.val k) first es .outOfRange n))
    ∧ (let refused := fun (first : Nat) (es : List Int) (c : RespCode) (n : Nat) =>
        formFits (.loadThicknessClasses h first es) = true →
        exec (.loadThicknessClasses h first es) s = LoadRefused h .thicknessClasses c (some n) s;
      (∀ first es, sized es.length → 3 < first + es.length → refused first es .outOfRange first)
      ∧ (∀ first es n, sized es.length → first + es.length ≤ 3 →
        FirstFails (fun _ x => x ≠ absentFigure) first es n → refused first es .illegalValue n)
      ∧ (∀ first es n, sized es.length → first + es.length ≤ 3 → (∀ x ∈ es, x ≠ absentFigure) →
        FirstFails (fun _ x => 100 ≤ x ∧ x ≤ 500) first es n → refused first es .outOfRange n)
      ∧ (∀ first es b1 b2 b3, sized es.length → first + es.length ≤ 3 →
        (∀ x ∈ es, 100 ≤ x ∧ x ≤ 500) →
        [b1, b2, b3] = [s.cfg.bounds.b1, s.cfg.bounds.b2, s.cfg.bounds.b3].take first ++ es
          ++ [s.cfg.bounds.b1, s.cfg.bounds.b2, s.cfg.bounds.b3].drop (first + es.length) →
        (b2 ≤ b1 → refused first es .illegalValue 1)
        ∧ (b1 < b2 → b3 ≤ b2 → refused first es .illegalValue 2)))
    ∧ (let refused := fun (k : Code Furnace) (first : Nat) (es : List Int) (c : RespCode) (n : Nat) =>
        formFits (.loadChargerTiming h k first es) = true →
        exec (.loadChargerTiming h k first es) s = LoadRefused h .chargerTiming c (some n) s;
      (∀ raw first es, sized es.length → refused (.bad raw) first es .illegalValue 0)
      ∧ (∀ k first es, sized es.length → ¬ offline k → refused (.val k) first es .notWhileArmed 0)
      ∧ (∀ k first es, sized es.length → offline k → 6 < first + es.length →
        refused (.val k) first es .outOfRange first)
      ∧ (∀ k first es n, sized es.length → offline k → first + es.length ≤ 6 →
        FirstFails (fun _ x => x ≠ absentFigure) first es n → refused (.val k) first es .illegalValue n)
      ∧ (∀ k first es n, sized es.length → offline k → first + es.length ≤ 6 → (∀ x ∈ es, x ≠ absentFigure) →
        FirstFails (fun i x => [5, 10, 5, 5, 5, 5].getD i 0 ≤ x ∧ x ≤ [120, 120, 60, 120, 60, 120].getD i 0)
          first es n → refused (.val k) first es .outOfRange n)))

/-- R143, R145, R171: a counter's setup takes each field carried and keeps the others, a field carried with its
absent value counting as left out; its gate starts anew, and a carriage counter becomes UNHOMED with no last
home deviation; its accumulator, raw count, last direction, phase reference, holds and speed stay. R148, R87:
each sensor input named takes its fields, loses its pending change and reads its taken level again, its captures
staying, and the grid watch is evaluated behind the RESPONSE. No other counter or input changes. R188, R191: a
load that a check of its rule refuses leaves the rule's code with the entry that fails and the error latch, and
changes no table. The model's choices: the owner's checks stand before the form check of a bad code (log 7), and
each check is made over every entry before the next (log 8); a load of sensor setups makes the grant rule and a
grant evaluation due (log 30). -/
def Obligations.LoadCounterAndSensorSetup : Prop :=
  ((∀ (h : Hdr) (c : CounterId) (m : Option Multiplier) (inv : Option Bool) (scale gate : Option Int)
      (use : Option MarkerUse) (edge : Option Bool) (dir : Option HomeDirection) (pos tol : Option Int)
      (s : State),
    Managed s h → s.mgmt.latch = none →
    (c = .t → s.tracker.table = [] ∧ s.arb.motion = .still ∧ use ≠ some .home) →
    (c = .c1 → s.seqs.f1.state = .offline) → (c = .c2 → s.seqs.f2.state = .offline) →
    (∀ x ∈ scale, 1 ≤ x ∧ x ≤ 2000) → (∀ x ∈ gate, x ∈ [10, 20, 50, 100]) →
    (∀ x ∈ pos, -10000 ≤ x ∧ x ≤ 10000) → (∀ x ∈ tol, 1 ≤ x ∧ x ≤ 200) →
    let old := s.cfg.counterSetup.get c
    let x := s.counters.get c
    let setup : CounterSetup := {
      multiplier := m.getD old.multiplier, invert := inv.getD old.invert, scale := scale.getD old.scale
      gatePeriod := (gate.map Int.toNat).getD old.gatePeriod, markerUse := use.getD old.markerUse
      edgeRising := edge.getD old.edgeRising, homeDirection := dir.getD old.homeDirection
      homePosition := pos.getD old.homePosition, homeTolerance := tol.getD old.homeTolerance }
    let i := Instr.loadCounterSetup h (.val c) 0 [{
        multiplier := m.map .val, invert := inv.map .val, scale, gatePeriod := gate
        markerUse := use.map .val, edgeRising := edge.map .val, homeDirection := dir.map .val
        homePosition := pos, homeTolerance := tol }]
    formFits i = true → exec i s =
      .next { respond h Kind.loadTable .ok none .none s with
        cfg := { s.cfg with counterSetup := s.cfg.counterSetup.set c setup }
        counters := s.counters.set c { x with
          gateStart := x.acc, gateLeft := setup.gatePeriod
          homed := if c = .t then x.homed else false
          lastHomeDev := if c = .t then x.lastHomeDev else none } })
  ∧ (∀ (h : Hdr) (sel : Code CounterId) (first : Nat) (e : CounterSetupEntry) (s : State), Managed s h →
    exec (.loadCounterSetup h sel first [e]) s = exec (.loadCounterSetup h sel first [{
      multiplier := if e.multiplier = some (.bad 255) then none else e.multiplier
      invert := if e.invert = some (.bad 255) then none else e.invert
      scale := if e.scale = some absentFigure then none else e.scale
      gatePeriod := if e.gatePeriod = some absentFigure then none else e.gatePeriod
      markerUse := if e.markerUse = some (.bad 255) then none else e.markerUse
      edgeRising := if e.edgeRising = some (.bad 255) then none else e.edgeRising
      homeDirection := if e.homeDirection = some (.bad 255) then none else e.homeDirection
      homePosition := if e.homePosition = some absentFigure then none else e.homePosition
      homeTolerance := if e.homeTolerance = some absentFigure then none else e.homeTolerance }]) s))
  ∧ (∀ (h : Hdr) (first : Nat) (entries : List (Option Int × Option (Code Bool))) (s : State),
    Managed s h → s.mgmt.latch = none → s.tracker.table = [] →
    s.arb.motion = .still → s.grid.grant = none → entries ≠ [] → first + entries.length ≤ 5 →
    (∀ e ∈ entries, (∀ x ∈ e.1, x = absentFigure ∨ (0 ≤ x ∧ x ≤ 50))
      ∧ ∀ raw, e.2 = some (.bad raw) → raw = 255) →
    let inputs := [SensorId.ms, .gp, .d1, .d2, .te]
    let answered := respond h Kind.loadTable .ok none .none s
    let c := Instr.loadSensorSetup h first (entries.map fun e => { filterTime := e.1, invert := e.2 })
    formFits c = true → ∃ u, exec c s =
        .next (finish u)
      ∧ (∀ j time inv i, entries[j]? = some (time, inv) → inputs[first + j]? = some i →
        let old := s.cfg.sensorSetup.get i
        (u.cfg.sensorSetup.get i).filterTime = (match time with
            | none => old.filterTime
            | some x => if x = absentFigure then old.filterTime else x.toNat)
          ∧ (u.cfg.sensorSetup.get i).invert = (match inv with | some (.val b) => b | _ => old.invert)
          ∧ u.sensors.get i = { s.sensors.get i with
              pending := none
              taken := (s.sensors.get i).electrical != (u.cfg.sensorSetup.get i).invert })
      ∧ (∀ n i, inputs[n]? = some i → n < first ∨ first + entries.length ≤ n →
        u.cfg.sensorSetup.get i = s.cfg.sensorSetup.get i ∧ u.sensors.get i = s.sensors.get i)
      ∧ (let told := if (u.sensors.gp.taken && !s.tracker.unidentified) = true then
            raise (.unidentifiedOnGrid s.travel) answered else answered
        u.links = told.links ∧ u.ret = told.ret)
      ∧ u.tracker = { s.tracker with unidentified := u.sensors.gp.taken }
      ∧ u.cfg = { s.cfg with sensorSetup := u.cfg.sensorSetup }
      ∧ u.due = { s.due with tableRule := true, gridEval := true }
      ∧ u.counters = s.counters ∧ u.maps = s.maps ∧ u.schedule = s.schedule ∧ u.mgmt = s.mgmt
      ∧ u.arb = s.arb ∧ u.seqs = s.seqs ∧ u.grid = s.grid ∧ u.place = s.place)
  ∧ (∀ (h : Hdr) (s : State), Managed s h → s.mgmt.latch = none →
    let sized := fun (n : Nat) => 1 ≤ n ∧ n ≤ 16
    let busy := s.tracker.table ≠ [] ∨ s.arb.motion ≠ .still
    (let refused := fun (c : Code CounterId) (first : Nat) (es : List CounterSetupEntry)
          (code : RespCode) =>
        formFits (.loadCounterSetup h c first es) = true →
        exec (.loadCounterSetup h c first es) s = LoadRefused h .counterSetup code (some 0) s
      let free := fun (c : CounterId) => (c = .t → ¬ busy) ∧ (c = .c1 → s.seqs.f1.state = .offline)
        ∧ (c = .c2 → s.seqs.f2.state = .offline)
      let codes := fun (c : CounterId) (e : CounterSetupEntry) =>
        (∀ raw, e.multiplier = some (.bad raw) → raw = 255) ∧ (∀ raw, e.invert = some (.bad raw) → raw = 255)
        ∧ (∀ raw, e.markerUse = some (.bad raw) → raw = 255)
        ∧ (∀ raw, e.edgeRising = some (.bad raw) → raw = 255)
        ∧ (∀ raw, e.homeDirection = some (.bad raw) → raw = 255)
        ∧ (∀ p ∈ e.gatePeriod, p = absentFigure ∨ p ∈ [10, 20, 50, 100])
        ∧ (c = .t → e.markerUse ≠ some (.val .home))
      let ranges := fun (e : CounterSetupEntry) =>
        (∀ x ∈ e.scale, x = absentFigure ∨ (1 ≤ x ∧ x ≤ 2000))
        ∧ (∀ x ∈ e.homePosition, x = absentFigure ∨ (-10000 ≤ x ∧ x ≤ 10000))
        ∧ (∀ x ∈ e.homeTolerance, x = absentFigure ∨ (1 ≤ x ∧ x ≤ 200));
      (∀ raw first es, sized es.length → refused (.bad raw) first es .illegalValue)
      ∧ (∀ first es, sized es.length → s.seqs.f1.state ≠ .offline →
        refused (.val .c1) first es .notWhileArmed)
      ∧ (∀ first es, sized es.length → s.seqs.f2.state ≠ .offline →
        refused (.val .c2) first es .notWhileArmed)
      ∧ (∀ first es, sized es.length → busy → refused (.val .t) first es .busy)
      ∧ (∀ c first es, sized es.length → free c → (first ≠ 0 ∨ es.length ≠ 1) →
        refused (.val c) first es .outOfRange)
      ∧ (∀ c e, free c → ¬ codes c e → refused (.val c) 0 [e] .illegalValue)
      ∧ (∀ c e, free c → codes c e → ¬ ranges e → refused (.val c) 0 [e] .outOfRange))
    ∧ (let refused := fun (first : Nat) (es : List SensorSetupEntry) (code : RespCode) (n : Nat) =>
        formFits (.loadSensorSetup h first es) = true →
        exec (.loadSensorSetup h first es) s = LoadRefused h .sensorSetup code (some n) s
      let barred := busy ∨ s.grid.grant.isSome = true
      let timed := fun (_ : Nat) (e : SensorSetupEntry) =>
        ∀ x ∈ e.filterTime, x = absentFigure ∨ (0 ≤ x ∧ x ≤ 50);
      (∀ first es, sized es.length → barred → refused first es .busy first)
      ∧ (∀ first es, sized es.length → ¬ barred → 5 < first + es.length →
        refused first es .outOfRange first)
      ∧ (∀ first es n, sized es.length → ¬ barred → first + es.length ≤ 5 →
        FirstFails timed first es n → refused first es .outOfRange n)
      ∧ (∀ first es n, sized es.length → ¬ barred → first + es.length ≤ 5 →
        (∀ e ∈ es, timed 0 e) →
        FirstFails (fun _ e => ∀ raw, e.invert = some (.bad raw) → raw = 255) first es n →
        refused first es .illegalValue n)))

/-- R162, R164, R165: WINDOW_POOL by index writes its entries, by the free index 255 one window takes the lowest
empty entry; the line lists, stop levels and speed and lead record of an OFFLINE furnace that a load names are
replaced. The lines take their levels at once (R159). R163: no two windows of one line may be of one basis and
share a depth. R188, R191: a load that a check of its rule refuses, the checks in their order (those of one pool
entry here), leaves the rule's code with the entry that fails and the error latch, and changes no table. The
model's choices: the owner's checks stand before the form check of a bad code (log 7); each check of WINDOW_SETS
and LINE_SETTINGS is made over every entry before the next (log 8); a pool entry with a missing edge is refused
ILLEGAL_VALUE with its codes, before the ranges (log 38). -/
def Obligations.LoadWindowTables : Prop :=
  ((∀ (h : Hdr) (first : Nat) (entries : List PoolLoadEntry) (s : State),
    Managed s h → formFits (.loadWindowPool h first entries) = true →
    s.mgmt.latch = none → TablesShaped s → entries ≠ [] →
    entries.length ≤ 16 → first + entries.length ≤ 96 →
    (∀ e ∈ entries, PoolLoadEntry.codesOk false e = true ∧ edgeCheck (PoolLoadEntry.window? e) = none) →
    (∀ i, first ≤ i → i < first + entries.length →
      armedReference s i = false
        ∧ ((PoolLoadEntry.window? (entries.getD (i - first) .empty)).isNone = true →
            offlineReference s i = false)) →
    (∀ l ∈ s.cfg.sets.f1 ++ s.cfg.sets.f2, WindowsApart (s.cfg.pool.take first
      ++ entries.map PoolLoadEntry.window? ++ s.cfg.pool.drop (first + entries.length)) l) →
    exec (.loadWindowPool h first entries) s =
      .next (refreshLines { respond h Kind.loadTable .ok none
            (.poolIndices ((List.range entries.length).map (first + ·))) s with
          cfg := { s.cfg with
            pool := s.cfg.pool.take first ++ entries.map PoolLoadEntry.window?
            ++ s.cfg.pool.drop (first + entries.length) } }))
  ∧ (∀ (h : Hdr) (w : Window) (i : Nat) (s : State),
    Managed s h → s.mgmt.latch = none → s.cfg.pool[i]? = some none →
    (∀ j, j < i → s.cfg.pool[j]? ≠ some none) →
    (∀ l ∈ s.cfg.sets.f1 ++ s.cfg.sets.f2, i ∉ l) →
    w.mask ≠ 0 → w.mask.toNat < 128 → w.edgesInRange = true → w.on < w.off →
    let c := Instr.loadWindowPool h 255
        [.window (.val w.basis) w.on w.off (.val w.speed) w.mask (.val w.lead)]
    formFits c = true → exec c s =
      .next (refreshLines { respond h Kind.loadTable .ok none (.poolIndices [i]) s with
          cfg := { s.cfg with pool := s.cfg.pool.set i (some w) } })))
  ∧ ((∀ (h : Hdr) (k : Furnace) (first : Nat) (entries : List (List Nat)) (s : State),
    Managed s h → formFits (.loadWindowSets h (.val k) first entries) = true →
    s.mgmt.latch = none → (s.seqs.get k).state = .offline →
    entries ≠ [] → entries.length ≤ 16 → first + entries.length ≤ 32 →
    (∀ l ∈ entries, l.length ≤ 4 ∧ (∀ i ∈ l, i ≤ 95 ∧ (s.cfg.pool.getD i none).isSome = true)
      ∧ WindowsApart s.cfg.pool l) →
    exec (.loadWindowSets h (.val k) first entries) s =
      .next (refreshLines { respond h Kind.loadTable .ok none .none s with
          cfg := { s.cfg with
            sets := s.cfg.sets.set k ((s.cfg.sets.get k).take first ++ entries
            ++ (s.cfg.sets.get k).drop (first + entries.length)) } }))
  ∧ (∀ (h : Hdr) (k : Furnace) (first : Nat) (levels : List StopLevel) (s : State),
    Managed s h → s.mgmt.latch = none → (s.seqs.get k).state = .offline →
    TablesShaped s → levels ≠ [] → first + levels.length ≤ 8 →
    let c := Instr.loadLineSettings h (.val k) first (levels.map fun l => .stopLevel (.val l))
    formFits c = true → exec c s =
      .next (refreshLines { respond h Kind.loadTable .ok none .none s with
          cfg := { s.cfg with
            lineSettings := s.cfg.lineSettings.set k
              { s.cfg.lineSettings.get k with
              stops := (s.cfg.lineSettings.get k).stops.take first ++ levels
                ++ (s.cfg.lineSettings.get k).stops.drop (first + levels.length) } } }))
  ∧ (∀ (h : Hdr) (k : Furnace) (a b c d : Option Int) (s : State),
    Managed s h → formFits (.loadLineSettings h (.val k) 8 [.speedLead a b c d]) = true →
    s.mgmt.latch = none → (s.seqs.get k).state = .offline →
    (∀ x ∈ a, 0 ≤ x ∧ x ≤ 100) → (∀ x ∈ b, 0 ≤ x ∧ x ≤ 2000) → (∀ x ∈ c, 0 ≤ x ∧ x ≤ 500) →
    (∀ x ∈ d, 0 ≤ x ∧ x ≤ 300) →
    exec (.loadLineSettings h (.val k) 8 [.speedLead a b c d]) s =
      .next (refreshLines { respond h Kind.loadTable .ok none .none s with
          cfg := { s.cfg with
            lineSettings := s.cfg.lineSettings.set k
              { s.cfg.lineSettings.get k with
              vStill := a.getD (s.cfg.lineSettings.get k).vStill
              vSlow := b.getD (s.cfg.lineSettings.get k).vSlow
              lead := c.getD (s.cfg.lineSettings.get k).lead
              maxAdvance := d.getD (s.cfg.lineSettings.get k).maxAdvance } } })))
  ∧ (∀ (h : Hdr) (s : State), Managed s h → s.mgmt.latch = none → TablesShaped s →
    let refused := fun (first : Nat) (es : List PoolLoadEntry) (c : RespCode) (n : Nat) =>
      formFits (.loadWindowPool h first es) = true →
      exec (.loadWindowPool h first es) s = LoadRefused h .windowPool c (some n) s
    let sized := fun (n : Nat) => 1 ≤ n ∧ n ≤ 16
    let bad := fun (e : PoolLoadEntry) => (∃ raw, e = .badKind raw)
      ∨ ∃ basis on off speed mask lead, e = .window basis on off speed mask lead
        ∧ ((∃ raw, basis = .bad raw) ∨ (∃ raw, speed = .bad raw) ∨ (∃ raw, lead = .bad raw)
          ∨ mask = 0 ∨ 128 ≤ mask.toNat ∨ on = absentFigure ∨ off = absentFigure)
    let entry := fun (w : Window) =>
      PoolLoadEntry.window (.val w.basis) w.on w.off (.val w.speed) w.mask (.val w.lead)
    let edges := fun (w : Window) => (match w.basis with | .fixed => 20000 | .target => 10000 : Int)
    let coded := fun (w : Window) => w.mask ≠ 0 ∧ w.mask.toNat < 128 ∧ w.on ≠ absentFigure ∧ w.off ≠ absentFigure
    let within := fun (w : Window) => -edges w ≤ w.on ∧ w.on ≤ edges w ∧ -edges w ≤ w.off ∧ w.off ≤ edges w
    let good := fun (w : Window) => coded w ∧ within w ∧ w.on < w.off
    let listed := fun (k : Furnace) (i : Nat) => ∃ l ∈ s.cfg.sets.get k, i ∈ l
    let armed := fun (i : Nat) => ∃ k, (s.seqs.get k).state ≠ .offline ∧ listed k i
    (∀ first es, sized es.length → 95 < first → first ≠ 255 → refused first es .outOfRange 0)
    ∧ (∀ first es, sized es.length → first ≤ 95 → 96 < first + es.length →
      refused first es .outOfRange first)
    ∧ (∀ i e, i ≤ 95 → bad e → refused i [e] .illegalValue i)
    ∧ (∀ e, bad e ∨ e = .empty → refused 255 [e] .illegalValue 0)
    ∧ (∀ i w, i ≤ 95 → coded w → ¬ within w → refused i [entry w] .outOfRange i)
    ∧ (∀ i w, i ≤ 95 → coded w → within w → w.off ≤ w.on → refused i [entry w] .illegalValue i)
    ∧ (∀ w, good w → (∀ x ∈ s.cfg.pool, x.isSome = true) → refused 255 [entry w] .poolFull 0)
    ∧ (∀ i e, i ≤ 95 → (e = .empty ∨ ∃ w, good w ∧ e = entry w) → armed i →
      refused i [e] .notWhileArmed i)
    ∧ (∀ i k, i ≤ 95 → ¬ armed i → listed k i → refused i [.empty] .illegalValue i)
    ∧ (∀ i w k l j v, i ≤ 95 → good w → ¬ armed i → l ∈ s.cfg.sets.get k → i ∈ l → j ∈ l → j ≠ i →
      s.cfg.pool[j]? = some (some v) → v.basis = w.basis → v.on < w.off → w.on < v.off →
      refused i [entry w] .overlap i))
  ∧ (∀ (h : Hdr) (s : State), Managed s h → s.mgmt.latch = none →
    let sized := fun (n : Nat) => 1 ≤ n ∧ n ≤ 16
    let offline := fun (k : Furnace) => (s.seqs.get k).state = .offline
    (let refused := fun (k : Code Furnace) (first : Nat) (es : List (List Nat)) (c : RespCode) (n : Nat) =>
        formFits (.loadWindowSets h k first es) = true →
        exec (.loadWindowSets h k first es) s = LoadRefused h .windowSets c (some n) s
      let indexed := fun (_ : Nat) (l : List Nat) => l.length ≤ 4 ∧ ∀ i ∈ l, i ≤ 95
      let filled := fun (_ : Nat) (l : List Nat) => ∀ i ∈ l, ∃ w, s.cfg.pool[i]? = some (some w);
      (∀ raw first es, sized es.length → refused (.bad raw) first es .illegalValue 0)
      ∧ (∀ k first es, sized es.length → ¬ offline k → refused (.val k) first es .notWhileArmed 0)
      ∧ (∀ k first es, sized es.length → offline k → 32 < first + es.length →
        refused (.val k) first es .outOfRange first)
      ∧ (∀ k first es n, sized es.length → offline k → first + es.length ≤ 32 →
        FirstFails indexed first es n → refused (.val k) first es .outOfRange n)
      ∧ (∀ k first es n, sized es.length → offline k → first + es.length ≤ 32 →
        (∀ l ∈ es, indexed 0 l) → FirstFails filled first es n →
        refused (.val k) first es .illegalValue n)
      ∧ (∀ k first es n, sized es.length → offline k → first + es.length ≤ 32 →
        (∀ l ∈ es, indexed 0 l ∧ filled 0 l) →
        FirstFails (fun _ l => WindowsApart s.cfg.pool l) first es n →
        refused (.val k) first es .overlap n))
    ∧ (let refused := fun (k : Code Furnace) (first : Nat) (es : List LineEntry) (c : RespCode) (n : Nat) =>
        formFits (.loadLineSettings h k first es) = true →
        exec (.loadLineSettings h k first es) s = LoadRefused h .lineSettings c (some n) s
      let shaped := fun (first : Nat) (es : List LineEntry) => ∀ i e, es[i]? = some e →
        match e with | LineEntry.stopLevel _ => first + i < 8 | LineEntry.speedLead .. => first + i = 8
      let coded := fun (_ : Nat) (e : LineEntry) => ∀ raw, e ≠ .stopLevel (.bad raw)
      let ranged := fun (_ : Nat) (e : LineEntry) => ∀ a b c d, e = .speedLead a b c d →
        (∀ x ∈ a, x = absentFigure ∨ (0 ≤ x ∧ x ≤ 100))
        ∧ (∀ x ∈ b, x = absentFigure ∨ (0 ≤ x ∧ x ≤ 2000))
        ∧ (∀ x ∈ c, x = absentFigure ∨ (0 ≤ x ∧ x ≤ 500))
        ∧ (∀ x ∈ d, x = absentFigure ∨ (0 ≤ x ∧ x ≤ 300));
      (∀ raw first es, sized es.length → refused (.bad raw) first es .illegalValue 0)
      ∧ (∀ k first es, sized es.length → ¬ offline k → refused (.val k) first es .notWhileArmed 0)
      ∧ (∀ k first es, sized es.length → offline k → 9 < first + es.length →
        refused (.val k) first es .outOfRange first)
      ∧ (∀ k first es n, sized es.length → offline k → first + es.length ≤ 9 → shaped first es →
        FirstFails coded first es n → refused (.val k) first es .illegalValue n)
      ∧ (∀ k first es n, sized es.length → offline k → first + es.length ≤ 9 → shaped first es →
        (∀ e ∈ es, coded 0 e) → FirstFails ranged first es n →
        refused (.val k) first es .outOfRange n)))

/-- R178, R196, R190, R174: PASSAGE and STATUS_MAP replace the entries they name; the periods are taken into
their ranges, the look-ahead and grant timeout must lie in theirs; a partner list is taken while both furnaces
are OFFLINE, the table is STILL and the grid has no grant and no request. R188, R191: a load that a check of its
rule refuses leaves the rule's code with the entry that fails and the error latch, and changes no table. The
model's choices: PASSAGE's checks are made over all entries one after another (log 8), a bad code behind the
range check of the index (log 7); the kind code 0xFF binds as a kind; and a missing period, look-ahead, grant
timeout, station (0xFF) or quantity number (0xFF) is refused ILLEGAL_VALUE before its range is judged (log 38).
-/
def Obligations.LoadPartTables : Prop :=
  ((∀ (h : Hdr) (first : Nat) (entries : List PassageLoadEntry) (s : State),
    Managed s h → formFits (.loadPassage h first entries) = true →
    s.mgmt.latch = none → entries ≠ [] → entries.length ≤ 16 →
    first + entries.length ≤ 32 →
    (∀ e ∈ entries, PassageLoadEntry.codesOk e = true ∧ PassageLoadEntry.allowed e = true) →
    ((s.cfg.passage.take first ++ entries.map PassageLoadEntry.entry
      ++ s.cfg.passage.drop (first + entries.length)).filterMap (·.map (·.1))).Nodup →
    exec (.loadPassage h first entries) s =
      .next { respond h Kind.loadTable .ok none .none s with
        cfg := { s.cfg with
          passage := s.cfg.passage.take first
          ++ entries.map PassageLoadEntry.entry ++ s.cfg.passage.drop (first + entries.length) } })
  ∧ (∀ (h : Hdr) (first : Nat) (entries : List Nat) (s : State),
    Managed s h → formFits (.loadStatusMap h first entries) = true →
    s.mgmt.latch = none → entries ≠ [] →
    first + entries.length ≤ 16 → (∀ q ∈ entries, q ≤ 26) →
    exec (.loadStatusMap h first entries) s =
      .next { respond h Kind.loadTable .ok none .none s with
        cfg := { s.cfg with
          statusMap := s.cfg.statusMap.take first ++ entries
          ++ s.cfg.statusMap.drop (first + entries.length) } }))
  ∧ ((∀ (h : Hdr) (period supervision lookAhead timeout : Int) (s : State),
    Managed s h → s.mgmt.latch = none → period ≠ absentFigure →
    supervision ≠ absentFigure → 1 ≤ lookAhead → lookAhead ≤ 8 → 30 ≤ timeout → timeout ≤ 600 →
    let c := Instr.loadPartSettings h 0
        [.figure period, .figure supervision, .figure lookAhead, .figure timeout]
    formFits c = true → ∃ d, exec c s =
      .next { respond h Kind.loadTable .ok none d s with
        cfg := { s.cfg with
          settings :=
          { statusPeriod := (max 100 (min 5000 period)).toNat
            supervisionPeriod := (max 1 (min 60 supervision)).toNat
            lookAhead := lookAhead.toNat, grantTimeout := timeout.toNat } } }
      ∧ d = .settingsTaken [.figure (max 100 (min 5000 period)).toNat,
        .figure (max 1 (min 60 supervision)).toNat, .figure lookAhead.toNat, .figure timeout.toNat])
  ∧ (∀ (h : Hdr) (p : Partners) (s : State),
    Managed s h → s.mgmt.latch = none →
    (∀ x ∈ [p.scheduling, p.crane1, p.crane2, p.crane3, p.tableDrive, p.charger1, p.charger2, p.beam1,
      p.beam2, p.discharge1, p.discharge2], x ≤ 62 ∧ s.links.station ≠ some x) →
    [p.scheduling, p.crane1, p.crane2, p.crane3, p.tableDrive, p.charger1, p.charger2, p.beam1, p.beam2,
      p.discharge1, p.discharge2].Nodup →
    s.seqs.f1.state = .offline → s.seqs.f2.state = .offline → s.arb.motion = .still →
    s.grid.grant = none → s.grid.queue = [] →
    let c := Instr.loadPartSettings h 4 [.partners [p.scheduling, p.crane1, p.crane2, p.crane3, p.tableDrive,
        p.charger1, p.charger2, p.beam1, p.beam2, p.discharge1, p.discharge2]]
    formFits c = true → exec c s =
      .next { respond h Kind.loadTable .ok none (.settingsTaken [.partners (some p)]) s with
        cfg := { s.cfg with partners := some p } }))
  ∧ (∀ (h : Hdr) (s : State), Managed s h → s.mgmt.latch = none →
    let sized := fun (n : Nat) => 1 ≤ n ∧ n ≤ 16
    (let refused := fun (first : Nat) (es : List PassageLoadEntry) (c : RespCode) (n : Nat) =>
        formFits (.loadPassage h first es) = true →
        exec (.loadPassage h first es) s = LoadRefused h .passage c (some n) s
      let coded := fun (_ : Nat) (e : PassageLoadEntry) =>
        e = .empty ∨ ∃ kind a, e = .bound kind (.val a) ∧ kind ≤ 255
      let allowed := fun (_ : Nat) (e : PassageLoadEntry) => ∀ kind a, e = .bound kind (.val a) →
        (a = .observe → kind ∈ [Kind.depositReport, Kind.removalReport, Kind.strokeReport,
          Kind.dischargeReport])
        ∧ (a = .guardTable → kind = Kind.manualTableMove) ∧ (a = .guardStroke → kind = Kind.manualStroke)
      let loaded := fun (first : Nat) (es : List PassageLoadEntry) => s.cfg.passage.take first
        ++ es.map PassageLoadEntry.entry ++ s.cfg.passage.drop (first + es.length)
      let kindAt := fun (l : List (Option (Nat × Action))) (i : Nat) => ((l[i]?).join).map (·.1)
      let twice := fun (l : List (Option (Nat × Action))) (j : Nat) =>
        ∃ i, i < j ∧ (kindAt l j).isSome = true ∧ kindAt l i = kindAt l j;
      (∀ first es, sized es.length → 32 < first + es.length → refused first es .outOfRange first)
      ∧ (∀ first es n, sized es.length → first + es.length ≤ 32 → FirstFails coded first es n →
        refused first es .illegalValue n)
      ∧ (∀ first es n, sized es.length → first + es.length ≤ 32 → (∀ e ∈ es, coded 0 e) →
        FirstFails allowed first es n → refused first es .illegalValue n)
      ∧ (∀ first es n, sized es.length → first + es.length ≤ 32 →
        (∀ e ∈ es, coded 0 e ∧ allowed 0 e) → twice (loaded first es) n →
        (∀ j, j < n → ¬ twice (loaded first es) j) → refused first es .duplicate n))
    ∧ (let refused := fun (first : Nat) (es : List Nat) (c : RespCode) (n : Nat) =>
        formFits (.loadStatusMap h first es) = true →
        exec (.loadStatusMap h first es) s = LoadRefused h .statusMap c (some n) s;
      (∀ first es, sized es.length → 16 < first + es.length → refused first es .outOfRange first)
      ∧ (∀ first es n, sized es.length → first + es.length ≤ 16 →
        FirstFails (fun _ q => q ≠ 255) first es n → refused first es .illegalValue n)
      ∧ (∀ first es n, sized es.length → first + es.length ≤ 16 → (∀ q ∈ es, q ≠ 255) →
        FirstFails (fun _ q => q ≤ 26) first es n → refused first es .outOfRange n)))
  ∧ (∀ (h : Hdr) (s : State), Managed s h → s.mgmt.latch = none →
    let refused := fun (first : Nat) (es : List SettingEntry) (c : RespCode) (n : Nat) =>
      formFits (.loadPartSettings h first es) = true →
      exec (.loadPartSettings h first es) s = LoadRefused h .partSettings c (some n) s
    let ranged := fun (l : List Nat) => l.length = 11 ∧ ∀ x ∈ l, x ≤ 62
    let beyond := fun (lo hi x : Int) => x ≠ absentFigure ∧ (x < lo ∨ hi < x)
    let named := fun (l : List Nat) => l.Nodup ∧ ∀ x ∈ l, s.links.station ≠ some x
    let offline := s.seqs.f1.state = .offline ∧ s.seqs.f2.state = .offline
    let busy := s.arb.motion ≠ .still ∨ s.grid.grant.isSome = true ∨ s.grid.queue ≠ []
    (∀ first es, 1 ≤ es.length → es.length ≤ 16 → 5 < first + es.length →
      refused first es .outOfRange first)
    ∧ (∀ i, i ≤ 3 → refused i [.figure absentFigure] .illegalValue i)
    ∧ (∀ x, beyond 1 8 x → refused 2 [.figure x] .outOfRange 2)
    ∧ (∀ a b x es, a ≠ absentFigure → b ≠ absentFigure → beyond 1 8 x → es.length ≤ 2 →
      refused 0 (.figure a :: .figure b :: .figure x :: es) .outOfRange 2)
    ∧ (∀ x, beyond 30 600 x → refused 3 [.figure x] .outOfRange 3)
    ∧ (∀ l, l.length = 11 → 255 ∈ l → refused 4 [.partners l] .illegalValue 4)
    ∧ (∀ l, l.length = 11 → 255 ∉ l → (∃ x ∈ l, 62 < x) → refused 4 [.partners l] .outOfRange 4)
    ∧ (∀ l, ranged l → ¬ named l → refused 4 [.partners l] .illegalValue 4)
    ∧ (∀ l, ranged l → named l → ¬ offline → refused 4 [.partners l] .notWhileArmed 4)
    ∧ (∀ l, ranged l → named l → offline → busy → refused 4 [.partners l] .busy 4))

/-- R188, R191, R114, R20: while the error latch is set, LOAD_TABLE, SCHEDULE_EDIT and MAP_EDIT are refused
LATCHED and leave everything but the plant queue as it stands. R187: with the latch clear, a load of any of the
thirteen tables whose payload does not fit its form is refused ILLEGAL_VALUE with no entry index, and one whose
entry count is 0 or more than 16 OUT_OF_RANGE with entry index 0; each sets the latch and changes no table. A
SCHEDULE_EDIT or MAP_EDIT that does not fit sets the latch too; a READ_TABLE, COMMAND or QUERY that does not fit
is answered ILLEGAL_VALUE and has no effect. R187, R171: the payload length that each kind and its count fields
allow, and that the header's length is tested against. The model's choices: the table id or operation that the
latch records of an empty payload, and the RESPONSE's entry index of a refused MAP_EDIT (log 31); the sizes of
the fields and records that R171 leaves open (log 42); an open field list behind a bad entry code and beyond a
table (log 48); the form code of a QUERY MAP (log 49). -/
def Obligations.LatchedRefusesLoadsAndEdits : Prop :=
  (∀ (h : Hdr) (s : State), Managed s h → s.mgmt.latch.isSome = true →
    let latched := fun (i : Instr) (kind : Nat) =>
      exec i s = .next (respond h kind .latched none .none s)
    (∀ sel first es, latched (.loadFurnaceGeometry h sel first es) Kind.loadTable)
      ∧ (∀ sel first es, latched (.loadGapRules h sel first es) Kind.loadTable)
      ∧ (∀ first es, latched (.loadThicknessClasses h first es) Kind.loadTable)
      ∧ (∀ sel first es, latched (.loadChargerTiming h sel first es) Kind.loadTable)
      ∧ (∀ first es, latched (.loadTableGeometry h first es) Kind.loadTable)
      ∧ (∀ sel first es, latched (.loadCounterSetup h sel first es) Kind.loadTable)
      ∧ (∀ first es, latched (.loadSensorSetup h first es) Kind.loadTable)
      ∧ (∀ first es, latched (.loadWindowPool h first es) Kind.loadTable)
      ∧ (∀ sel first es, latched (.loadWindowSets h sel first es) Kind.loadTable)
      ∧ (∀ sel first es, latched (.loadLineSettings h sel first es) Kind.loadTable)
      ∧ (∀ first es, latched (.loadPassage h first es) Kind.loadTable)
      ∧ (∀ first es, latched (.loadStatusMap h first es) Kind.loadTable)
      ∧ (∀ first es, latched (.loadPartSettings h first es) Kind.loadTable)
      ∧ (∀ ops, latched (.scheduleEdit h ops) Kind.scheduleEdit)
      ∧ (∀ tag, latched (.deleteSlab h tag) Kind.mapEdit)
      ∧ (∀ sel row x, latched (.setRowFront h sel row x) Kind.mapEdit)
      ∧ (∀ sel x id w l th g m, latched (.insertSlab h sel x id w l th g m) Kind.mapEdit))
  ∧ (∀ (h : Hdr) (s : State), Managed s h → s.mgmt.latch = none →
    let refused := fun (i : Instr) (t : TableId) (n : Nat) =>
      (formFits i = false → 0 < h.length → exec i s = LoadRefused h t .illegalValue none s)
      ∧ (h.length = 0 → exec i s =
        .next (refuseAndLatch h Kind.loadTable (.loadUnknown 0) .illegalValue none s))
      ∧ (formFits i = true → (n = 0 ∨ 16 < n) → exec i s = LoadRefused h t .outOfRange (some 0) s)
    (∀ sel first es, refused (.loadFurnaceGeometry h sel first es) .furnaceGeometry es.length)
      ∧ (∀ sel first es, refused (.loadGapRules h sel first es) .gapRules es.length)
      ∧ (∀ first es, refused (.loadThicknessClasses h first es) .thicknessClasses es.length)
      ∧ (∀ sel first es, refused (.loadChargerTiming h sel first es) .chargerTiming es.length)
      ∧ (∀ first es, refused (.loadTableGeometry h first es) .tableGeometry es.length)
      ∧ (∀ sel first es, refused (.loadCounterSetup h sel first es) .counterSetup es.length)
      ∧ (∀ first es, refused (.loadSensorSetup h first es) .sensorSetup es.length)
      ∧ (∀ first es, refused (.loadWindowPool h first es) .windowPool es.length)
      ∧ (∀ sel first es, refused (.loadWindowSets h sel first es) .windowSets es.length)
      ∧ (∀ sel first es, refused (.loadLineSettings h sel first es) .lineSettings es.length)
      ∧ (∀ first es, refused (.loadPassage h first es) .passage es.length)
      ∧ (∀ first es, refused (.loadStatusMap h first es) .statusMap es.length)
      ∧ (∀ first es, refused (.loadPartSettings h first es) .partSettings es.length))
  ∧ (∀ (h : Hdr) (s : State), Managed s h → s.mgmt.latch = none →
    let refused := fun (i : Instr) (kind : Nat) (item : LatchItem) (entry : Option Nat) =>
      formFits i = false → exec i s = .next (refuseAndLatch h kind item .illegalValue entry s)
    let edited := fun (i : Instr) (op : MapOpCode) =>
      refused i Kind.mapEdit (.map (if h.length = 0 then none else some op)) (some 0)
    (∀ ops, refused (.scheduleEdit h ops) Kind.scheduleEdit (.schedule none) none)
      ∧ (∀ tag, edited (.deleteSlab h tag) .deleteSlab)
      ∧ (∀ sel row x, edited (.setRowFront h sel row x) .setRowFront)
      ∧ (∀ sel x id w l th g m, edited (.insertSlab h sel x id w l th g m) .insertSlab))
  ∧ (∀ (c : Instr) (h : Hdr) (kind : Nat) (l : List Field) (s : State), Managed s h →
    c.parts.hdr = some h → Instr.fields c = some (kind, l) →
    kind ∈ [Kind.readTable, Kind.command, Kind.query] → formFits c = false →
    exec c s = .next (respond h kind .illegalValue none .none s))
  ∧ (∀ h : Hdr,
    let long := fun (c : Instr) (n : Nat) => (formFits c = true ↔ h.length = n)
    let poolEntry := fun (e : PoolLoadEntry) => (match e with | .window .. => 14 | _ => 1 : Nat)
    let passageEntry := fun (e : PassageLoadEntry) => (match e with | .bound .. => 3 | _ => 1 : Nat)
    let operation := fun (op : SchedOp) =>
      (match op with | .append .. => 29 | .insert .. => 29 | .delete _ => 3 | .modify .. => 17 | .badCode _ => 1 : Nat)
    long (.heartbeat h) 0
    ∧ ((∀ k i es, long (.loadFurnaceGeometry h k i es) (4 + 42 * es.length))
      ∧ (∀ k i es, long (.loadGapRules h k i es) (4 + 4 * es.length))
      ∧ (∀ i es, long (.loadThicknessClasses h i es) (4 + 4 * es.length))
      ∧ (∀ k i es, long (.loadChargerTiming h k i es) (4 + 4 * es.length))
      ∧ (∀ i es, long (.loadTableGeometry h i es) (4 + 68 * es.length))
      ∧ (∀ c i es, long (.loadCounterSetup h c i es) (4 + 21 * es.length))
      ∧ (∀ i es, long (.loadSensorSetup h i es) (4 + 5 * es.length))
      ∧ (∀ i es, (∀ raw, .badKind raw ∉ es) → long (.loadWindowPool h i es) (4 + (es.map poolEntry).sum))
      ∧ (∀ k i es, long (.loadWindowSets h k i es) (4 + (es.map fun l => 1 + l.length).sum))
      ∧ (∀ k i (ls : List (Code StopLevel)), i + ls.length ≤ 8 → long (.loadLineSettings h k i (ls.map .stopLevel)) (4 + ls.length))
      ∧ (∀ k u v w x, long (.loadLineSettings h k 8 [.speedLead u v w x]) 20)
      ∧ (∀ i es, (∀ raw, .badKind raw ∉ es) → long (.loadPassage h i es) (4 + (es.map passageEntry).sum))
      ∧ (∀ i es, long (.loadStatusMap h i es) (4 + es.length))
      ∧ (∀ i (xs : List Int), i + xs.length ≤ 4 → long (.loadPartSettings h i (xs.map .figure)) (4 + 4 * xs.length))
      ∧ (∀ l : List Nat, l.length = 11 → long (.loadPartSettings h 4 [.partners l]) 15))
    ∧ (∀ c l, c.parts.hdr = some h → Instr.fields c = some (Kind.readTable, l) → long c 4)
    ∧ ((∀ ops, (∀ raw, .badCode raw ∉ ops) → long (.scheduleEdit h ops) (1 + (ops.map operation).sum))
      ∧ (∀ tag, long (.deleteSlab h tag) 3) ∧ (∀ k r x, long (.setRowFront h k r x) 7)
      ∧ (∀ k x id w l th g m, long (.insertSlab h k x id w l th g m) 35))
    ∧ ((∀ k, long (.armFurnace h k) 2 ∧ long (.disarmFurnace h k) 2 ∧ long (.stopCharger h k) 2
        ∧ long (.releaseCharger h k) 2 ∧ long (.resolveInflightRemoved h k) 7)
      ∧ (∀ k x, long (.resolveInflightLanded h k x) 7)
      ∧ (∀ tag w l th g d, long (.acceptSlab h tag w l th g d) 17)
      ∧ (∀ tag, long (.rejectSlab h tag) 3 ∧ long (.removeSlab h tag) 3)
      ∧ (∀ id w th m, long (.enterSlab h id w th m) 25) ∧ long (.clearHolds h .all) 2
      ∧ (∀ k n, long (.clearHolds h (.furnace k n)) 6) ∧ (∀ c n, long (.clearHolds h (.counter c n)) 6)
      ∧ long (.clearError h) 1 ∧ (∀ l, long (.clearLink h l) 2) ∧ long (.resume h) 1
      ∧ long (.resetTracking h) 1 ∧ long (.resetAll h) 1)
    ∧ ((∀ k i, long (.queryMap h (.rows k i)) 4) ∧ (∀ tag, long (.queryMap h (.slab tag)) 4)
      ∧ long (.queryTableList h .list) 1 ∧ (∀ tag, long (.queryTableList h (.record tag)) 3)
      ∧ (∀ q, long (.querySchedule h (.range q)) 3) ∧ (∀ id, long (.querySchedule h (.identity id)) 13)
      ∧ (∀ k, long (.queryInflight h k) 2) ∧ long (.queryGrid h) 1 ∧ long (.queryCounters h) 1
      ∧ (∀ c, long (.queryHolds h c) 2)))

/-! ## READ_TABLE and QUERY: the RESPONSE, and nothing else -/

/-- R29, R27: a read of FURNACE_GEOMETRY answers the record, its fields in the order of R27, the stroke basis
and the fault policy among them, or NOT_CONFIGURED where it has no values. -/
def Obligations.ReadFurnaceGeometry : Prop :=
  ∀ (h : Hdr) (k : Furnace) (count : Nat) (s : State),
    Managed s h → formFits (.readFurnaceGeometry h (.val k) 0 count) = true → 1 ≤ count → count ≤ 16 →
    (∀ g, s.cfg.geometry.get k = some g → exec (.readFurnaceGeometry h (.val k) 0 count) s =
        .next (respond h Kind.readTable .ok none (.geometry g) s))
      ∧ (s.cfg.geometry.get k = none → exec (.readFurnaceGeometry h (.val k) 0 count) s =
        .next (respond h Kind.readTable .notConfigured none .none s))
      ∧ (∀ g : FurnaceGeometry, (RespData.geometry g).fields = [.figure g.lEff, .figure g.zMin,
        .figure g.zMax, .figure g.dDoor, .figure g.sNom, .code (.basis g.basis), .figure g.lPair,
        .figure g.pairTolerance, .figure g.landingTolerance, .figure g.armOffset, .figure g.retractClear,
        .code (.policy g.policy)])

/-- R32, R54, R86, R145, R148, R166, R178, R189, R190, R196: the reads of the other twelve tables; a pool entry
comes with the number of set lines that list it. R189, R187: of all thirteen, a bad selector is refused
ILLEGAL_VALUE, a count that is 0 or more than 16 or a first index beyond the last entry OUT_OF_RANGE, and a
table geometry with no values NOT_CONFIGURED. The slices, and the order of these checks, are those of log 9. -/
def Obligations.ReadTables : Prop :=
  (∀ (h : Hdr) (first count : Nat) (s : State),
    Managed s h → 1 ≤ count → count ≤ 16 →
    (∀ k, first ≤ 7 → formFits (.readGapRules h (.val k) first count) = true →
        exec (.readGapRules h (.val k) first count) s =
        .next (respond h Kind.readTable .ok none
          (.figures (((s.cfg.gaps.get k).drop first).take count)) s))
      ∧ (first ≤ 2 → formFits (.readThicknessClasses h first count) = true →
        exec (.readThicknessClasses h first count) s =
        .next (respond h Kind.readTable .ok none
          (.figures (([s.cfg.bounds.b1, s.cfg.bounds.b2, s.cfg.bounds.b3].drop first).take count)) s))
      ∧ (∀ k, first ≤ 5 → formFits (.readChargerTiming h (.val k) first count) = true →
        exec (.readChargerTiming h (.val k) first count) s =
        .next (respond h Kind.readTable .ok none
          (.durations (((s.cfg.timing.get k).drop first).take count)) s))
      ∧ (∀ g, s.cfg.tableGeometry = some g → formFits (.readTableGeometry h 0 count) = true →
        exec (.readTableGeometry h 0 count) s =
        .next (respond h Kind.readTable .ok none (.tableGeometry g) s))
      ∧ (∀ c, formFits (.readCounterSetup h (.val c) 0 count) = true →
        exec (.readCounterSetup h (.val c) 0 count) s =
        .next (respond h Kind.readTable .ok none (.counterSetup (s.cfg.counterSetup.get c)) s))
      ∧ (first ≤ 4 → formFits (.readSensorSetup h first count) = true →
        exec (.readSensorSetup h first count) s =
        .next (respond h Kind.readTable .ok none
          (.sensorSetups (([s.cfg.sensorSetup.ms, s.cfg.sensorSetup.gp, s.cfg.sensorSetup.d1,
            s.cfg.sensorSetup.d2, s.cfg.sensorSetup.te].drop first).take count)) s)))
  ∧ (∀ (h : Hdr) (first count : Nat) (s : State),
    Managed s h → 1 ≤ count → count ≤ 16 →
    (first ≤ 95 → formFits (.readWindowPool h first count) = true →
        ∃ xs, exec (.readWindowPool h first count) s =
          .next (respond h Kind.readTable .ok none (.poolEntries xs) s)
        ∧ xs.map (·.1) = (s.cfg.pool.drop first).take count
        ∧ ∀ j x, xs[j]? = some x →
          x.2 = ((s.cfg.sets.f1 ++ s.cfg.sets.f2).filter fun l => l.contains (first + j)).length)
      ∧ (∀ k, first ≤ 31 → formFits (.readWindowSets h (.val k) first count) = true →
        exec (.readWindowSets h (.val k) first count) s =
        .next (respond h Kind.readTable .ok none
          (.lineLists (((s.cfg.sets.get k).drop first).take count)) s))
      ∧ (∀ k, first ≤ 8 → formFits (.readLineSettings h (.val k) first count) = true →
        exec (.readLineSettings h (.val k) first count) s =
        .next (respond h Kind.readTable .ok none
          (.entries ((((s.cfg.lineSettings.get k).stops.map ReadEntry.stopLevel ++
            [ReadEntry.speedLead (s.cfg.lineSettings.get k).vStill (s.cfg.lineSettings.get k).vSlow
              (s.cfg.lineSettings.get k).lead (s.cfg.lineSettings.get k).maxAdvance]).drop first).take
                count)) s))
      ∧ (first ≤ 31 → formFits (.readPassage h first count) = true →
        exec (.readPassage h first count) s =
        .next (respond h Kind.readTable .ok none
          (.passage ((s.cfg.passage.drop first).take count)) s))
      ∧ (first ≤ 15 → formFits (.readStatusMap h first count) = true →
        exec (.readStatusMap h first count) s =
        .next (respond h Kind.readTable .ok none
          (.quantities ((s.cfg.statusMap.drop first).take count)) s))
      ∧ (first ≤ 4 → formFits (.readPartSettings h first count) = true →
        exec (.readPartSettings h first count) s =
        .next (respond h Kind.readTable .ok none
          (.entries (([.figure s.cfg.settings.statusPeriod, .figure s.cfg.settings.supervisionPeriod,
            .figure s.cfg.settings.lookAhead, .figure s.cfg.settings.grantTimeout,
            .partners s.cfg.partners].drop first).take count)) s)))
  ∧ (∀ (h : Hdr) (s : State), Managed s h →
    let refused := fun (i : Instr) (c : RespCode) => formFits i = true →
      exec i s = .next (respond h Kind.readTable c none .none s)
    (∀ raw first count, refused (.readFurnaceGeometry h (.bad raw) first count) .illegalValue
      ∧ refused (.readGapRules h (.bad raw) first count) .illegalValue
      ∧ refused (.readChargerTiming h (.bad raw) first count) .illegalValue
      ∧ refused (.readCounterSetup h (.bad raw) first count) .illegalValue
      ∧ refused (.readWindowSets h (.bad raw) first count) .illegalValue
      ∧ refused (.readLineSettings h (.bad raw) first count) .illegalValue)
    ∧ (∀ first count,
      let beyond := fun (last : Nat) => count = 0 ∨ 16 < count ∨ last < first
      (∀ k, (beyond 0 → refused (.readFurnaceGeometry h (.val k) first count) .outOfRange)
        ∧ (beyond 7 → refused (.readGapRules h (.val k) first count) .outOfRange)
        ∧ (beyond 5 → refused (.readChargerTiming h (.val k) first count) .outOfRange)
        ∧ (beyond 31 → refused (.readWindowSets h (.val k) first count) .outOfRange)
        ∧ (beyond 8 → refused (.readLineSettings h (.val k) first count) .outOfRange))
      ∧ (∀ c, beyond 0 → refused (.readCounterSetup h (.val c) first count) .outOfRange)
      ∧ (beyond 2 → refused (.readThicknessClasses h first count) .outOfRange)
      ∧ (beyond 0 → refused (.readTableGeometry h first count) .outOfRange)
      ∧ (beyond 4 → refused (.readSensorSetup h first count) .outOfRange)
      ∧ (beyond 95 → refused (.readWindowPool h first count) .outOfRange)
      ∧ (beyond 31 → refused (.readPassage h first count) .outOfRange)
      ∧ (beyond 15 → refused (.readStatusMap h first count) .outOfRange)
      ∧ (beyond 4 → refused (.readPartSettings h first count) .outOfRange))
    ∧ (∀ count, 1 ≤ count → count ≤ 16 → s.cfg.tableGeometry = none →
      refused (.readTableGeometry h 0 count) .notConfigured))

/-- R24, R107, R132, R79, R133, R150: the queries of the maps, the table list, the schedule, a sequencer, the
grid and the counters answer, form by form, what stands, and change nothing but the plant queue. A missing tag
(0: log 29) or sequence number (0: log 38) is refused ILLEGAL_VALUE. -/
def Obligations.Queries : Prop :=
  (∀ (h : Hdr) (s : State), Managed s h →
    let answer := fun (i : Instr) (d : RespData) => formFits i = true →
      exec i s = .next (respond h Kind.query .ok none d s)
    let refused := fun (i : Instr) (c : RespCode) => formFits i = true →
      exec i s = .next (respond h Kind.query c none .none s)
    let travel := roundMm s.counters.t.acc
    (∀ k first, first ≤ (s.maps.get k).rows.length →
      answer (.queryMap h (.rows (.val k) first)) (.mapRows k (s.maps.get k).rows.length first
        ((((s.maps.get k).rows.drop first).take 8).map fun r =>
          { front := r.front, extent := r.extent, lanes := r.occ.slabs.map fun x => (x.1, x.2.tag)
            pairOpen := r.pairOpen, overrun := r.overrun })))
      ∧ (∀ k first, (s.maps.get k).rows.length < first →
        refused (.queryMap h (.rows (.val k) first)) .outOfRange)
      ∧ refused (.queryMap h (.slab 0)) .illegalValue
      ∧ (∀ tag, tag ≠ 0 → (∀ x ∈ s.maps.f1.slabs ++ s.maps.f2.slabs, x.tag ≠ tag) →
        refused (.queryMap h (.slab tag)) .unknownTag)
      ∧ (∀ k pre r post lane x, x.tag ≠ 0 → (k = .f2 → ∀ y ∈ s.maps.f1.slabs, y.tag ≠ x.tag) →
        (s.maps.get k).rows = pre ++ r :: post → (∀ q ∈ pre, ∀ y ∈ q.slabs, y.tag ≠ x.tag) →
        r.occ.slabs.find? (fun y => y.2.tag == x.tag) = some (lane, x) →
        answer (.queryMap h (.slab x.tag)) (.mapSlab x k pre.length lane r.front))
      ∧ answer (.queryTableList h .list) (.tableList travel s.tracker.table.length
          (s.tracker.table.mapIdx fun i r =>
            { index := i, tag := r.tag, head := r.anchor + travel
              centre := r.anchor + travel - r.assumed.tdiv 2, state := r.state, dest := r.dest })
          s.arb.motion s.arb.holds s.arb.gridHold s.arb.requests (s.tracker.measuring.map (·.tag))
          s.sensors.gp.taken s.tracker.unidentified)
      ∧ refused (.queryTableList h (.record 0)) .illegalValue
      ∧ (∀ tag r, tag ≠ 0 → s.tracker.table.find? (fun r => r.tag == tag) = some r →
        answer (.queryTableList h (.record tag)) (.tableRecord r (r.anchor + travel)
          (r.anchor + travel - r.assumed) (r.anchor + travel - r.assumed.tdiv 2) r.assumed))
      ∧ (∀ tag, tag ≠ 0 → (∀ r ∈ s.tracker.table, r.tag ≠ tag) →
        refused (.queryTableList h (.record tag)) .unknownTag)
      ∧ refused (.querySchedule h (.range 0)) .illegalValue
      ∧ (∀ seq, seq ≠ 0 → answer (.querySchedule h (.range seq)) (.scheduleRange s.schedule.length
          (s.schedule.filter fun e => e.state == .planned).length
          ((s.schedule.filter fun e => decide (seq ≤ e.seq)).take 8)))
      ∧ (∀ pre e post, ScheduleInOrder s → s.schedule = pre ++ e :: post →
        answer (.querySchedule h (.identity e.id)) (.scheduleEntry e pre.length
          (pre.filter fun x => x.state == .planned).length))
      ∧ (∀ id, (∀ e ∈ s.schedule, e.id ≠ id) →
        refused (.querySchedule h (.identity id)) .unknownTag))
  ∧ (∀ (h : Hdr) (s : State), Managed s h →
    let answer := fun (i : Instr) (d : RespData) => formFits i = true →
      exec i s = .next (respond h Kind.query .ok none d s)
    let counter := fun (c : CounterId) (depth : Option Int) =>
      ({ setup := s.cfg.counterSetup.get c, counter := s.counters.get c
         position := roundMm (s.counters.get c).acc, depth } : CounterReport)
    let depth := fun (x : Counter) => if x.homed = true then some (roundMm x.acc) else none
    let sensor := fun (i : SensorId) =>
      ({ setup := s.cfg.sensorSetup.get i, sensor := s.sensors.get i
         raw := ((s.sensors.get i).electrical != (s.cfg.sensorSetup.get i).invert)
         latestMm := roundMm (s.sensors.get i).latest
         previousMm := roundMm (s.sensors.get i).previous } : SensorReport)
    (∀ k, answer (.queryInflight h (.val k)) (.inflight (s.seqs.get k) (s.arb.holds.get k)
        ((s.arb.requests.get k).map fun q => q.status == .granted)))
      ∧ (formFits (.queryGrid h) = true → ∃ l, answer (.queryGrid h) (.grid s.grid.grant l
            { supervision := decide (s.mgmt.supervision ≠ .lost), mode := decide (s.ret.mode = .run)
              gridClear := s.gridClear, roomInList := decide (s.tracker.table.length < 8)
              permission := s.permitsGrid }
            s.sensors.gp.taken s.tracker.unidentified)
        ∧ (l.map (·.1)).Perm s.grid.queue
        ∧ (∀ x ∈ l, x.2 =
            (s.schedule.find? fun e => e.id == x.1.id && e.state == .planned).map (·.seq))
        ∧ l.Pairwise (fun x y => match x.2, y.2 with
          | some a, some b => a ≤ b
          | some _, none => True
          | none, some _ => False
          | none, none => x.1.rank ≤ y.1.rank))
      ∧ answer (.queryCounters h) (.counters
          ⟨counter .t none, counter .c1 (depth s.counters.c1), counter .c2 (depth s.counters.c2)⟩
          ⟨sensor .ms, sensor .gp, sensor .d1, sensor .d2, sensor .te⟩))

/-- R47, R149: QUERY HOLDS answers for each furnace its four holds, its last stroke or its absence, and its
stroke basis and fault policy or none, and the holds of the counters, as they stand; with the clear option every
one of them is then clear, and nothing else changes. -/
def Obligations.QueryHolds : Prop :=
  ∀ (h : Hdr) (s : State), Managed s h → formFits (.queryHolds h (.val false)) = true →
    let report := fun (k : Furnace) => ({
      holds := (s.place.get k).holds, lastStroke := (s.place.get k).lastStroke
      basisPolicy := (s.cfg.geometry.get k).map fun g => (g.basis, g.policy) } : HoldsReport)
    let d := RespData.holds ⟨report .f1, report .f2⟩ {
      tError := s.counters.t.encoderError
      c1Error := s.counters.c1.encoderError, c1Deviation := s.counters.c1.homeDeviation
      c2Error := s.counters.c2.encoderError, c2Deviation := s.counters.c2.homeDeviation }
    exec (.queryHolds h (.val false)) s = .next (respond h Kind.query .ok none d s)
      ∧ ∃ t, exec (.queryHolds h (.val true)) s = .next t
        ∧ t = { respond h Kind.query .ok none d s with place := t.place, counters := t.counters }
        ∧ (∀ k, t.place.get k = { s.place.get k with holds := PlacementHolds.clear })
        ∧ (∀ c, t.counters.get c =
            { s.counters.get c with encoderError := false, homeDeviation := false })

/-! ## Furnace maps (chapter 1) -/

/-- R3, R4, R6, R84: every step keeps both maps in order where the sequencers hold what their states say and the
widths that may come into a map lie in their range, and keeps those ranges; stroke and discharge reports and the
three map edits keep both maps in order in every state; and every step leaves no tag and no identity held twice
over the table list, the two in-flight records and the two maps. -/
def Obligations.MapEventsKeepOrder : Prop :=
  (∀ (s t : State), MapsInOrder s →
    ((∃ h x, exec (.strokeReport h x) s = .next t)
      ∨ (∃ h n a b, exec (.dischargeReport h n a b) s = .next t)
      ∨ (∃ h tag, exec (.deleteSlab h tag) s = .next t)
      ∨ (∃ h sel row x, exec (.setRowFront h sel row x) s = .next t)
      ∨ (∃ h sel x id w l th g m, exec (.insertSlab h sel x id w l th g m) s = .next t)) →
    MapsInOrder t)
  ∧ (∀ s t : State, SequencersConsistent s ∧ MapsInOrder s ∧ WidthsInRange s → step s = .next t →
    MapsInOrder t ∧ WidthsInRange t)
  ∧ (∀ s t : State, HeldOnce s ∧ TableBounded s ∧ MapsInOrder s → step s = .next t → HeldOnce t)

/-- R12 to R15: an observed STROKE_REPORT moves every row of its furnace by the length taken, marks the rows
carried beyond L_eff, becomes the last reported stroke, and sets STROKE_DURING_CHARGE while the charger is in
CARRY, LOWER or RETRACT. The other map, the schedule and the slabs stay. Its events: STROKE_CLAMPED, an OVERRUN
for each row newly beyond L_eff, HOLD_SET (their order: log 35, the model's choice). R57, R63, R64: in ROOM with
strokes outstanding the sequencer counts it, and the last one, or a length of 0, ends the batch with a
recomputation; with FULL or MAP_FULL a length gives one; in IDLE a start evaluation is due. A report whose
length is missing (R171) fails in format and passes on alone (log 38, the model's choice). -/
def Obligations.StrokeReportShiftsMap : Prop :=
  (∀ (h : Hdr) (k : Furnace) (x : Int) (s : State),
    FieldObserved s Kind.strokeReport h (.beam k) →
    (exec (.strokeReport h absentFigure) s = .next (raise
      (.strayTelegram h.port h.source h.dest Kind.strokeReport .format)
      (forwardTo (otherPort h.port) (.strokeReport h absentFigure) s)))
    ∧ (x ≠ absentFigure → ∃ t, exec (.strokeReport h x) s = .next t
      ∧ (t.maps.get k).rows.map (fun r => (r.front, r.extent, r.occ))
          = (s.maps.get k).rows.map (fun r => (r.front + max 0 (min 1000 x), r.extent, r.occ))
      ∧ (x ≤ 0 → (t.maps.get k).rows = (s.maps.get k).rows)
      ∧ (0 < x → ∀ g, s.cfg.geometry.get k = some g →
          (t.maps.get k).rows.map (·.overrun)
            = (s.maps.get k).rows.map fun r => r.overrun || decide (g.lEff < r.front + min 1000 x))
      ∧ (0 < x → ∀ r, (t.maps.get k).rows.getLast? = some r → r.pairOpen = false)
      ∧ (t.maps.get k).lastLanding = (s.maps.get k).lastLanding
      ∧ t.maps.get (otherFurnace k) = s.maps.get (otherFurnace k)
      ∧ (t.place.get k).lastStroke = some (max 0 (min 1000 x))
      ∧ ((s.seqs.get k).state = .carry ∨ (s.seqs.get k).state = .lower
          ∨ (s.seqs.get k).state = .retract → (t.place.get k).holds.strokeDuringCharge = true)
      ∧ t.schedule = s.schedule ∧ t.cfg = s.cfg ∧ t.counters = s.counters ∧ t.sensors = s.sensors
      ∧ t.mgmt = s.mgmt))
  ∧ (∀ (h : Hdr) (k : Furnace) (x : Int) (s : State),
    FieldObserved s Kind.strokeReport h (.beam k) → x ≠ absentFigure →
    let q := s.seqs.get k
    let copy := forwardTo (otherPort h.port) (.strokeReport h x) s
    let mapped := mapStroke k x copy
    let done := exec (.strokeReport h x) s
    let len := max 0 (min 1000 x)
    let newly := fun (r : Row) => match s.cfg.geometry.get k with
      | none => false
      | some g => !r.overrun && decide (g.lEff < r.front + len)
    let clamped := if 0 ≤ x ∧ x ≤ 1000 then copy else raise (.strokeClamped k x len) copy
    let overrun := if len = 0 then clamped else
      ((s.maps.get k).rows.zipIdx.filter fun p => newly p.1).foldl
        (fun t p => raise (.overrun k p.2 (p.1.front + len) (p.1.slabs.map fun y => (y.tag, y.id))) t) clamped
    let told := if q.state = .carry ∨ q.state = .lower ∨ q.state = .retract then
      raise (.holdSet (.placement .strokeDuringCharge k none none)) overrun else overrun
    mapped.seqs = s.seqs ∧ mapped.links = told.links ∧ mapped.ret = told.ret
      ∧ (∀ c, q.state = .room → q.cycle = some c → 2 ≤ c.outstanding → 0 < x →
        done = .next (finish { mapped with
          seqs := s.seqs.set k { q with cycle := some { c with
            outstanding := c.outstanding - 1
            timer := some ⟨.stroke, 1000 * (s.cfg.timing.get k).getD 1 0⟩ } } }))
      ∧ (∀ c, q.state = .room → q.cycle = some c → (c.outstanding = 1 ∧ 0 < x
          ∨ c.outstanding ≠ 0 ∧ x ≤ 0) →
        done = .next (finish (runFinal k { mapped with
          seqs := s.seqs.set k { q with cycle := some { c with outstanding := 0, timer := none } } })))
      ∧ (∀ c tag, q.state = .room → q.cycle = some c → c.outstanding = 0 →
        (q.waiting = .full tag ∨ q.waiting = .mapFull tag) → 0 < x →
        done = .next (finish (runFinal k mapped)))
      ∧ (q.state = .idle → done = .next (finish { mapped with
          due := { mapped.due with start := mapped.due.start.set k true } }))
      ∧ (q.state ≠ .idle → q.state ≠ .room → done = .next (finish mapped)))

/-- R16, R17, R18: what an observed DISCHARGE_REPORT takes out of its furnace's map: the whole first row, one
slab of a two-slab first row, or nothing where the count, the identities or their place say so. A slab of
another row than the first is taken out of that row, with DISCHARGE_MISORDER before its DISCHARGED (the order of
the two is log 35's choice); a report of two identities takes both, each by its own place. An invalid report,
and each identity found nowhere in the map, raises DISCHARGE_UNKNOWN. R19, R64, R57: with FULL or MAP_FULL in
ROOM the sequencer makes a recomputation, and in IDLE a start evaluation is due. -/
def Obligations.DischargeReportTakesSlabs : Prop :=
  (∀ (h : Hdr) (k : Furnace) (n : Nat) (id1 id2 : Identity) (s : State),
    FieldObserved s Kind.dischargeReport h (.discharge k) →
    ∃ t, exec (.dischargeReport h n id1 id2) s = .next t
      ∧ (∀ r rest y, (s.maps.get k).rows = r :: rest → r.slabs = [y] → n = 1 → y.id = id1 →
          (t.maps.get k).rows = rest)
      ∧ (∀ r rest y z, (s.maps.get k).rows = r :: rest → r.occ = .ab y z → y.id ≠ z.id → n = 1 →
          (y.id = id1 → (t.maps.get k).rows =
              { r with occ := .b z, extent := z.width, pairOpen := false } :: rest)
            ∧ (z.id = id1 → (t.maps.get k).rows =
              { r with occ := .a y, extent := y.width, pairOpen := false } :: rest))
      ∧ (∀ r rest y z, (s.maps.get k).rows = r :: rest → r.occ = .ab y z → y.id ≠ z.id → n = 2 →
          (y.id = id1 ∧ z.id = id2 ∨ y.id = id2 ∧ z.id = id1) → (t.maps.get k).rows = rest)
      ∧ ((n ≠ 1 ∧ n ≠ 2 ∨ n = 2 ∧ id1 = id2) → t.maps.get k = s.maps.get k)
      ∧ ((∀ y ∈ (s.maps.get k).slabs, y.id ≠ id1 ∧ y.id ≠ id2) → t.maps.get k = s.maps.get k)
      ∧ (t.maps.get k).lastLanding = (s.maps.get k).lastLanding
      ∧ t.maps.get (otherFurnace k) = s.maps.get (otherFurnace k)
      ∧ t.schedule = s.schedule ∧ t.cfg = s.cfg ∧ t.counters = s.counters ∧ t.sensors = s.sensors
      ∧ t.mgmt = s.mgmt)
  ∧ ((∀ (h : Hdr) (k : Furnace) (id1 id2 : Identity) (first r : Row) (mid post : List Row) (x : FurnaceSlab)
      (lane : Lane) (s : State),
    FieldObserved s Kind.dischargeReport h (.discharge k) →
    (s.maps.get k).rows = first :: (mid ++ r :: post) →
    (∀ y ∈ first.slabs ++ mid.flatMap Row.slabs, y.id ≠ id1) →
    r.occ.slabs.find? (fun y => y.2.id == id1) = some (lane, x) →
    let copy := forwardTo (otherPort h.port) (.dischargeReport h 1 id1 id2) s
    let told := raise (.dischargeMisorder k id1 x.tag (mid.length + 1)) copy
    let rest := match r.without lane with | none => post | some r' => r' :: post
    let left := { told with
      maps := s.maps.set k { s.maps.get k with rows := first :: (mid ++ rest) } }
    let taken := raise (.discharged x.tag x.id k (mid.length + 1) lane r.front x.mass x.substituted
      (s.ret.clock - x.chargedAt)) left
    let done := exec (.dischargeReport h 1 id1 id2) s
    ((s.seqs.get k).state ≠ .idle → (s.seqs.get k).state ≠ .room → done = .next (finish taken))
      ∧ ((s.seqs.get k).state = .idle → done = .next (finish { taken with
          due := { taken.due with start := taken.due.start.set k true } }))
      ∧ (∀ tag, (s.seqs.get k).state = .room →
        ((s.seqs.get k).waiting = .full tag ∨ (s.seqs.get k).waiting = .mapFull tag) →
        done = .next (finish (runFinal k taken))))
  ∧ (∀ (h : Hdr) (k : Furnace) (id1 id2 : Identity) (first r : Row) (mid post : List Row)
      (x y : FurnaceSlab) (la lx : Lane) (s : State),
    FieldObserved s Kind.dischargeReport h (.discharge k) → id1 ≠ id2 →
    (s.maps.get k).rows = first :: (mid ++ r :: post) → first.occ.slabs = [(la, y)] → y.id = id1 →
    y.id ≠ id2 → (∀ z ∈ mid.flatMap Row.slabs, z.id ≠ id2) →
    r.occ.slabs.find? (fun z => z.2.id == id2) = some (lx, x) →
    (s.seqs.get k).state ≠ .idle → (s.seqs.get k).state ≠ .room →
    let copy := forwardTo (otherPort h.port) (.dischargeReport h 2 id1 id2) s
    let fore := raise (.discharged y.tag y.id k 0 la first.front y.mass y.substituted
        (s.ret.clock - y.chargedAt))
      { copy with maps := s.maps.set k { s.maps.get k with rows := mid ++ r :: post } }
    let told := raise (.dischargeMisorder k id2 x.tag mid.length) fore
    let rest := match r.without lx with | none => post | some r' => r' :: post
    exec (.dischargeReport h 2 id1 id2) s = .next (finish
      (raise (.discharged x.tag x.id k mid.length lx r.front x.mass x.substituted
          (s.ret.clock - x.chargedAt))
        { told with maps := s.maps.set k { s.maps.get k with rows := mid ++ rest } }))))
  ∧ ((∀ (h : Hdr) (k : Furnace) (n : Nat) (id1 id2 : Identity) (told s : State),
    FieldObserved s Kind.dischargeReport h (.discharge k) →
    let copy := forwardTo (otherPort h.port) (.dischargeReport h n id1 id2) s
    let nowhere := fun (id : Identity) => ∀ y ∈ (s.maps.get k).slabs, y.id ≠ id
    let invalid := (n ≠ 1 ∧ n ≠ 2 ∨ n = 2 ∧ id1 = id2) ∧ told = raise (.dischargeInvalid k n id1 id2) copy
    let one := n = 1 ∧ nowhere id1 ∧ told = raise (.dischargeUnknown k id1) copy
    let both := n = 2 ∧ id1 ≠ id2 ∧ nowhere id1 ∧ nowhere id2
      ∧ told = raise (.dischargeUnknown k id2) (raise (.dischargeUnknown k id1) copy)
    let second := n = 2 ∧ nowhere id1 ∧ ∃ r rest y lane, (s.maps.get k).rows = r :: rest
      ∧ r.occ.slabs = [(lane, y)] ∧ y.id = id2
      ∧ told = raise (.discharged y.tag y.id k 0 lane r.front y.mass y.substituted (s.ret.clock - y.chargedAt))
          { raise (.dischargeUnknown k id1) copy with
            maps := s.maps.set k { s.maps.get k with rows := rest } }
    (invalid ∨ one ∨ both ∨ second) →
    let done := exec (.dischargeReport h n id1 id2) s
    let q := s.seqs.get k
    (q.state ≠ .idle → q.state ≠ .room → done = .next (finish told))
      ∧ (q.state = .idle → done = .next (finish { told with
          due := { told.due with start := told.due.start.set k true } }))
      ∧ (∀ tag, q.state = .room → (q.waiting = .full tag ∨ q.waiting = .mapFull tag) →
        done = .next (finish (runFinal k told)))
      ∧ (q.state = .room → (∀ tag, q.waiting ≠ .full tag ∧ q.waiting ≠ .mapFull tag) →
        done = .next (finish told)))
  ∧ (∀ (k : Furnace) (n : Nat) (a b : Identity),
    (Event.dischargeInvalid k n a b).code = 0x04 ∧ (Event.dischargeUnknown k a).code = 0x04
      ∧ (Event.dischargeInvalid k n a b).fields = [.code (.furnace k), .byte n, .identity a, .identity b]
      ∧ (Event.dischargeUnknown k a).fields = [.code (.furnace k), .identity a]))

/-- R21 to R23, R4, R5, R84: DELETE_SLAB takes a slab out of its row; SET_ROW_FRONT gives a row its front edge
where its span keeps clear of its neighbours; INSERT_SLAB places a lane-C row with a fresh tag behind the rows
whose fronts are not less, and removes a PLANNED entry with its identity. Each is answered with its fields, and
OVERRUN follows where a row is newly beyond L_eff. R20: each is refused, with the latch, by the codes of its
rule in the order of the checks. The model's choices: the tag 0 is missing (log 29) and another missing field
refused ILLEGAL_VALUE before the ranges (log 38); which characters an identity may hold (log 28); the RESPONSE
of a refusal carries entry index 0 (log 31). -/
def Obligations.MapEdits : Prop :=
  (∀ (h : Hdr) (tag : Nat) (s : State), Managed s h → formFits (.deleteSlab h tag) = true → s.mgmt.latch = none →
    (exec (.deleteSlab h 0) s = MapEditRefused h .deleteSlab .illegalValue s)
    ∧ (tag ≠ 0 → (∀ x ∈ s.maps.f1.slabs ++ s.maps.f2.slabs, x.tag ≠ tag) →
      exec (.deleteSlab h tag) s = MapEditRefused h .deleteSlab .unknownTag s)
    ∧ (∀ k, tag ≠ 0 → (k = .f2 → ∀ y ∈ s.maps.f1.slabs, y.tag ≠ tag) →
      (∃ y ∈ (s.maps.get k).slabs, y.tag = tag) →
      (s.seqs.get k).state ∈ [SeqState.positioning, .room, .pick, .carry, .lower, .retract] →
      exec (.deleteSlab h tag) s = MapEditRefused h .deleteSlab .notWhileCharging s)
    ∧ (∀ k pre r post x, tag ≠ 0 → (k = .f2 → ∀ y ∈ s.maps.f1.slabs, y.tag ≠ tag) →
      (s.maps.get k).rows = pre ++ r :: post → (∀ q ∈ pre, ∀ y ∈ q.slabs, y.tag ≠ tag) →
      (s.seqs.get k).state.cycling = false → x.tag = tag →
      (r.slabs = [x] ∨ (∃ z, z.tag ≠ tag ∧ (r.occ = .ab x z ∨ r.occ = .ab z x))) →
      ∃ lane t, exec (.deleteSlab h tag) s = .next (finish t)
        ∧ (lane, x) ∈ r.occ.slabs
        ∧ t = { respond h Kind.mapEdit .ok none (.deleted tag x.id k pre.length lane) s with
          maps := t.maps
          due := t.due }
        ∧ (r.slabs = [x] → t.maps = s.maps.set k { s.maps.get k with rows := pre ++ post })
        ∧ (∀ z, r.occ = .ab x z → t.maps = s.maps.set k { s.maps.get k with
            rows := pre ++ { r with occ := .b z, extent := z.width, pairOpen := false } :: post })
        ∧ (∀ z, r.occ = .ab z x → t.maps = s.maps.set k { s.maps.get k with
            rows := pre ++ { r with occ := .a z, extent := z.width, pairOpen := false } :: post })))
  ∧ (∀ (h : Hdr) (k : Furnace) (pre post : List Row) (r : Row) (front : Int) (s : State),
    Managed s h → formFits (.setRowFront h (.val k) pre.length front) = true →
    s.mgmt.latch = none → (s.seqs.get k).state.cycling = false →
    (s.maps.get k).rows = pre ++ r :: post → front ≠ absentFigure → front ≤ 100000 →
    0 ≤ front - r.extent → (∀ a, pre.getLast? = some a → front ≤ a.front - a.extent) →
    (∀ b, post.head? = some b → b.front ≤ front - r.extent) →
    let answered := respond h Kind.mapEdit .ok none (.rowFront k pre.length front) s
    ∃ t, exec (.setRowFront h (.val k) pre.length front) s = .next (finish t)
      ∧ t.maps = s.maps.set k { s.maps.get k with rows := pre ++ { r with
          front, pairOpen := false
          overrun := match s.cfg.geometry.get k with
            | none => false
            | some g => decide (g.lEff < front) } :: post }
      ∧ (let told := if r.overrun = false ∧ (∃ g ∈ s.cfg.geometry.get k, g.lEff < front) then
            raise (.overrun k pre.length front (r.slabs.map fun x => (x.tag, x.id))) answered else answered
        t.links = told.links ∧ t.ret = told.ret)
      ∧ t.cfg = s.cfg ∧ t.mgmt = s.mgmt ∧ t.schedule = s.schedule ∧ t.grid = s.grid
      ∧ t.tracker = s.tracker ∧ t.arb = s.arb ∧ t.seqs = s.seqs ∧ t.place = s.place
      ∧ t.counters = s.counters ∧ t.sensors = s.sensors ∧ t.windows = s.windows)
  ∧ (∀ (h : Hdr) (k : Furnace) (pre post : List Row) (front w l th : Int) (id : Identity) (grp : Nat)
    (mass : Int) (g : FurnaceGeometry) (s : State),
    Managed s h → formFits (.insertSlab h (.val k) front id w l th grp mass) = true →
    s.mgmt.latch = none → (s.seqs.get k).state.cycling = false →
    s.cfg.geometry.get k = some g → 800 ≤ w → w ≤ 2800 → 1500 ≤ l → l ≤ 12000 → 100 ≤ th →
    th ≤ 500 → grp ≤ 15 → 0 ≤ mass → mass ≤ 200000 → front ≤ 100000 → 0 ≤ front - w →
    idCharsOk id = true → s.idHeld id = false → (s.maps.get k).rows = pre ++ post →
    (s.maps.get k).rows.length < 64 → (∀ r ∈ pre, front ≤ r.front) →
    (∀ r, post.head? = some r → r.front < front) →
    (∀ r ∈ pre ++ post, r.front ≤ front - w ∨ front ≤ r.front - r.extent) →
    ∃ t x, exec (.insertSlab h (.val k) front id w l th grp mass) s = .next (finish t)
      ∧ x = { tag := s.freshTag, id, width := w, length := l, thickness := th
              mass := if mass = 0 then none else some mass
              group := grp, chargedAt := s.ret.clock, deviation := none, substituted := false }
      ∧ t.maps = s.maps.set k { s.maps.get k with
          rows := (if post = [] then closeLast pre else pre)
            ++ { front, extent := w, occ := .c x, pairOpen := false
                 overrun := decide (g.lEff < front) } :: post }
      ∧ (let answered := respond h Kind.mapEdit .ok none (.inserted s.freshTag k pre.length) s
        let told := if g.lEff < front then
            raise (.overrun k pre.length front [(s.freshTag, id)]) answered else answered
        t.links = told.links ∧ t.ret = told.ret)
      ∧ t.tracker = { s.tracker with nextTag := nextTagAfter s.freshTag }
      ∧ t.schedule = s.schedule.filter (fun e => !(e.id == id && e.state == .planned))
      ∧ t.cfg = s.cfg ∧ t.mgmt = s.mgmt ∧ t.grid = s.grid ∧ t.arb = s.arb ∧ t.seqs = s.seqs
      ∧ t.place = s.place ∧ t.counters = s.counters ∧ t.sensors = s.sensors)
  ∧ (∀ (h : Hdr) (s : State), Managed s h → s.mgmt.latch = none →
    let cycling := fun (k : Furnace) =>
      (s.seqs.get k).state ∈ [SeqState.positioning, .room, .pick, .carry, .lower, .retract]
    (let refused := fun (sel : Code Furnace) (row : Nat) (front : Int) (c : RespCode) =>
        formFits (.setRowFront h sel row front) = true →
        exec (.setRowFront h sel row front) s = MapEditRefused h .setRowFront c s;
      (∀ sel row, refused sel row absentFigure .illegalValue)
      ∧ (∀ sel row front, 100000 < front → refused sel row front .outOfRange)
      ∧ (∀ raw row front, front ≠ absentFigure → front ≤ 100000 → refused (.bad raw) row front .illegalValue)
      ∧ (∀ k row front, front ≠ absentFigure → front ≤ 100000 → (s.maps.get k).rows.length ≤ row →
        refused (.val k) row front .outOfRange)
      ∧ (∀ k pre r post front, front ≠ absentFigure → front ≤ 100000 →
        (s.maps.get k).rows = pre ++ r :: post →
        (front - r.extent < 0 → refused (.val k) pre.length front .outOfRange)
        ∧ (0 ≤ front - r.extent → cycling k → refused (.val k) pre.length front .notWhileCharging)
        ∧ (0 ≤ front - r.extent → ¬ cycling k →
          ((∃ a, pre.getLast? = some a ∧ a.front - a.extent < front)
            ∨ ∃ b, post.head? = some b ∧ front - r.extent < b.front) →
          refused (.val k) pre.length front .mapConflict)))
    ∧ (∀ (id : Identity) (front w l th : Int) (grp : Nat) (mass : Int),
      let refused := fun (sel : Code Furnace) (c : RespCode) =>
        formFits (.insertSlab h sel front id w l th grp mass) = true →
        exec (.insertSlab h sel front id w l th grp mass) s = MapEditRefused h .insertSlab c s
      let given := (∀ x ∈ [front, w, l, th], x ≠ absentFigure) ∧ grp ≠ 255
      let ranges := 800 ≤ w ∧ w ≤ 2800 ∧ 1500 ≤ l ∧ l ≤ 12000 ∧ 100 ≤ th ∧ th ≤ 500 ∧ grp ≤ 15
        ∧ 0 ≤ mass ∧ mass ≤ 200000 ∧ front ≤ 100000 ∧ 0 ≤ front - w
      let rows := fun (k : Furnace) => (s.maps.get k).rows;
      (∀ sel, ¬ given → refused sel .illegalValue)
      ∧ (∀ sel, given → ¬ ranges → refused sel .outOfRange)
      ∧ (∀ sel, ranges → idCharsOk id = false → refused sel .illegalValue)
      ∧ (ranges → idCharsOk id = true →
        (∀ raw, refused (.bad raw) .illegalValue)
        ∧ (∀ k, s.cfg.geometry.get k = none → refused (.val k) .notConfigured)
        ∧ (∀ k, (s.cfg.geometry.get k).isSome = true → cycling k → refused (.val k) .notWhileCharging)
        ∧ (∀ k, (s.cfg.geometry.get k).isSome = true → ¬ cycling k →
          (s.idHeld id = true → refused (.val k) .duplicate)
          ∧ (s.idHeld id = false → 64 ≤ (rows k).length → refused (.val k) .mapFullEdit)
          ∧ (s.idHeld id = false → (rows k).length < 64 →
            (∃ r ∈ rows k, front - w < r.front ∧ r.front - r.extent < front) →
            refused (.val k) .mapConflict)))))

/-! ## Charger sequencers (chapter 3) -/

/-- R55, R56, R57: ARM_FURNACE makes its checks in order and otherwise moves an OFFLINE sequencer to IDLE with a
start evaluation due; DISARM_FURNACE is refused BUSY in PICK, CARRY, LOWER, RETRACT and in HELD with a slab in
flight, and in every other state leaves the sequencer OFFLINE with no cycle, cause or reason, in POSITIONING
with TABLE_HALT (DISARMED, R99) for its own move in progress, outside POSITIONING with none, though an own
unwanted move still runs (log 46, the model's choice). R57, R58, R52: a start evaluation in IDLE shows the first
bar that holds, or NO_SLAB, or begins the cycle of the most downstream READY record with its positioning
request, shows FULL or MAP_FULL with its tag, or holds the slab. R61, R63 to R65: a final computation or
recomputation sends CHARGE_ORDER into PICK or STROKE_REQUEST into ROOM, waits in ROOM, or holds the slab and
enters IDLE. -/
def Obligations.ArmAndDisarm : Prop :=
  (∀ (h : Hdr) (k : Furnace) (s : State), Managed s h → formFits (.armFurnace h (.val k)) = true →
    let answer := fun c d => (.next (respond h Kind.command c none d s) :
      Host.Outcome State Fault Refusal)
    let q := s.seqs.get k
    (s.ret.mode ≠ .run → exec (.armFurnace h (.val k)) s = answer .wrongMode .none)
      ∧ (s.ret.mode = .run → q.state ≠ .offline →
        exec (.armFurnace h (.val k)) s = answer .busy .none)
      ∧ (s.ret.mode = .run → q.state = .offline → s.cfg.geometry.get k = none →
        exec (.armFurnace h (.val k)) s = answer .notConfigured (.missing .geometry))
      ∧ (s.ret.mode = .run → q.state = .offline → (s.cfg.geometry.get k).isSome = true →
        s.cfg.tableGeometry = none →
        exec (.armFurnace h (.val k)) s = answer .notConfigured (.missing .tableGeometry))
      ∧ (s.ret.mode = .run → q.state = .offline → (s.cfg.geometry.get k).isSome = true →
        s.cfg.tableGeometry.isSome = true → s.cfg.partners = none →
        exec (.armFurnace h (.val k)) s = answer .notConfigured (.missing .partners))
      ∧ (s.ret.mode = .run → q.state = .offline → (s.cfg.geometry.get k).isSome = true →
        s.cfg.tableGeometry.isSome = true → s.cfg.partners.isSome = true →
        ∃ u, exec (.armFurnace h (.val k)) s = .next (finish u)
          ∧ IdleFrom q (u.seqs.get k) ∧ u.due.start.get k = true
          ∧ u.seqs.get (otherFurnace k) = s.seqs.get (otherFurnace k)
          ∧ u.links = (respond h Kind.command .ok none .none s).links ∧ KeepsAccounts s u))
  ∧ (∀ (h : Hdr) (k : Furnace) (s : State), Managed s h → formFits (.disarmFurnace h (.val k)) = true →
    let q := s.seqs.get k
    ((q.state = .pick ∨ q.state = .carry ∨ q.state = .lower ∨ q.state = .retract
        ∨ (q.state = .held ∧ q.inflight.isSome = true)) →
      exec (.disarmFurnace h (.val k)) s = .next (respond h Kind.command .busy none .none s))
    ∧ (q.state = .offline → exec (.disarmFurnace h (.val k)) s =
        .next (finish (respond h Kind.command .ok none .none s)))
    ∧ ((q.state = .idle ∨ q.state = .positioning ∨ q.state = .room
        ∨ (q.state = .held ∧ q.inflight = none)) →
      ∃ u, exec (.disarmFurnace h (.val k)) s = .next (finish u)
        ∧ u.seqs.get k = { q with state := .offline, cause := none, waiting := .none, cycle := none }
        ∧ (u.windows.get k).stopped = none ∧ u.arb.holds.get k = false
        ∧ (q.state = .positioning → u.arb.requests.get k = none
          ∧ u.arb.motion = unwantedFor k s.arb.motion
          ∧ u.links = (haltFor k s.arb.motion .disarmed (respond h Kind.command .ok none .none s)).links)
        ∧ (q.state ≠ .positioning → u.arb.motion = s.arb.motion
          ∧ u.links = (respond h Kind.command .ok none .none s).links)
        ∧ u.seqs.get (otherFurnace k) = s.seqs.get (otherFurnace k) ∧ KeepsAccounts s u))
  ∧ (∀ (k : Furnace) (s : State),
    let q := s.seqs.get k
    let showing := fun (w : Waiting) (t : State) =>
      { t with seqs := t.seqs.set k { t.seqs.get k with waiting := w } }
    let ready := fun (r : TableRecord) => r.state = .ready ∧ r.dest = some k
    (q.state ≠ .idle → startEval k s = s)
    ∧ (q.state = .idle → s.ret.mode ≠ .run → startEval k s = showing .mode s)
    ∧ (q.state = .idle → s.ret.mode = .run → s.mgmt.supervision = .lost →
      startEval k s = showing .supervision s)
    ∧ (q.state = .idle → s.ret.mode = .run → s.mgmt.supervision ≠ .lost → s.homed k = false →
      startEval k s = showing .unhomed s)
    ∧ (q.state = .idle → s.ret.mode = .run → s.mgmt.supervision ≠ .lost → s.homed k = true →
      ((∀ r ∈ s.tracker.table, ¬ ready r) → startEval k s = showing .noSlab s)
      ∧ (∀ pre r post g tg, s.tracker.table = pre ++ r :: post →
        (s.tracker.table.map (·.tag)).Nodup → ready r →
        (∀ x ∈ pre, ready x → x.anchor < r.anchor) → (∀ x ∈ post, ready x → x.anchor ≤ r.anchor) →
        s.cfg.geometry.get k = some g → s.cfg.tableGeometry = some tg →
        let i : PlaceInput := { kind := .provisional, furnace := k, record := r, lane := .c
                                map := s.maps.get k, geometry := g, gaps := s.cfg.gaps.get k
                                bounds := s.cfg.bounds, lastStroke := (s.place.get k).lastStroke }
        let p := i.compute
        let marked := placementMarks i p s
        (∀ lane cls, (p.result = .placed ∨ p.result = .pair ∨ p.result = .strokes) →
          p.lane = some lane → p.cls = some cls →
          startEval k s = { marked with
            seqs := s.seqs.set k { q with
              state := .positioning, waiting := .grant
              cycle := some
                { tag := r.tag, id := r.id, lane, provisional := p, final := none, target := none, cls
                  outstanding := 0, corrective := 0, timer := none, measured := none } }
            arb := { s.arb with requests := s.arb.requests.set k (some
              { tag := r.tag, target := tg.chargePosition k lane, status := .waiting }) }
            due := { s.due with tableRule := true, gridEval := true } })
        ∧ (p.result = .full → startEval k s = showing (.full r.tag) marked)
        ∧ (p.result = .mapFull → startEval k s = showing (.mapFull r.tag) marked)
        ∧ (∀ cause, (p.result = .noFit ∧ cause = .noFit ∨ p.result = .unmeasured ∧ cause = .unmeasured) →
          (∀ x ∈ pre ++ post, ¬ ready x) →
          (startEval k s).seqs = s.seqs.set k { q with waiting := .noSlab }
          ∧ (startEval k s).tracker = { s.tracker with
              table := pre ++ { r with
                state := .held cause
                substituted := marked.tracker.table.any fun x => x.tag == r.tag && x.substituted } :: post }
          ∧ (startEval k s).arb = s.arb))))
  ∧ (∀ (k : Furnace) (c : CycleRecord) (r : TableRecord) (g : FurnaceGeometry) (s : State),
    (s.seqs.get k).cycle = some c → s.tracker.table.find? (fun r => r.tag == c.tag) = some r →
    s.cfg.geometry.get k = some g →
    let q := s.seqs.get k
    let i : PlaceInput := { kind := .final, furnace := k, record := r, lane := c.lane
                            map := s.maps.get k, geometry := g, gaps := s.cfg.gaps.get k
                            bounds := s.cfg.bounds, lastStroke := (s.place.get k).lastStroke }
    let p := i.compute
    let marked := placementMarks i p s
    let seconds := fun n => 1000 * (s.cfg.timing.get k).getD n 0
    let cls := p.cls.getD c.cls
    (∀ target, (p.result = .placed ∨ p.result = .pair) → p.target = some target →
      runFinal k s = { sendField (.charger k) 0
          (.chargeOrder c.tag c.id c.lane target (target - g.armOffset) cls) marked with
        seqs := s.seqs.set k { q with
          state := .pick, waiting := .none
          cycle := some { c with
            final := some p, cls, target := some target, timer := some ⟨.pick, seconds 2⟩ } } })
    ∧ (∀ n d, p.result = .strokes → p.strokes = some n → p.divisor = some d →
      runFinal k s = { sendField (.beam k) 0 (.strokeRequest c.tag (min n.toNat 8) d) marked with
        seqs := s.seqs.set k { q with
          state := .room, waiting := .strokes
          cycle := some { c with
            final := some p, cls, outstanding := min n.toNat 8
            timer := some ⟨.stroke, seconds 1⟩ } } })
    ∧ (∀ w, (p.result = .full ∧ w = .full c.tag ∨ p.result = .mapFull ∧ w = .mapFull c.tag) →
      runFinal k s = { marked with
        seqs := s.seqs.set k { q with
          state := .room, waiting := w
          cycle := some { c with final := some p, cls, timer := none } } })
    ∧ (∀ cause, (p.result = .noFit ∧ cause = .noFit ∨ p.result = .unmeasured ∧ cause = .unmeasured) →
      let u := runFinal k s
      IdleFrom q (u.seqs.get k) ∧ u.due.start.get k = true ∧ u.arb.holds.get k = false
        ∧ (r.state ≠ .reject → ∃ f, u.tracker.table.find? (fun r => r.tag == c.tag) =
            some { r with state := .held cause, substituted := f })
        ∧ u.seqs.get (otherFurnace k) = s.seqs.get (otherFurnace k)
        ∧ u.maps = s.maps ∧ u.schedule = s.schedule ∧ u.cfg = s.cfg))

/-- R73, R72, R51: STOP_CHARGER is answered OK and sends CHARGER_STOP in every state, with the cycle's tag or 0.
An OFFLINE or HELD sequencer stays as it is. Every other one enters HELD(STOPPED) with CHARGER_HELD, whose tag
from IDLE is left out (log 22). In POSITIONING the sequencer's own move in progress, wanted or not, is halted
with TABLE_HALT (STOPPED, R99) behind the CHARGER_STOP (the order is log 5's choice), and the request leaves the
arbiter. -/
def Obligations.StopCharger : Prop :=
  ∀ (h : Hdr) (k : Furnace) (s : State), Managed s h → formFits (.stopCharger h (.val k)) = true →
    let q := s.seqs.get k
    let sent := sendField (.charger k) 0
      (.chargerStop ((q.cycle.map (·.tag)).getD 0) .command)
      (respond h Kind.command .ok none .none s)
    let stopped := if q.state = .positioning then haltFor k s.arb.motion .stopped sent else sent
    let heldEvent := Event.chargerHeld k .stopped q.state (q.cycle.map (·.tag))
      (q.inflight.map fun _ => .uncertain) none
    ((q.state = .offline ∨ q.state = .held) →
      exec (.stopCharger h (.val k)) s = .next (finish sent))
    ∧ (q.state ≠ .offline → q.state ≠ .held →
      ∃ u, exec (.stopCharger h (.val k)) s = .next (finish u)
        ∧ u.links = (raise heldEvent stopped).links ∧ u.ret = (raise heldEvent stopped).ret
        ∧ HeldFrom .stopped q (u.seqs.get k) ∧ u.arb.holds.get k = false
        ∧ (q.state = .positioning → u.arb.requests.get k = none
          ∧ u.arb.motion = unwantedFor k s.arb.motion)
        ∧ (q.state ≠ .positioning → u.arb.motion = s.arb.motion)
        ∧ u.seqs.get (otherFurnace k) = s.seqs.get (otherFurnace k) ∧ KeepsAccounts s u)

/-- R74: RELEASE_CHARGER. -/
def Obligations.ReleaseCharger : Prop :=
  ∀ (h : Hdr) (k : Furnace) (s : State), Managed s h → formFits (.releaseCharger h (.val k)) = true →
    let q := s.seqs.get k
    (q.state = .held → q.inflight = none →
      ∃ u, exec (.releaseCharger h (.val k)) s = .next (finish u)
        ∧ IdleFrom q (u.seqs.get k) ∧ u.due.start.get k = true
        ∧ u.seqs.get (otherFurnace k) = s.seqs.get (otherFurnace k)
        ∧ u.links = (respond h Kind.command .ok none .none s).links ∧ KeepsAccounts s u)
    ∧ (q.state = .held → q.inflight.isSome = true →
      exec (.releaseCharger h (.val k)) s = .next (respond h Kind.command .busy none .none s))
    ∧ (q.state ≠ .held →
      exec (.releaseCharger h (.val k)) s =
        .next (finish (respond h Kind.command .ok none (.sequencerState q.state) s)))

/-- R75, R11, R50, R5: RESOLVE_INFLIGHT of a HELD sequencer: LANDED gives the slab a lane-C row of its own at
the front edge given and removes its schedule entry, with OVERRUN where the row is beyond L_eff and then LANDED;
REMOVED returns the entry to PLANNED; either deletes the in-flight record, and the sequencer enters IDLE where
the arms are clear of the door. It is refused ILLEGAL_VALUE for a selector that names no furnace, with no record
in flight and (log 27) outside HELD; LANDED also for a missing front edge (log 38), then OUT_OF_RANGE,
MAP_FULL_EDIT or MAP_CONFLICT by R11. -/
def Obligations.ResolveInflight : Prop :=
  (∀ (h : Hdr) (k : Furnace) (f : InFlight) (c : CycleRecord) (p : PlacementRecord) (o : Operands)
    (g : FurnaceGeometry) (s : State),
    Managed s h → (s.seqs.get k).state = .held →
    (s.seqs.get k).inflight = some f → (s.seqs.get k).cycle = some c → c.final = some p →
    p.operands = some o → s.cfg.geometry.get k = some g →
    let next := if s.depth k ≤ g.retractClear then SeqState.idle else .held
    (∀ (front : Int) (pre post : List Row), formFits (.resolveInflightLanded h (.val k) front) = true →
      front ≠ absentFigure → front ≤ 100000 →
      0 ≤ front - o.width.value →
      (s.maps.get k).rows = pre ++ post → (s.maps.get k).rows.length < 64 →
      (∀ r ∈ pre, front ≤ r.front) → (∀ r, post.head? = some r → r.front < front) →
      (∀ r ∈ pre ++ post, r.front ≤ front - o.width.value ∨ front ≤ r.front - r.extent) →
      ∃ u, exec (.resolveInflightLanded h (.val k) front) s = .next (finish u)
        ∧ u.maps = s.maps.set k
          { rows := (if post = [] then closeLast pre else pre)
              ++ { front, extent := o.width.value, pairOpen := false
                   occ := .c { tag := f.record.tag, id := f.record.id, width := o.width.value
                               length := o.length.value, thickness := o.thickness.value
                               mass := f.record.mass, group := o.group.value, chargedAt := s.ret.clock
                               deviation := none, substituted := f.record.substituted }
                   overrun := decide (g.lEff < front) } :: post
            lastLanding := front }
        ∧ (let answered := respond h Kind.command .ok none (.resolved f.record.tag true next) s
          let beyond := if g.lEff < front then
            raise (.overrun k pre.length front [(f.record.tag, f.record.id)]) answered else answered
          let told := raise (.landed f.record.tag f.record.id k pre.length .c front none f.record.mass) beyond
          u.links = told.links ∧ u.ret = told.ret)
        ∧ u.schedule = s.schedule.filter (fun e => some e.seq != f.record.link)
        ∧ (u.seqs.get k).inflight = none
        ∧ (u.seqs.get k).state = (if s.depth k ≤ g.retractClear then .idle else .held)
        ∧ u.seqs.get (otherFurnace k) = s.seqs.get (otherFurnace k)
        ∧ u.tracker = s.tracker ∧ u.cfg = s.cfg ∧ u.counters = s.counters ∧ u.place = s.place)
    ∧ (formFits (.resolveInflightRemoved h (.val k)) = true →
      ∃ u, exec (.resolveInflightRemoved h (.val k)) s = .next (finish u)
        ∧ u.maps = s.maps
        ∧ u.links = (respond h Kind.command .ok none (.resolved f.record.tag false next) s).links
        ∧ u.schedule = s.schedule.map (fun e =>
            if some e.seq = f.record.link then { e with state := .planned } else e)
        ∧ (u.seqs.get k).inflight = none
        ∧ (u.seqs.get k).state = (if s.depth k ≤ g.retractClear then .idle else .held)
        ∧ u.seqs.get (otherFurnace k) = s.seqs.get (otherFurnace k)
        ∧ u.tracker = s.tracker ∧ u.cfg = s.cfg ∧ u.counters = s.counters ∧ u.place = s.place))
  ∧ (∀ (h : Hdr) (s : State), Managed s h →
    let refused := fun (i : Instr) (c : RespCode) => formFits i = true →
      exec i s = .next (respond h Kind.command c none .none s)
    (∀ raw front, refused (.resolveInflightLanded h (.bad raw) front) .illegalValue
      ∧ refused (.resolveInflightRemoved h (.bad raw)) .illegalValue)
    ∧ (∀ k front, ((s.seqs.get k).inflight = none ∨ (s.seqs.get k).state ≠ .held) →
      refused (.resolveInflightLanded h (.val k) front) .illegalValue
      ∧ refused (.resolveInflightRemoved h (.val k)) .illegalValue)
    ∧ (∀ k front f c p o, (s.seqs.get k).state = .held → (s.seqs.get k).inflight = some f →
      (s.seqs.get k).cycle = some c → c.final = some p → p.operands = some o →
      let landed := fun code => refused (.resolveInflightLanded h (.val k) front) code
      let rows := (s.maps.get k).rows
      let inside := front ≤ 100000 ∧ 0 ≤ front - o.width.value
      (front = absentFigure → landed .illegalValue)
      ∧ (front ≠ absentFigure → ¬ inside → landed .outOfRange)
      ∧ (front ≠ absentFigure → inside → 64 ≤ rows.length → landed .mapFullEdit)
      ∧ (front ≠ absentFigure → inside → rows.length < 64 →
        (∃ r ∈ rows, front - o.width.value < r.front ∧ r.front - r.extent < front) →
        landed .mapConflict)))

/-- R67, R69, R71, R50: LIFTED in PICK takes the slab from the table list into the in-flight record and the
sequencer into CARRY; AT_DEPTH in CARRY takes it into LOWER; RETRACTED in RETRACT takes it into IDLE where the
carriage depth is not greater than the retract clear depth, and into HELD(RETRACT_POSITION) elsewhere, with
CHARGER_HELD alone (R51). R87, R91: the unidentified presence flag is evaluated as the record leaves the list, and
its pending measurement is cleared. -/
def Obligations.CarriageReports : Prop :=
  (∀ (h : Hdr) (k : Furnace) (tag fault : Nat) (c : CycleRecord) (r : TableRecord) (s : State),
    FieldTaken s Kind.chargerReport h (.charger k) → (s.seqs.get k).state = .pick →
    (s.seqs.get k).cycle = some c → c.tag = tag →
    s.tracker.table.find? (fun r => r.tag == tag) = some r →
    ∃ u, exec (.lifted h tag fault) s = .next (finish u)
      ∧ u.seqs.get k = { s.seqs.get k with
          state := .carry, waiting := .none
          inflight := some { record := r, lane := c.lane, target := c.target, certainty := .normal }
          cycle := some { c with
            timer := some ⟨.carry, 1000 * (s.cfg.timing.get k).getD 3 0⟩ } }
      ∧ u.tracker.table = s.tracker.table.filter (fun x => x.tag != tag)
      ∧ u.tracker.measuring = (if s.tracker.measuring.map (·.tag) = some tag then none
          else s.tracker.measuring)
      ∧ (let left := { s with
            tracker := { s.tracker with table := s.tracker.table.filter (fun x => x.tag != tag) } }
        let watched := s.sensors.gp.taken && !left.zoneTaken
        let told := if (watched && !s.tracker.unidentified && s.grid.grant.isNone) = true then
          raise (.unidentifiedOnGrid s.travel) s else s
        u.tracker.unidentified = (watched && (s.tracker.unidentified || s.grid.grant.isNone))
        ∧ u.links = told.links ∧ u.ret = told.ret)
      ∧ u.tracker.nextTag = s.tracker.nextTag ∧ u.arb.holds.get k = false
      ∧ u.seqs.get (otherFurnace k) = s.seqs.get (otherFurnace k)
      ∧ u.schedule = s.schedule ∧ u.maps = s.maps ∧ u.cfg = s.cfg ∧ u.grid = s.grid
      ∧ u.place = s.place ∧ u.counters = s.counters ∧ u.sensors = s.sensors ∧ u.mgmt = s.mgmt)
  ∧ (∀ (h : Hdr) (k : Furnace) (tag fault : Nat) (c : CycleRecord) (s : State),
    FieldTaken s Kind.chargerReport h (.charger k) → (s.seqs.get k).state = .carry →
    (s.seqs.get k).cycle = some c → c.tag = tag →
    exec (.atDepth h tag fault) s = .next (finish { s with
      seqs := s.seqs.set k { s.seqs.get k with
        state := .lower, waiting := .none
        cycle := some { c with
          timer := some ⟨.lower, 1000 * (s.cfg.timing.get k).getD 4 0⟩ } } }))
  ∧ (∀ (h : Hdr) (k : Furnace) (tag fault : Nat) (c : CycleRecord) (g : FurnaceGeometry) (s : State),
    FieldTaken s Kind.chargerReport h (.charger k) → (s.seqs.get k).state = .retract →
    (s.seqs.get k).cycle = some c → c.tag = tag → s.cfg.geometry.get k = some g →
    (s.depth k ≤ g.retractClear →
      ∃ u, exec (.retracted h tag fault) s = .next (finish u)
        ∧ IdleFrom (s.seqs.get k) (u.seqs.get k) ∧ u.due.start.get k = true
        ∧ u.links = s.links ∧ u.ret = s.ret
        ∧ u.seqs.get (otherFurnace k) = s.seqs.get (otherFurnace k) ∧ KeepsAccounts s u)
    ∧ (g.retractClear < s.depth k →
      let told := raise (.chargerHeld k .retractPosition .retract (some c.tag)
        ((s.seqs.get k).inflight.map fun _ => .uncertain) none) s
      ∃ u, exec (.retracted h tag fault) s = .next (finish u)
        ∧ HeldFrom .retractPosition (s.seqs.get k) (u.seqs.get k)
        ∧ u.links = told.links ∧ u.ret = told.ret
        ∧ u.seqs.get (otherFurnace k) = s.seqs.get (otherFurnace k) ∧ KeepsAccounts s u))

/-- R70, R7 to R10, R2: LOWERED in LOWER lands the slab: a result other than PAIR in a new last row behind the
touch clamp, a PAIR in lane B of a last row that is still pair-open, or of a new last row where it is not; a
PAIR that cannot join a map of 64 rows leaves the map and puts the sequencer into HELD(MAP_FULL_LANDING). A
deviation beyond the landing tolerance sets LANDING_DEVIATION with HOLD_SET, before the LANDED (log 35). -/
def Obligations.Lowered : Prop :=
  ∀ (h : Hdr) (k : Furnace) (tag fault : Nat) (c : CycleRecord) (f : InFlight) (p : PlacementRecord)
    (o : Operands) (target : Int) (g : FurnaceGeometry) (s : State),
    FieldTaken s Kind.chargerReport h (.charger k) → (s.seqs.get k).state = .lower →
    (s.seqs.get k).cycle = some c → c.tag = tag → (s.seqs.get k).inflight = some f →
    c.final = some p → p.operands = some o → c.target = some target →
    s.cfg.geometry.get k = some g →
    let front := s.depth k + g.armOffset
    let m := s.maps.get k
    let x : FurnaceSlab := { tag := f.record.tag, id := f.record.id, width := o.width.value
                             length := o.length.value, thickness := o.thickness.value
                             mass := f.record.mass, group := o.group.value, chargedAt := s.ret.clock
                             deviation := some (front - target)
                             substituted := f.record.substituted }
    let landed := fun (u : State) (m' : FurnaceMap) (row : Nat) (lane : Lane) =>
      exec (.lowered h tag fault) s = .next (finish u)
        ∧ u.maps = s.maps.set k m'
        ∧ u.seqs.get k = { s.seqs.get k with
            state := .retract, waiting := .none, inflight := none
            cycle := some { c with
              measured := some front
              timer := some ⟨.retract, 1000 * (s.cfg.timing.get k).getD 5 0⟩ } }
        ∧ u.schedule = s.schedule.filter (fun e => some e.seq != f.record.link)
        ∧ (g.landingTolerance < mag (front - target) →
            (u.place.get k).holds.landingDeviation = true)
        ∧ (mag (front - target) ≤ g.landingTolerance → u.place = s.place)
        ∧ (let held := if g.landingTolerance < mag (front - target) then
            raise (.holdSet (.placement .landingDeviation k (some x.tag) none)) s else s
          let told := raise (.landed x.tag x.id k row lane m'.lastLanding (some (front - target)) x.mass) held
          u.links = told.links ∧ u.ret = told.ret)
        ∧ u.seqs.get (otherFurnace k) = s.seqs.get (otherFurnace k)
        ∧ u.tracker = s.tracker ∧ u.cfg = s.cfg ∧ u.grid = s.grid ∧ u.counters = s.counters
    (p.result ≠ .pair → m.rows.length < 64 →
      ∃ u, landed u
        { rows := closeLast m.rows ++ [{
            front := (match m.rows.getLast? with
              | none => front
              | some r => min front (r.front - r.extent))
            extent := x.width, occ := .single c.lane x, pairOpen := decide (c.lane = .a)
            overrun := false }]
          lastLanding := (match m.rows.getLast? with
            | none => front
            | some r => min front (r.front - r.extent)) } m.rows.length c.lane)
    ∧ (∀ pre r y, p.result = .pair → m.rows = pre ++ [r] → r.occ = .a y → r.pairOpen = true →
      ∃ u, landed u
        { rows := pre ++ [{ r with occ := .ab y x, extent := max y.width x.width, pairOpen := false }]
          lastLanding := r.front } pre.length .b)
    ∧ (p.result = .pair → m.openSlab = none → m.rows.length < 64 →
      ∃ u, landed u
        { rows := closeLast m.rows ++ [{
            front := (match m.rows.getLast? with
              | none => front
              | some r => min front (r.front - r.extent))
            extent := x.width, occ := .b x, pairOpen := false, overrun := false }]
          lastLanding := (match m.rows.getLast? with
            | none => front
            | some r => min front (r.front - r.extent)) } m.rows.length .b)
    ∧ (p.result = .pair → m.rows.length = 64 → m.openSlab = none →
      ∃ u, exec (.lowered h tag fault) s = .next (finish u)
        ∧ (u.seqs.get k).state = .held ∧ (u.seqs.get k).cause = some .mapFullLanding
        ∧ (u.seqs.get k).inflight = some { f with certainty := .uncertain }
        ∧ u.links = (raise (.chargerHeld k .mapFullLanding .lower (some c.tag) (some .uncertain) none) s).links
        ∧ KeepsAccounts s u)

/-- R66, R68, R69, R71, R51: an expected REFUSED or FAULT takes the sequencer into HELD with its cause, and
raises CHARGER_HELD with the state left, the tag, the certainty and the drive's fault code; no CHARGER_STOP is
sent. A charger report whose phase the state does not expect, or with the tag of another slab, raises
UNEXPECTED_REPORT and leaves every record as it stands. -/
def Obligations.ChargerTrouble : Prop :=
  (∀ (h : Hdr) (k : Furnace) (tag fault : Nat) (c : CycleRecord) (s : State),
    FieldTaken s Kind.chargerReport h (.charger k) → (s.seqs.get k).cycle = some c →
    let told := fun cause => raise (.chargerHeld k cause (s.seqs.get k).state (some c.tag)
      ((s.seqs.get k).inflight.map fun _ => .uncertain) (some fault)) s
    ((s.seqs.get k).state = .pick → c.tag = tag →
      ∃ u, exec (.chargerReportRefused h tag fault) s = .next (finish u)
        ∧ HeldFrom .chargerRefused (s.seqs.get k) (u.seqs.get k) ∧ u.arb.holds.get k = false
        ∧ u.links = (told .chargerRefused).links ∧ u.ret = (told .chargerRefused).ret
        ∧ u.seqs.get (otherFurnace k) = s.seqs.get (otherFurnace k) ∧ KeepsAccounts s u)
    ∧ (((s.seqs.get k).state = .pick ∨ (s.seqs.get k).state = .carry ∨ (s.seqs.get k).state = .lower
        ∨ (s.seqs.get k).state = .retract) → c.tag = tag ∨ tag = 0 →
      ∃ u, exec (.chargerReportFault h tag fault) s = .next (finish u)
        ∧ HeldFrom .chargerFault (s.seqs.get k) (u.seqs.get k) ∧ u.arb.holds.get k = false
        ∧ u.links = (told .chargerFault).links ∧ u.ret = (told .chargerFault).ret
        ∧ u.seqs.get (otherFurnace k) = s.seqs.get (otherFurnace k) ∧ KeepsAccounts s u))
  ∧ (∀ (h : Hdr) (k : Furnace) (tag fault : Nat) (s : State),
    FieldTaken s Kind.chargerReport h (.charger k) →
    let q := s.seqs.get k
    let other := q.cycle.map (·.tag) ≠ some tag
    let unexpected := fun phase => (.next (raise (.unexpectedCharger k q.state phase tag) s) :
      Host.Outcome State Fault Refusal)
    ((q.state ≠ .pick ∨ other) → exec (.lifted h tag fault) s = unexpected .lifted)
    ∧ ((q.state ≠ .carry ∨ other) → exec (.atDepth h tag fault) s = unexpected .atDepth)
    ∧ ((q.state ≠ .lower ∨ other) → exec (.lowered h tag fault) s = unexpected .lowered)
    ∧ ((q.state ≠ .retract ∨ other) → exec (.retracted h tag fault) s = unexpected .retracted)
    ∧ ((q.state ≠ .pick ∨ other) → exec (.chargerReportRefused h tag fault) s = unexpected .refused)
    ∧ ((q.state ≠ .pick ∧ q.state ≠ .carry ∧ q.state ≠ .lower ∧ q.state ≠ .retract
        ∨ (other ∧ tag ≠ 0)) → exec (.chargerReportFault h tag fault) s = unexpected .fault))

/-- R53, R62, R64, R66, R69, R71, R72, R99, R51: an expiry of a running state timer takes its sequencer into
HELD with the timer's cause: in POSITIONING behind TABLE_HALT (TIMEOUT) for its own move in progress, in PICK,
CARRY, LOWER and RETRACT behind CHARGER_STOP (TIMEOUT), then with CHARGER_HELD; an expiry whose timer does not
run or has time left lets the time pass (log 2) and does nothing else (log 3). -/
def Obligations.SequencerTimeouts : Prop :=
  ∀ (k : Furnace) (n : Nat) (which : TimeoutKind) (s : State), s.power = true →
    let expiry : Instr := match which with
      | .positioning => .positioningTimeout k n
      | .stroke => .strokeTimeout k n
      | .pick => .pickTimeout k n
      | .carry => .carryTimeout k n
      | .lower => .lowerTimeout k n
      | .retract => .retractTimeout k n
    let q := s.seqs.get k
    (∀ c left, s.ret.mode ≠ .retain → q.cycle = some c → c.timer = some ⟨which, left⟩ → left ≤ n →
      ∃ u, exec expiry s = .next (finish u)
        ∧ HeldFrom (.timeout which) q (u.seqs.get k) ∧ u.arb.holds.get k = false
        ∧ (which = .positioning → u.arb.requests.get k = none
          ∧ u.arb.motion = unwantedFor k s.arb.motion)
        ∧ (which ≠ .positioning → u.arb.motion = s.arb.motion)
        ∧ (let sent := match which with
            | .positioning => haltFor k s.arb.motion .timeout (elapse n s)
            | .stroke => elapse n s
            | _ => sendField (.charger k) 0 (.chargerStop c.tag .timeout) (elapse n s)
          let told := raise (.chargerHeld k (.timeout which) q.state (some c.tag)
            (q.inflight.map fun _ => .uncertain) none) sent
          u.links = told.links ∧ u.ret = told.ret)
        ∧ u.seqs.get (otherFurnace k) = (elapse n s).seqs.get (otherFurnace k)
        ∧ KeepsAccounts (elapse n s) u)
    ∧ ((s.ret.mode = .retain ∨ (∀ c t, q.cycle = some c → c.timer = some t →
          t.which ≠ which ∨ n < t.left)) →
      exec expiry s = .next (elapse n s))

/-! ## Placement (chapter 2) -/

/-- R30, R35, R36, R37: the thickness class; the lane (C for a long slab, A for a short one whose pair test
fails, B where it passes, and in a final computation that of the cycle); the pair test names the first of its
five conditions that fails and passes exactly when all hold, and then the result is PAIR at the front of the
last row with the stroke count 0, which the record does not carry (R43; log 39). A computation that finds an
operand absent ends with UNMEASURED and names the first absent of width, length, thickness and group (log 13): a
width or thickness with no nominal or under TRAP, a length with no nominal or under TRAP in a final computation,
a group under either policy. R35, R44: by policy SUBSTITUTE each absent operand takes its nominal by itself,
with the slab's flag and the SUBSTITUTED hold; a computation that did not substitute clears the flag and leaves
the hold. -/
def Obligations.OperandsAndPairTest : Prop :=
  (∀ (b : Bounds) (t : Int), b.b1 < b.b2 → b.b2 < b.b3 →
    (t < b.b1 → classOf b t = 0) ∧ (b.b1 ≤ t → t < b.b2 → classOf b t = 1)
      ∧ (b.b2 ≤ t → t < b.b3 → classOf b t = 2) ∧ (b.b3 ≤ t → classOf b t = 3))
  ∧ ((∀ (i : PlaceInput) (o : Operands), i.operands = .ok o →
    let short := i.geometry.lPair ≠ 0 ∧ o.length.value ≤ i.geometry.lPair
    let test := pairTest i.geometry i.map o
    (i.kind = .provisional → ¬ short → i.compute.lane = some .c ∧ i.compute.pairTest = none)
    ∧ (i.kind = .provisional → short → test = .passed →
      i.compute.lane = some .b ∧ i.compute.pairTest = some .passed ∧ i.compute.result = .pair)
    ∧ (∀ n, i.kind = .provisional → short → test = .failed n →
      i.compute.lane = some .a ∧ i.compute.pairTest = some (.failed n) ∧ i.compute.result ≠ .pair)
    ∧ (i.kind = .final → i.compute.lane = some i.lane)
    ∧ (i.kind = .final → i.lane = .b → i.compute.pairTest = some test)
    ∧ (∀ n, i.kind = .final → i.lane = .b → test = .failed n → i.compute.result ≠ .pair)
    ∧ (i.kind = .final → i.lane ≠ .b → i.compute.pairTest = none ∧ i.compute.result ≠ .pair))
  ∧ (∀ (g : FurnaceGeometry) (m : FurnaceMap) (o : Operands),
    (m.rows = [] → pairTest g m o = .failed 1)
    ∧ (∀ r, m.rows.getLast? = some r →
      let conditions := [r.pairOpen, decide (o.length.value ≤ g.lPair),
        decide (mag (o.width.value - r.occ.leadSlab.width) ≤ g.pairTolerance),
        decide (o.group.value = r.occ.leadSlab.group),
        decide (max g.zMin (g.dDoor + o.width.value) ≤ r.front ∧ r.front ≤ g.zMax)]
      ∀ n, n < 5 → (pairTest g m o = .failed (n + 1) ↔
        conditions[n]? = some false ∧ ∀ j, j < n → conditions[j]? = some true))))
  ∧ ((∀ (g : FurnaceGeometry) (m : FurnaceMap) (o : Operands),
    pairTest g m o = .passed ↔ ∃ r, m.rows.getLast? = some r ∧ r.pairOpen = true
      ∧ o.length.value ≤ g.lPair
      ∧ mag (o.width.value - r.occ.leadSlab.width) ≤ g.pairTolerance
      ∧ o.group.value = r.occ.leadSlab.group
      ∧ max g.zMin (g.dDoor + o.width.value) ≤ r.front ∧ r.front ≤ g.zMax)
  ∧ (∀ (i : PlaceInput) (o : Operands) (r : Row), i.operands = .ok o →
    (i.kind = .final → i.lane = .b) →
    (i.kind = .provisional → i.geometry.lPair ≠ 0 ∧ o.length.value ≤ i.geometry.lPair) →
    pairTest i.geometry i.map o = .passed → i.map.rows.getLast? = some r →
    i.compute.result = .pair ∧ i.compute.target = some r.front ∧ i.compute.strokeCount = 0
      ∧ i.compute.strokes = none ∧ i.compute.lane = some .b))
  ∧ (∀ i : PlaceInput,
    (∀ n, i.operands = .error n →
      i.compute.result = .unmeasured ∧ i.compute.absent = some n ∧ i.compute.target = none)
    ∧ (let bare := i.record.nominals = none
      let noWidth := i.record.width = none ∧ (bare ∨ i.geometry.policy = .trap)
      let noLength := i.record.measured = none ∧ (bare ∨ (i.geometry.policy = .trap ∧ i.kind = .final))
      let noThickness := i.record.thickness = none ∧ (bare ∨ i.geometry.policy = .trap)
      (noWidth → i.operands = .error .width)
      ∧ (¬ noWidth → noLength → i.operands = .error .length)
      ∧ (¬ noWidth → ¬ noLength → noThickness → i.operands = .error .thickness)
      ∧ (¬ noWidth → ¬ noLength → ¬ noThickness → i.record.group = none → i.operands = .error .group))
    ∧ (∀ w l t g, i.record.width = some w → i.record.measured = some l → i.record.thickness = some t →
      i.record.group = some g → i.operands = .ok ⟨⟨w, false⟩, ⟨l, false⟩, ⟨t, false⟩, ⟨g, false⟩⟩))
  ∧ ((∀ (i : PlaceInput) (n : Nominals) (grp : Nat), i.record.nominals = some n → i.record.group = some grp →
    let fill := fun (x : Option Int) (nominal : Int) =>
      (match x with | some v => ⟨v, false⟩ | none => ⟨nominal, true⟩ : Operand)
    (i.geometry.policy = .substitute → i.operands = .ok ⟨fill i.record.width n.width,
      fill i.record.measured n.length, fill i.record.thickness n.thickness, ⟨grp, false⟩⟩)
    ∧ (∀ w t, i.geometry.policy = .trap → i.kind = .provisional → i.record.width = some w →
      i.record.thickness = some t →
      i.operands = .ok ⟨⟨w, false⟩, fill i.record.measured n.length, ⟨t, false⟩, ⟨grp, false⟩⟩)
    ∧ (∀ w, i.geometry.policy = .trap → i.kind = .final → i.record.width = some w →
      i.record.measured = none → i.operands = .error .length)
    ∧ (∀ w l, i.geometry.policy = .trap → i.record.width = some w → i.record.measured = some l →
      i.record.thickness = none → i.operands = .error .thickness))
  ∧ (∀ i : PlaceInput, i.substitutes = true ↔ ∃ o, i.operands = .ok o
      ∧ (o.width.nominal = true ∨ o.thickness.nominal = true
        ∨ (o.length.nominal = true ∧ i.kind = .final)))
  ∧ (∀ (i : PlaceInput) (s : State), i.compute.fallback ≠ some true →
    let k := i.furnace
    let flagged := fun (b : Bool) => { s with
      tracker := { s.tracker with
        table := s.tracker.table.map fun r =>
          if r.tag = i.record.tag then { r with substituted := b } else r } }
    (i.substitutes = false → placementMarks i i.compute s = flagged false)
    ∧ (i.substitutes = true → (s.place.get k).holds.substituted = true →
      placementMarks i i.compute s = flagged true)
    ∧ (i.substitutes = true → (s.place.get k).holds.substituted = false →
      placementMarks i i.compute s =
        raise (.holdSet (.placement .substituted k (some i.record.tag) none)) { flagged true with
          place := s.place.set k { s.place.get k with
            holds := { (s.place.get k).holds with substituted := true } } })))

/-- R38, R39: the least front edge, NO_FIT, the empty map and the full map, for a computation that did not end
with its operands or its pair test. -/
def Obligations.FitEmptyAndFullMap : Prop :=
  ∀ (i : PlaceInput) (o : Operands), i.operands = .ok o → i.pairOutcome o ≠ some .passed →
    let fMin := max i.geometry.zMin (i.geometry.dDoor + o.width.value)
    i.compute.fMin = some fMin
      ∧ (i.geometry.zMax < fMin → i.compute.result = .noFit)
      ∧ (fMin ≤ i.geometry.zMax → i.map.rows = [] →
        i.compute.result = .placed ∧ i.compute.target = some i.geometry.zMax)
      ∧ (fMin ≤ i.geometry.zMax → i.map.rows.length = 64 → i.compute.result = .mapFull)

/-- R40 to R43, R65: behind a last row the raw target leaves the gap of class and group; where it is too
shallow, the least number of strokes is counted, and strokes that would carry the first row beyond L_eff give
FULL. A PLACED or PAIR target lies in the charging zone and keeps the door clearance from the slab's trailing
edge. The divisor is s_nom or, on the basis LAST_REPORTED, the last reported stroke; with none, or one of 0, it
falls back to s_nom and sets the STROKE_BASIS hold (R44). -/
def Obligations.RoomStrokesAndTargets : Prop :=
  (∀ (i : PlaceInput) (o : Operands) (first last : Row), i.operands = .ok o →
    i.pairOutcome o ≠ some .passed → i.map.rows.head? = some first →
    i.map.rows.getLast? = some last → i.map.rows.length < 64 →
    let fMin := max i.geometry.zMin (i.geometry.dDoor + o.width.value)
    let cls := classOf i.bounds o.thickness.value
    let gap := i.gaps.getD (if o.group.value = last.occ.leadSlab.group then cls else 4 + cls) 0
    let raw := last.front - last.extent - gap
    let s := i.divisor
    fMin ≤ i.geometry.zMax →
    (fMin ≤ raw → i.compute.result = .placed
        ∧ i.compute.target = some (min raw i.geometry.zMax))
      ∧ (raw < fMin → 0 < s →
        ∃ n, i.compute.strokes = some n ∧ fMin ≤ raw + n * s ∧ raw + (n - 1) * s < fMin
          ∧ (i.geometry.lEff < first.front + n * s → i.compute.result = .full)
          ∧ (first.front + n * s ≤ i.geometry.lEff → i.compute.result = .strokes
            ∧ i.compute.target = some (min (raw + n * s) i.geometry.zMax))))
  ∧ (∀ i : PlaceInput, i.compute.result = .placed ∨ i.compute.result = .pair →
    ∃ o t, i.operands = .ok o ∧ i.compute.target = some t ∧ i.geometry.zMin ≤ t
      ∧ t ≤ i.geometry.zMax ∧ i.geometry.dDoor + o.width.value ≤ t)
  ∧ ((∀ i : PlaceInput,
    (i.geometry.basis = .nominal → i.divisor = i.geometry.sNom ∧ i.fallback = false)
    ∧ (∀ x, i.geometry.basis = .lastReported → i.lastStroke = some x → x ≠ 0 →
      i.divisor = x ∧ i.fallback = false)
    ∧ (i.geometry.basis = .lastReported → (i.lastStroke = none ∨ i.lastStroke = some 0) →
      i.divisor = i.geometry.sNom ∧ i.fallback = true)
    ∧ (i.compute.result = .strokes ∨ i.compute.result = .full →
      i.compute.divisor = some i.divisor ∧ i.compute.fallback = some i.fallback)
    ∧ (i.compute.result ≠ .strokes → i.compute.result ≠ .full →
      i.compute.divisor = none ∧ i.compute.fallback = none))
  ∧ (∀ (i : PlaceInput) (s : State), i.compute.fallback = some true → i.substitutes = false →
    let k := i.furnace
    let unflagged := { s with
      tracker := { s.tracker with
        table := s.tracker.table.map fun r =>
          if r.tag = i.record.tag then { r with substituted := false } else r } }
    ((s.place.get k).holds.strokeBasis = true → placementMarks i i.compute s = unflagged)
    ∧ ((s.place.get k).holds.strokeBasis = false → placementMarks i i.compute s =
      raise (.holdSet (.placement .strokeBasis k (some i.record.tag) (some i.geometry.sNom)))
        { unflagged with
          place := s.place.set k { s.place.get k with
            holds := { (s.place.get k).holds with strokeBasis := true } } })))

/-! ## The charging table (chapter 4) -/

/-- R98, R59, R60, R62, R97: what a TABLE_REPORT does in each state of the table arbiter; a miss with fewer than
two corrective moves made orders another move of the same grant where the move limits allow it; the third miss,
or one whose move fails the limits, holds the slab; a success records the hold and makes the final computation;
HALTED or FAULT takes the sequencer into HELD(TABLE_FAULT), with CHARGER_HELD (R51). R94, R95: the grant rule grants, of the requests whose move passes the limits, the most downstream one. -/
def Obligations.TableReports : Prop :=
  (∀ (h : Hdr) (number fault : Nat) (o : MoveOutcome) (s : State),
    FieldTaken s Kind.tableReport h .tableDrive →
    let answer := exec (.tableReport h number (.val o) fault) s
    let unexpected := (.next (finish (raise (.unexpectedTable s.arb.motion o number) s)) :
      Host.Outcome State Fault Refusal)
    (s.arb.motion = .still → answer = unexpected)
    ∧ (s.arb.motion = .manual → number ≠ 0 → answer = unexpected)
    ∧ (s.arb.motion = .manual → number = 0 →
      ∃ u, answer = .next (finish u) ∧ u.arb = { s.arb with motion := .still } ∧ u.seqs = s.seqs
        ∧ u.links = s.links ∧ KeepsAccounts s u)
    ∧ (∀ k n w, s.arb.motion = .positioning k n w → number ≠ n → answer = unexpected)
    ∧ (∀ k, s.arb.motion = .positioning k number false →
      ∃ u, answer = .next (finish u) ∧ u.arb = { s.arb with motion := .still } ∧ u.seqs = s.seqs
        ∧ u.links = s.links ∧ KeepsAccounts s u)
    ∧ (∀ k, s.arb.motion = .positioning k number true → o ≠ .done →
      ∃ u, answer = .next (finish u) ∧ u.arb.motion = .still ∧ u.arb.requests.get k = none
        ∧ HeldFrom .tableFault (s.seqs.get k) (u.seqs.get k)
        ∧ (let told := raise (.chargerHeld k .tableFault (s.seqs.get k).state
            ((s.seqs.get k).cycle.map (·.tag)) ((s.seqs.get k).inflight.map fun _ => .uncertain) none) s
          u.links = told.links ∧ u.ret = told.ret)
        ∧ u.seqs.get (otherFurnace k) = s.seqs.get (otherFurnace k) ∧ KeepsAccounts s u)
    ∧ (∀ k c g q r, s.arb.motion = .positioning k number true → o = .done →
      (s.seqs.get k).cycle = some c → s.cfg.tableGeometry = some g →
      s.arb.requests.get k = some q → s.tracker.table.find? (fun r => r.tag == q.tag) = some r →
      mag (q.target - r.centre s.travel) ≤ g.positioningTolerance →
      (s.sensors.get (doorSensor k)).taken = true →
      ∃ u, answer = .next (finish u) ∧ u.arb.motion = .still ∧ u.arb.requests.get k = none
        ∧ u.maps = s.maps ∧ u.schedule = s.schedule ∧ u.cfg = s.cfg ∧ u.grid = s.grid))
  ∧ (∀ (h : Hdr) (k : Furnace) (number fault : Nat) (c : CycleRecord) (g : TableGeometry) (q : PosRequest)
    (r : TableRecord) (s : State),
    FieldTaken s Kind.tableReport h .tableDrive → s.arb.motion = .positioning k number true →
    (s.seqs.get k).cycle = some c → c.corrective < 2 → s.cfg.tableGeometry = some g →
    s.arb.requests.get k = some q → s.tracker.table.find? (fun r => r.tag == q.tag) = some r →
    (g.positioningTolerance < mag (q.target - r.centre s.travel)
      ∨ (s.sensors.get (doorSensor k)).taken = false) →
    s.limitsPass g (q.target - r.centre s.travel) = true →
    ∃ u, exec (.tableReport h number (.val .done) fault) s = .next (finish u)
      ∧ u = { sendField .tableDrive 0
            (.tableMove s.arb.nextMove (q.target - r.centre s.travel)) s with
          seqs := s.seqs.set k { s.seqs.get k with
            cycle := some { c with corrective := c.corrective + 1 } }
          arb := { s.arb with
            motion := .positioning k s.arb.nextMove true
            nextMove := if s.arb.nextMove < 255 then s.arb.nextMove + 1 else 1 }
          due := u.due })
  ∧ (∀ (h : Hdr) (k : Furnace) (number fault : Nat) (c : CycleRecord) (g : TableGeometry) (q : PosRequest)
    (r : TableRecord) (s : State),
    FieldTaken s Kind.tableReport h .tableDrive → s.arb.motion = .positioning k number true →
    (s.seqs.get k).cycle = some c → s.cfg.tableGeometry = some g → s.arb.requests.get k = some q →
    s.tracker.table.find? (fun r => r.tag == q.tag) = some r →
    mag (q.target - r.centre s.travel) ≤ g.positioningTolerance →
    (s.sensors.get (doorSensor k)).taken = true →
    exec (.tableReport h number (.val .done) fault) s = .next (finish (runFinal k { s with
      arb := { s.arb with
        motion := .still, requests := s.arb.requests.set k none, holds := s.arb.holds.set k true }
      seqs := s.seqs.set k { s.seqs.get k with cycle := some { c with timer := none } }
      due := { s.due with tableRule := true, gridEval := true } })))
  ∧ (∀ (h : Hdr) (k : Furnace) (number fault : Nat) (c : CycleRecord) (g : TableGeometry) (q : PosRequest)
    (r : TableRecord) (s : State),
    FieldTaken s Kind.tableReport h .tableDrive → s.arb.motion = .positioning k number true →
    (s.seqs.get k).cycle = some c → s.cfg.tableGeometry = some g → s.arb.requests.get k = some q →
    c.tag = q.tag → s.tracker.table.find? (fun r => r.tag == q.tag) = some r →
    (g.positioningTolerance < mag (q.target - r.centre s.travel)
      ∨ (s.sensors.get (doorSensor k)).taken = false) →
    (2 ≤ c.corrective ∨ s.limitsPass g (q.target - r.centre s.travel) = false) →
    ∃ u, exec (.tableReport h number (.val .done) fault) s = .next (finish u)
      ∧ u.arb = { s.arb with
          motion := .still, requests := s.arb.requests.set k none, holds := s.arb.holds.set k false }
      ∧ IdleFrom (s.seqs.get k) (u.seqs.get k) ∧ u.due.start.get k = true
      ∧ (r.state = .reject → u.tracker = s.tracker ∧ u.links = s.links)
      ∧ (r.state ≠ .reject →
        u.tracker.table = s.tracker.table.map (fun x =>
          if x.tag = q.tag then { x with state := .held .position } else x)
        ∧ u.links = (raise (.slabHeld r.tag r.id (some .position) (some r.state)
            (r.anchor + s.travel)) s).links)
      ∧ u.seqs.get (otherFurnace k) = s.seqs.get (otherFurnace k)
      ∧ u.maps = s.maps ∧ u.schedule = s.schedule ∧ u.cfg = s.cfg ∧ u.grid = s.grid
      ∧ u.place = s.place ∧ u.counters = s.counters ∧ u.sensors = s.sensors ∧ u.mgmt = s.mgmt)
  ∧ (∀ (g : TableGeometry) (s : State), s.cfg.tableGeometry = some g →
    let recordOf := fun (q : PosRequest) => s.tracker.table.find? fun r => r.tag == q.tag
    let passes := fun (q : PosRequest) =>
      (recordOf q).any fun r => s.limitsPass g (q.target - r.centre s.travel)
    let checked := fun (q : PosRequest) =>
      { q with status := if passes q = true then .waiting else .skipped }
    let showing := fun (q : Sequencer) (r : Option PosRequest) =>
      { q with waiting := match r with
        | none => q.waiting
        | some r => if passes r = true then .grant else .tableBlocked }
    let looked : State := { s with
      arb := { s.arb with
        requests := ⟨s.arb.requests.f1.map checked, s.arb.requests.f2.map checked⟩ }
      seqs := ⟨showing s.seqs.f1 s.arb.requests.f1, showing s.seqs.f2 s.arb.requests.f2⟩
      due := { s.due with gridEval := true } }
    let free := s.arb.motion = .still ∧ s.arb.holds = ⟨false, false⟩ ∧ s.arb.gridHold = none
    let waits := ∀ k, ∀ q ∈ s.arb.requests.get k, q.status ≠ .granted
    (¬ free → tableRule s = s)
    ∧ (free → waits → (∀ k, ∀ q ∈ s.arb.requests.get k, passes q = false) → tableRule s = looked)
    ∧ (∀ k q r, free → waits → s.arb.requests.get k = some q → recordOf q = some r →
      passes q = true →
      (∀ q' ∈ s.arb.requests.get (otherFurnace k), passes q' = true →
        ∀ r' ∈ recordOf q', r'.anchor < r.anchor) →
      let d := q.target - r.centre s.travel
      let complete := mag d ≤ g.positioningTolerance ∧ (s.sensors.get (doorSensor k)).taken = true
      let taken := fun (timer : Option Timer) => looked.seqs.set k { s.seqs.get k with
        waiting := .move, cycle := (s.seqs.get k).cycle.map fun c => { c with timer } }
      (¬ complete →
        tableRule s = { sendField .tableDrive 0 (.tableMove s.arb.nextMove d) looked with
          arb := { looked.arb with
            motion := .positioning k s.arb.nextMove true
            nextMove := if s.arb.nextMove < 255 then s.arb.nextMove + 1 else 1
            requests := looked.arb.requests.set k (some { q with status := .granted }) }
          seqs := taken (some ⟨.positioning, 1000 * (s.cfg.timing.get k).getD 0 0⟩) })
      ∧ (complete →
        tableRule s = runFinal k { looked with
          arb := { looked.arb with
            holds := s.arb.holds.set k true, requests := looked.arb.requests.set k none }
          seqs := taken none
          due := { s.due with tableRule := true, gridEval := true } })))

/-- R96: a move passes the move limits when every record meets the three limits: its head at most X_TE and its
tail at least X_TS after the move, and, while GP shows presence, no point of the grid zone in the span it sweeps
where it does not lie on the grid zone. The lengths are not negative and the zone is a span. -/
def Obligations.MoveLimits : Prop :=
  ∀ (s : State) (g : TableGeometry) (d : Int), g.xGS ≤ g.xGE →
    (∀ r ∈ s.tracker.table, 0 ≤ r.assumed) →
    (s.limitsPass g d = true ↔ ∀ r ∈ s.tracker.table,
      r.head s.travel + d ≤ g.xTE ∧ g.xTS ≤ r.tail s.travel + d
        ∧ (s.sensors.gp.taken = true →
          (¬ ∃ x, r.tail s.travel ≤ x ∧ x ≤ r.head s.travel ∧ g.xGS ≤ x ∧ x ≤ g.xGE) →
          ¬ ∃ x, r.tail s.travel + min 0 d ≤ x ∧ x ≤ r.head s.travel + max 0 d ∧ g.xGS ≤ x
            ∧ x ≤ g.xGE))

/-- R82, R90, R91: a forward head edge at MS, D1 or D2 with one candidate, whose correction keeps the order of
the list, puts the record's head at the photocell, and at MS opens the measurement; a forward tail edge at MS
ends it and records or refuses the length. R89, R147: an edge that FILTER_TIME_ELAPSED takes is tracked at its
captured travel; of several candidates it takes the nearest, of two equally near the more downstream. A
correction that would not keep the order holds the record, TRACKING_CONFLICT before SLAB_HELD (R90); an increase
of travel holds each record that passed a photocell unseen, MISSED_EDGE before SLAB_HELD (R92; both orders are
log 35's choice). R87: at a change of table travel the unidentified presence flag is evaluated, before any record
is examined, and the records are examined in list order (both log 35's choice). R77: what a sequencer does with a tracker hold on its cycle's slab. -/
def Obligations.PhotocellTracking : Prop :=
  (∀ (i : SensorId) (pre post : List TableRecord) (r : TableRecord) (g : TableGeometry) (s : State),
    s.power = true → (i = .ms ∨ i = .d1 ∨ i = .d2) → (s.cfg.sensorSetup.get i).filterTime = 0 →
    (s.sensors.get i).taken = false →
    (s.sensors.get i).electrical = (s.cfg.sensorSetup.get i).invert →
    s.counters.t.lastDir ≠ some .reverse → s.cfg.tableGeometry = some g →
    s.tracker.table = pre ++ r :: post → (s.tracker.table.map (·.tag)).Nodup →
    s.tracker.table.filter (TableRecord.candidateAt g s.travel i) = [r] →
    (∀ a, pre.getLast? = some a → g.sensorAt i < a.anchor + s.travel) →
    (∀ b, post.head? = some b → b.anchor + s.travel < g.sensorAt i) →
    ∃ u, exec (.rawTransition i (!(s.cfg.sensorSetup.get i).invert)) s = .next (finish u)
      ∧ u.tracker = { s.tracker with
          table := pre ++ { r.mark i with anchor := g.sensorAt i - s.travel } :: post
          measuring := if i = .ms then some ⟨r.tag, s.counters.t.acc⟩ else s.tracker.measuring }
      ∧ u.links = s.links ∧ u.ret = s.ret ∧ u.seqs = s.seqs ∧ u.arb = s.arb ∧ u.grid = s.grid
      ∧ u.maps = s.maps ∧ u.schedule = s.schedule ∧ u.cfg = s.cfg ∧ u.counters = s.counters)
  ∧ (∀ (i : SensorId) (n : Nat) (p : PendingChange) (g : TableGeometry) (s : State),
    s.power = true → (i = .ms ∨ i = .d1 ∨ i = .d2) → (s.sensors.get i).pending = some p →
    (s.cfg.sensorSetup.get i).filterTime ≤ p.held + n → s.cfg.tableGeometry = some g →
    let t := elapse n s
    let taken := { t with sensors := t.sensors.set i { t.sensors.get i with
      taken := p.level, pending := none, latest := p.capture, previous := (t.sensors.get i).latest } }
    let done := exec (.filterTimeElapsed i n) s
    let x := g.sensorAt i
    let travel := roundMm p.capture
    let away := fun (r : TableRecord) => mag (r.anchor + travel - x)
    let candidate := fun (r : TableRecord) => r.seen i = false ∧ away r ≤ g.trackingTolerance
    (p.dir = some .reverse → done = .next (finish taken))
    ∧ (p.level = true → p.dir ≠ some .reverse → (∀ r ∈ s.tracker.table, ¬ candidate r) →
      done = .next (finish (raise (.unexpectedEdge i true travel) taken)))
    ∧ (∀ pre r post, p.level = true → p.dir ≠ some .reverse → s.tracker.table = pre ++ r :: post →
      (s.tracker.table.map (·.tag)).Nodup → candidate r →
      (∀ y ∈ pre ++ post, candidate y →
        away r < away y ∨ (away r = away y ∧ y.anchor < r.anchor)) →
      (∀ a, pre.getLast? = some a → x < a.anchor + travel) →
      (∀ b, post.head? = some b → b.anchor + travel < x) →
      ∃ u, done = .next (finish u)
        ∧ u = { taken with
            tracker := { s.tracker with
              table := pre ++ { r.mark i with anchor := x - travel } :: post
              measuring := if i = .ms then some ⟨r.tag, p.capture⟩ else s.tracker.measuring }
            due := u.due })
    ∧ (∀ m r, i = .ms → p.level = false → p.dir ≠ some .reverse → s.tracker.measuring = some m →
      s.tracker.table.find? (fun r => r.tag == m.tag) = some r →
      let len := roundMm (p.capture - m.capture)
      1500 ≤ len → len ≤ 12000 → (∀ e ∈ r.nominals, mag (len - e.length) ≤ g.lengthTolerance) →
      ∃ u, done = .next (finish u)
        ∧ u.tracker = { s.tracker with
            table := s.tracker.table.map fun y =>
              if y.tag = r.tag then { y with measured := some len } else y
            measuring := none }
        ∧ u.links = (raise (.lengthMeasured r.tag r.id len (r.nominals.map (·.length)) .accepted) s).links
        ∧ u.seqs = taken.seqs ∧ u.sensors = taken.sensors ∧ u.arb = s.arb ∧ u.maps = s.maps)
    ∧ (p.level = false → i ≠ .ms → done = .next (finish taken)))
  ∧ (∀ (m : Measurement) (r : TableRecord) (g : TableGeometry) (s : State),
    s.power = true → (s.cfg.sensorSetup.get .ms).filterTime = 0 → (s.sensors.get .ms).taken = true →
    (s.sensors.get .ms).electrical = !(s.cfg.sensorSetup.get .ms).invert →
    s.counters.t.lastDir ≠ some .reverse → s.cfg.tableGeometry = some g →
    s.tracker.measuring = some m →
    s.tracker.table.find? (fun r => r.tag == m.tag) = some r → r.state ≠ .reject →
    let len := roundMm (s.counters.t.acc - m.capture)
    let off := ∃ n, r.nominals = some n ∧ g.lengthTolerance < mag (len - n.length)
    ∃ u, exec (.rawTransition .ms (s.cfg.sensorSetup.get .ms).invert) s = .next (finish u)
      ∧ u.tracker.measuring = none
      ∧ ((len < 1500 ∨ 12000 < len) → u.tracker.table.find? (fun r => r.tag == m.tag) =
          some { r with state := .held .length })
      ∧ (1500 ≤ len → len ≤ 12000 → off → u.tracker.table.find? (fun r => r.tag == m.tag) =
          some { r with measured := some len, state := .held .length })
      ∧ (1500 ≤ len → len ≤ 12000 → ¬ off → u.tracker.table.find? (fun r => r.tag == m.tag) =
          some { r with measured := some len })
      ∧ u.tracker.table.length = s.tracker.table.length
      ∧ u.maps = s.maps ∧ u.schedule = s.schedule ∧ u.cfg = s.cfg ∧ u.counters = s.counters)
  ∧ (∀ (i : SensorId) (pre post : List TableRecord) (r : TableRecord) (g : TableGeometry) (s : State),
    s.power = true → (i = .ms ∨ i = .d1 ∨ i = .d2) → (s.cfg.sensorSetup.get i).filterTime = 0 →
    (s.sensors.get i).taken = false →
    (s.sensors.get i).electrical = (s.cfg.sensorSetup.get i).invert →
    s.counters.t.lastDir ≠ some .reverse → s.cfg.tableGeometry = some g →
    s.tracker.table = pre ++ r :: post → (s.tracker.table.map (·.tag)).Nodup →
    s.tracker.table.filter (TableRecord.candidateAt g s.travel i) = [r] → r.state ≠ .reject →
    ((∃ a, pre.getLast? = some a ∧ a.anchor + s.travel ≤ g.sensorAt i)
      ∨ (∃ b, post.head? = some b ∧ g.sensorAt i ≤ b.anchor + s.travel)) →
    let told := raise (.slabHeld r.tag r.id (some .tracking) (some r.state) (r.anchor + s.travel))
      (raise (.trackingConflict r.tag i (g.sensorAt i - (r.anchor + s.travel))) s)
    ∃ u, exec (.rawTransition i (!(s.cfg.sensorSetup.get i).invert)) s = .next (finish u)
      ∧ u.tracker = { s.tracker with
          table := pre ++ { r.mark i with state := .held .tracking } :: post }
      ∧ (s.positioned r.tag = false →
        u.links = told.links ∧ u.ret = told.ret ∧ u.seqs = s.seqs ∧ u.arb = s.arb)
      ∧ (∀ k c, s.ret.mode ≠ .retain → (s.seqs.get k).cycle = some c → c.tag = r.tag →
        ((s.seqs.get k).state = .positioning ∨ (s.seqs.get k).state = .room →
          IdleFrom (s.seqs.get k) (u.seqs.get k) ∧ u.arb.holds.get k = false)
        ∧ ((s.seqs.get k).state = .positioning → u.arb.requests.get k = none)
        ∧ ((s.seqs.get k).state = .pick →
          HeldFrom .trackingLost (s.seqs.get k) (u.seqs.get k) ∧ u.arb.holds.get k = false))
      ∧ u.maps = s.maps ∧ u.schedule = s.schedule ∧ u.cfg = s.cfg ∧ u.grid = s.grid
      ∧ u.counters = s.counters ∧ u.place = s.place)
  ∧ ((∀ (g : TableGeometry) (tag : Nat) (i : SensorId) (r : TableRecord) (s : State),
    (i = .ms ∨ i = .d1 ∨ i = .d2) → s.tracker.table.find? (fun r => r.tag == tag) = some r →
    r.seen i = false →
    let marked := { s with
      tracker := { s.tracker with
        table := s.tracker.table.map fun x => if x.tag = tag then x.mark i else x } }
    (g.sensorAt i + g.trackingTolerance < r.anchor + s.travel →
      examine g tag i s = trackerHold .tracking (r.mark i)
        (raise (.missedEdge tag i (r.anchor + s.travel)) marked))
    ∧ (r.anchor + s.travel ≤ g.sensorAt i + g.trackingTolerance → examine g tag i s = s))
  ∧ (∀ (a b : Bool) (g : TableGeometry) (s : State),
    s.power = true → s.cfg.tableGeometry = some g → (s.tracker.table.map (·.tag)).Nodup →
    s.travel < (takeStep .t (a, b) s).travel →
    let travel := (takeStep .t (a, b) s).travel
    let missed := fun (r : TableRecord) (i : SensorId) => (i = .ms ∨ i = .d1 ∨ i = .d2)
      ∧ r.seen i = false ∧ g.sensorAt i + g.trackingTolerance < r.anchor + travel
    ∃ u, exec (.encoderStep .t a b) s = .next (finish u)
      ∧ u.tracker.table.map (fun r => (r.tag, r.anchor)) = s.tracker.table.map (fun r => (r.tag, r.anchor))
      ∧ (∀ r ∈ u.tracker.table, ∀ i, ¬ missed r i)
      ∧ (∀ r ∈ s.tracker.table, (∃ i, missed r i) → r.state ≠ .reject →
        ∃ r' ∈ u.tracker.table, r'.tag = r.tag ∧ r'.state = .held .tracking)
      ∧ (∀ r ∈ s.tracker.table, (∀ i, ¬ missed r i) → r ∈ u.tracker.table)
      ∧ u.maps = s.maps ∧ u.schedule = s.schedule ∧ u.cfg = s.cfg ∧ u.sensors = s.sensors)
  ∧ (∀ (a b : Bool) (s : State), s.power = true → (takeStep .t (a, b) s).travel ≠ s.travel →
    let t := takeStep .t (a, b) s
    let flagged := fun (v : Bool) (u : State) => { u with tracker := { u.tracker with unidentified := v } }
    let watched := if s.sensors.gp.taken = false ∨ t.zoneTaken = true then flagged false t
      else if s.grid.grant.isSome = true ∨ s.tracker.unidentified = true then t
      else raise (.unidentifiedOnGrid t.travel) (flagged true t)
    let marked := { watched with due := { watched.due with gridEval := true } }
    let done := exec (.encoderStep .t a b) s
    t = { s with counters := t.counters }
    ∧ (t.travel < s.travel → done = .next (finish marked))
    ∧ (s.cfg.tableGeometry = none → done = .next (finish marked))
    ∧ (∀ g, s.travel < t.travel → s.cfg.tableGeometry = some g →
      done = .next (finish ((s.tracker.table.map (·.tag)).foldl (fun u tag =>
        examine g tag .d2 (examine g tag .d1 (examine g tag .ms u))) marked)))))
  ∧ (∀ (k : Furnace) (c : CycleRecord) (s : State), (s.seqs.get k).cycle = some c →
    let q := s.seqs.get k
    let u := handHold k c.tag s
    (q.state = .positioning →
      IdleFrom q (u.seqs.get k) ∧ u.arb.requests.get k = none ∧ u.arb.holds.get k = false
      ∧ u.due.start.get k = true
      ∧ u.links = (haltFor k s.arb.motion .trackingLost s).links
      ∧ u.arb.motion = unwantedFor k s.arb.motion)
    ∧ (q.state = .room → IdleFrom q (u.seqs.get k) ∧ u.arb.holds.get k = false
      ∧ u.due.start.get k = true ∧ u.links = s.links ∧ u.arb.motion = s.arb.motion)
    ∧ (q.state = .pick → HeldFrom .trackingLost q (u.seqs.get k) ∧ u.arb.holds.get k = false
      ∧ u.links = (raise (.chargerHeld k .trackingLost .pick (some c.tag)
          (q.inflight.map fun _ => .uncertain) none)
          (sendField (.charger k) 0 (.chargerStop c.tag .trackingLost) s)).links)
    ∧ (q.state ≠ .positioning → q.state ≠ .room → q.state ≠ .pick → u = s)
    ∧ (∀ tag, tag ≠ c.tag → handHold k tag s = s)
    ∧ u.seqs.get (otherFurnace k) = s.seqs.get (otherFurnace k) ∧ KeepsAccounts s u)

/-- R103, R104, R85: ACCEPT_SLAB gives the record the fields carried and makes it READY; REJECT_SLAB and
REMOVE_SLAB of a slab that is not positioned for a charger, each with its RESPONSE and the event behind it:
SLAB_READY; SLAB_HELD with the state REJECT in the place of its cause (log 47, the model's choice);
UNIDENTIFIED_ON_GRID where a removal uncovers a slab at GP. The three are refused UNKNOWN_TAG and BUSY, and
ACCEPT_SLAB then OUT_OF_RANGE and ILLEGAL_VALUE, in the order of their checks. The model's choices: the tag 0 is
missing and refused ILLEGAL_VALUE (log 29); UNKNOWN_TAG, BUSY and OUT_OF_RANGE stand before a bad destination
code (log 7). -/
def Obligations.SlabRecordCommands : Prop :=
  (∀ (h : Hdr) (tag : Nat) (w l th : Option Int) (grp : Option Nat) (dest : Option Furnace)
    (r : TableRecord) (s : State),
    Managed s h → formFits (.acceptSlab h tag w l th grp (dest.map .val)) = true →
    tag ≠ 0 → s.tracker.table.find? (fun r => r.tag == tag) = some r →
    s.positioned tag = false → (∀ x ∈ w, 800 ≤ x ∧ x ≤ 2800) → (∀ x ∈ l, 1500 ≤ x ∧ x ≤ 12000) →
    (∀ x ∈ th, 100 ≤ x ∧ x ≤ 500) → (∀ x ∈ grp, x ≤ 15) → (r.dest = none → dest ≠ none) →
    let r' := { r with
      width := w.or r.width, measured := l.or r.measured, thickness := th.or r.thickness
      group := grp.or r.group, dest := dest.or r.dest, state := .ready }
    let told := raise (.slabReady tag r.id r'.dest)
      (respond h Kind.command .ok none (.accepted tag (r.anchor + s.travel) r') s)
    ∃ u, exec (.acceptSlab h tag w l th grp (dest.map .val)) s = .next (finish u)
      ∧ u.tracker = { s.tracker with
          table := s.tracker.table.map fun x => if x.tag = tag then r' else x }
      ∧ u.links = told.links ∧ u.ret = told.ret
      ∧ u.due.start.f1 = true ∧ u.due.start.f2 = true
      ∧ u.seqs = s.seqs ∧ u.arb = s.arb ∧ u.grid = s.grid ∧ u.maps = s.maps
      ∧ u.schedule = s.schedule ∧ u.cfg = s.cfg ∧ u.mgmt = s.mgmt ∧ u.counters = s.counters)
  ∧ (∀ (h : Hdr) (tag : Nat) (r : TableRecord) (s : State),
    Managed s h → tag ≠ 0 → s.tracker.table.find? (fun r => r.tag == tag) = some r →
    s.positioned tag = false →
    let answered := respond h Kind.command .ok none (.tagIdentity tag r.id) s
    let rejected := Event.slabHeld tag r.id none (some r.state) (r.anchor + s.travel)
    let onZone := ∃ g, s.cfg.tableGeometry = some g ∧ ∃ x ∈ s.tracker.table, x.tag ≠ tag
      ∧ x.tail s.travel ≤ g.xGE ∧ g.xGS ≤ x.anchor + s.travel
    let watched := s.sensors.gp.taken = true ∧ ¬ onZone
    let told := raise (.unidentifiedOnGrid s.travel) answered
    rejected.fields = [.tag tag, .identity r.id, .code .slabReject] ++ r.state.fields
        ++ [.figure (r.anchor + s.travel)]
    ∧ (formFits (.rejectSlab h tag) = true → ∃ u, exec (.rejectSlab h tag) s = .next (finish u)
      ∧ u.links = (raise rejected answered).links ∧ u.ret = (raise rejected answered).ret
      ∧ u.tracker = { s.tracker with
          table := s.tracker.table.map fun x =>
            if x.tag = tag then { x with state := .reject, dest := none } else x }
      ∧ u.seqs = s.seqs ∧ u.arb = s.arb ∧ u.grid = s.grid ∧ u.maps = s.maps
      ∧ u.schedule = s.schedule ∧ u.cfg = s.cfg ∧ u.mgmt = s.mgmt ∧ u.counters = s.counters)
    ∧ (formFits (.removeSlab h tag) = true → ∃ u, exec (.removeSlab h tag) s = .next (finish u)
      ∧ u.tracker.table = s.tracker.table.filter (fun x => x.tag != tag)
      ∧ (∀ x, u.tracker.measuring = some x → s.tracker.measuring = some x ∧ x.tag ≠ tag)
      ∧ (∀ x, s.tracker.measuring = some x → x.tag ≠ tag → u.tracker.measuring = some x)
      ∧ (watched → s.grid.grant = none → s.tracker.unidentified = false →
        u.tracker.unidentified = true ∧ u.links = told.links ∧ u.ret = told.ret)
      ∧ ((¬ watched ∨ s.grid.grant.isSome = true ∨ s.tracker.unidentified = true) →
        u.links = answered.links ∧ u.ret = s.ret)
      ∧ (¬ watched → u.tracker.unidentified = false)
      ∧ (watched → (s.grid.grant.isSome = true ∨ s.tracker.unidentified = true) →
        u.tracker.unidentified = s.tracker.unidentified)
      ∧ u.schedule = s.schedule.map (fun e =>
          if some e.seq = r.link then { e with state := .planned } else e)
      ∧ u.seqs = s.seqs ∧ u.arb = s.arb ∧ u.grid = s.grid ∧ u.maps = s.maps
      ∧ u.cfg = s.cfg ∧ u.mgmt = s.mgmt ∧ u.counters = s.counters))
  ∧ (∀ (h : Hdr) (s : State), Managed s h →
    let refused := fun (i : Instr) (c : RespCode) => formFits i = true →
      exec i s = .next (respond h Kind.command c none .none s)
    (refused (.rejectSlab h 0) .illegalValue ∧ refused (.removeSlab h 0) .illegalValue
      ∧ ∀ w l th grp dest, refused (.acceptSlab h 0 w l th grp dest) .illegalValue)
    ∧ (∀ tag, tag ≠ 0 → (∀ r ∈ s.tracker.table, r.tag ≠ tag) →
      refused (.rejectSlab h tag) .unknownTag ∧ refused (.removeSlab h tag) .unknownTag
      ∧ ∀ w l th grp dest, refused (.acceptSlab h tag w l th grp dest) .unknownTag)
    ∧ (∀ tag r, tag ≠ 0 → s.tracker.table.find? (fun r => r.tag == tag) = some r → s.positioned tag = true →
      refused (.rejectSlab h tag) .busy ∧ refused (.removeSlab h tag) .busy
      ∧ ∀ w l th grp dest, refused (.acceptSlab h tag w l th grp dest) .busy)
    ∧ (∀ tag r w l th grp dest, tag ≠ 0 → s.tracker.table.find? (fun r => r.tag == tag) = some r →
      s.positioned tag = false →
      let ranges := (∀ x ∈ w, x = absentFigure ∨ (800 ≤ x ∧ x ≤ 2800))
        ∧ (∀ x ∈ l, x = absentFigure ∨ (1500 ≤ x ∧ x ≤ 12000))
        ∧ (∀ x ∈ th, x = absentFigure ∨ (100 ≤ x ∧ x ≤ 500)) ∧ (∀ x ∈ grp, x = 255 ∨ x ≤ 15)
      (¬ ranges → refused (.acceptSlab h tag w l th grp dest) .outOfRange)
      ∧ (∀ raw, ranges → raw ≠ 255 → dest = some (.bad raw) →
        refused (.acceptSlab h tag w l th grp dest) .illegalValue)
      ∧ (ranges → r.dest = none → (dest = none ∨ dest = some (.bad 255)) →
        refused (.acceptSlab h tag w l th grp dest) .illegalValue)))

/-- R105, R88, R118 to R120, R84: ENTER_SLAB appends a record with its head at X_G, matched against the schedule
and in the state that R120 gives it, and raises SLAB_READY or SLAB_HELD behind the RESPONSE. It is refused
WRONG_MODE, NOT_CONFIGURED, ILLEGAL_VALUE for a missing width or thickness (log 38), OUT_OF_RANGE, ILLEGAL_VALUE
for its identity (a space within or before it too: log 28), DUPLICATE and BUSY in the order of its checks; the
two logs are the model's choices. The fresh tag is the first from the next-tag value on that no slab of the
part's account holds. -/
def Obligations.EnterSlab : Prop :=
  (∀ (h : Hdr) (id : Identity) (w th mass : Int) (g : TableGeometry) (s : State),
    Managed s h → formFits (.enterSlab h id w th mass) = true →
    s.ret.mode = .run → s.cfg.tableGeometry = some g →
    800 ≤ w → w ≤ 2800 → 100 ≤ th → th ≤ 500 → 0 ≤ mass → mass ≤ 200000 → idCharsOk id = true →
    s.idHeld id = false → s.sensors.gp.taken = true → s.grid.grant = none →
    s.tracker.table.length < 8 → (∀ r ∈ s.tracker.table, g.xGE < r.tail s.travel) →
    ∃ u r, exec (.enterSlab h id w th mass) s = .next (finish u)
      ∧ u.tracker.table = s.tracker.table ++ [r]
      ∧ r.tag = s.freshTag ∧ u.tracker.nextTag = nextTagAfter s.freshTag
      ∧ r.id = id ∧ r.anchor + s.travel = g.xG ∧ r.measured = none ∧ r.width = some w
      ∧ r.thickness = some th ∧ r.mass = (if mass = 0 then none else some mass)
      ∧ r.seenMS = false ∧ r.seenD1 = false ∧ r.seenD2 = false ∧ r.substituted = false
      ∧ ((∀ e ∈ s.schedule, e.id = id → e.state ≠ .planned) →
          r.link = none ∧ r.dest = none ∧ r.state = .held .unscheduled ∧ u.schedule = s.schedule)
      ∧ (∀ e, s.schedule.find? (fun e => e.id == id && e.state == .planned) = some e →
          r.link = some e.seq ∧ r.group = some e.group
            ∧ r.nominals = some ⟨e.width, e.length, e.thickness⟩ ∧ MatchedTo s e r
            ∧ u.schedule = s.schedule.map (fun x =>
              if x.seq = e.seq then { x with state := .deposited r.tag } else x))
      ∧ (g.xGS ≤ g.xG → g.xG ≤ g.xGE → 0 ≤ r.assumed →
        let created := match r.state with
          | .held cause => Event.slabHeld r.tag r.id (some cause) none g.xG
          | _ => .slabReady r.tag r.id r.dest
        u.tracker.unidentified = false
        ∧ u.links = (raise created
          (respond h Kind.command .ok none (.entered r.tag r.state) s)).links)
      ∧ u.seqs = s.seqs ∧ u.arb = s.arb ∧ u.grid = s.grid ∧ u.maps = s.maps ∧ u.cfg = s.cfg
      ∧ u.mgmt = s.mgmt ∧ u.counters = s.counters)
  ∧ (∀ (h : Hdr) (id : Identity) (w th mass : Int) (s : State), Managed s h →
    formFits (.enterSlab h id w th mass) = true →
    let refused := fun (c : RespCode) =>
      exec (.enterSlab h id w th mass) s = .next (respond h Kind.command c none .none s)
    let ranges := 800 ≤ w ∧ w ≤ 2800 ∧ 100 ≤ th ∧ th ≤ 500 ∧ 0 ≤ mass ∧ mass ≤ 200000
    (s.ret.mode ≠ .run → refused .wrongMode)
    ∧ (s.ret.mode = .run → s.cfg.tableGeometry = none → refused .notConfigured)
    ∧ (∀ g, s.ret.mode = .run → s.cfg.tableGeometry = some g →
      ((w = absentFigure ∨ th = absentFigure) → refused .illegalValue)
      ∧ (w ≠ absentFigure → th ≠ absentFigure → ¬ ranges → refused .outOfRange)
      ∧ (ranges → idCharsOk id = false → refused .illegalValue)
      ∧ (ranges → idCharsOk id = true → s.idHeld id = true → refused .duplicate)
      ∧ (ranges → idCharsOk id = true → s.idHeld id = false →
        (s.sensors.gp.taken = false ∨ s.grid.grant.isSome = true ∨ 8 ≤ s.tracker.table.length
          ∨ ∃ r ∈ s.tracker.table, r.tail s.travel ≤ g.xGE) → refused .busy)))
  ∧ ((∀ t, nextTagAfter t = if t < 65535 then t + 1 else 1)
  ∧ (∀ (n : Nat) (s : State), n < 65535 → 1 ≤ s.tracker.nextTag → s.tracker.nextTag ≤ 65535 →
    let value := fun (j : Nat) => (s.tracker.nextTag - 1 + j) % 65535 + 1
    let held := s.account (·.tag) (·.tag)
    value n ∉ held → (∀ j, j < n → value j ∈ held) → s.freshTag = value n))

/-- R106, R76, R72, R99: an observed REMOVAL_REPORT deletes the record with the identity and returns its
schedule entry to PLANNED; a sequencer that the slab is positioned for enters HELD(SLAB_REMOVED), in POSITIONING
behind TABLE_HALT (SLAB_REMOVED) for its own move in progress, in PICK behind CHARGER_STOP (SLAB_REMOVED); one
for an identity not in the list changes nothing but the forwarded copy. -/
def Obligations.RemovalReport : Prop :=
  ∀ (h : Hdr) (n : Nat) (id : Identity) (c : Crane) (s : State),
    FieldObserved s Kind.removalReport h (.crane c) →
    ((∀ r ∈ s.tracker.table, r.id ≠ id) →
      exec (.removalReport h n id) s =
        .next (finish (forwardTo (otherPort h.port) (.removalReport h n id) s)))
    ∧ (∀ r, s.tracker.table.find? (fun r => r.id == id) = some r →
      ∃ u, exec (.removalReport h n id) s = .next (finish u)
        ∧ u.tracker.table = s.tracker.table.filter (fun x => x.tag != r.tag)
        ∧ u.schedule = s.schedule.map (fun e =>
            if some e.seq = r.link then { e with state := .planned } else e)
        ∧ (∀ k, s.positionedFor k r.tag = true →
            HeldFrom .slabRemoved (s.seqs.get k) (u.seqs.get k) ∧ u.arb.holds.get k = false)
        ∧ (∀ k, s.positionedFor k r.tag = false → u.seqs.get k = s.seqs.get k)
        ∧ (∀ k, s.positionedFor k r.tag = true → s.positionedFor (otherFurnace k) r.tag = false →
          let q := s.seqs.get k
          let copy := forwardTo (otherPort h.port) (.removalReport h n id) s
          let sent := match q.state with
            | .positioning => haltFor k s.arb.motion .slabRemoved copy
            | .pick => sendField (.charger k) 0 (.chargerStop r.tag .slabRemoved) copy
            | _ => copy
          (q.state = .positioning → u.arb.requests.get k = none
            ∧ u.arb.motion = unwantedFor k s.arb.motion)
          ∧ (q.state ≠ .positioning → u.arb.motion = s.arb.motion)
          ∧ (s.sensors.gp.taken = false → u.links = (raise (.chargerHeld k .slabRemoved q.state
            (some r.tag) (q.inflight.map fun _ => .uncertain) none) sent).links))
        ∧ (s.positioned r.tag = false → s.sensors.gp.taken = false →
          u.links = (forwardTo (otherPort h.port) (.removalReport h n id) s).links)
        ∧ u.maps = s.maps ∧ u.cfg = s.cfg ∧ u.grid = s.grid ∧ u.counters = s.counters
        ∧ u.place = s.place)

/-! ## The loading grid and the rolling schedule (chapter 5) -/

/-- R119: the destination a match gives a record: that of the entry, or for EITHER the armed furnace whose map
holds fewer rows; the entry keeps its own, at the match and at a return to PLANNED. -/
def Obligations.DestinationResolved : Prop :=
  ∀ (s : State) (r : TableRecord) (e : ScheduleEntry),
    s.schedule.find? (fun e => e.id == r.id && e.state == .planned) = some e →
    let armed1 := s.seqs.f1.state ≠ .offline
    let armed2 := s.seqs.f2.state ≠ .offline
    let dest := (matchRecord s r).dest
    (∀ k, e.dest = .to k → dest = some k)
      ∧ (e.dest = .either → armed1 → armed2 → s.maps.f1.rows.length < s.maps.f2.rows.length →
        dest = some .f1)
      ∧ (e.dest = .either → armed1 → armed2 → s.maps.f2.rows.length < s.maps.f1.rows.length →
        dest = some .f2)
      ∧ (e.dest = .either → armed1 → armed2 → s.maps.f1.rows.length = s.maps.f2.rows.length →
        dest = some .f1)
      ∧ (e.dest = .either → armed1 → ¬ armed2 → dest = some .f1)
      ∧ (e.dest = .either → ¬ armed1 → armed2 → dest = some .f2)
      ∧ (e.dest = .either → ¬ armed1 → ¬ armed2 → dest = some .f1)
      ∧ (matchSchedule r s.schedule).map (·.dest) = s.schedule.map (·.dest)
      ∧ ∀ link, (revertLink link s).schedule.map (·.dest) = s.schedule.map (·.dest)

/-- R121 to R123, R125, R126: a GRID_REQUEST is refused by its checks in their order, answered GRANTED again for
the holder, and otherwise queued with the next arrival rank and evaluated at once. A grant evaluation answers
WITHDRAWN to each request whose identity has become held, in the order of the queue (log 5, the model's choice),
and grants the first of the others: a PLANNED identity by its sequence number first, then by arrival rank. R87,
R101, R82: when the grid is clear, when the table arbiter permits the grid hold, and where a record's tail lies.
The crane number of a refusal is log 23's, R101's permission log 37's. -/
def Obligations.GridRequest : Prop :=
  (∀ (h : Hdr) (crane : Nat) (id : Identity) (c : Crane) (s : State),
    FieldTaken s Kind.gridRequest h (.crane c) →
    let done := exec (.gridRequest h crane id) s
    let answer := fun a => (.next (finish (answerCrane c (some id) h.reference a s)) :
      Host.Outcome State Fault Refusal)
    let formed := crane = Crane.number c ∧ idRulesOk id = true
    let claimed := s.idHeld id = true ∨ (∃ q ∈ s.grid.queue, q.crane ≠ c ∧ q.id = id)
      ∨ (∃ g, s.grid.grant = some g ∧ g.crane ≠ c ∧ g.id = id)
    let passes := formed ∧ s.ret.mode = .run ∧ s.cfg.tableGeometry.isSome = true ∧ ¬ claimed
    (¬ formed → done = answer (.refused .illegalValue))
    ∧ (formed → s.ret.mode ≠ .run → done = answer (.refused .wrongMode))
    ∧ (formed → s.ret.mode = .run → s.cfg.tableGeometry = none → done = answer (.refused .notConfigured))
    ∧ (formed → s.ret.mode = .run → s.cfg.tableGeometry.isSome = true → claimed →
      done = answer (.refused .duplicate))
    ∧ (passes → (∃ g, s.grid.grant = some g ∧ g.crane = c) → done = answer .granted)
    ∧ (passes → s.grid.grant = none → s.grid.queue = [] → s.mgmt.supervision.isOk = true →
      s.gridClear = true → s.tracker.table.length < 8 → s.permitsGrid = true →
      done = .next (finish (answerCrane c (some id) h.reference .granted { s with
        grid :=
          { queue := [], nextRank := s.grid.nextRank + 1
            grant := some { crane := c, id, reference := h.reference,
                            phase := .active (1000 * s.cfg.settings.grantTimeout) } }
        arb := { s.arb with gridHold := some c } })))
    ∧ (passes → (∀ g, s.grid.grant = some g → g.crane ≠ c) →
      (s.grid.grant.isSome = true ∨ s.grantConditions.all = false) →
      (∀ q ∈ s.grid.queue, q.crane ≠ c → s.idHeld q.id = false) →
      let queue := s.grid.queue.filter (fun q => q.crane != c)
        ++ [{ crane := c, id, reference := h.reference, rank := s.grid.nextRank }]
      done = .next (finish (answerCrane c (some id) h.reference
        (.queued (positionOf c (grantOrder s.schedule queue))) { s with
          grid := { s.grid with queue, nextRank := s.grid.nextRank + 1 } }))))
  ∧ ((∀ s : State,
    let kept := s.grid.queue.filter fun q => !s.idHeld q.id
    let left := { s with grid := { s.grid with queue := kept } }
    let told := (s.grid.queue.filter fun q => s.idHeld q.id).foldl
      (fun t q => answerCrane q.crane (some q.id) q.reference .withdrawnDuplicate t) left
    let free := s.grid.grant = none ∧ s.mgmt.supervision ≠ .lost ∧ s.ret.mode = .run
      ∧ s.gridClear = true ∧ s.tracker.table.length < 8 ∧ s.permitsGrid = true
    let seqOf := fun (q : Sys2Proof.Machine.GridRequest) =>
      (s.schedule.find? fun e => e.id == q.id && e.state == .planned).map (·.seq)
    let before := fun (a b : Sys2Proof.Machine.GridRequest) => match seqOf a, seqOf b with
      | some x, some y => x < y
      | some _, none => True
      | none, some _ => False
      | none, none => a.rank < b.rank
    ((kept = [] ∨ ¬ free) → gridEval s = told)
    ∧ (∀ q ∈ kept, free → (∀ x ∈ kept, x ≠ q → before q x) →
      gridEval s = answerCrane q.crane (some q.id) q.reference .granted { told with
        grid := { s.grid with
          queue := kept.filter fun x => x.crane != q.crane
          grant := some { crane := q.crane, id := q.id, reference := q.reference,
                          phase := .active (1000 * s.cfg.settings.grantTimeout) } }
        arb := { s.arb with gridHold := some q.crane } }))
  ∧ (∀ s : State,
    (s.gridClear = true ↔ s.sensors.gp.taken = false
      ∧ ((s.cfg.tableGeometry = none ∧ s.tracker.table = [])
        ∨ ∃ g, s.cfg.tableGeometry = some g ∧ ∀ r ∈ s.tracker.table, g.xGE < r.tail s.travel))
    ∧ (s.permitsGrid = true ↔ s.arb.motion = .still
      ∧ (s.arb.holds.f1 = true ∨ s.arb.holds.f2 = true
        ∨ ∀ k q, s.arb.requests.get k = some q → q.status ≠ .waiting)))
  ∧ (∀ (r : TableRecord) (travel : Int), r.tail travel = r.anchor + travel - r.assumed
    ∧ (∀ l, r.measured = some l → r.assumed = l)
    ∧ (∀ n, r.measured = none → r.nominals = some n → r.assumed = n.length)
    ∧ (r.measured = none → r.nominals = none → r.assumed = 12000)))

/-- R121, R124, R129: GRID_RELEASE and the expiry of the grant timer. The end of a grant clears the record and
the grid hold and evaluates the unidentified presence flag; the holder is answered RELEASED, or WITHDRAWN at the
expiry, before the next GRANTED or TABLE_MOVE of the same event (log 5, the model's choice). A release with
another crane number answers with no identity (log 23); an expiry whose timer does not run only lets the time
pass (log 3). R87, R130: when a record lies on the grid zone; an edge at GP, taken by
RAW_TRANSITION or by FILTER_TIME_ELAPSED, sets or clears the unidentified presence flag, raises
UNIDENTIFIED_ON_GRID with the edge's travel, that of its capture (log 16), and at absence ends an OVERDUE grant
with WITHDRAWN. -/
def Obligations.GridReleaseAndTimeout : Prop :=
  ((∀ (h : Hdr) (crane : Nat) (c : Crane) (s : State),
    FieldTaken s Kind.gridRelease h (.crane c) →
    let done := exec (.gridRelease h crane) s
    (crane ≠ Crane.number c →
      done = .next (finish (answerCrane c none h.reference (.refused .illegalValue) s)))
    ∧ (crane = Crane.number c → ∀ g, s.grid.grant = some g → g.crane = c →
      ∃ u, done = .next (finish u) ∧ u.grid = { s.grid with grant := none }
        ∧ u.arb = { s.arb with gridHold := none }
        ∧ u.tracker = { s.tracker with unidentified := s.sensors.gp.taken && !s.zoneTaken }
        ∧ (let answered := answerCrane c (some g.id) h.reference .released s
          u.links = (if (s.sensors.gp.taken && !s.zoneTaken && !s.tracker.unidentified) = true then
            raise (.unidentifiedOnGrid s.travel) answered else answered).links)
        ∧ u.seqs = s.seqs ∧ u.maps = s.maps ∧ u.schedule = s.schedule ∧ u.cfg = s.cfg
        ∧ u.mgmt = s.mgmt ∧ u.counters = s.counters ∧ u.sensors = s.sensors)
    ∧ (crane = Crane.number c → (∀ g, s.grid.grant = some g → g.crane ≠ c) →
      ∀ q, s.grid.queue.find? (fun q => q.crane == c) = some q →
      done = .next (finish { answerCrane c (some q.id) h.reference .released s with
        grid := { s.grid with queue := s.grid.queue.filter (fun x => x.crane != c) }
        due := { s.due with gridEval := true } }))
    ∧ (crane = Crane.number c → (∀ g, s.grid.grant = some g → g.crane ≠ c) →
      (∀ q ∈ s.grid.queue, q.crane ≠ c) → done = .next (finish s)))
  ∧ (∀ (n : Nat) (s : State), s.power = true →
    let done := exec (.grantTimeout n) s
    let t := elapse n s
    (∀ g left, s.ret.mode ≠ .retain → s.grid.grant = some g → g.phase = .active left → left ≤ n →
      s.sensors.gp.taken = true →
      done = .next (finish { t with grid := { s.grid with grant := some { g with phase := .overdue } } }))
    ∧ (∀ g left, s.ret.mode ≠ .retain → s.grid.grant = some g → g.phase = .active left → left ≤ n →
      s.sensors.gp.taken = false →
      ∃ u, done = .next (finish u) ∧ u.grid = { s.grid with grant := none }
        ∧ u.arb = { s.arb with gridHold := none }
        ∧ u.tracker = { s.tracker with unidentified := false }
        ∧ u.links = (answerCrane g.crane (some g.id) g.reference .withdrawnTimeout s).links
        ∧ u.seqs = t.seqs ∧ u.maps = s.maps ∧ u.schedule = s.schedule ∧ u.cfg = s.cfg)
    ∧ ((s.ret.mode = .retain ∨ s.grid.grant = none
        ∨ (∃ g, s.grid.grant = some g ∧ (g.phase = .overdue ∨ ∃ left, g.phase = .active left ∧ n < left))) →
      done = .next t)))
  ∧ ((∀ s : State, s.zoneTaken = true ↔ ∃ g, s.cfg.tableGeometry = some g
    ∧ ∃ r ∈ s.tracker.table, r.tail s.travel ≤ g.xGE ∧ g.xGS ≤ r.anchor + s.travel)
  ∧ (
    let marked := fun (t : State) => { t with due := { t.due with tableRule := true, gridEval := true } }
    let flagged := fun (v : Bool) (t : State) => { t with tracker := { t.tracker with unidentified := v } }
    let rises := fun (done : Host.Outcome State Fault Refusal) (t : State) (travel : Int) =>
      (t.zoneTaken = true → done = .next (finish (marked (flagged false t))))
      ∧ (t.zoneTaken = false → t.grid.grant = none → t.tracker.unidentified = false →
        done = .next (finish (marked (raise (.unidentifiedOnGrid travel) (flagged true t)))))
      ∧ (t.zoneTaken = false → (t.grid.grant.isSome = true ∨ t.tracker.unidentified = true) →
        done = .next (finish (marked t)))
    let falls := fun (done : Host.Outcome State Fault Refusal) (t : State) (travel : Int) =>
      ((∀ g, t.grid.grant = some g → g.phase ≠ .overdue) →
        done = .next (finish (marked (flagged false t))))
      ∧ (∀ g, t.grid.grant = some g → g.phase = .overdue →
        done = .next (finish (raise (.unidentifiedAfterGrant g.crane g.id travel)
          (marked { answerCrane g.crane (some g.id) g.reference .withdrawnTimeout (flagged false t) with
            grid := { t.grid with grant := none }
            arb := { t.arb with gridHold := none } }))))
    (∀ s : State, s.power = true → (s.cfg.sensorSetup.get .gp).filterTime = 0 →
      let inv := (s.cfg.sensorSetup.get .gp).invert
      let shown := fun (level : Bool) => { s with
        sensors := s.sensors.set .gp
          { electrical := level != inv, taken := level, pending := none, latest := s.counters.t.acc
            previous := (s.sensors.get .gp).latest } }
      (s.sensors.gp.taken = false → s.sensors.gp.electrical = inv →
        rises (exec (.rawTransition .gp (!inv)) s) (shown true) s.travel)
      ∧ (s.sensors.gp.taken = true → s.sensors.gp.electrical = (!inv) →
        falls (exec (.rawTransition .gp inv) s) (shown false) s.travel))
    ∧ (∀ (n : Nat) (p : PendingChange) (s : State), s.power = true →
      (s.sensors.get .gp).pending = some p → (s.cfg.sensorSetup.get .gp).filterTime ≤ p.held + n →
      let t := elapse n s
      let shown := { t with sensors := t.sensors.set .gp { t.sensors.get .gp with
        taken := p.level, pending := none, latest := p.capture, previous := (t.sensors.get .gp).latest } }
      let done := exec (.filterTimeElapsed .gp n) s
      (p.level = true → rises done shown (roundMm p.capture))
      ∧ (p.level = false → falls done shown (roundMm p.capture)))))

/-- R127, R128, R88, R118, R129: an observed DEPOSIT_REPORT. A refusal answers its outcome and raises
DEPOSIT_REFUSED; an accepted deposit appends a matched record with its head at X_G, in the state that R120 gives
it, raises SLAB_READY or SLAB_HELD, ends the grant and answers ACCEPTED with the tag, state and destination. The
DEPOSIT_ACK carries the crane number of the source's role (log 23) and goes before the next GRANTED or
TABLE_MOVE of the same event (log 5); both are the model's choices. -/
def Obligations.DepositReport : Prop :=
  ∀ (h : Hdr) (crane : Nat) (id : Identity) (w th mass : Int) (c : Crane) (s : State),
    FieldObserved s Kind.depositReport h (.crane c) →
    let done := exec (.depositReport h crane id w th mass) s
    let copy := forwardTo (otherPort h.port) (.depositReport h crane id w th mass) s
    let holder := ∃ g, s.grid.grant = some g ∧ g.crane = c
    let refused := fun o => (.next (finish (raise (.depositRefused crane id o)
      (sendField (.crane c) h.reference (.depositAck c id o 0 none none) copy))) :
      Host.Outcome State Fault Refusal)
    (¬ holder → done = refused .notGranted)
    ∧ (holder → idRulesOk id = false → done = refused .illegalId)
    ∧ (holder → idRulesOk id = true → s.idHeld id = true → done = refused .duplicateId)
    ∧ (∀ g, holder → idRulesOk id = true → s.idHeld id = false → s.cfg.tableGeometry = some g →
      ∃ u r, done = .next (finish u)
        ∧ u.tracker.table = s.tracker.table ++ [r]
        ∧ r.tag = s.freshTag ∧ u.tracker.nextTag = nextTagAfter s.freshTag
        ∧ r.id = id ∧ r.anchor + s.travel = g.xG ∧ r.measured = none
        ∧ r.width = (if 800 ≤ w ∧ w ≤ 2800 then some w else none)
        ∧ r.thickness = (if 100 ≤ th ∧ th ≤ 500 then some th else none)
        ∧ r.mass = (if 1 ≤ mass ∧ mass ≤ 200000 then some mass else none)
        ∧ r.seenMS = false ∧ r.seenD1 = false ∧ r.seenD2 = false ∧ r.substituted = false
        ∧ ((∀ e ∈ s.schedule, e.id = id → e.state ≠ .planned) →
            r.link = none ∧ r.dest = none ∧ r.state = .held .unscheduled ∧ u.schedule = s.schedule)
        ∧ (∀ e, s.schedule.find? (fun e => e.id == id && e.state == .planned) = some e →
            r.link = some e.seq ∧ r.group = some e.group
              ∧ r.nominals = some ⟨e.width, e.length, e.thickness⟩ ∧ MatchedTo s e r
              ∧ u.schedule = s.schedule.map (fun x =>
                if x.seq = e.seq then { x with state := .deposited r.tag } else x))
        ∧ (g.xGS ≤ g.xG → g.xG ≤ g.xGE → 0 ≤ r.assumed →
          let created := match r.state with
            | .held cause => Event.slabHeld r.tag r.id (some cause) none g.xG
            | _ => .slabReady r.tag r.id r.dest
          u.tracker.unidentified = false
          ∧ u.links = (sendField (.crane c) h.reference
              (.depositAck c id .accepted r.tag (some r.state) r.dest)
            (raise created copy)).links)
        ∧ u.grid = { s.grid with grant := none } ∧ u.arb = { s.arb with gridHold := none }
        ∧ u.seqs = s.seqs ∧ u.maps = s.maps ∧ u.cfg = s.cfg ∧ u.mgmt = s.mgmt
        ∧ u.counters = s.counters ∧ u.sensors = s.sensors)

/-- R114 to R117: SCHEDULE_EDIT is taken whole or not at all: each operation is made against the schedule as
those before it leave it, and one that fails leaves the schedule, its code, its index and the latch. APPEND,
INSERT, DELETE and MODIFY write what their rules give, and each is refused by the codes of its rule in the order
of its checks. The model's choices: the latch record of a wrong count or form (log 31); the sequence number 0 is
outside the range, not missing (log 38); which characters an identity may hold (log 28). -/
def Obligations.ScheduleEdit : Prop :=
  (∀ (h : Hdr) (s : State), Managed s h → s.mgmt.latch = none →
    let accepted := fun (l : List ScheduleEntry) => (.next (finish
      { respond h Kind.scheduleEdit .ok none (.scheduleCounts l.length
          (l.filter fun e => e.state == .planned).length) s with
        schedule := l
        due := { s.due with gridEval := true } }) : Host.Outcome State Fault Refusal)
    (∀ ops, formFits (.scheduleEdit h ops) = true → ops ≠ [] → ops.length ≤ 8 →
      (∀ l, scheduleOps s.idHeld 0 ops s.schedule = .ok l → exec (.scheduleEdit h ops) s = accepted l)
      ∧ (∀ code i, scheduleOps s.idHeld 0 ops s.schedule = .error (code, i) →
        exec (.scheduleEdit h ops) s = .next (refuseAndLatch h Kind.scheduleEdit
          (.schedule (ops[i]?.map SchedOp.code)) code (some i) s)))
    ∧ (∀ ops, formFits (.scheduleEdit h ops) = true → ops = [] ∨ 8 < ops.length →
      exec (.scheduleEdit h ops) s =
        .next (refuseAndLatch h Kind.scheduleEdit (.schedule none) .outOfRange (some 0) s))
    ∧ (∀ (e : ScheduleEntry), ScheduleInOrder s → 1 ≤ e.seq → e.seq ≤ 65535 → idRulesOk e.id = true →
      e.group ≤ 15 → 800 ≤ e.width → e.width ≤ 2800 → 1500 ≤ e.length → e.length ≤ 12000 →
      100 ≤ e.thickness → e.thickness ≤ 500 → e.state = .planned → (∀ x ∈ s.schedule, x.id ≠ e.id) →
      s.idHeld e.id = false → s.schedule.length < 256 →
      let append := Instr.scheduleEdit h [.append e.seq e.id (some (.val e.dest)) (some e.group)
        (some e.width) (some e.length) (some e.thickness)]
      let insert := Instr.scheduleEdit h [.insert e.seq e.id (some (.val e.dest)) (some e.group)
        (some e.width) (some e.length) (some e.thickness)]
      (formFits append = true → (∀ x ∈ s.schedule, x.seq < e.seq) →
        exec append s = accepted (s.schedule ++ [e]))
      ∧ (∀ pre post, formFits insert = true → s.schedule = pre ++ post → (∀ x ∈ pre, x.seq < e.seq) →
        (∀ x ∈ post, e.seq < x.seq) → exec insert s = accepted (pre ++ e :: post)))
    ∧ (∀ (e : ScheduleEntry) pre post, ScheduleInOrder s → 1 ≤ e.seq → e.seq ≤ 65535 →
      s.schedule = pre ++ e :: post → e.state = .planned →
      (formFits (.scheduleEdit h [.delete e.seq]) = true →
        exec (.scheduleEdit h [.delete e.seq]) s = accepted (pre ++ post))
      ∧ (∀ (dest : Option SchedDest) (grp : Option Nat) (w l th : Option Int),
        (∀ x ∈ grp, x ≤ 15) → (∀ x ∈ w, 800 ≤ x ∧ x ≤ 2800) → (∀ x ∈ l, 1500 ≤ x ∧ x ≤ 12000) →
        (∀ x ∈ th, 100 ≤ x ∧ x ≤ 500) →
        ¬ (dest = none ∧ grp = none ∧ w = none ∧ l = none ∧ th = none) →
        formFits (.scheduleEdit h [.modify e.seq (dest.map .val) grp w l th]) = true →
        exec (.scheduleEdit h [.modify e.seq (dest.map .val) grp w l th]) s = accepted (pre ++
          { e with dest := dest.getD e.dest, group := grp.getD e.group, width := w.getD e.width
                   length := l.getD e.length, thickness := th.getD e.thickness } :: post))))
  ∧ (∀ (h : Hdr) (s : State), Managed s h → s.mgmt.latch = none →
    let refused := fun (op : SchedOp) (oc : SchedOpCode) (c : RespCode) =>
      formFits (.scheduleEdit h [op]) = true → exec (.scheduleEdit h [op]) s = OperationRefused h oc c s
    let numbered := fun (n : Nat) => 1 ≤ n ∧ n ≤ 65535
    let coded := fun (d : Option (Code SchedDest)) => ∀ raw, d = some (.bad raw) → raw = 255
    let ranged := fun (g : Option Nat) (w l t : Option Int) => (∀ x ∈ g, x = 255 ∨ x ≤ 15)
      ∧ (∀ x ∈ w, x = absentFigure ∨ (800 ≤ x ∧ x ≤ 2800))
      ∧ (∀ x ∈ l, x = absentFigure ∨ (1500 ≤ x ∧ x ≤ 12000))
      ∧ (∀ x ∈ t, x = absentFigure ∨ (100 ≤ x ∧ x ≤ 500))
    let leftOut := fun (x : Option Int) => x = none ∨ x = some absentFigure
    let noGroup := fun (g : Option Nat) => g = none ∨ g = some 255
    let noDest := fun (d : Option (Code SchedDest)) => d = none ∨ d = some (.bad 255)
    (∀ raw, refused (.badCode raw) (.other raw) .illegalValue)
    ∧ (∀ n id d g w l t,
      let both := fun c => refused (.append n id d g w l t) .append c ∧ refused (.insert n id d g w l t) .insert c
      (¬ numbered n → both .outOfRange)
      ∧ (numbered n → idRulesOk id = false → both .illegalValue)
      ∧ (numbered n → idRulesOk id = true → ¬ coded d → both .illegalValue)
      ∧ (numbered n → idRulesOk id = true → coded d → ¬ ranged g w l t → both .outOfRange)
      ∧ (numbered n → idRulesOk id = true → coded d → ranged g w l t →
        (noDest d ∨ noGroup g ∨ leftOut w ∨ leftOut l ∨ leftOut t) → both .illegalValue))
    ∧ (∀ e : ScheduleEntry, numbered e.seq → idRulesOk e.id = true → e.group ≤ 15 → 800 ≤ e.width →
      e.width ≤ 2800 → 1500 ≤ e.length → e.length ≤ 12000 → 100 ≤ e.thickness → e.thickness ≤ 500 →
      let append := refused (.append e.seq e.id (some (.val e.dest)) (some e.group) (some e.width)
        (some e.length) (some e.thickness)) .append
      let insert := refused (.insert e.seq e.id (some (.val e.dest)) (some e.group) (some e.width)
        (some e.length) (some e.thickness)) .insert
      let last := ∀ x ∈ s.schedule.getLast?, x.seq < e.seq
      let fresh := ∀ x ∈ s.schedule, x.seq ≠ e.seq
      let held := (∃ x ∈ s.schedule, x.id = e.id) ∨ s.idHeld e.id = true
      (¬ last → append .illegalValue) ∧ (¬ fresh → insert .duplicate)
      ∧ (last → held → append .duplicate) ∧ (fresh → held → insert .duplicate)
      ∧ (last → ¬ held → 256 ≤ s.schedule.length → append .scheduleFull)
      ∧ (fresh → ¬ held → 256 ≤ s.schedule.length → insert .scheduleFull))
    ∧ (∀ n,
      let delete := refused (.delete n) .delete
      let unknown := ∀ x ∈ s.schedule, x.seq ≠ n
      let deposited := ∃ e, s.schedule.find? (fun e => e.seq == n) = some e ∧ e.state ≠ .planned
      (¬ numbered n → delete .outOfRange) ∧ (numbered n → unknown → delete .unknownTag)
      ∧ (numbered n → deposited → delete .busy)
      ∧ ∀ d g w l t,
        let modify := refused (.modify n d g w l t) .modify
        (¬ numbered n → modify .outOfRange)
        ∧ (numbered n → ¬ coded d → modify .illegalValue)
        ∧ (numbered n → coded d → ¬ ranged g w l t → modify .outOfRange)
        ∧ (numbered n → coded d → ranged g w l t → unknown → modify .unknownTag)
        ∧ (numbered n → coded d → ranged g w l t → deposited → modify .busy)
        ∧ (∀ e, numbered n → s.schedule.find? (fun e => e.seq == n) = some e → e.state = .planned →
          noDest d → noGroup g → leftOut w → leftOut l → leftOut t → modify .illegalValue)))

/-! ## Telegrams and links (chapter 8), holds and the latch -/

/-- R180 to R182, R102, R183: a passing MANUAL_TABLE_MOVE or MANUAL_STROKE under its guard. The first check that
fails blocks it with its reason; otherwise it is forwarded, and a manual table move makes the table MANUAL. A
port that is DOWN has no place (log 11). -/
def Obligations.GuardedTelegrams : Prop :=
  ∀ (h : Hdr) (payload : List Byte) (s : State), Received s h → s.links.station ≠ some h.dest →
    let port := otherPort h.port
    let place := (s.links.port port).up = true ∧ (s.links.port port).queue.length < 20
    let blocked := fun kind reason t => (.next (sendOwn h.port h.source h.reference
      (.blocked kind h.dest reason) t) : Host.Outcome State Fault Refusal)
    let overrun := { s with
      links := s.links.setPort port { s.links.port port with linkOverrun := true } }
    (actionOf s.cfg.passage Kind.manualTableMove = .guardTable →
      let done := exec (.manualTableMove h payload) s
      let kind := Kind.manualTableMove
      let toDrive := s.cfg.partners.map (·.tableDrive) = some h.dest
      let free := s.arb.motion = .still ∧ s.arb.holds.f1 = false ∧ s.arb.holds.f2 = false
        ∧ s.arb.gridHold = none
      (¬ toDrive → done = blocked kind .notGuardedRole s)
      ∧ (toDrive → ¬ place → done = blocked kind .queueFull overrun)
      ∧ (toDrive → place → ¬ free → done = blocked kind (.tableBusy s.arb.motion
          (s.arb.holds.f1 || s.arb.holds.f2) s.arb.gridHold.isSome) s)
      ∧ (toDrive → place → free → done = .next (finish
          { forwardTo port (.manualTableMove h payload) s with
            arb := { s.arb with motion := .manual } })))
    ∧ (actionOf s.cfg.passage Kind.manualStroke = .guardStroke →
      let done := exec (.manualStroke h payload) s
      let kind := Kind.manualStroke
      let toBeam := fun k => ∃ p, s.cfg.partners = some p
        ∧ ((k = Furnace.f1 ∧ p.beam1 = h.dest) ∨ (k = .f2 ∧ p.beam1 ≠ h.dest ∧ p.beam2 = h.dest))
      let charging := fun k => (s.seqs.get k).state = .carry ∨ (s.seqs.get k).state = .lower
        ∨ (s.seqs.get k).state = .retract
      ((∀ k, ¬ toBeam k) → done = blocked kind .notGuardedRole s)
      ∧ (∀ k, toBeam k → charging k → done = blocked kind (.charging k (s.seqs.get k).state) s)
      ∧ (∀ k, toBeam k → ¬ charging k → ¬ place → done = blocked kind .queueFull overrun)
      ∧ (∀ k, toBeam k → ¬ charging k → place →
        done = .next (forwardTo port (.manualStroke h payload) s)))

/-- R169, R170, R175, R176, R178, R179: a frame whose check fails is dropped; a frame of another type goes to the
other port; a malformed telegram, and one addressed to the part of a kind it does not take, are discarded with
STRAY_TELEGRAM; a management telegram from the yard is answered NOT_FROM_YARD; a passing telegram is forwarded
or dropped by the action of its kind, which is that of the kind's entry, and FORWARD without one. R174, R177: the
role a field telegram comes from, or WRONG_PORT or NO_PARTNER. R171, R177, R179: a telegram of a field kind taken
that does not come from its role, or fails in format, is discarded with STRAY_TELEGRAM; an observed one is
forwarded and not acted on, with STRAY_TELEGRAM behind the copy; of the two reasons that of the role goes first
(log 10, the model's choice), and a STROKE_REPORT without its length fails in format (log 38, the model's
choice). -/
def Obligations.TelegramsByForm : Prop :=
  (∀ (p : Port) (s : State), exec (.frameCheckFailed p) s = .next s)
  ∧ (∀ (p : Port) (dst src : BitVec 48) (type : BitVec 16) (bytes : List Byte) (s : State),
    s.power = true → exec (.forwardedFrame p dst src type bytes) s =
      .next (if (s.links.port p).up = true then
        forwardTo (otherPort p) (.forwardedFrame p dst src type bytes) s else s))
  ∧ (∀ (t : RawTel) (s : State), s.power = true → (s.links.port t.hdr.port).up = true →
    (120 < t.hdr.length ∨ t.hdr.truncated = true ∨ t.hdr.source = 63
      ∨ s.links.station = some t.hdr.source) →
    exec (.malformedTelegram t) s = .next (raise (.strayTelegram t.hdr.port t.hdr.source t.hdr.dest
      t.kind .malformed) s))
  ∧ (∀ (t : RawTel) (s : State), Received s t.hdr → s.links.station = some t.hdr.dest →
    (t.kind < 0x61 ∨ 0x67 < t.kind) →
    t.kind ∉ [Kind.gridRequest, Kind.gridRelease, Kind.tableReport, Kind.chargerReport] →
    exec (.wrongKindTelegram t) s = .next (raise (.strayTelegram t.hdr.port t.hdr.source t.hdr.dest
      t.kind .wrongKind) s))
  ∧ (∀ (t : RawTel) (s : State), Received s t.hdr → s.links.station = some t.hdr.dest →
    t.hdr.port = .yard → 0x61 ≤ t.kind → t.kind ≤ 0x67 →
    exec (.notFromYard t) s = .next (sendOwn .yard t.hdr.source t.hdr.reference
      (.response t.kind .notFromYard none .none) s))
  ∧ (∀ (t : RawTel) (s : State), Received s t.hdr → s.links.station ≠ some t.hdr.dest →
    (actionOf s.cfg.passage t.kind = .forward →
      exec (.passingTelegram t) s = .next (forwardTo (otherPort t.hdr.port) (.passingTelegram t) s))
    ∧ (actionOf s.cfg.passage t.kind = .drop → exec (.passingTelegram t) s = .next s))
  ∧ (∀ (table : List (Option (Nat × Action))) (kind : Nat),
    (∀ pre a post, table = pre ++ some (kind, a) :: post → (∀ a', some (kind, a') ∉ pre) →
      actionOf table kind = a)
    ∧ ((∀ a, some (kind, a) ∉ table) → actionOf table kind = .forward))
  ∧ (∀ (kind : Nat) (h : Hdr) (s : State),
    (s.cfg.partners = none → roleOf s kind h = .error .noPartner)
    ∧ (∀ ps, s.cfg.partners = some ps →
      let among := fun (roles : List (Nat × Role)) =>
        (∀ pre x post, roles = pre ++ x :: post → x.1 = h.source → (∀ y ∈ pre, y.1 ≠ h.source) →
          (h.port = .yard → roleOf s kind h = .ok x.2)
          ∧ (h.port = .plant → roleOf s kind h = .error .wrongPort))
        ∧ ((∀ x ∈ roles, x.1 ≠ h.source) → roleOf s kind h = .error .noPartner)
      (kind ∈ [Kind.gridRequest, Kind.gridRelease, Kind.depositReport, Kind.removalReport] →
        among [(ps.crane1, .crane .one), (ps.crane2, .crane .two), (ps.crane3, .crane .three)])
      ∧ (kind = Kind.tableReport → among [(ps.tableDrive, .tableDrive)])
      ∧ (kind = Kind.chargerReport → among [(ps.charger1, .charger .f1), (ps.charger2, .charger .f2)])
      ∧ (kind = Kind.strokeReport → among [(ps.beam1, .beam .f1), (ps.beam2, .beam .f2)])
      ∧ (kind = Kind.dischargeReport →
        among [(ps.discharge1, .discharge .f1), (ps.discharge2, .discharge .f2)])))
  ∧ (∀ (h : Hdr) (crane tag fault number count raw : Nat) (id id' : Identity) (w th mass x : Int)
    (o : Code MoveOutcome) (body : RawBody) (s : State), Received s h →
    let stray := fun (kind : Nat) (reason : StrayReason) (t : State) =>
      (.next (raise (.strayTelegram h.port h.source h.dest kind reason) t) : Host.Outcome State Fault Refusal)
    let taken := [(Instr.gridRequest h crane id, Kind.gridRequest), (.gridRelease h crane, Kind.gridRelease),
      (.tableReport h number o fault, Kind.tableReport), (.lifted h tag fault, Kind.chargerReport),
      (.atDepth h tag fault, Kind.chargerReport), (.lowered h tag fault, Kind.chargerReport),
      (.retracted h tag fault, Kind.chargerReport), (.chargerReportRefused h tag fault, Kind.chargerReport),
      (.chargerReportFault h tag fault, Kind.chargerReport)]
    let observed := [(Instr.depositReport h crane id w th mass, Kind.depositReport),
      (.removalReport h crane id, Kind.removalReport), (.strokeReport h x, Kind.strokeReport),
      (.dischargeReport h count id id', Kind.dischargeReport)]
    (s.links.station = some h.dest →
      (∀ i kind reason, (i, kind) ∈ taken → roleOf s kind h = .error reason → exec i s = stray kind reason s)
      ∧ (∀ i kind r, (i, kind) ∈ taken → roleOf s kind h = .ok r → fieldLength kind ≠ some h.length →
        exec i s = stray kind .format s)
      ∧ (∀ r, roleOf s Kind.tableReport h = .ok r →
        exec (.tableReport h number (.bad raw) fault) s = stray Kind.tableReport .format s)
      ∧ (∀ kind ∈ [Kind.gridRequest, Kind.gridRelease, Kind.tableReport, Kind.chargerReport],
        let formless := exec (.malformedTelegram ⟨h, kind, body⟩) s
        (∀ reason, roleOf s kind h = .error reason → formless = stray kind reason s)
        ∧ (∀ r, roleOf s kind h = .ok r → formless = stray kind .format s))
      ∧ (∀ i kind, (i, kind) ∈ observed → exec i s = stray kind .wrongKind s))
    ∧ (s.links.station ≠ some h.dest →
      let copy := fun (i : Instr) => forwardTo (otherPort h.port) i s
      (∀ i kind reason, (i, kind) ∈ observed → actionOf s.cfg.passage kind = .observe →
        roleOf s kind h = .error reason → exec i s = stray kind reason (copy i))
      ∧ (∀ i kind r, (i, kind) ∈ observed → actionOf s.cfg.passage kind = .observe →
        roleOf s kind h = .ok r → fieldLength kind ≠ some h.length →
        exec i s = stray kind .format (copy i))
      ∧ (∀ r, actionOf s.cfg.passage Kind.strokeReport = .observe → roleOf s Kind.strokeReport h = .ok r →
        exec (.strokeReport h absentFigure) s =
          stray Kind.strokeReport .format (copy (.strokeReport h absentFigure)))
      ∧ (∀ kind, actionOf s.cfg.passage kind = .observe →
        let i := Instr.passingTelegram ⟨h, kind, body⟩
        (∀ reason, roleOf s kind h = .error reason → exec i s = stray kind reason (copy i))
        ∧ (∀ r, roleOf s kind h = .ok r → exec i s = stray kind .format (copy i)))
      ∧ (∀ i kind, (i, kind) ∈ taken ++ observed →
        (actionOf s.cfg.passage kind = .forward → exec i s = .next (copy i))
        ∧ (actionOf s.cfg.passage kind = .drop → exec i s = .next s))))

/-- R183, R184: a forwarded frame takes a place while fewer than 20 are used, or sets LINK_OVERRUN; a port sends
its oldest frame first; a port that loses its link goes DOWN and empties its queue into the flags of what it
held; one that gains its link comes UP and starts empty. In RETAIN a port stays DOWN and its link alone is taken
(R186, log 24). -/
def Obligations.PortsAndQueues : Prop :=
  ∀ (p : Port) (s : State),
    (∀ c, forwardTo p c s = { s with
      links := s.links.setPort p
        (if (s.links.port p).up = true ∧ (s.links.port p).queue.length < 20 then
          { s.links.port p with queue := (s.links.port p).queue ++ [.forwarded c] }
        else { s.links.port p with linkOverrun := true }) })
    ∧ (s.power = true → exec (.frameSent p) s = .next { s with
      links := s.links.setPort p { s.links.port p with queue := (s.links.port p).queue.tail } })
    ∧ (s.power = true → (s.links.port p).up = true → exec (.portDown p) s = .next { s with
      links := s.links.setPort p
        { link := false, up := false, queue := []
          linkOverrun := (s.links.port p).linkOverrun
            || (s.links.port p).queue.any fun f => match f with | .forwarded _ => true | .own _ => false
          ownDiscarded := (s.links.port p).ownDiscarded
            || (s.links.port p).queue.any fun f =>
              match f with | .forwarded _ => false | .own _ => true } })
    ∧ (s.power = true → (s.links.port p).up = false → exec (.portDown p) s = .next { s with
      links := s.links.setPort p { s.links.port p with link := false } })
    ∧ (s.power = false → exec (.portDown p) s = .next s ∧ exec (.portUp p) s = .next s)
    ∧ (s.power = true → (s.links.port p).up = false → s.ret.mode ≠ .retain →
      exec (.portUp p) s = .next { s with
        links := s.links.setPort p { s.links.port p with link := true, up := true, queue := [] } })
    ∧ (s.power = true → s.ret.mode = .retain → exec (.portUp p) s = .next { s with
      links := s.links.setPort p { s.links.port p with link := true } })
    ∧ ((s.links.port p).up = true → s.ret.mode ≠ .retain → exec (.portUp p) s = .next s)

/-- R46, R149, R185, R191: CLEAR_HOLDS clears the holds it selects: all of them, the four of a furnace or a set
of them, those of a counter or a set of them; its RESPONSE lists the selected holds that were set. A form,
selector or name that is none, a name of the other form and an empty set are refused ILLEGAL_VALUE. CLEAR_ERROR
clears the error latch, CLEAR_LINK both flags of each port it selects; each RESPONSE carries what was set, that
of CLEAR_LINK the flags of the selected ports, and it is placed before the flags are cleared (both are log 40's
choice). Nothing else changes. The order of the holds in a RESPONSE, F1, F2, T, C1, C2, is log 42's choice. -/
def Obligations.ClearCommands : Prop :=
  ∀ (h : Hdr) (s : State), Managed s h →
    let placement := [HoldName.substituted, .strokeBasis, .landingDeviation, .strokeDuringCharge]
    let counter := [HoldName.encoderError, .homeDeviation]
    (∀ sel : HoldSelection,
      let taken := match sel with
        | .all => True
        | .furnace (.val _) .all => True
        | .furnace (.val _) (.set l) => l ≠ [] ∧ ∀ n ∈ l, n ∈ placement
        | .counter (.val _) .all => True
        | .counter (.val _) (.set l) => l ≠ [] ∧ ∀ n ∈ l, n ∈ counter
        | _ => False
      let ofFurnace := fun (k : Furnace) (n : HoldName) => match sel with
        | .all => true
        | .furnace (.val x) .all => decide (x = k)
        | .furnace (.val x) (.set l) => decide (x = k) && l.contains n
        | _ => false
      let ofCounter := fun (c : CounterId) (n : HoldName) => match sel with
        | .all => true
        | .counter (.val x) .all => decide (x = c)
        | .counter (.val x) (.set l) => decide (x = c) && l.contains n
        | _ => false
      let isSet := fun (c : CounterId) (n : HoldName) => match n with
        | .encoderError => (s.counters.get c).encoderError
        | .homeDeviation => decide (c ≠ .t) && (s.counters.get c).homeDeviation
        | _ => false
      let cleared := (([Furnace.f1, .f2].flatMap fun k => placement.map fun n => (k, n)).filter fun x =>
            ofFurnace x.1 x.2 && (s.place.get x.1).holds.get x.2).map (fun x => ClearedHold.placement x.1 x.2)
        ++ (([CounterId.t, .c1, .c2].flatMap fun c => counter.map fun n => (c, n)).filter fun x =>
            ofCounter x.1 x.2 && isSet x.1 x.2).map (fun x => ClearedHold.counter x.1 x.2)
      let answered := respond h Kind.command .ok none (.clearedHolds cleared) s
      (formFits (.clearHolds h sel) = true → taken → ∃ u, exec (.clearHolds h sel) s = .next (finish u)
        ∧ u = { answered with place := u.place, counters := u.counters }
        ∧ (∀ k, (u.place.get k).lastStroke = (s.place.get k).lastStroke
          ∧ ∀ n ∈ placement, (u.place.get k).holds.get n = ((s.place.get k).holds.get n && !ofFurnace k n))
        ∧ (∀ c, u.counters.get c = { s.counters.get c with
            encoderError := (s.counters.get c).encoderError && !ofCounter c .encoderError
            homeDeviation := (s.counters.get c).homeDeviation && !ofCounter c .homeDeviation }))
      ∧ (¬ taken → exec (.clearHolds h sel) s =
        .next (respond h Kind.command .illegalValue none .none s)))
    ∧ (formFits (.clearError h) = true → exec (.clearError h) s = .next (finish
        { respond h Kind.command .ok none (.clearedLatch s.mgmt.latch) s with
          mgmt := { s.mgmt with latch := none } }))
    ∧ (∀ sel : LinkSelection,
      let answered := respond h Kind.command .ok none (.clearedFlags (flagsOf sel s.links)) s
      formFits (.clearLink h (.val sel)) = true → ∃ u, exec (.clearLink h (.val sel)) s = .next (finish u)
        ∧ u = { answered with links := u.links } ∧ u.links.station = s.links.station
        ∧ u.links.plant = (if sel = .yard then answered.links.plant else
            { answered.links.plant with linkOverrun := false, ownDiscarded := false })
        ∧ u.links.yard = (if sel = .plant then answered.links.yard else
            { answered.links.yard with linkOverrun := false, ownDiscarded := false }))
    ∧ (∀ raw, exec (.clearLink h (.bad raw)) s =
        .next (respond h Kind.command .illegalValue none .none s))

/-! ## Time, supervision and STATUS (chapters 9 and 10) -/

/-- R194, R195, R200: HEARTBEAT, the expiries of the supervision and status timers and the seconds clock (a
stale expiry lets the time pass: log 3); a HEARTBEAT with a payload is answered ILLEGAL_VALUE and has no effect
on supervision, one known by its bytes as one of the row HEARTBEAT (log 32). R195, R196, R25, R138, R149, R150, R111: the fixed header of a STATUS,
field by field, and the values of the 27 quantities as they stand when it is formed. -/
def Obligations.SupervisionStatusAndClock : Prop :=
  ((∀ (h : Hdr) (s : State), Managed s h →
    let answered := respond h Kind.heartbeat .ok none (.heartbeat s.ret.mode s.ret.startKind true) s
    let fresh := Supervision.ok s.cfg.settings.supervisionPeriod
      (1000 * s.cfg.settings.supervisionPeriod)
    (h.length = 0 → s.mgmt.supervision ≠ .lost → exec (.heartbeat h) s =
      .next { answered with mgmt := { s.mgmt with supervision := fresh } })
    ∧ (h.length = 0 → s.mgmt.supervision = .lost → exec (.heartbeat h) s = .next (finish
      { raise .supervisionOk { answered with mgmt := { s.mgmt with supervision := fresh } } with
        due := { s.due with start := ⟨true, true⟩, gridEval := true } }))
    ∧ (h.length ≠ 0 → exec (.heartbeat h) s =
      .next (respond h Kind.heartbeat .illegalValue none .none s))
    ∧ (∀ body, exec (.malformedTelegram ⟨h, Kind.heartbeat, body⟩) s = exec (.heartbeat h) s))
  ∧ (∀ (n : Nat) (s : State), s.power = true →
    let t := elapse n s
    (∀ period left, s.ret.mode ≠ .retain → s.mgmt.supervision = .ok period left → left ≤ n →
      exec (.supervisionTimeout n) s = .next (finish (raise (.supervisionLost period)
        { t with mgmt := { t.mgmt with supervision := .lost } })))
    ∧ ((s.ret.mode = .retain ∨ s.mgmt.supervision = .lost
        ∨ ∃ period left, s.mgmt.supervision = .ok period left ∧ n < left) →
      exec (.supervisionTimeout n) s = .next t)
    ∧ (∀ left, s.ret.mode ≠ .retain → s.mgmt.statusTimer = some left → left ≤ n →
      exec (.statusTimerExpiry n) s = .next
        { sendOwn .plant (match s.cfg.partners with | none => 63 | some ps => ps.scheduling) 0
            (.status t.statusHeader (s.cfg.statusMap.map fun q => word32 (t.quantity q))) t with
          mgmt := { t.mgmt with statusTimer := some s.cfg.settings.statusPeriod } })
    ∧ ((s.ret.mode = .retain ∨ s.mgmt.statusTimer = none
        ∨ ∃ left, s.mgmt.statusTimer = some left ∧ n < left) →
      exec (.statusTimerExpiry n) s = .next t)
    ∧ exec (.secondsClockStep n) s = .next { t with ret := { s.ret with clock := s.ret.clock + 1 } }))
  ∧ (∀ s : State,
    s.statusHeader =
      { mode := s.ret.mode, start := s.ret.startKind, backup := s.ret.backup
        heldCount := s.ret.held.length, overflow := s.ret.overflow
        supervisionOk := decide (s.mgmt.supervision ≠ .lost), latch := s.mgmt.latch
        seqs := ⟨⟨s.seqs.f1.state, s.seqs.f1.cause, s.seqs.f1.waiting⟩,
          ⟨s.seqs.f2.state, s.seqs.f2.cause, s.seqs.f2.waiting⟩⟩
        motion := s.arb.motion, chargerHolds := s.arb.holds, gridHold := s.arb.gridHold
        holder := s.grid.grant.map (·.crane)
        placementHolds := ⟨s.place.f1.holds, s.place.f2.holds⟩
        counterHolds := {
          tError := s.counters.t.encoderError
          c1Error := s.counters.c1.encoderError, c1Deviation := s.counters.c1.homeDeviation
          c2Error := s.counters.c2.encoderError, c2Deviation := s.counters.c2.homeDeviation }
        plantUp := s.links.plant.up, yardUp := s.links.yard.up
        flags := (if s.links.plant.linkOverrun then [.plantOverrun] else [])
          ++ (if s.links.plant.ownDiscarded then [.plantDiscarded] else [])
          ++ (if s.links.yard.linkOverrun then [.yardOverrun] else [])
          ++ (if s.links.yard.ownDiscarded then [.yardDiscarded] else [])
        lines := ⟨s.windows.f1.lines, s.windows.f2.lines⟩ }
    ∧ (let depth := fun (x : Counter) => if x.homed = true then roundMm x.acc else -2147483648
      let rows := fun (m : FurnaceMap) => (m.rows.length : Int)
      let slabs := fun (m : FurnaceMap) => rows m
        + (m.rows.filter fun r => match r.occ with | .ab .. => true | _ => false).length
      let first := fun (m : FurnaceMap) => match m.rows.head? with | none => 0 | some r => r.front
      let trailing := fun (m : FurnaceMap) => match m.rows.getLast? with
        | none => 0
        | some r => r.front - r.extent
      (List.range 27).map s.quantity = [0, roundMm s.counters.t.acc, depth s.counters.c1, depth s.counters.c2,
        s.counters.t.speed, s.counters.c1.speed, s.counters.c2.speed, s.counters.t.raw.toNat,
        s.counters.c1.raw.toNat, s.counters.c2.raw.toNat, rows s.maps.f1, rows s.maps.f2, slabs s.maps.f1,
        slabs s.maps.f2, s.maps.f1.lastLanding, s.maps.f2.lastLanding, first s.maps.f1, first s.maps.f2,
        trailing s.maps.f1, trailing s.maps.f2, s.tracker.table.length, s.schedule.length,
        (s.schedule.filter fun e => e.state == .planned).length, s.grid.queue.length, s.ret.clock.toNat,
        s.links.plant.queue.length, s.links.yard.queue.length]))

/-! ## Position counters and sensor inputs (chapter 6) -/

/-- R136, R137, R139: an encoder step. An illegal transition sets ENCODER_ERROR, and raises its HOLD_SET, with the
pairs before and after it, where the hold was clear and there alone. The raw count and the last direction change at a counted increment alone,
by one modulo 2^24 and to its direction; they do not follow a homing load, and are 0 and none after a cold start
and RESET_ALL. -/
def Obligations.EncoderStep : Prop :=
  (∀ (c : CounterId) (a b : Bool) (s : State), s.power = true →
    let x := s.counters.get c
    let setup := s.cfg.counterSetup.get c
    let illegal := x.phase.1 ≠ a ∧ x.phase.2 ≠ b
    let valid := x.phase ≠ (a, b) ∧ ¬ illegal
    let counted := match setup.multiplier with
      | .x4 => True
      | .x2 => x.phase.1 ≠ a
      | .x1 => x.phase.2 = false ∧ b = false
    let rises := (x.phase, (a, b)) ∈ [((false, false), (true, false)), ((true, false), (true, true)),
      ((true, true), (false, true)), ((false, true), (false, false))]
    let forward := if setup.invert = true then ¬ rises else rises
    ∃ t, exec (.encoderStep c a b) s = .next t
      ∧ (x.phase = (a, b) → t = finish s)
      ∧ (illegal → t.counters.get c = { x with phase := (a, b), encoderError := true })
      ∧ (illegal →
        let held := { s with
          counters := s.counters.set c { x with phase := (a, b), encoderError := true } }
        (x.encoderError = false → t = finish (raise (.holdSet (.encoderError c x.phase (a, b))) held))
        ∧ (x.encoderError = true → t = finish held))
      ∧ (valid → ¬ counted → t.counters.get c = { x with phase := (a, b) })
      ∧ (valid → counted → forward → t.counters.get c = { x with
          phase := (a, b)
          acc := x.acc + setup.scale
          raw := x.raw + 1
          lastDir := some .forward })
      ∧ (valid → counted → ¬ forward → t.counters.get c = { x with
          phase := (a, b)
          acc := x.acc - setup.scale
          raw := x.raw - 1
          lastDir := some .reverse })
      ∧ (∀ d, d ≠ c → t.counters.get d = s.counters.get d)
      ∧ t.maps = s.maps ∧ t.schedule = s.schedule ∧ t.cfg = s.cfg ∧ t.sensors = s.sensors
      ∧ t.mgmt = s.mgmt ∧ t.ret.mode = s.ret.mode)
  ∧ (∀ c d rising s t, exec (.markerEdge c rising) s = .next t →
    (t.counters.get d).raw = (s.counters.get d).raw
      ∧ (t.counters.get d).lastDir = (s.counters.get d).lastDir)
  ∧ (∀ i d s t, exec (.coldStart i) s = .next t →
    (t.counters.get d).raw = 0 ∧ (t.counters.get d).lastDir = none)
  ∧ (∀ h d s t, Managed s h → formFits (.resetAll h) = true → s.seqs.f1.state.chargeBusy = false →
    s.seqs.f2.state.chargeBusy = false → exec (.resetAll h) s = .next t →
    (t.counters.get d).raw = 0 ∧ (t.counters.get d).lastDir = none)

/-- R140, R141, R143: a qualifying marker edge homes a carriage counter or compares and reloads it; the gate's
start value takes the same step; a gate's end gives the speed. A gate with time left only lets the time pass
(log 3). -/
def Obligations.MarkerAndGate : Prop :=
  (∀ (k : Furnace) (rising : Bool) (s : State), s.power = true →
    let c := carriage k
    let x := s.counters.get c
    let setup := s.cfg.counterSetup.get c
    let home := setup.homePosition
    let fits := match setup.homeDirection with
      | .positive => x.lastDir = some .forward
      | .negative => x.lastDir = some .reverse
      | .either => True
    let qualifies := setup.markerUse = .home ∧ setup.edgeRising = rising ∧ fits
    let loaded := { x with acc := home * 1000, gateStart := x.gateStart + (home * 1000 - x.acc) }
    let d := roundMm x.acc - home
    (qualifies → x.homed = false → exec (.markerEdge c rising) s = .next (finish { s with
      counters := s.counters.set c { loaded with homed := true }
      due := { s.due with start := s.due.start.set k true } }))
    ∧ (qualifies → x.homed = true → mag d ≤ setup.homeTolerance →
      exec (.markerEdge c rising) s = .next (finish { s with
        counters := s.counters.set c { loaded with lastHomeDev := some d } }))
    ∧ (qualifies → x.homed = true → setup.homeTolerance < mag d →
      exec (.markerEdge c rising) s = .next (finish
        (raise (.holdSet (.homeDeviation c (roundMm x.acc) home d)) { s with
          counters := s.counters.set c { loaded with lastHomeDev := some d, homeDeviation := true } })))
    ∧ (¬ qualifies → exec (.markerEdge c rising) s = .next (finish s))
    ∧ exec (.markerEdge .t rising) s = .next (finish s))
  ∧ (∀ (c : CounterId) (n : Nat) (s : State), s.power = true →
    let t := elapse n s
    let x := t.counters.get c
    let period := (s.cfg.counterSetup.get c).gatePeriod
    ((s.counters.get c).gateLeft ≤ n → exec (.gateEnd c n) s = .next (finish { t with
      counters := t.counters.set c { x with
        speed := max (-9999) (min 9999 ((x.acc - x.gateStart).tdiv period))
        gateStart := x.acc
        gateLeft := period } }))
    ∧ (n < (s.counters.get c).gateLeft → exec (.gateEnd c n) s = .next t))

/-- R146, R147, R100: a raw transition begins, begins again or abandons a pending change, or is taken at once
with a filter time of 0; a change that has held for the filter time is taken: the taken level and the capture
pair move on. A rising edge at TE, taken by either command, raises TABLE_END with the edge's travel and, while
MOVING, sends TABLE_HALT; in RETAIN it does neither (log 15); a falling one does nothing more. FILTER_TIME_ELAPSED with no change, or one not held for the filter time, only lets the time
pass (log 3). -/
def Obligations.SensorTransitions : Prop :=
  (∀ (i : SensorId) (e : Bool) (s : State), s.power = true →
    let setup := s.cfg.sensorSetup.get i
    let x := s.sensors.get i
    let level := e != setup.invert
    let done := exec (.rawTransition i e) s
    (x.electrical = e → done = .next (finish s))
    ∧ (x.electrical ≠ e → level = x.taken → done = .next (finish { s with
      sensors := s.sensors.set i { x with electrical := e, pending := none } }))
    ∧ (x.electrical ≠ e → level ≠ x.taken → setup.filterTime ≠ 0 → done = .next (finish { s with
      sensors := s.sensors.set i { x with
        electrical := e
        pending := some { level, held := 0, capture := s.counters.t.acc, dir := s.counters.t.lastDir } } }))
    ∧ (x.electrical ≠ e → level ≠ x.taken → setup.filterTime = 0 → ∃ u, done = .next (finish u)
      ∧ u.sensors = s.sensors.set i
          { electrical := e, taken := level, pending := none
            latest := s.counters.t.acc, previous := x.latest }
      ∧ u.maps = s.maps ∧ u.schedule = s.schedule ∧ u.cfg = s.cfg ∧ u.counters = s.counters
      ∧ u.mgmt = s.mgmt))
  ∧ (∀ (i : SensorId) (n : Nat) (s : State), s.power = true →
    let t := elapse n s
    let x := t.sensors.get i
    (∀ p, (s.sensors.get i).pending = some p → (s.cfg.sensorSetup.get i).filterTime ≤ p.held + n →
      ∃ u, exec (.filterTimeElapsed i n) s = .next (finish u)
        ∧ u.sensors = t.sensors.set i { x with
            taken := p.level, pending := none, latest := p.capture, previous := x.latest }
        ∧ u.maps = s.maps ∧ u.schedule = s.schedule ∧ u.cfg = s.cfg ∧ u.counters = t.counters
        ∧ u.mgmt = t.mgmt)
    ∧ ((∀ p, (s.sensors.get i).pending = some p →
        p.held + n < (s.cfg.sensorSetup.get i).filterTime) →
      exec (.filterTimeElapsed i n) s = .next t))
  ∧ (
    let rises := fun (done : Host.Outcome State Fault Refusal) (u : State) (travel : Int) =>
      let raised := raise (.tableEnd travel u.arb.motion) u
      (u.ret.mode ≠ .retain → u.arb.motion = .still → done = .next (finish raised))
      ∧ (u.ret.mode ≠ .retain → u.arb.motion = .manual →
        done = .next (finish (sendField .tableDrive 0 (.tableHalt 0 .tableEnd) raised)))
      ∧ (∀ k n w, u.ret.mode ≠ .retain → u.arb.motion = .positioning k n w →
        done = .next (finish (sendField .tableDrive 0 (.tableHalt n .tableEnd) raised)))
      ∧ (u.ret.mode = .retain → done = .next (finish u))
    (∀ s : State, s.power = true → (s.cfg.sensorSetup.get .te).filterTime = 0 →
      let inv := (s.cfg.sensorSetup.get .te).invert
      let shown := fun (level : Bool) => { s with
        sensors := s.sensors.set .te
          { electrical := level != inv, taken := level, pending := none, latest := s.counters.t.acc
            previous := (s.sensors.get .te).latest } }
      ((s.sensors.get .te).taken = false → (s.sensors.get .te).electrical = inv →
        rises (exec (.rawTransition .te (!inv)) s) (shown true) s.travel)
      ∧ ((s.sensors.get .te).taken = true → (s.sensors.get .te).electrical = (!inv) →
        exec (.rawTransition .te inv) s = .next (finish (shown false))))
    ∧ (∀ (n : Nat) (p : PendingChange) (s : State), s.power = true →
      (s.sensors.get .te).pending = some p → (s.cfg.sensorSetup.get .te).filterTime ≤ p.held + n →
      let t := elapse n s
      let shown := { t with sensors := t.sensors.set .te { t.sensors.get .te with
        taken := p.level, pending := none, latest := p.capture, previous := (t.sensors.get .te).latest } }
      let done := exec (.filterTimeElapsed .te n) s
      (p.level = true → rises done shown (roundMm p.capture))
      ∧ (p.level = false → done = .next (finish shown))))

/-! ## Interlock window outputs (chapter 7) -/

/-- R153, R155, R156, R158, R160: the level of a line in each case; the windows that make it ON; the stopped
levels an entry into HELD fixes. -/
def Obligations.LineLevels : Prop :=
  (∀ (s : State) (k : Furnace) (j : Nat), j < 8 →
    let q := s.seqs.get k
    let cc := s.counters.get (carriage k)
    let level := (s.lineLevels k)[j]?
    let x := s.cfg.lineSettings.get k
    let listed := ((s.cfg.sets.get k)[8 * (match q.cycle with | none => 0 | some c => c.cls) + j]?).getD []
    let depth := roundMm cc.acc
    let shift := max (-x.maxAdvance) (min x.maxAdvance ((cc.speed * x.lead).tdiv 1000))
    (s.ret.mode ≠ .run → level = some false)
    ∧ (q.state = .offline → level = some false)
    ∧ (cc.homed = false → level = some false)
    ∧ (s.ret.mode = .run → cc.homed = true → q.state = .held → ∀ l, (s.windows.get k).stopped = some l →
      level = some (l.getD j false))
    ∧ (s.ret.mode = .run → cc.homed = true → q.state ≠ .offline → q.state ≠ .held →
      (level = some true ↔ ∃ i w b n, i ∈ listed ∧ s.cfg.pool[i]? = some (some w)
        ∧ (w.basis = .fixed → b = 0)
        ∧ (w.basis = .target → ∃ c, q.cycle = some c ∧ c.target = some b)
        ∧ b + w.on ≤ (if w.lead = true then depth + shift else depth)
        ∧ (if w.lead = true then depth + shift else depth) < b + w.off
        ∧ (w.speed = .still → mag cc.speed ≤ x.vStill)
        ∧ (w.speed = .slow → mag cc.speed ≤ x.vSlow)
        ∧ ([SeqState.idle, .positioning, .room, .pick, .carry, .lower, .retract])[n]? = some q.state
        ∧ w.mask.getLsbD n = true)))
  ∧ (∀ (k : Furnace) (cause : HeldCause) (fault : Option Nat) (s : State),
    ((enterHeld k cause fault s).windows.get k).stopped =
      some (if s.ret.mode = .restored then List.replicate 8 false
        else (List.range 8).map fun j =>
          match (s.cfg.lineSettings.get k).stops.getD j .off with
          | .off => false
          | .on => true
          | .retain => s.lineLevel k j))

/-! ## Supply, restore and resets (chapter 10) -/

/-- R199, R186, R134, R109, R161, R195: the loss of main supply. With the backup sense PRESENT the part enters
RETAIN: the ports go DOWN and empty without flags, grant, requests, holds and motion are dropped, the status
timer stops, the stopped levels of a HELD sequencer become OFF, and MODE_CHANGED is held; the grant's end
evaluates the unidentified presence flag, whose event is held behind it (R87); all else is kept. With it ABSENT,
and at the loss of backup supply in RETAIN, the part stops, and then takes COLD_START alone (log 17). Supply
events with no row in R199 change nothing (log 25). R202, R81, R85, R194: at the return each sequencer changes
state by its restore table, the slab of one in PICK is held with the cause TRACKING, supervision becomes LOST
(the period of its event: log 21), each port comes UP empty where its link stands (log 24), the events go to the
held list in R202's order, and a STATUS is formed at once. -/
def Obligations.SupplyLostAndReturns : Prop :=
  (∀ s : State,
    (s.power = true → s.ret.mode ≠ .retain → s.ret.backup = true →
      ∃ u, exec .mainSupplyLost s = .next (finish u)
        ∧ u.ret.mode = .retain ∧ u.ret.startKind = s.ret.startKind ∧ u.ret.clock = s.ret.clock
        ∧ u.ret.backup = true
        ∧ (s.ret.held.length < 16 → (s.ret.held
            ++ [⟨.modeChanged s.ret.mode .retain s.ret.startKind, s.ret.clock⟩]) <+: u.ret.held)
        ∧ u.links = { s.links with
            plant := { s.links.plant with up := false, queue := [] }
            yard := { s.links.yard with up := false, queue := [] } }
        ∧ u.grid = { s.grid with grant := none, queue := [] }
        ∧ u.arb = { Arbiter.cold with nextMove := s.arb.nextMove }
        ∧ u.mgmt = { s.mgmt with statusTimer := none }
        ∧ (∀ k, (s.seqs.get k).state = .held →
            (u.windows.get k).stopped = some (List.replicate 8 false))
        ∧ u.seqs = s.seqs ∧ u.maps = s.maps ∧ u.schedule = s.schedule ∧ u.cfg = s.cfg
        ∧ (let watched := s.grid.grant.isSome && s.sensors.gp.taken && !s.zoneTaken
          let told := raise (.modeChanged s.ret.mode .retain s.ret.startKind)
            { s with ret := { s.ret with mode := .retain } }
          u.tracker = { s.tracker with
            unidentified := if s.grid.grant.isSome then watched else s.tracker.unidentified }
          ∧ u.ret = (if (watched && !s.tracker.unidentified) = true then
              raise (.unidentifiedOnGrid s.travel) told else told).ret)
        ∧ u.place = s.place ∧ u.counters = s.counters ∧ u.sensors = s.sensors)
    ∧ (s.power = true → s.ret.mode ≠ .retain → s.ret.backup = false →
      ∃ t, exec .mainSupplyLost s = .next t ∧ t.power = false ∧ t.pending = s.pending)
    ∧ (s.power = true → s.ret.mode = .retain →
      ∃ t, exec .backupSupplyLost s = .next t ∧ t.power = false ∧ t.pending = s.pending)
    ∧ (s.ret.mode = .retain → exec .mainSupplyLost s = .next s)
    ∧ (s.ret.mode ≠ .retain → exec .backupSupplyLost s = .next s)
    ∧ (∀ b, s.power = true →
      exec (.backupSenseChange b) s = .next { s with ret := { s.ret with backup := b } })
    ∧ (∀ c, s.power = false → (∀ i, c ≠ .coldStart i) → exec c s = .next s))
  ∧ (∀ s : State, s.power = true →
    (s.ret.mode ≠ .retain → exec .mainSupplyReturns s = .next s)
    ∧ (s.ret.mode = .retain → ∃ u, exec .mainSupplyReturns s = .next (takeStatusExpiry (finish u))
      ∧ u.ret.mode = .restored ∧ u.ret.startKind = .restored ∧ u.ret.clock = s.ret.clock
      ∧ (s.ret.held.length < 16 →
          (s.ret.held ++ [⟨.modeChanged .retain .restored .restored, s.ret.clock⟩]) <+: u.ret.held)
      ∧ u.links = { s.links with
          plant := { s.links.plant with up := s.links.plant.link, queue := [] }
          yard := { s.links.yard with up := s.links.yard.link, queue := [] } }
      ∧ u.mgmt = { s.mgmt with supervision := .lost }
      ∧ (∀ k, ((s.seqs.get k).state = .offline ∨ (s.seqs.get k).state = .idle
            ∨ (s.seqs.get k).state = .held) → u.seqs.get k = s.seqs.get k)
      ∧ (∀ k, ((s.seqs.get k).state = .positioning ∨ (s.seqs.get k).state = .room) →
            IdleFrom (s.seqs.get k) (u.seqs.get k))
      ∧ (∀ k, ((s.seqs.get k).state = .pick ∨ (s.seqs.get k).state = .carry
            ∨ (s.seqs.get k).state = .lower) →
            HeldFrom .restored (s.seqs.get k) (u.seqs.get k)
              ∧ (u.windows.get k).stopped = some (List.replicate 8 false))
      ∧ (∀ k g, (s.seqs.get k).state = .retract → s.cfg.geometry.get k = some g →
            (s.depth k ≤ g.retractClear → IdleFrom (s.seqs.get k) (u.seqs.get k))
            ∧ (g.retractClear < s.depth k → HeldFrom .restored (s.seqs.get k) (u.seqs.get k)))
      ∧ (let picked := fun (k : Furnace) => if (s.seqs.get k).state = .pick then (s.seqs.get k).cycle else none
        u.tracker = { s.tracker with
          table := s.tracker.table.map fun r =>
            if (picked .f1).map (·.tag) = some r.tag ∨ (picked .f2).map (·.tag) = some r.tag then
              { r with state := .held .tracking } else r }
        ∧ ((∀ c1 ∈ picked .f1, ∀ c2 ∈ picked .f2, c1.tag ≠ c2.tag) →
          let stopped := fun (k : Furnace) => if (s.seqs.get k).state = .pick ∨ (s.seqs.get k).state = .carry
              ∨ (s.seqs.get k).state = .lower ∨ ((s.seqs.get k).state = .retract
                ∧ ∀ g, s.cfg.geometry.get k = some g → g.retractClear < s.depth k) then
            [Event.chargerHeld k .restored (s.seqs.get k).state ((s.seqs.get k).cycle.map (·.tag))
              ((s.seqs.get k).inflight.map fun _ => .uncertain) none] else []
          let restored := fun (k : Furnace) =>
            match (picked k).bind fun c => s.tracker.table.find? fun r => r.tag == c.tag with
            | some r => [Event.slabHeld r.tag r.id (some .tracking) (some r.state) (r.anchor + s.travel)]
            | none => []
          let lost := match s.mgmt.supervision with
            | .ok period _ => [Event.supervisionLost period]
            | .lost => []
          u.ret = (([Event.modeChanged .retain .restored .restored] ++ stopped .f1 ++ stopped .f2
              ++ restored .f1 ++ restored .f2 ++ lost).foldl (fun t e => raise e t)
            { s with ret := { s.ret with mode := .restored, startKind := .restored } }).ret))
      ∧ u.maps = s.maps ∧ u.schedule = s.schedule ∧ u.cfg = s.cfg ∧ u.place = s.place
      ∧ u.counters = s.counters ∧ u.sensors = s.sensors ∧ u.grid = s.grid))

/-- R203: RESUME in RESTORED answers with the number of held entries delivered and HELD_OVERFLOW as it stood,
sends the entries oldest first, empties the list, clears HELD_OVERFLOW and enters RUN with its occasions; in
another mode it is refused. R183, R203: the number is that of the entries that take a place in the plant queue
behind the RESPONSE, of 24 places; one that finds none is discarded and not counted (read from R203: log 43). A
full list of 16 is delivered whole, with MODE_CHANGED, where the queue holds at most 6 frames at the command. -/
def Obligations.Resume : Prop :=
  ∀ (h : Hdr) (s : State), Managed s h → formFits (.resume h) = true →
    (s.ret.mode ≠ .restored →
      exec (.resume h) s = .next (respond h Kind.command .wrongMode none .none s))
    ∧ (s.ret.mode = .restored →
      let queued := fun (t : State) => t.links.plant.queue.length
      let number := min s.ret.held.length (23 - queued s)
      let answered := respond h Kind.command .ok none (.resumed number s.ret.overflow) s
      let delivered := s.ret.held.foldl (fun t e => sendEvent e t) answered
      queued delivered = queued answered + number
      ∧ (number < s.ret.held.length → delivered.links.plant.ownDiscarded = true)
      ∧ (queued s ≤ 6 → s.ret.held.length = 16 → number = 16 ∧ queued delivered < 24)
      ∧ exec (.resume h) s = .next (finish
        { sendEvent ⟨.modeChanged .restored .run s.ret.startKind, s.ret.clock⟩ { delivered with
            ret := { s.ret with mode := .run, held := [], overflow := false } } with
          due := { s.due with start := ⟨true, true⟩, gridEval := true } }))

/-- R204, R205, R26, R45, R80, R108, R109, R113, R134, R149, R151, R167, R186, R198: the two resets are refused
BUSY during a charge; RESET_TRACKING empties the tracking state and keeps the rest; RESET_ALL gives every block
its cold values but for the ports, the station address and what the inputs show. Both queues stand as they are,
and behind them come the RESPONSE, the WITHDRAWN answers and the TABLE_HALT of the reset (their order: log 5);
RESET_ALL then clears the four link flags, and its MODE_CHANGED and the event of the grid watch are formed last
(log 41). -/
def Obligations.Resets : Prop :=
  ∀ (h : Hdr) (s : State), Managed s h → formFits (.resetTracking h) = true → formFits (.resetAll h) = true →
    let busy := ∃ k, (s.seqs.get k).state ∈ [SeqState.pick, .carry, .lower, .retract]
    let answered := respond h Kind.command .ok none .none s
    let holder := match s.grid.grant with
      | none => answered
      | some g => answerCrane g.crane (some g.id) g.reference .withdrawnReset answered
    let queued := (grantOrder s.schedule s.grid.queue).foldl
      (fun t q => answerCrane q.crane (some q.id) q.reference .withdrawnReset t) holder
    let sent := match s.arb.motion with
      | .still => queued
      | .positioning _ n _ => sendField .tableDrive 0 (.tableHalt n .reset) queued
      | .manual => sendField .tableDrive 0 (.tableHalt 0 .reset) queued
    (busy → exec (.resetTracking h) s = .next (respond h Kind.command .busy none .none s)
      ∧ exec (.resetAll h) s = .next (respond h Kind.command .busy none .none s))
    ∧ (¬ busy → ∃ u, exec (.resetTracking h) s = .next (finish u)
      ∧ u.maps = ⟨.empty, .empty⟩ ∧ u.seqs = ⟨.offline, .offline⟩
      ∧ u.tracker = { Tracker.cold with
          nextTag := s.tracker.nextTag
          unidentified := s.sensors.gp.taken }
      ∧ u.schedule = s.schedule.map (fun e => { e with state := .planned })
      ∧ u.grid = .cold ∧ u.arb = { Arbiter.cold with nextMove := s.arb.nextMove }
      ∧ u.place = ⟨.cold, .cold⟩
      ∧ (∀ c, u.counters.get c =
          { s.counters.get c with encoderError := false, homeDeviation := false })
      ∧ (∀ k, (u.windows.get k).stopped = none)
      ∧ u.cfg = s.cfg ∧ u.mgmt = s.mgmt ∧ u.sensors = s.sensors ∧ u.ret.mode = s.ret.mode
      ∧ u.ret.clock = s.ret.clock ∧ u.ret.startKind = s.ret.startKind
      ∧ s.ret.held <+: u.ret.held ∧ u.links.station = s.links.station
      ∧ (let told := if s.sensors.gp.taken = true then raise (.unidentifiedOnGrid s.travel) sent else sent
        u.links = told.links ∧ u.ret = told.ret))
    ∧ (¬ busy → ∃ u, exec (.resetAll h) s = .next (finish u)
      ∧ u.ret = { mode := .run, startKind := .cold, backup := s.ret.backup, clock := 0, held := []
                  overflow := false }
      ∧ u.cfg = .default ∧ u.mgmt = .cold ∧ u.schedule = [] ∧ u.grid = .cold ∧ u.arb = .cold
      ∧ u.tracker = { Tracker.cold with unidentified := s.sensors.gp.electrical }
      ∧ u.seqs = ⟨.offline, .offline⟩ ∧ u.place = ⟨.cold, .cold⟩ ∧ u.maps = ⟨.empty, .empty⟩
      ∧ (∀ c, u.counters.get c = Counter.cold (s.counters.get c).phase)
      ∧ (∀ i, u.sensors.get i = Sensor.cold (s.sensors.get i).electrical)
      ∧ u.windows = ⟨.cold, .cold⟩
      ∧ u.links.station = s.links.station ∧ u.links.plant.up = s.links.plant.up
      ∧ u.links.yard.up = s.links.yard.up
      ∧ (let clear := fun (p : PortState) => { p with linkOverrun := false, ownDiscarded := false }
        let cleared := { sent with
          cfg := .default, ret := u.ret
          links := { sent.links with plant := clear sent.links.plant, yard := clear sent.links.yard } }
        let changed := if s.ret.mode = .run then cleared else
          raise (.modeChanged s.ret.mode .run .cold) cleared
        let told := if s.sensors.gp.electrical = true then raise (.unidentifiedOnGrid 0) changed else changed
        u.links = told.links))

/-- R206, R173, R151, R186: COLD_START, in any state of the part, a running one included (log 17). The station
is that of the straps, or none with 63; every block takes its cold values with what the inputs show; nothing is
sent but, where GP shows presence, the event of the grid watch. -/
def Obligations.ColdStart : Prop :=
  ∀ (i : ColdInputs) (s : State), ∃ t, exec (.coldStart i) s = .next t
    ∧ t.pending = s.pending ∧ t.power = true
    ∧ t.ret = { mode := .run, startKind := .cold, backup := i.backup, clock := 0, held := []
                overflow := false }
    ∧ t.links.station = (if i.straps ≤ 62 then some i.straps else none)
    ∧ t.links.plant.up = i.plantLink ∧ t.links.yard.up = i.yardLink
    ∧ t.cfg = .default ∧ t.mgmt = .cold ∧ t.schedule = [] ∧ t.grid = .cold ∧ t.arb = .cold
    ∧ t.tracker = { Tracker.cold with unidentified := i.gp }
    ∧ t.seqs = ⟨.offline, .offline⟩ ∧ t.place = ⟨.cold, .cold⟩ ∧ t.maps = ⟨.empty, .empty⟩
    ∧ t.counters = ⟨.cold i.phaseT, .cold i.phaseC1, .cold i.phaseC2⟩
    ∧ t.sensors = ⟨.cold i.ms, .cold i.gp, .cold i.d1, .cold i.d2, .cold i.te⟩
    ∧ t.windows = ⟨.cold, .cold⟩ ∧ t.due = .none
    ∧ (i.gp = false → t.links.plant.queue = [] ∧ t.links.yard.queue = [] ∧ t.links.flags = [])
end

