-- ==== Sys2Proof/Laws/State.lean ====
section
/-! SUPPORT. One lemma for each field of State under each update of Machine/Ops.lean, true by rfl, so that
no proof unfolds a record update; and the access to one furnace, counter or sensor of a pair, triple or
quintuple after one of them is set. -/

namespace Sys2Proof.Machine

/-! ### setPending -/

@[simp] theorem State.setPending_pending (s : State) (v : List Instr) : (s.setPending v).pending = v := rfl
@[simp] theorem State.setPending_power (s : State) (v : List Instr) : (s.setPending v).power = s.power := rfl
@[simp] theorem State.setPending_ret (s : State) (v : List Instr) : (s.setPending v).ret = s.ret := rfl
@[simp] theorem State.setPending_cfg (s : State) (v : List Instr) : (s.setPending v).cfg = s.cfg := rfl
@[simp] theorem State.setPending_links (s : State) (v : List Instr) : (s.setPending v).links = s.links := rfl
@[simp] theorem State.setPending_mgmt (s : State) (v : List Instr) : (s.setPending v).mgmt = s.mgmt := rfl
@[simp] theorem State.setPending_schedule (s : State) (v : List Instr) : (s.setPending v).schedule = s.schedule := rfl
@[simp] theorem State.setPending_grid (s : State) (v : List Instr) : (s.setPending v).grid = s.grid := rfl
@[simp] theorem State.setPending_tracker (s : State) (v : List Instr) : (s.setPending v).tracker = s.tracker := rfl
@[simp] theorem State.setPending_arb (s : State) (v : List Instr) : (s.setPending v).arb = s.arb := rfl
@[simp] theorem State.setPending_seqs (s : State) (v : List Instr) : (s.setPending v).seqs = s.seqs := rfl
@[simp] theorem State.setPending_place (s : State) (v : List Instr) : (s.setPending v).place = s.place := rfl
@[simp] theorem State.setPending_maps (s : State) (v : List Instr) : (s.setPending v).maps = s.maps := rfl
@[simp] theorem State.setPending_counters (s : State) (v : List Instr) : (s.setPending v).counters = s.counters := rfl
@[simp] theorem State.setPending_sensors (s : State) (v : List Instr) : (s.setPending v).sensors = s.sensors := rfl
@[simp] theorem State.setPending_windows (s : State) (v : List Instr) : (s.setPending v).windows = s.windows := rfl
@[simp] theorem State.setPending_due (s : State) (v : List Instr) : (s.setPending v).due = s.due := rfl

/-! ### setRet -/

@[simp] theorem State.setRet_pending (s : State) (v : Retention) : (s.setRet v).pending = s.pending := rfl
@[simp] theorem State.setRet_power (s : State) (v : Retention) : (s.setRet v).power = s.power := rfl
@[simp] theorem State.setRet_ret (s : State) (v : Retention) : (s.setRet v).ret = v := rfl
@[simp] theorem State.setRet_cfg (s : State) (v : Retention) : (s.setRet v).cfg = s.cfg := rfl
@[simp] theorem State.setRet_links (s : State) (v : Retention) : (s.setRet v).links = s.links := rfl
@[simp] theorem State.setRet_mgmt (s : State) (v : Retention) : (s.setRet v).mgmt = s.mgmt := rfl
@[simp] theorem State.setRet_schedule (s : State) (v : Retention) : (s.setRet v).schedule = s.schedule := rfl
@[simp] theorem State.setRet_grid (s : State) (v : Retention) : (s.setRet v).grid = s.grid := rfl
@[simp] theorem State.setRet_tracker (s : State) (v : Retention) : (s.setRet v).tracker = s.tracker := rfl
@[simp] theorem State.setRet_arb (s : State) (v : Retention) : (s.setRet v).arb = s.arb := rfl
@[simp] theorem State.setRet_seqs (s : State) (v : Retention) : (s.setRet v).seqs = s.seqs := rfl
@[simp] theorem State.setRet_place (s : State) (v : Retention) : (s.setRet v).place = s.place := rfl
@[simp] theorem State.setRet_maps (s : State) (v : Retention) : (s.setRet v).maps = s.maps := rfl
@[simp] theorem State.setRet_counters (s : State) (v : Retention) : (s.setRet v).counters = s.counters := rfl
@[simp] theorem State.setRet_sensors (s : State) (v : Retention) : (s.setRet v).sensors = s.sensors := rfl
@[simp] theorem State.setRet_windows (s : State) (v : Retention) : (s.setRet v).windows = s.windows := rfl
@[simp] theorem State.setRet_due (s : State) (v : Retention) : (s.setRet v).due = s.due := rfl

/-! ### setCfg -/

@[simp] theorem State.setCfg_pending (s : State) (v : Tables) : (s.setCfg v).pending = s.pending := rfl
@[simp] theorem State.setCfg_power (s : State) (v : Tables) : (s.setCfg v).power = s.power := rfl
@[simp] theorem State.setCfg_ret (s : State) (v : Tables) : (s.setCfg v).ret = s.ret := rfl
@[simp] theorem State.setCfg_cfg (s : State) (v : Tables) : (s.setCfg v).cfg = v := rfl
@[simp] theorem State.setCfg_links (s : State) (v : Tables) : (s.setCfg v).links = s.links := rfl
@[simp] theorem State.setCfg_mgmt (s : State) (v : Tables) : (s.setCfg v).mgmt = s.mgmt := rfl
@[simp] theorem State.setCfg_schedule (s : State) (v : Tables) : (s.setCfg v).schedule = s.schedule := rfl
@[simp] theorem State.setCfg_grid (s : State) (v : Tables) : (s.setCfg v).grid = s.grid := rfl
@[simp] theorem State.setCfg_tracker (s : State) (v : Tables) : (s.setCfg v).tracker = s.tracker := rfl
@[simp] theorem State.setCfg_arb (s : State) (v : Tables) : (s.setCfg v).arb = s.arb := rfl
@[simp] theorem State.setCfg_seqs (s : State) (v : Tables) : (s.setCfg v).seqs = s.seqs := rfl
@[simp] theorem State.setCfg_place (s : State) (v : Tables) : (s.setCfg v).place = s.place := rfl
@[simp] theorem State.setCfg_maps (s : State) (v : Tables) : (s.setCfg v).maps = s.maps := rfl
@[simp] theorem State.setCfg_counters (s : State) (v : Tables) : (s.setCfg v).counters = s.counters := rfl
@[simp] theorem State.setCfg_sensors (s : State) (v : Tables) : (s.setCfg v).sensors = s.sensors := rfl
@[simp] theorem State.setCfg_windows (s : State) (v : Tables) : (s.setCfg v).windows = s.windows := rfl
@[simp] theorem State.setCfg_due (s : State) (v : Tables) : (s.setCfg v).due = s.due := rfl

/-! ### setLinks -/

@[simp] theorem State.setLinks_pending (s : State) (v : Links) : (s.setLinks v).pending = s.pending := rfl
@[simp] theorem State.setLinks_power (s : State) (v : Links) : (s.setLinks v).power = s.power := rfl
@[simp] theorem State.setLinks_ret (s : State) (v : Links) : (s.setLinks v).ret = s.ret := rfl
@[simp] theorem State.setLinks_cfg (s : State) (v : Links) : (s.setLinks v).cfg = s.cfg := rfl
@[simp] theorem State.setLinks_links (s : State) (v : Links) : (s.setLinks v).links = v := rfl
@[simp] theorem State.setLinks_mgmt (s : State) (v : Links) : (s.setLinks v).mgmt = s.mgmt := rfl
@[simp] theorem State.setLinks_schedule (s : State) (v : Links) : (s.setLinks v).schedule = s.schedule := rfl
@[simp] theorem State.setLinks_grid (s : State) (v : Links) : (s.setLinks v).grid = s.grid := rfl
@[simp] theorem State.setLinks_tracker (s : State) (v : Links) : (s.setLinks v).tracker = s.tracker := rfl
@[simp] theorem State.setLinks_arb (s : State) (v : Links) : (s.setLinks v).arb = s.arb := rfl
@[simp] theorem State.setLinks_seqs (s : State) (v : Links) : (s.setLinks v).seqs = s.seqs := rfl
@[simp] theorem State.setLinks_place (s : State) (v : Links) : (s.setLinks v).place = s.place := rfl
@[simp] theorem State.setLinks_maps (s : State) (v : Links) : (s.setLinks v).maps = s.maps := rfl
@[simp] theorem State.setLinks_counters (s : State) (v : Links) : (s.setLinks v).counters = s.counters := rfl
@[simp] theorem State.setLinks_sensors (s : State) (v : Links) : (s.setLinks v).sensors = s.sensors := rfl
@[simp] theorem State.setLinks_windows (s : State) (v : Links) : (s.setLinks v).windows = s.windows := rfl
@[simp] theorem State.setLinks_due (s : State) (v : Links) : (s.setLinks v).due = s.due := rfl

/-! ### setMgmt -/

@[simp] theorem State.setMgmt_pending (s : State) (v : Mgmt) : (s.setMgmt v).pending = s.pending := rfl
@[simp] theorem State.setMgmt_power (s : State) (v : Mgmt) : (s.setMgmt v).power = s.power := rfl
@[simp] theorem State.setMgmt_ret (s : State) (v : Mgmt) : (s.setMgmt v).ret = s.ret := rfl
@[simp] theorem State.setMgmt_cfg (s : State) (v : Mgmt) : (s.setMgmt v).cfg = s.cfg := rfl
@[simp] theorem State.setMgmt_links (s : State) (v : Mgmt) : (s.setMgmt v).links = s.links := rfl
@[simp] theorem State.setMgmt_mgmt (s : State) (v : Mgmt) : (s.setMgmt v).mgmt = v := rfl
@[simp] theorem State.setMgmt_schedule (s : State) (v : Mgmt) : (s.setMgmt v).schedule = s.schedule := rfl
@[simp] theorem State.setMgmt_grid (s : State) (v : Mgmt) : (s.setMgmt v).grid = s.grid := rfl
@[simp] theorem State.setMgmt_tracker (s : State) (v : Mgmt) : (s.setMgmt v).tracker = s.tracker := rfl
@[simp] theorem State.setMgmt_arb (s : State) (v : Mgmt) : (s.setMgmt v).arb = s.arb := rfl
@[simp] theorem State.setMgmt_seqs (s : State) (v : Mgmt) : (s.setMgmt v).seqs = s.seqs := rfl
@[simp] theorem State.setMgmt_place (s : State) (v : Mgmt) : (s.setMgmt v).place = s.place := rfl
@[simp] theorem State.setMgmt_maps (s : State) (v : Mgmt) : (s.setMgmt v).maps = s.maps := rfl
@[simp] theorem State.setMgmt_counters (s : State) (v : Mgmt) : (s.setMgmt v).counters = s.counters := rfl
@[simp] theorem State.setMgmt_sensors (s : State) (v : Mgmt) : (s.setMgmt v).sensors = s.sensors := rfl
@[simp] theorem State.setMgmt_windows (s : State) (v : Mgmt) : (s.setMgmt v).windows = s.windows := rfl
@[simp] theorem State.setMgmt_due (s : State) (v : Mgmt) : (s.setMgmt v).due = s.due := rfl

/-! ### setSchedule -/

@[simp] theorem State.setSchedule_pending (s : State) (v : List ScheduleEntry) : (s.setSchedule v).pending = s.pending := rfl
@[simp] theorem State.setSchedule_power (s : State) (v : List ScheduleEntry) : (s.setSchedule v).power = s.power := rfl
@[simp] theorem State.setSchedule_ret (s : State) (v : List ScheduleEntry) : (s.setSchedule v).ret = s.ret := rfl
@[simp] theorem State.setSchedule_cfg (s : State) (v : List ScheduleEntry) : (s.setSchedule v).cfg = s.cfg := rfl
@[simp] theorem State.setSchedule_links (s : State) (v : List ScheduleEntry) : (s.setSchedule v).links = s.links := rfl
@[simp] theorem State.setSchedule_mgmt (s : State) (v : List ScheduleEntry) : (s.setSchedule v).mgmt = s.mgmt := rfl
@[simp] theorem State.setSchedule_schedule (s : State) (v : List ScheduleEntry) : (s.setSchedule v).schedule = v := rfl
@[simp] theorem State.setSchedule_grid (s : State) (v : List ScheduleEntry) : (s.setSchedule v).grid = s.grid := rfl
@[simp] theorem State.setSchedule_tracker (s : State) (v : List ScheduleEntry) : (s.setSchedule v).tracker = s.tracker := rfl
@[simp] theorem State.setSchedule_arb (s : State) (v : List ScheduleEntry) : (s.setSchedule v).arb = s.arb := rfl
@[simp] theorem State.setSchedule_seqs (s : State) (v : List ScheduleEntry) : (s.setSchedule v).seqs = s.seqs := rfl
@[simp] theorem State.setSchedule_place (s : State) (v : List ScheduleEntry) : (s.setSchedule v).place = s.place := rfl
@[simp] theorem State.setSchedule_maps (s : State) (v : List ScheduleEntry) : (s.setSchedule v).maps = s.maps := rfl
@[simp] theorem State.setSchedule_counters (s : State) (v : List ScheduleEntry) : (s.setSchedule v).counters = s.counters := rfl
@[simp] theorem State.setSchedule_sensors (s : State) (v : List ScheduleEntry) : (s.setSchedule v).sensors = s.sensors := rfl
@[simp] theorem State.setSchedule_windows (s : State) (v : List ScheduleEntry) : (s.setSchedule v).windows = s.windows := rfl
@[simp] theorem State.setSchedule_due (s : State) (v : List ScheduleEntry) : (s.setSchedule v).due = s.due := rfl

/-! ### setGrid -/

@[simp] theorem State.setGrid_pending (s : State) (v : Grid) : (s.setGrid v).pending = s.pending := rfl
@[simp] theorem State.setGrid_power (s : State) (v : Grid) : (s.setGrid v).power = s.power := rfl
@[simp] theorem State.setGrid_ret (s : State) (v : Grid) : (s.setGrid v).ret = s.ret := rfl
@[simp] theorem State.setGrid_cfg (s : State) (v : Grid) : (s.setGrid v).cfg = s.cfg := rfl
@[simp] theorem State.setGrid_links (s : State) (v : Grid) : (s.setGrid v).links = s.links := rfl
@[simp] theorem State.setGrid_mgmt (s : State) (v : Grid) : (s.setGrid v).mgmt = s.mgmt := rfl
@[simp] theorem State.setGrid_schedule (s : State) (v : Grid) : (s.setGrid v).schedule = s.schedule := rfl
@[simp] theorem State.setGrid_grid (s : State) (v : Grid) : (s.setGrid v).grid = v := rfl
@[simp] theorem State.setGrid_tracker (s : State) (v : Grid) : (s.setGrid v).tracker = s.tracker := rfl
@[simp] theorem State.setGrid_arb (s : State) (v : Grid) : (s.setGrid v).arb = s.arb := rfl
@[simp] theorem State.setGrid_seqs (s : State) (v : Grid) : (s.setGrid v).seqs = s.seqs := rfl
@[simp] theorem State.setGrid_place (s : State) (v : Grid) : (s.setGrid v).place = s.place := rfl
@[simp] theorem State.setGrid_maps (s : State) (v : Grid) : (s.setGrid v).maps = s.maps := rfl
@[simp] theorem State.setGrid_counters (s : State) (v : Grid) : (s.setGrid v).counters = s.counters := rfl
@[simp] theorem State.setGrid_sensors (s : State) (v : Grid) : (s.setGrid v).sensors = s.sensors := rfl
@[simp] theorem State.setGrid_windows (s : State) (v : Grid) : (s.setGrid v).windows = s.windows := rfl
@[simp] theorem State.setGrid_due (s : State) (v : Grid) : (s.setGrid v).due = s.due := rfl

/-! ### setTracker -/

@[simp] theorem State.setTracker_pending (s : State) (v : Tracker) : (s.setTracker v).pending = s.pending := rfl
@[simp] theorem State.setTracker_power (s : State) (v : Tracker) : (s.setTracker v).power = s.power := rfl
@[simp] theorem State.setTracker_ret (s : State) (v : Tracker) : (s.setTracker v).ret = s.ret := rfl
@[simp] theorem State.setTracker_cfg (s : State) (v : Tracker) : (s.setTracker v).cfg = s.cfg := rfl
@[simp] theorem State.setTracker_links (s : State) (v : Tracker) : (s.setTracker v).links = s.links := rfl
@[simp] theorem State.setTracker_mgmt (s : State) (v : Tracker) : (s.setTracker v).mgmt = s.mgmt := rfl
@[simp] theorem State.setTracker_schedule (s : State) (v : Tracker) : (s.setTracker v).schedule = s.schedule := rfl
@[simp] theorem State.setTracker_grid (s : State) (v : Tracker) : (s.setTracker v).grid = s.grid := rfl
@[simp] theorem State.setTracker_tracker (s : State) (v : Tracker) : (s.setTracker v).tracker = v := rfl
@[simp] theorem State.setTracker_arb (s : State) (v : Tracker) : (s.setTracker v).arb = s.arb := rfl
@[simp] theorem State.setTracker_seqs (s : State) (v : Tracker) : (s.setTracker v).seqs = s.seqs := rfl
@[simp] theorem State.setTracker_place (s : State) (v : Tracker) : (s.setTracker v).place = s.place := rfl
@[simp] theorem State.setTracker_maps (s : State) (v : Tracker) : (s.setTracker v).maps = s.maps := rfl
@[simp] theorem State.setTracker_counters (s : State) (v : Tracker) : (s.setTracker v).counters = s.counters := rfl
@[simp] theorem State.setTracker_sensors (s : State) (v : Tracker) : (s.setTracker v).sensors = s.sensors := rfl
@[simp] theorem State.setTracker_windows (s : State) (v : Tracker) : (s.setTracker v).windows = s.windows := rfl
@[simp] theorem State.setTracker_due (s : State) (v : Tracker) : (s.setTracker v).due = s.due := rfl

/-! ### setArb -/

@[simp] theorem State.setArb_pending (s : State) (v : Arbiter) : (s.setArb v).pending = s.pending := rfl
@[simp] theorem State.setArb_power (s : State) (v : Arbiter) : (s.setArb v).power = s.power := rfl
@[simp] theorem State.setArb_ret (s : State) (v : Arbiter) : (s.setArb v).ret = s.ret := rfl
@[simp] theorem State.setArb_cfg (s : State) (v : Arbiter) : (s.setArb v).cfg = s.cfg := rfl
@[simp] theorem State.setArb_links (s : State) (v : Arbiter) : (s.setArb v).links = s.links := rfl
@[simp] theorem State.setArb_mgmt (s : State) (v : Arbiter) : (s.setArb v).mgmt = s.mgmt := rfl
@[simp] theorem State.setArb_schedule (s : State) (v : Arbiter) : (s.setArb v).schedule = s.schedule := rfl
@[simp] theorem State.setArb_grid (s : State) (v : Arbiter) : (s.setArb v).grid = s.grid := rfl
@[simp] theorem State.setArb_tracker (s : State) (v : Arbiter) : (s.setArb v).tracker = s.tracker := rfl
@[simp] theorem State.setArb_arb (s : State) (v : Arbiter) : (s.setArb v).arb = v := rfl
@[simp] theorem State.setArb_seqs (s : State) (v : Arbiter) : (s.setArb v).seqs = s.seqs := rfl
@[simp] theorem State.setArb_place (s : State) (v : Arbiter) : (s.setArb v).place = s.place := rfl
@[simp] theorem State.setArb_maps (s : State) (v : Arbiter) : (s.setArb v).maps = s.maps := rfl
@[simp] theorem State.setArb_counters (s : State) (v : Arbiter) : (s.setArb v).counters = s.counters := rfl
@[simp] theorem State.setArb_sensors (s : State) (v : Arbiter) : (s.setArb v).sensors = s.sensors := rfl
@[simp] theorem State.setArb_windows (s : State) (v : Arbiter) : (s.setArb v).windows = s.windows := rfl
@[simp] theorem State.setArb_due (s : State) (v : Arbiter) : (s.setArb v).due = s.due := rfl

/-! ### setSeqs -/

@[simp] theorem State.setSeqs_pending (s : State) (v : PerFurnace Sequencer) : (s.setSeqs v).pending = s.pending := rfl
@[simp] theorem State.setSeqs_power (s : State) (v : PerFurnace Sequencer) : (s.setSeqs v).power = s.power := rfl
@[simp] theorem State.setSeqs_ret (s : State) (v : PerFurnace Sequencer) : (s.setSeqs v).ret = s.ret := rfl
@[simp] theorem State.setSeqs_cfg (s : State) (v : PerFurnace Sequencer) : (s.setSeqs v).cfg = s.cfg := rfl
@[simp] theorem State.setSeqs_links (s : State) (v : PerFurnace Sequencer) : (s.setSeqs v).links = s.links := rfl
@[simp] theorem State.setSeqs_mgmt (s : State) (v : PerFurnace Sequencer) : (s.setSeqs v).mgmt = s.mgmt := rfl
@[simp] theorem State.setSeqs_schedule (s : State) (v : PerFurnace Sequencer) : (s.setSeqs v).schedule = s.schedule := rfl
@[simp] theorem State.setSeqs_grid (s : State) (v : PerFurnace Sequencer) : (s.setSeqs v).grid = s.grid := rfl
@[simp] theorem State.setSeqs_tracker (s : State) (v : PerFurnace Sequencer) : (s.setSeqs v).tracker = s.tracker := rfl
@[simp] theorem State.setSeqs_arb (s : State) (v : PerFurnace Sequencer) : (s.setSeqs v).arb = s.arb := rfl
@[simp] theorem State.setSeqs_seqs (s : State) (v : PerFurnace Sequencer) : (s.setSeqs v).seqs = v := rfl
@[simp] theorem State.setSeqs_place (s : State) (v : PerFurnace Sequencer) : (s.setSeqs v).place = s.place := rfl
@[simp] theorem State.setSeqs_maps (s : State) (v : PerFurnace Sequencer) : (s.setSeqs v).maps = s.maps := rfl
@[simp] theorem State.setSeqs_counters (s : State) (v : PerFurnace Sequencer) : (s.setSeqs v).counters = s.counters := rfl
@[simp] theorem State.setSeqs_sensors (s : State) (v : PerFurnace Sequencer) : (s.setSeqs v).sensors = s.sensors := rfl
@[simp] theorem State.setSeqs_windows (s : State) (v : PerFurnace Sequencer) : (s.setSeqs v).windows = s.windows := rfl
@[simp] theorem State.setSeqs_due (s : State) (v : PerFurnace Sequencer) : (s.setSeqs v).due = s.due := rfl

/-! ### setPlace -/

@[simp] theorem State.setPlace_pending (s : State) (v : PerFurnace PlacementState) : (s.setPlace v).pending = s.pending := rfl
@[simp] theorem State.setPlace_power (s : State) (v : PerFurnace PlacementState) : (s.setPlace v).power = s.power := rfl
@[simp] theorem State.setPlace_ret (s : State) (v : PerFurnace PlacementState) : (s.setPlace v).ret = s.ret := rfl
@[simp] theorem State.setPlace_cfg (s : State) (v : PerFurnace PlacementState) : (s.setPlace v).cfg = s.cfg := rfl
@[simp] theorem State.setPlace_links (s : State) (v : PerFurnace PlacementState) : (s.setPlace v).links = s.links := rfl
@[simp] theorem State.setPlace_mgmt (s : State) (v : PerFurnace PlacementState) : (s.setPlace v).mgmt = s.mgmt := rfl
@[simp] theorem State.setPlace_schedule (s : State) (v : PerFurnace PlacementState) : (s.setPlace v).schedule = s.schedule := rfl
@[simp] theorem State.setPlace_grid (s : State) (v : PerFurnace PlacementState) : (s.setPlace v).grid = s.grid := rfl
@[simp] theorem State.setPlace_tracker (s : State) (v : PerFurnace PlacementState) : (s.setPlace v).tracker = s.tracker := rfl
@[simp] theorem State.setPlace_arb (s : State) (v : PerFurnace PlacementState) : (s.setPlace v).arb = s.arb := rfl
@[simp] theorem State.setPlace_seqs (s : State) (v : PerFurnace PlacementState) : (s.setPlace v).seqs = s.seqs := rfl
@[simp] theorem State.setPlace_place (s : State) (v : PerFurnace PlacementState) : (s.setPlace v).place = v := rfl
@[simp] theorem State.setPlace_maps (s : State) (v : PerFurnace PlacementState) : (s.setPlace v).maps = s.maps := rfl
@[simp] theorem State.setPlace_counters (s : State) (v : PerFurnace PlacementState) : (s.setPlace v).counters = s.counters := rfl
@[simp] theorem State.setPlace_sensors (s : State) (v : PerFurnace PlacementState) : (s.setPlace v).sensors = s.sensors := rfl
@[simp] theorem State.setPlace_windows (s : State) (v : PerFurnace PlacementState) : (s.setPlace v).windows = s.windows := rfl
@[simp] theorem State.setPlace_due (s : State) (v : PerFurnace PlacementState) : (s.setPlace v).due = s.due := rfl

/-! ### setMaps -/

@[simp] theorem State.setMaps_pending (s : State) (v : PerFurnace FurnaceMap) : (s.setMaps v).pending = s.pending := rfl
@[simp] theorem State.setMaps_power (s : State) (v : PerFurnace FurnaceMap) : (s.setMaps v).power = s.power := rfl
@[simp] theorem State.setMaps_ret (s : State) (v : PerFurnace FurnaceMap) : (s.setMaps v).ret = s.ret := rfl
@[simp] theorem State.setMaps_cfg (s : State) (v : PerFurnace FurnaceMap) : (s.setMaps v).cfg = s.cfg := rfl
@[simp] theorem State.setMaps_links (s : State) (v : PerFurnace FurnaceMap) : (s.setMaps v).links = s.links := rfl
@[simp] theorem State.setMaps_mgmt (s : State) (v : PerFurnace FurnaceMap) : (s.setMaps v).mgmt = s.mgmt := rfl
@[simp] theorem State.setMaps_schedule (s : State) (v : PerFurnace FurnaceMap) : (s.setMaps v).schedule = s.schedule := rfl
@[simp] theorem State.setMaps_grid (s : State) (v : PerFurnace FurnaceMap) : (s.setMaps v).grid = s.grid := rfl
@[simp] theorem State.setMaps_tracker (s : State) (v : PerFurnace FurnaceMap) : (s.setMaps v).tracker = s.tracker := rfl
@[simp] theorem State.setMaps_arb (s : State) (v : PerFurnace FurnaceMap) : (s.setMaps v).arb = s.arb := rfl
@[simp] theorem State.setMaps_seqs (s : State) (v : PerFurnace FurnaceMap) : (s.setMaps v).seqs = s.seqs := rfl
@[simp] theorem State.setMaps_place (s : State) (v : PerFurnace FurnaceMap) : (s.setMaps v).place = s.place := rfl
@[simp] theorem State.setMaps_maps (s : State) (v : PerFurnace FurnaceMap) : (s.setMaps v).maps = v := rfl
@[simp] theorem State.setMaps_counters (s : State) (v : PerFurnace FurnaceMap) : (s.setMaps v).counters = s.counters := rfl
@[simp] theorem State.setMaps_sensors (s : State) (v : PerFurnace FurnaceMap) : (s.setMaps v).sensors = s.sensors := rfl
@[simp] theorem State.setMaps_windows (s : State) (v : PerFurnace FurnaceMap) : (s.setMaps v).windows = s.windows := rfl
@[simp] theorem State.setMaps_due (s : State) (v : PerFurnace FurnaceMap) : (s.setMaps v).due = s.due := rfl

/-! ### setCounters -/

@[simp] theorem State.setCounters_pending (s : State) (v : PerCounter Counter) : (s.setCounters v).pending = s.pending := rfl
@[simp] theorem State.setCounters_power (s : State) (v : PerCounter Counter) : (s.setCounters v).power = s.power := rfl
@[simp] theorem State.setCounters_ret (s : State) (v : PerCounter Counter) : (s.setCounters v).ret = s.ret := rfl
@[simp] theorem State.setCounters_cfg (s : State) (v : PerCounter Counter) : (s.setCounters v).cfg = s.cfg := rfl
@[simp] theorem State.setCounters_links (s : State) (v : PerCounter Counter) : (s.setCounters v).links = s.links := rfl
@[simp] theorem State.setCounters_mgmt (s : State) (v : PerCounter Counter) : (s.setCounters v).mgmt = s.mgmt := rfl
@[simp] theorem State.setCounters_schedule (s : State) (v : PerCounter Counter) : (s.setCounters v).schedule = s.schedule := rfl
@[simp] theorem State.setCounters_grid (s : State) (v : PerCounter Counter) : (s.setCounters v).grid = s.grid := rfl
@[simp] theorem State.setCounters_tracker (s : State) (v : PerCounter Counter) : (s.setCounters v).tracker = s.tracker := rfl
@[simp] theorem State.setCounters_arb (s : State) (v : PerCounter Counter) : (s.setCounters v).arb = s.arb := rfl
@[simp] theorem State.setCounters_seqs (s : State) (v : PerCounter Counter) : (s.setCounters v).seqs = s.seqs := rfl
@[simp] theorem State.setCounters_place (s : State) (v : PerCounter Counter) : (s.setCounters v).place = s.place := rfl
@[simp] theorem State.setCounters_maps (s : State) (v : PerCounter Counter) : (s.setCounters v).maps = s.maps := rfl
@[simp] theorem State.setCounters_counters (s : State) (v : PerCounter Counter) : (s.setCounters v).counters = v := rfl
@[simp] theorem State.setCounters_sensors (s : State) (v : PerCounter Counter) : (s.setCounters v).sensors = s.sensors := rfl
@[simp] theorem State.setCounters_windows (s : State) (v : PerCounter Counter) : (s.setCounters v).windows = s.windows := rfl
@[simp] theorem State.setCounters_due (s : State) (v : PerCounter Counter) : (s.setCounters v).due = s.due := rfl

/-! ### setSensors -/

@[simp] theorem State.setSensors_pending (s : State) (v : PerSensor Sensor) : (s.setSensors v).pending = s.pending := rfl
@[simp] theorem State.setSensors_power (s : State) (v : PerSensor Sensor) : (s.setSensors v).power = s.power := rfl
@[simp] theorem State.setSensors_ret (s : State) (v : PerSensor Sensor) : (s.setSensors v).ret = s.ret := rfl
@[simp] theorem State.setSensors_cfg (s : State) (v : PerSensor Sensor) : (s.setSensors v).cfg = s.cfg := rfl
@[simp] theorem State.setSensors_links (s : State) (v : PerSensor Sensor) : (s.setSensors v).links = s.links := rfl
@[simp] theorem State.setSensors_mgmt (s : State) (v : PerSensor Sensor) : (s.setSensors v).mgmt = s.mgmt := rfl
@[simp] theorem State.setSensors_schedule (s : State) (v : PerSensor Sensor) : (s.setSensors v).schedule = s.schedule := rfl
@[simp] theorem State.setSensors_grid (s : State) (v : PerSensor Sensor) : (s.setSensors v).grid = s.grid := rfl
@[simp] theorem State.setSensors_tracker (s : State) (v : PerSensor Sensor) : (s.setSensors v).tracker = s.tracker := rfl
@[simp] theorem State.setSensors_arb (s : State) (v : PerSensor Sensor) : (s.setSensors v).arb = s.arb := rfl
@[simp] theorem State.setSensors_seqs (s : State) (v : PerSensor Sensor) : (s.setSensors v).seqs = s.seqs := rfl
@[simp] theorem State.setSensors_place (s : State) (v : PerSensor Sensor) : (s.setSensors v).place = s.place := rfl
@[simp] theorem State.setSensors_maps (s : State) (v : PerSensor Sensor) : (s.setSensors v).maps = s.maps := rfl
@[simp] theorem State.setSensors_counters (s : State) (v : PerSensor Sensor) : (s.setSensors v).counters = s.counters := rfl
@[simp] theorem State.setSensors_sensors (s : State) (v : PerSensor Sensor) : (s.setSensors v).sensors = v := rfl
@[simp] theorem State.setSensors_windows (s : State) (v : PerSensor Sensor) : (s.setSensors v).windows = s.windows := rfl
@[simp] theorem State.setSensors_due (s : State) (v : PerSensor Sensor) : (s.setSensors v).due = s.due := rfl

/-! ### setWindows -/

@[simp] theorem State.setWindows_pending (s : State) (v : PerFurnace WindowState) : (s.setWindows v).pending = s.pending := rfl
@[simp] theorem State.setWindows_power (s : State) (v : PerFurnace WindowState) : (s.setWindows v).power = s.power := rfl
@[simp] theorem State.setWindows_ret (s : State) (v : PerFurnace WindowState) : (s.setWindows v).ret = s.ret := rfl
@[simp] theorem State.setWindows_cfg (s : State) (v : PerFurnace WindowState) : (s.setWindows v).cfg = s.cfg := rfl
@[simp] theorem State.setWindows_links (s : State) (v : PerFurnace WindowState) : (s.setWindows v).links = s.links := rfl
@[simp] theorem State.setWindows_mgmt (s : State) (v : PerFurnace WindowState) : (s.setWindows v).mgmt = s.mgmt := rfl
@[simp] theorem State.setWindows_schedule (s : State) (v : PerFurnace WindowState) : (s.setWindows v).schedule = s.schedule := rfl
@[simp] theorem State.setWindows_grid (s : State) (v : PerFurnace WindowState) : (s.setWindows v).grid = s.grid := rfl
@[simp] theorem State.setWindows_tracker (s : State) (v : PerFurnace WindowState) : (s.setWindows v).tracker = s.tracker := rfl
@[simp] theorem State.setWindows_arb (s : State) (v : PerFurnace WindowState) : (s.setWindows v).arb = s.arb := rfl
@[simp] theorem State.setWindows_seqs (s : State) (v : PerFurnace WindowState) : (s.setWindows v).seqs = s.seqs := rfl
@[simp] theorem State.setWindows_place (s : State) (v : PerFurnace WindowState) : (s.setWindows v).place = s.place := rfl
@[simp] theorem State.setWindows_maps (s : State) (v : PerFurnace WindowState) : (s.setWindows v).maps = s.maps := rfl
@[simp] theorem State.setWindows_counters (s : State) (v : PerFurnace WindowState) : (s.setWindows v).counters = s.counters := rfl
@[simp] theorem State.setWindows_sensors (s : State) (v : PerFurnace WindowState) : (s.setWindows v).sensors = s.sensors := rfl
@[simp] theorem State.setWindows_windows (s : State) (v : PerFurnace WindowState) : (s.setWindows v).windows = v := rfl
@[simp] theorem State.setWindows_due (s : State) (v : PerFurnace WindowState) : (s.setWindows v).due = s.due := rfl

/-! ### setDue -/

@[simp] theorem State.setDue_pending (s : State) (v : Due) : (s.setDue v).pending = s.pending := rfl
@[simp] theorem State.setDue_power (s : State) (v : Due) : (s.setDue v).power = s.power := rfl
@[simp] theorem State.setDue_ret (s : State) (v : Due) : (s.setDue v).ret = s.ret := rfl
@[simp] theorem State.setDue_cfg (s : State) (v : Due) : (s.setDue v).cfg = s.cfg := rfl
@[simp] theorem State.setDue_links (s : State) (v : Due) : (s.setDue v).links = s.links := rfl
@[simp] theorem State.setDue_mgmt (s : State) (v : Due) : (s.setDue v).mgmt = s.mgmt := rfl
@[simp] theorem State.setDue_schedule (s : State) (v : Due) : (s.setDue v).schedule = s.schedule := rfl
@[simp] theorem State.setDue_grid (s : State) (v : Due) : (s.setDue v).grid = s.grid := rfl
@[simp] theorem State.setDue_tracker (s : State) (v : Due) : (s.setDue v).tracker = s.tracker := rfl
@[simp] theorem State.setDue_arb (s : State) (v : Due) : (s.setDue v).arb = s.arb := rfl
@[simp] theorem State.setDue_seqs (s : State) (v : Due) : (s.setDue v).seqs = s.seqs := rfl
@[simp] theorem State.setDue_place (s : State) (v : Due) : (s.setDue v).place = s.place := rfl
@[simp] theorem State.setDue_maps (s : State) (v : Due) : (s.setDue v).maps = s.maps := rfl
@[simp] theorem State.setDue_counters (s : State) (v : Due) : (s.setDue v).counters = s.counters := rfl
@[simp] theorem State.setDue_sensors (s : State) (v : Due) : (s.setDue v).sensors = s.sensors := rfl
@[simp] theorem State.setDue_windows (s : State) (v : Due) : (s.setDue v).windows = s.windows := rfl
@[simp] theorem State.setDue_due (s : State) (v : Due) : (s.setDue v).due = v := rfl

/-! ### setSeq -/

@[simp] theorem State.setSeq_pending (s : State) (i : Furnace) (v : Sequencer) : (s.setSeq i v).pending = s.pending := rfl
@[simp] theorem State.setSeq_power (s : State) (i : Furnace) (v : Sequencer) : (s.setSeq i v).power = s.power := rfl
@[simp] theorem State.setSeq_ret (s : State) (i : Furnace) (v : Sequencer) : (s.setSeq i v).ret = s.ret := rfl
@[simp] theorem State.setSeq_cfg (s : State) (i : Furnace) (v : Sequencer) : (s.setSeq i v).cfg = s.cfg := rfl
@[simp] theorem State.setSeq_links (s : State) (i : Furnace) (v : Sequencer) : (s.setSeq i v).links = s.links := rfl
@[simp] theorem State.setSeq_mgmt (s : State) (i : Furnace) (v : Sequencer) : (s.setSeq i v).mgmt = s.mgmt := rfl
@[simp] theorem State.setSeq_schedule (s : State) (i : Furnace) (v : Sequencer) : (s.setSeq i v).schedule = s.schedule := rfl
@[simp] theorem State.setSeq_grid (s : State) (i : Furnace) (v : Sequencer) : (s.setSeq i v).grid = s.grid := rfl
@[simp] theorem State.setSeq_tracker (s : State) (i : Furnace) (v : Sequencer) : (s.setSeq i v).tracker = s.tracker := rfl
@[simp] theorem State.setSeq_arb (s : State) (i : Furnace) (v : Sequencer) : (s.setSeq i v).arb = s.arb := rfl
@[simp] theorem State.setSeq_seqs (s : State) (i : Furnace) (v : Sequencer) : (s.setSeq i v).seqs = s.seqs.set i v := rfl
@[simp] theorem State.setSeq_place (s : State) (i : Furnace) (v : Sequencer) : (s.setSeq i v).place = s.place := rfl
@[simp] theorem State.setSeq_maps (s : State) (i : Furnace) (v : Sequencer) : (s.setSeq i v).maps = s.maps := rfl
@[simp] theorem State.setSeq_counters (s : State) (i : Furnace) (v : Sequencer) : (s.setSeq i v).counters = s.counters := rfl
@[simp] theorem State.setSeq_sensors (s : State) (i : Furnace) (v : Sequencer) : (s.setSeq i v).sensors = s.sensors := rfl
@[simp] theorem State.setSeq_windows (s : State) (i : Furnace) (v : Sequencer) : (s.setSeq i v).windows = s.windows := rfl
@[simp] theorem State.setSeq_due (s : State) (i : Furnace) (v : Sequencer) : (s.setSeq i v).due = s.due := rfl

/-! ### setMap -/

@[simp] theorem State.setMap_pending (s : State) (i : Furnace) (v : FurnaceMap) : (s.setMap i v).pending = s.pending := rfl
@[simp] theorem State.setMap_power (s : State) (i : Furnace) (v : FurnaceMap) : (s.setMap i v).power = s.power := rfl
@[simp] theorem State.setMap_ret (s : State) (i : Furnace) (v : FurnaceMap) : (s.setMap i v).ret = s.ret := rfl
@[simp] theorem State.setMap_cfg (s : State) (i : Furnace) (v : FurnaceMap) : (s.setMap i v).cfg = s.cfg := rfl
@[simp] theorem State.setMap_links (s : State) (i : Furnace) (v : FurnaceMap) : (s.setMap i v).links = s.links := rfl
@[simp] theorem State.setMap_mgmt (s : State) (i : Furnace) (v : FurnaceMap) : (s.setMap i v).mgmt = s.mgmt := rfl
@[simp] theorem State.setMap_schedule (s : State) (i : Furnace) (v : FurnaceMap) : (s.setMap i v).schedule = s.schedule := rfl
@[simp] theorem State.setMap_grid (s : State) (i : Furnace) (v : FurnaceMap) : (s.setMap i v).grid = s.grid := rfl
@[simp] theorem State.setMap_tracker (s : State) (i : Furnace) (v : FurnaceMap) : (s.setMap i v).tracker = s.tracker := rfl
@[simp] theorem State.setMap_arb (s : State) (i : Furnace) (v : FurnaceMap) : (s.setMap i v).arb = s.arb := rfl
@[simp] theorem State.setMap_seqs (s : State) (i : Furnace) (v : FurnaceMap) : (s.setMap i v).seqs = s.seqs := rfl
@[simp] theorem State.setMap_place (s : State) (i : Furnace) (v : FurnaceMap) : (s.setMap i v).place = s.place := rfl
@[simp] theorem State.setMap_maps (s : State) (i : Furnace) (v : FurnaceMap) : (s.setMap i v).maps = s.maps.set i v := rfl
@[simp] theorem State.setMap_counters (s : State) (i : Furnace) (v : FurnaceMap) : (s.setMap i v).counters = s.counters := rfl
@[simp] theorem State.setMap_sensors (s : State) (i : Furnace) (v : FurnaceMap) : (s.setMap i v).sensors = s.sensors := rfl
@[simp] theorem State.setMap_windows (s : State) (i : Furnace) (v : FurnaceMap) : (s.setMap i v).windows = s.windows := rfl
@[simp] theorem State.setMap_due (s : State) (i : Furnace) (v : FurnaceMap) : (s.setMap i v).due = s.due := rfl

/-! ### setCounter -/

@[simp] theorem State.setCounter_pending (s : State) (i : CounterId) (v : Counter) : (s.setCounter i v).pending = s.pending := rfl
@[simp] theorem State.setCounter_power (s : State) (i : CounterId) (v : Counter) : (s.setCounter i v).power = s.power := rfl
@[simp] theorem State.setCounter_ret (s : State) (i : CounterId) (v : Counter) : (s.setCounter i v).ret = s.ret := rfl
@[simp] theorem State.setCounter_cfg (s : State) (i : CounterId) (v : Counter) : (s.setCounter i v).cfg = s.cfg := rfl
@[simp] theorem State.setCounter_links (s : State) (i : CounterId) (v : Counter) : (s.setCounter i v).links = s.links := rfl
@[simp] theorem State.setCounter_mgmt (s : State) (i : CounterId) (v : Counter) : (s.setCounter i v).mgmt = s.mgmt := rfl
@[simp] theorem State.setCounter_schedule (s : State) (i : CounterId) (v : Counter) : (s.setCounter i v).schedule = s.schedule := rfl
@[simp] theorem State.setCounter_grid (s : State) (i : CounterId) (v : Counter) : (s.setCounter i v).grid = s.grid := rfl
@[simp] theorem State.setCounter_tracker (s : State) (i : CounterId) (v : Counter) : (s.setCounter i v).tracker = s.tracker := rfl
@[simp] theorem State.setCounter_arb (s : State) (i : CounterId) (v : Counter) : (s.setCounter i v).arb = s.arb := rfl
@[simp] theorem State.setCounter_seqs (s : State) (i : CounterId) (v : Counter) : (s.setCounter i v).seqs = s.seqs := rfl
@[simp] theorem State.setCounter_place (s : State) (i : CounterId) (v : Counter) : (s.setCounter i v).place = s.place := rfl
@[simp] theorem State.setCounter_maps (s : State) (i : CounterId) (v : Counter) : (s.setCounter i v).maps = s.maps := rfl
@[simp] theorem State.setCounter_counters (s : State) (i : CounterId) (v : Counter) : (s.setCounter i v).counters = s.counters.set i v := rfl
@[simp] theorem State.setCounter_sensors (s : State) (i : CounterId) (v : Counter) : (s.setCounter i v).sensors = s.sensors := rfl
@[simp] theorem State.setCounter_windows (s : State) (i : CounterId) (v : Counter) : (s.setCounter i v).windows = s.windows := rfl
@[simp] theorem State.setCounter_due (s : State) (i : CounterId) (v : Counter) : (s.setCounter i v).due = s.due := rfl

/-! ### setSensor -/

@[simp] theorem State.setSensor_pending (s : State) (i : SensorId) (v : Sensor) : (s.setSensor i v).pending = s.pending := rfl
@[simp] theorem State.setSensor_power (s : State) (i : SensorId) (v : Sensor) : (s.setSensor i v).power = s.power := rfl
@[simp] theorem State.setSensor_ret (s : State) (i : SensorId) (v : Sensor) : (s.setSensor i v).ret = s.ret := rfl
@[simp] theorem State.setSensor_cfg (s : State) (i : SensorId) (v : Sensor) : (s.setSensor i v).cfg = s.cfg := rfl
@[simp] theorem State.setSensor_links (s : State) (i : SensorId) (v : Sensor) : (s.setSensor i v).links = s.links := rfl
@[simp] theorem State.setSensor_mgmt (s : State) (i : SensorId) (v : Sensor) : (s.setSensor i v).mgmt = s.mgmt := rfl
@[simp] theorem State.setSensor_schedule (s : State) (i : SensorId) (v : Sensor) : (s.setSensor i v).schedule = s.schedule := rfl
@[simp] theorem State.setSensor_grid (s : State) (i : SensorId) (v : Sensor) : (s.setSensor i v).grid = s.grid := rfl
@[simp] theorem State.setSensor_tracker (s : State) (i : SensorId) (v : Sensor) : (s.setSensor i v).tracker = s.tracker := rfl
@[simp] theorem State.setSensor_arb (s : State) (i : SensorId) (v : Sensor) : (s.setSensor i v).arb = s.arb := rfl
@[simp] theorem State.setSensor_seqs (s : State) (i : SensorId) (v : Sensor) : (s.setSensor i v).seqs = s.seqs := rfl
@[simp] theorem State.setSensor_place (s : State) (i : SensorId) (v : Sensor) : (s.setSensor i v).place = s.place := rfl
@[simp] theorem State.setSensor_maps (s : State) (i : SensorId) (v : Sensor) : (s.setSensor i v).maps = s.maps := rfl
@[simp] theorem State.setSensor_counters (s : State) (i : SensorId) (v : Sensor) : (s.setSensor i v).counters = s.counters := rfl
@[simp] theorem State.setSensor_sensors (s : State) (i : SensorId) (v : Sensor) : (s.setSensor i v).sensors = s.sensors.set i v := rfl
@[simp] theorem State.setSensor_windows (s : State) (i : SensorId) (v : Sensor) : (s.setSensor i v).windows = s.windows := rfl
@[simp] theorem State.setSensor_due (s : State) (i : SensorId) (v : Sensor) : (s.setSensor i v).due = s.due := rfl

/-! ### setPlaceOf -/

@[simp] theorem State.setPlaceOf_pending (s : State) (i : Furnace) (v : PlacementState) : (s.setPlaceOf i v).pending = s.pending := rfl
@[simp] theorem State.setPlaceOf_power (s : State) (i : Furnace) (v : PlacementState) : (s.setPlaceOf i v).power = s.power := rfl
@[simp] theorem State.setPlaceOf_ret (s : State) (i : Furnace) (v : PlacementState) : (s.setPlaceOf i v).ret = s.ret := rfl
@[simp] theorem State.setPlaceOf_cfg (s : State) (i : Furnace) (v : PlacementState) : (s.setPlaceOf i v).cfg = s.cfg := rfl
@[simp] theorem State.setPlaceOf_links (s : State) (i : Furnace) (v : PlacementState) : (s.setPlaceOf i v).links = s.links := rfl
@[simp] theorem State.setPlaceOf_mgmt (s : State) (i : Furnace) (v : PlacementState) : (s.setPlaceOf i v).mgmt = s.mgmt := rfl
@[simp] theorem State.setPlaceOf_schedule (s : State) (i : Furnace) (v : PlacementState) : (s.setPlaceOf i v).schedule = s.schedule := rfl
@[simp] theorem State.setPlaceOf_grid (s : State) (i : Furnace) (v : PlacementState) : (s.setPlaceOf i v).grid = s.grid := rfl
@[simp] theorem State.setPlaceOf_tracker (s : State) (i : Furnace) (v : PlacementState) : (s.setPlaceOf i v).tracker = s.tracker := rfl
@[simp] theorem State.setPlaceOf_arb (s : State) (i : Furnace) (v : PlacementState) : (s.setPlaceOf i v).arb = s.arb := rfl
@[simp] theorem State.setPlaceOf_seqs (s : State) (i : Furnace) (v : PlacementState) : (s.setPlaceOf i v).seqs = s.seqs := rfl
@[simp] theorem State.setPlaceOf_place (s : State) (i : Furnace) (v : PlacementState) : (s.setPlaceOf i v).place = s.place.set i v := rfl
@[simp] theorem State.setPlaceOf_maps (s : State) (i : Furnace) (v : PlacementState) : (s.setPlaceOf i v).maps = s.maps := rfl
@[simp] theorem State.setPlaceOf_counters (s : State) (i : Furnace) (v : PlacementState) : (s.setPlaceOf i v).counters = s.counters := rfl
@[simp] theorem State.setPlaceOf_sensors (s : State) (i : Furnace) (v : PlacementState) : (s.setPlaceOf i v).sensors = s.sensors := rfl
@[simp] theorem State.setPlaceOf_windows (s : State) (i : Furnace) (v : PlacementState) : (s.setPlaceOf i v).windows = s.windows := rfl
@[simp] theorem State.setPlaceOf_due (s : State) (i : Furnace) (v : PlacementState) : (s.setPlaceOf i v).due = s.due := rfl

/-! ### One of several -/

@[simp] theorem PerFurnace.get_set_self {α : Type} (p : PerFurnace α) (k : Furnace) (v : α) :
    (p.set k v).get k = v := by cases k <;> rfl

theorem PerFurnace.get_set_of_ne {α : Type} (p : PerFurnace α) {k j : Furnace} (h : j ≠ k) (v : α) :
    (p.set k v).get j = p.get j := by cases k <;> cases j <;> first | rfl | exact absurd rfl h

@[simp] theorem PerCounter.get_set_self {α : Type} (p : PerCounter α) (c : CounterId) (v : α) :
    (p.set c v).get c = v := by cases c <;> rfl

theorem PerCounter.get_set_of_ne {α : Type} (p : PerCounter α) {c d : CounterId} (h : d ≠ c) (v : α) :
    (p.set c v).get d = p.get d := by cases c <;> cases d <;> first | rfl | exact absurd rfl h

@[simp] theorem PerSensor.get_set_self {α : Type} (p : PerSensor α) (i : SensorId) (v : α) :
    (p.set i v).get i = v := by cases i <;> rfl

theorem PerSensor.get_set_of_ne {α : Type} (p : PerSensor α) {i j : SensorId} (h : j ≠ i) (v : α) :
    (p.set i v).get j = p.get j := by cases i <;> cases j <;> first | rfl | exact absurd rfl h

@[simp] theorem Links.port_setPort_self (l : Links) (p : Port) (v : PortState) :
    (l.setPort p v).port p = v := by cases p <;> rfl

theorem Links.port_setPort_of_ne (l : Links) {p q : Port} (h : q ≠ p) (v : PortState) :
    (l.setPort p v).port q = l.port q := by cases p <;> cases q <;> first | rfl | exact absurd rfl h

@[simp] theorem Links.station_setPort (l : Links) (p : Port) (v : PortState) :
    (l.setPort p v).station = l.station := by cases p <;> rfl

@[simp] theorem State.seq_setSeq (s : State) (k : Furnace) (q : Sequencer) : (s.setSeq k q).seq k = q :=
  PerFurnace.get_set_self _ _ _

@[simp] theorem State.map_setMap (s : State) (k : Furnace) (m : FurnaceMap) : (s.setMap k m).map k = m :=
  PerFurnace.get_set_self _ _ _

@[simp] theorem State.counter_setCounter (s : State) (c : CounterId) (x : Counter) :
    (s.setCounter c x).counter c = x := PerCounter.get_set_self _ _ _

@[simp] theorem State.sensor_setSensor (s : State) (i : SensorId) (x : Sensor) :
    (s.setSensor i x).sensor i = x := PerSensor.get_set_self _ _ _

@[simp] theorem State.placeOf_setPlaceOf (s : State) (k : Furnace) (p : PlacementState) :
    (s.setPlaceOf k p).placeOf k = p := PerFurnace.get_set_self _ _ _

end Sys2Proof.Machine
end

