-- ==== Sys2Proof/Laws/Blocks.lean ====
section
/-! SUPPORT. What the blocks' operations can do to the state, said once: a relation that stands for sending
an own telegram, holding an event and replacing the grid, the tracker, the table arbiter, the sequencers,
the placement holds, the window states or the occasions stands for every operation of the tracker, the
sequencers and the two arbiters, and for serving the occasions. A proof that one of these operations keeps
a field or an order gives the nine cases and cites the lemma of the operation. -/

namespace Sys2Proof.Machine

/-- A relation between states that the blocks' elementary updates stay within. -/
structure BlockClosed (R : State → State → Prop) : Prop where
  refl : ∀ s, R s s
  trans : ∀ {a b c}, R a b → R b c → R a c
  sendOwn : ∀ p d r b s, R s (sendOwn p d r b s)
  holdEvent : ∀ e s, R s (holdEvent e s)
  setGrid : ∀ s v, R s (State.setGrid s v)
  setTracker : ∀ s v, R s (State.setTracker s v)
  setArb : ∀ s v, R s (State.setArb s v)
  setSeqs : ∀ s v, R s (State.setSeqs s v)
  setPlace : ∀ s v, R s (State.setPlace s v)
  setWindows : ∀ s v, R s (State.setWindows s v)
  setDue : ∀ s v, R s (State.setDue s v)

namespace BlockClosed

variable {R : State → State → Prop} (c : BlockClosed R)
include c

/-! ### Telegrams, events, occasions -/

theorem sendField (r : Role) (n : Nat) (b : OwnBody) (s : State) : R s (Machine.sendField r n b s) := by
  unfold Machine.sendField
  split
  · exact c.refl s
  · exact c.sendOwn ..

theorem raise (e : Event) (s : State) : R s (Machine.raise e s) := by
  unfold Machine.raise
  split
  · exact c.sendOwn ..
  · exact c.holdEvent ..
  · exact c.holdEvent ..

theorem answerCrane (x : Crane) (id : Option Identity) (n : Nat) (a : GridAnswer) (s : State) :
    R s (Machine.answerCrane x id n a s) := c.sendField ..

theorem markStart (k : Furnace) (s : State) : R s (Machine.markStart k s) := c.setDue ..

theorem markStarts (s : State) : R s (Machine.markStarts s) := c.setDue ..

theorem markTable (s : State) : R s (Machine.markTable s) := c.setDue ..

theorem markGrid (s : State) : R s (Machine.markGrid s) := c.setDue ..

theorem markList (s : State) : R s (Machine.markList s) := c.trans (c.markTable s) (c.markGrid _)

theorem markReady (b : Bool) (s : State) : R s (Machine.markReady b s) := by
  unfold Machine.markReady
  split
  · exact c.markStarts s
  · exact c.refl s

/-! ### Holds and records of the table list -/

theorem putHold (k : Furnace) (n : HoldName) (v : Bool) (s : State) : R s (s.putHold k n v) :=
  c.setPlace ..

theorem setHoldOnce (n : HoldName) (k : Furnace) (tag : Nat) (d : Option Int) (s : State) :
    R s (Machine.setHoldOnce n k tag d s) := by
  unfold Machine.setHoldOnce
  split
  · exact c.refl s
  · exact c.trans (c.putHold ..) (c.raise ..)

theorem updateRecord (tag : Nat) (f : TableRecord → TableRecord) (s : State) :
    R s (Machine.updateRecord tag f s) := c.setTracker ..

theorem placementMarks (i : PlaceInput) (p : PlacementRecord) (s : State) :
    R s (Machine.placementMarks i p s) := by
  unfold Machine.placementMarks
  refine c.trans (c.updateRecord i.record.tag (fun r => { r with substituted := i.substitutes }) s) ?_
  split <;> split
  · exact c.trans (c.setHoldOnce ..) (c.setHoldOnce ..)
  · exact c.setHoldOnce ..
  · exact c.setHoldOnce ..
  · exact c.refl _

theorem evalPresenceAt (x : Int) (s : State) : R s (Machine.evalPresenceAt x s) := by
  unfold Machine.evalPresenceAt
  split
  · exact c.setTracker ..
  · split
    · exact c.refl s
    · exact c.trans (c.setTracker ..) (c.raise ..)

theorem evalPresence (s : State) : R s (Machine.evalPresence s) := c.evalPresenceAt ..

theorem deleteRecord (r : TableRecord) (s : State) : R s (Machine.deleteRecord r s) :=
  c.trans (c.trans (c.setTracker ..) (c.markList _)) (c.markReady ..)

theorem placeHold (x : SlabCause) (r : TableRecord) (s : State) : R s (Machine.placeHold x r s) := by
  unfold Machine.placeHold
  split
  · exact c.refl s
  · exact c.trans (c.trans (c.trans (c.updateRecord ..) (c.raise ..)) (c.markList _)) (c.markReady ..)

theorem holdTag (x : SlabCause) (tag : Nat) (s : State) : R s (Machine.holdTag x tag s) := by
  unfold Machine.holdTag
  split
  · exact c.refl s
  · exact c.placeHold ..

/-! ### The sequencers' own operations -/

theorem sendHalt (x : HaltReason) (s : State) : R s (Machine.sendHalt x s) := by
  unfold Machine.sendHalt
  split
  · exact c.sendField ..
  · exact c.refl s

theorem putRequest (k : Furnace) (q : Option PosRequest) (s : State) : R s (Machine.putRequest k q s) :=
  c.setArb ..

theorem dropRequest (k : Furnace) (s : State) : R s (Machine.dropRequest k s) :=
  c.trans (c.putRequest ..) (c.markList _)

theorem withdrawWaiting (k : Furnace) (s : State) : R s (Machine.withdrawWaiting k s) := by
  unfold Machine.withdrawWaiting
  split
  · exact c.dropRequest ..
  · exact c.refl s

theorem haltOwnMove (k : Furnace) (x : HaltReason) (s : State) : R s (Machine.haltOwnMove k x s) := by
  unfold Machine.haltOwnMove
  split
  · exact c.trans (c.sendHalt x s) (c.setArb ..)
  · exact c.refl s

theorem abandonMove (k : Furnace) (x : HaltReason) (s : State) : R s (Machine.abandonMove k x s) := by
  unfold Machine.abandonMove
  dsimp only
  split
  · exact c.haltOwnMove ..
  · exact c.trans (c.haltOwnMove ..) (c.dropRequest ..)

theorem releaseHold (k : Furnace) (s : State) : R s (Machine.releaseHold k s) := by
  unfold Machine.releaseHold
  split
  · exact c.trans (c.setArb ..) (c.markList _)
  · exact c.refl s

theorem setSeq (k : Furnace) (q : Sequencer) (s : State) : R s (s.setSeq k q) := c.setSeqs ..

theorem updateCycle (k : Furnace) (f : CycleRecord → CycleRecord) (s : State) :
    R s (Machine.updateCycle k f s) := c.setSeq ..

theorem putSeqState (k : Furnace) (st : SeqState) (w : Waiting) (s : State) :
    R s (Machine.putSeqState k st w s) := c.setSeq ..

theorem showWaiting (k : Furnace) (w : Waiting) (s : State) : R s (Machine.showWaiting k w s) :=
  c.setSeq ..

theorem startTimer (k : Furnace) (x : TimeoutKind) (s : State) : R s (Machine.startTimer k x s) :=
  c.updateCycle ..

theorem stopTimer (k : Furnace) (s : State) : R s (Machine.stopTimer k s) := c.updateCycle ..

theorem sendChargerStop (k : Furnace) (x : StopReason) (s : State) :
    R s (Machine.sendChargerStop k x s) := c.sendField ..

theorem putStopped (k : Furnace) (v : Option (List Bool)) (s : State) :
    R s (Machine.putStopped k v s) := c.setWindows ..

theorem enterHeld (k : Furnace) (x : HeldCause) (fault : Option Nat) (s : State) :
    R s (Machine.enterHeld k x fault s) :=
  c.trans (c.trans (c.trans (c.trans (c.setSeq ..) (c.putStopped ..)) (c.releaseHold ..))
    (c.withdrawWaiting ..)) (c.raise ..)

theorem enterIdle (k : Furnace) (s : State) : R s (Machine.enterIdle k s) :=
  c.trans (c.trans (c.trans (c.setSeq ..) (c.putStopped ..)) (c.releaseHold ..)) (c.markStart ..)

theorem enterOffline (k : Furnace) (s : State) : R s (Machine.enterOffline k s) :=
  c.trans (c.trans (c.setSeq ..) (c.putStopped ..)) (c.releaseHold ..)

/-! ### Final computations -/

theorem orderCharge (k : Furnace) (x : Int) (s : State) : R s (Machine.orderCharge k x s) := by
  unfold Machine.orderCharge
  split
  · exact c.trans (c.trans (c.sendField ..) (c.putSeqState ..)) (c.startTimer ..)
  · exact c.refl s

theorem requestStrokes (k : Furnace) (n d : Int) (s : State) : R s (Machine.requestStrokes k n d s) := by
  unfold Machine.requestStrokes
  split
  · exact c.refl s
  · exact c.trans (c.trans (c.trans (c.sendField ..) (c.updateCycle ..)) (c.putSeqState ..))
      (c.startTimer ..)

theorem waitInRoom (k : Furnace) (w : Waiting) (s : State) : R s (Machine.waitInRoom k w s) :=
  c.trans (c.putSeqState ..) (c.stopTimer ..)

theorem holdAndIdle (k : Furnace) (x : SlabCause) (tag : Nat) (s : State) :
    R s (Machine.holdAndIdle k x tag s) := c.trans (c.holdTag ..) (c.enterIdle ..)

theorem decideFinal (k : Furnace) (tag : Nat) (p : PlacementRecord) (s : State) :
    R s (Machine.decideFinal k tag p s) := by
  unfold Machine.decideFinal
  split
  · exact c.orderCharge ..
  · exact c.orderCharge ..
  · exact c.requestStrokes ..
  · exact c.waitInRoom ..
  · exact c.waitInRoom ..
  · exact c.holdAndIdle ..
  · exact c.holdAndIdle ..

theorem runFinal (k : Furnace) (s : State) : R s (Machine.runFinal k s) := by
  unfold Machine.runFinal
  split
  · exact c.refl s
  · split
    · exact c.refl s
    · exact c.trans (c.trans (c.placementMarks ..) (c.updateCycle ..)) (c.decideFinal ..)

theorem strokeHandedOn (k : Furnace) (x : Int) (s : State) : R s (Machine.strokeHandedOn k x s) := by
  unfold Machine.strokeHandedOn
  split
  · exact c.markStart ..
  · split
    · unfold Machine.takeStroke
      dsimp only
      split
      · exact c.trans (c.trans (c.updateCycle ..) (c.stopTimer ..)) (c.runFinal ..)
      · exact c.trans (c.updateCycle ..) (c.startTimer ..)
    · split
      · exact c.runFinal ..
      · exact c.refl s
  · exact c.refl s

theorem dischargeHandedOn (k : Furnace) (s : State) : R s (Machine.dischargeHandedOn k s) := by
  unfold Machine.dischargeHandedOn
  split
  · exact c.markStart ..
  · split
    · exact c.runFinal ..
    · exact c.refl s
  · exact c.refl s

/-! ### Start evaluations -/

theorem beginCycle (k : Furnace) (r : TableRecord) (p : PlacementRecord) (s : State) :
    R s (Machine.beginCycle k r p s) := by
  unfold Machine.beginCycle
  split
  · exact c.refl s
  · exact c.trans (c.trans (c.setSeq ..) (c.putRequest ..)) (c.markList _)

theorem startLoop (k : Furnace) (n : Nat) (s : State) : R s (Machine.startLoop k n s) := by
  induction n generalizing s with
  | zero => exact c.refl s
  | succ n ih =>
    unfold Machine.startLoop
    split
    · exact c.showWaiting ..
    · split
      · exact c.refl s
      · dsimp only
        split
        · exact c.trans (c.placementMarks ..) (c.beginCycle ..)
        · exact c.trans (c.placementMarks ..) (c.beginCycle ..)
        · exact c.trans (c.placementMarks ..) (c.beginCycle ..)
        · exact c.trans (c.trans (c.placementMarks ..) (c.holdTag ..)) (ih _)
        · exact c.trans (c.trans (c.placementMarks ..) (c.holdTag ..)) (ih _)
        · exact c.trans (c.placementMarks ..) (c.showWaiting ..)
        · exact c.trans (c.placementMarks ..) (c.showWaiting ..)

theorem startEval (k : Furnace) (s : State) : R s (Machine.startEval k s) := by
  unfold Machine.startEval
  split
  · exact c.refl s
  · split
    · exact c.showWaiting ..
    · exact c.startLoop ..

theorem showBar (k : Furnace) (s : State) : R s (Machine.showBar k s) := by
  unfold Machine.showBar
  split
  · split
    · exact c.refl s
    · exact c.showWaiting ..
  · exact c.refl s

/-! ### Holds of the tracker -/

theorem handHold (k : Furnace) (tag : Nat) (s : State) : R s (Machine.handHold k tag s) := by
  unfold Machine.handHold
  split
  · unfold Machine.takeTrackerHold
    split
    · exact c.trans (c.abandonMove ..) (c.enterIdle ..)
    · exact c.enterIdle ..
    · exact c.trans (c.sendChargerStop ..) (c.enterHeld ..)
    · exact c.refl s
  · exact c.refl s

theorem trackerHold (x : SlabCause) (r : TableRecord) (s : State) :
    R s (Machine.trackerHold x r s) := by
  unfold Machine.trackerHold
  split
  · exact c.refl s
  · dsimp only
    split
    · exact c.placeHold ..
    · exact c.trans (c.trans (c.placeHold ..) (c.handHold ..)) (c.handHold ..)

/-! ### The table arbiter -/

theorem orderMove (k : Furnace) (d : Int) (s : State) : R s (Machine.orderMove k d s) :=
  c.trans (c.trans (c.sendField ..) (c.setArb ..)) (c.markGrid _)

theorem becomeStill (s : State) : R s (Machine.becomeStill s) := c.trans (c.setArb ..) (c.markList _)

theorem moveSuccess (k : Furnace) (s : State) : R s (Machine.moveSuccess k s) :=
  c.trans (c.trans (c.trans (c.trans (c.trans (c.becomeStill s) (c.dropRequest k _)) (c.setArb ..))
    (c.markGrid _)) (c.stopTimer k _)) (c.runFinal k _)

theorem lastMiss (k : Furnace) (tag : Nat) (s : State) : R s (Machine.lastMiss k tag s) :=
  c.trans (c.trans (c.becomeStill s) (c.dropRequest k _)) (c.holdAndIdle ..)

theorem correctMove (k : Furnace) (tag : Nat) (g : TableGeometry) (d : Int) (s : State) :
    R s (Machine.correctMove k tag g d s) := by
  unfold Machine.correctMove
  dsimp only
  split
  · exact c.trans (c.updateCycle ..) (c.orderMove ..)
  · exact c.trans (c.updateCycle ..) (c.lastMiss ..)

theorem moveEnded (k : Furnace) (s : State) : R s (Machine.moveEnded k s) := by
  unfold Machine.moveEnded
  split
  · split
    · exact c.moveSuccess ..
    · split
      · exact c.correctMove ..
      · exact c.lastMiss ..
  · exact c.refl s

theorem checkRequest (k : Furnace) (s : State) : R s (Machine.checkRequest k s) := by
  unfold Machine.checkRequest
  split
  · exact c.refl s
  · split
    · exact c.refl s
    · split
      · exact c.trans (c.putRequest ..) (c.showWaiting ..)
      · exact c.trans (c.putRequest ..) (c.showWaiting ..)

theorem grantMove (k : Furnace) (s : State) : R s (Machine.grantMove k s) := by
  unfold Machine.grantMove
  split
  · split
    · exact c.refl s
    · dsimp only
      split
      · exact c.trans (c.trans (c.trans (c.putRequest ..) (c.showWaiting ..)) (c.startTimer ..))
          (c.moveSuccess ..)
      · exact c.trans (c.trans (c.trans (c.putRequest ..) (c.showWaiting ..)) (c.startTimer ..))
          (c.orderMove ..)
  · exact c.refl s

theorem tableRule (s : State) : R s (Machine.tableRule s) := by
  unfold Machine.tableRule
  split
  · exact c.refl s
  · dsimp only
    split
    · exact c.trans (c.trans (c.checkRequest ..) (c.checkRequest ..)) (c.markGrid _)
    · exact c.trans (c.trans (c.trans (c.checkRequest ..) (c.checkRequest ..)) (c.markGrid _))
        (c.grantMove ..)

theorem moveFailed (k : Furnace) (s : State) : R s (Machine.moveFailed k s) :=
  c.trans (c.trans (c.becomeStill s) (c.dropRequest k _)) (c.enterHeld ..)

theorem takeTableReport (n : Nat) (o : MoveOutcome) (s : State) :
    R s (Machine.takeTableReport n o s) := by
  unfold Machine.takeTableReport
  split
  · exact c.raise ..
  · split
    · exact c.becomeStill s
    · exact c.raise ..
  · split
    · exact c.raise ..
    · split
      · exact c.becomeStill s
      · split
        · exact c.moveEnded ..
        · exact c.moveFailed ..

theorem tableEnd (x : Int) (s : State) : R s (Machine.tableEnd x s) :=
  c.trans (c.raise ..) (c.sendHalt ..)

/-! ### The grid arbiter -/

theorem dropHeld (s : State) : R s (Machine.dropHeld s) := by
  have fold : ∀ (l : List GridRequest) (t : State), R t (l.foldl
      (fun t q => Machine.answerCrane q.crane (some q.id) q.reference .withdrawnDuplicate t) t) := by
    intro l
    induction l with
    | nil => exact c.refl
    | cons q l ih => exact fun t => c.trans (c.answerCrane ..) (ih _)
  exact c.trans (c.setGrid ..) (fold _ _)

theorem makeGrant (q : GridRequest) (s : State) : R s (Machine.makeGrant q s) :=
  c.trans (c.trans (c.setArb ..) (c.setGrid ..)) (c.answerCrane ..)

theorem gridEval (s : State) : R s (Machine.gridEval s) := by
  unfold Machine.gridEval
  dsimp only
  split
  · split
    · exact c.dropHeld s
    · exact c.trans (c.dropHeld s) (c.makeGrant ..)
  · exact c.dropHeld s

theorem endGrant (s : State) : R s (Machine.endGrant s) :=
  c.trans (c.trans (c.trans (c.setGrid ..) (c.setArb ..)) (c.evalPresence _)) (c.markList _)

theorem withdrawGrant (g : Grant) (s : State) : R s (Machine.withdrawGrant g s) :=
  c.trans (c.answerCrane ..) (c.endGrant _)

/-! ### Serving the occasions -/

theorem settle (n : Nat) (s : State) : R s (Machine.settle n s) := by
  induction n generalizing s with
  | zero => exact c.refl s
  | succ n ih =>
    unfold Machine.settle
    split
    · exact c.trans (c.trans (c.setDue ..) (c.startEval ..)) (ih _)
    · split
      · exact c.trans (c.trans (c.setDue ..) (c.startEval ..)) (ih _)
      · split
        · exact c.trans (c.trans (c.setDue ..) (c.tableRule _)) (ih _)
        · split
          · exact c.trans (c.trans (c.setDue ..) (c.gridEval _)) (ih _)
          · exact c.refl s

theorem serve (s : State) : R s (Machine.serve s) := by
  unfold Machine.serve
  split
  · exact c.setDue ..
  · exact c.trans (c.trans (c.settle ..) (c.showBar ..)) (c.showBar ..)

theorem finish (s : State) : R s (Machine.finish s) := c.trans (c.serve s) (c.setWindows ..)

end BlockClosed

end Sys2Proof.Machine
end

