-- ==== Sys2Proof/Laws/Encoding.lean ====
section
/-! SUPPORT. What the bytes of fields and telegrams are: lengths, the value a figure's four bytes spell, and
the bytes of a list of fields one after another. -/

namespace Sys2Proof.Machine

/-! ### Fields one after another -/

@[simp] theorem fieldBytes_nil : fieldBytes [] = [] := rfl

@[simp] theorem fieldBytes_cons (f : Field) (l : List Field) :
    fieldBytes (f :: l) = f.bytes ++ fieldBytes l := rfl

@[simp] theorem fieldBytes_append (l m : List Field) :
    fieldBytes (l ++ m) = fieldBytes l ++ fieldBytes m := by simp [fieldBytes]

/-! ### Lengths (R171) -/

@[simp] theorem twoBytes_length (n : Nat) : (twoBytes n).length = 2 := rfl

@[simp] theorem fourBytes_length (w : Word32) : (fourBytes w).length = 4 := rfl

@[simp] theorem identityBytes_length (x : Identity) : (identityBytes x).length = 12 := by
  simp [identityBytes]

@[simp] theorem codeField_length {α : Type} (f : α → CodeName) (c : Code α) :
    (codeField f c).bytes.length = 1 := by cases c <;> rfl

/-- The fields of a list of entries have the lengths of theirs, summed. -/
theorem fieldBytes_flatMap_length {α : Type} (f : α → List Field) (l : List α) :
    (fieldBytes (l.flatMap f)).length = (l.map fun x => (fieldBytes (f x)).length).sum := by
  induction l with
  | nil => rfl
  | cons a l ih => simp [ih]

/-- Entries of one length each. -/
theorem fieldBytes_flatMap_const {α : Type} {f : α → List Field} {n : Nat} {l : List α}
    (h : ∀ x ∈ l, (fieldBytes (f x)).length = n) : (fieldBytes (l.flatMap f)).length = n * l.length := by
  rw [fieldBytes_flatMap_length, List.map_congr_left h]
  simp [Nat.mul_comm]

/-- Fields of one length each. -/
theorem fieldBytes_map_const {α : Type} {f : α → Field} {n : Nat} {l : List α}
    (h : ∀ x, (f x).bytes.length = n) : (fieldBytes (l.map f)).length = n * l.length := by
  induction l with
  | nil => rfl
  | cons a l ih => simp [h, ih, Nat.mul_add, Nat.add_comm]

@[simp] theorem codeField?_length {α : Type} (f : α → CodeName) (c : Option (Code α)) :
    (codeField? f c).bytes.length = 1 := by
  cases c with
  | none => rfl
  | some c => cases c <;> rfl

/-! The bytes a field has in a payload, by its type (R171). -/
@[simp] theorem field_figure_length (x : Int) : (Field.figure x).bytes.length = 4 := rfl
@[simp] theorem field_optFigure_length (x : Option Int) : (Field.figure? x).bytes.length = 4 := rfl
@[simp] theorem field_mass_length (x : Option Int) : (Field.mass x).bytes.length = 4 := rfl
@[simp] theorem field_tag_length (n : Nat) : (Field.tag n).bytes.length = 2 := rfl
@[simp] theorem field_identity_length (x : Identity) : (Field.identity x).bytes.length = 12 :=
  identityBytes_length x
@[simp] theorem field_byte_length (n : Nat) : (Field.byte n).bytes.length = 1 := rfl
@[simp] theorem field_optByte_length (n : Option Nat) : (Field.byte? n).bytes.length = 1 := rfl
@[simp] theorem field_code_length (c : CodeName) : (Field.code c).bytes.length = 1 := rfl
@[simp] theorem field_optCode_length (c : Option CodeName) : (Field.code? c).bytes.length = 1 := rfl
@[simp] theorem field_members_length (l : List Bool) : (Field.members l).bytes.length = 2 := rfl
@[simp] theorem field_raw_length (l : List Byte) : (Field.raw l).bytes.length = l.length := rfl

/-! ### The form of a management telegram (R187) -/

/-- A payload fits where every entry has the fields of its index and the length is that of its fields. -/
theorem formFits_of_length {i : Instr} {h : Hdr} {n : Nat} (hh : i.parts.hdr = some h)
    (hn : Instr.fieldsLength i = some n) (hs : Instr.entriesStand i = true) (hl : h.length = n) :
    formFits i = true := by
  simp [formFits, hh, hn, hs, hl]

/-- Where no field list is open, a payload fits exactly so. -/
theorem formFits_closed {i : Instr} {h : Hdr} {n : Nat} (hh : i.parts.hdr = some h)
    (hn : Instr.fieldsLength i = some n) (ho : Instr.fieldsOpen i = false) :
    formFits i = true ↔ Instr.entriesStand i = true ∧ h.length = n := by
  simp [formFits, hh, hn, ho]

@[simp] theorem ownTelegram_bytes_length (t : OwnTelegram) : t.bytes.length = 5 + t.length := by
  simp [OwnTelegram.bytes, headerBytes, OwnTelegram.length]; omega

/-! ### Values (R138, R171) -/

/-- A figure is carried modulo 2^32. -/
theorem word32_value (x : Int) : ((word32 x).toNat : Int) = x % 4294967296 := by
  simp [word32, BitVec.toNat_ofInt]; omega

/-- Four bytes spell their word, the most significant first. -/
theorem fourBytes_value (w : Word32) : 16777216 * (w.extractLsb' 24 8).toNat
    + 65536 * (w.extractLsb' 16 8).toNat + 256 * (w.extractLsb' 8 8).toNat
    + (w.extractLsb' 0 8).toNat = w.toNat := by
  have h := w.isLt
  simp only [BitVec.extractLsb'_toNat, Nat.shiftRight_eq_div_pow]
  omega

/-- A one-byte field spells a number that a byte holds. -/
theorem oneByte_value (n : Nat) (h : n < 256) : (oneByte n).toNat = n := by
  simp [oneByte, byteOf, h]

/-- Two bytes spell their number, the most significant first. -/
theorem twoBytes_value (n : Nat) (h : n < 65536) :
    256 * (byteOf (n / 256)).toNat + (byteOf n).toNat = n := by
  simp [byteOf]; omega

end Sys2Proof.Machine
end

