-- ==== Sys2Proof/Laws/Ops.lean ====
section
/-! SUPPORT. The shared operations of Machine/Ops.lean: what each leaves alone, and the bounds of the
transmit queues and the held-event list. -/

namespace Sys2Proof.Machine

/-! ### sendOwn -/

@[simp] theorem sendOwn_pending (p : Port) (d r : Nat) (b : OwnBody) (s : State) :
    (sendOwn p d r b s).pending = s.pending := by unfold sendOwn; split <;> rfl
@[simp] theorem sendOwn_power (p : Port) (d r : Nat) (b : OwnBody) (s : State) :
    (sendOwn p d r b s).power = s.power := by unfold sendOwn; split <;> rfl
@[simp] theorem sendOwn_ret (p : Port) (d r : Nat) (b : OwnBody) (s : State) :
    (sendOwn p d r b s).ret = s.ret := by unfold sendOwn; split <;> rfl
@[simp] theorem sendOwn_cfg (p : Port) (d r : Nat) (b : OwnBody) (s : State) :
    (sendOwn p d r b s).cfg = s.cfg := by unfold sendOwn; split <;> rfl
@[simp] theorem sendOwn_mgmt (p : Port) (d r : Nat) (b : OwnBody) (s : State) :
    (sendOwn p d r b s).mgmt = s.mgmt := by unfold sendOwn; split <;> rfl
@[simp] theorem sendOwn_schedule (p : Port) (d r : Nat) (b : OwnBody) (s : State) :
    (sendOwn p d r b s).schedule = s.schedule := by unfold sendOwn; split <;> rfl
@[simp] theorem sendOwn_grid (p : Port) (d r : Nat) (b : OwnBody) (s : State) :
    (sendOwn p d r b s).grid = s.grid := by unfold sendOwn; split <;> rfl
@[simp] theorem sendOwn_tracker (p : Port) (d r : Nat) (b : OwnBody) (s : State) :
    (sendOwn p d r b s).tracker = s.tracker := by unfold sendOwn; split <;> rfl
@[simp] theorem sendOwn_arb (p : Port) (d r : Nat) (b : OwnBody) (s : State) :
    (sendOwn p d r b s).arb = s.arb := by unfold sendOwn; split <;> rfl
@[simp] theorem sendOwn_seqs (p : Port) (d r : Nat) (b : OwnBody) (s : State) :
    (sendOwn p d r b s).seqs = s.seqs := by unfold sendOwn; split <;> rfl
@[simp] theorem sendOwn_place (p : Port) (d r : Nat) (b : OwnBody) (s : State) :
    (sendOwn p d r b s).place = s.place := by unfold sendOwn; split <;> rfl
@[simp] theorem sendOwn_maps (p : Port) (d r : Nat) (b : OwnBody) (s : State) :
    (sendOwn p d r b s).maps = s.maps := by unfold sendOwn; split <;> rfl
@[simp] theorem sendOwn_counters (p : Port) (d r : Nat) (b : OwnBody) (s : State) :
    (sendOwn p d r b s).counters = s.counters := by unfold sendOwn; split <;> rfl
@[simp] theorem sendOwn_sensors (p : Port) (d r : Nat) (b : OwnBody) (s : State) :
    (sendOwn p d r b s).sensors = s.sensors := by unfold sendOwn; split <;> rfl
@[simp] theorem sendOwn_windows (p : Port) (d r : Nat) (b : OwnBody) (s : State) :
    (sendOwn p d r b s).windows = s.windows := by unfold sendOwn; split <;> rfl
@[simp] theorem sendOwn_due (p : Port) (d r : Nat) (b : OwnBody) (s : State) :
    (sendOwn p d r b s).due = s.due := by unfold sendOwn; split <;> rfl
@[simp] theorem sendOwn_station (p : Port) (d r : Nat) (b : OwnBody) (s : State) :
    (sendOwn p d r b s).links.station = s.links.station := by
  unfold sendOwn; split
  · rfl
  · simp

/-! ### sendField -/

@[simp] theorem sendField_pending (x : Role) (n : Nat) (b : OwnBody) (s : State) :
    (sendField x n b s).pending = s.pending := by unfold sendField; split <;> simp
@[simp] theorem sendField_power (x : Role) (n : Nat) (b : OwnBody) (s : State) :
    (sendField x n b s).power = s.power := by unfold sendField; split <;> simp
@[simp] theorem sendField_ret (x : Role) (n : Nat) (b : OwnBody) (s : State) :
    (sendField x n b s).ret = s.ret := by unfold sendField; split <;> simp
@[simp] theorem sendField_cfg (x : Role) (n : Nat) (b : OwnBody) (s : State) :
    (sendField x n b s).cfg = s.cfg := by unfold sendField; split <;> simp
@[simp] theorem sendField_mgmt (x : Role) (n : Nat) (b : OwnBody) (s : State) :
    (sendField x n b s).mgmt = s.mgmt := by unfold sendField; split <;> simp
@[simp] theorem sendField_schedule (x : Role) (n : Nat) (b : OwnBody) (s : State) :
    (sendField x n b s).schedule = s.schedule := by unfold sendField; split <;> simp
@[simp] theorem sendField_grid (x : Role) (n : Nat) (b : OwnBody) (s : State) :
    (sendField x n b s).grid = s.grid := by unfold sendField; split <;> simp
@[simp] theorem sendField_tracker (x : Role) (n : Nat) (b : OwnBody) (s : State) :
    (sendField x n b s).tracker = s.tracker := by unfold sendField; split <;> simp
@[simp] theorem sendField_arb (x : Role) (n : Nat) (b : OwnBody) (s : State) :
    (sendField x n b s).arb = s.arb := by unfold sendField; split <;> simp
@[simp] theorem sendField_seqs (x : Role) (n : Nat) (b : OwnBody) (s : State) :
    (sendField x n b s).seqs = s.seqs := by unfold sendField; split <;> simp
@[simp] theorem sendField_place (x : Role) (n : Nat) (b : OwnBody) (s : State) :
    (sendField x n b s).place = s.place := by unfold sendField; split <;> simp
@[simp] theorem sendField_maps (x : Role) (n : Nat) (b : OwnBody) (s : State) :
    (sendField x n b s).maps = s.maps := by unfold sendField; split <;> simp
@[simp] theorem sendField_counters (x : Role) (n : Nat) (b : OwnBody) (s : State) :
    (sendField x n b s).counters = s.counters := by unfold sendField; split <;> simp
@[simp] theorem sendField_sensors (x : Role) (n : Nat) (b : OwnBody) (s : State) :
    (sendField x n b s).sensors = s.sensors := by unfold sendField; split <;> simp
@[simp] theorem sendField_windows (x : Role) (n : Nat) (b : OwnBody) (s : State) :
    (sendField x n b s).windows = s.windows := by unfold sendField; split <;> simp
@[simp] theorem sendField_due (x : Role) (n : Nat) (b : OwnBody) (s : State) :
    (sendField x n b s).due = s.due := by unfold sendField; split <;> simp
@[simp] theorem sendField_station (x : Role) (n : Nat) (b : OwnBody) (s : State) :
    (sendField x n b s).links.station = s.links.station := by unfold sendField; split <;> simp

/-! ### holdEvent -/

@[simp] theorem holdEvent_pending (e : Stamped) (s : State) :
    (holdEvent e s).pending = s.pending := by unfold holdEvent; split <;> rfl
@[simp] theorem holdEvent_power (e : Stamped) (s : State) :
    (holdEvent e s).power = s.power := by unfold holdEvent; split <;> rfl
@[simp] theorem holdEvent_cfg (e : Stamped) (s : State) :
    (holdEvent e s).cfg = s.cfg := by unfold holdEvent; split <;> rfl
@[simp] theorem holdEvent_links (e : Stamped) (s : State) :
    (holdEvent e s).links = s.links := by unfold holdEvent; split <;> rfl
@[simp] theorem holdEvent_mgmt (e : Stamped) (s : State) :
    (holdEvent e s).mgmt = s.mgmt := by unfold holdEvent; split <;> rfl
@[simp] theorem holdEvent_schedule (e : Stamped) (s : State) :
    (holdEvent e s).schedule = s.schedule := by unfold holdEvent; split <;> rfl
@[simp] theorem holdEvent_grid (e : Stamped) (s : State) :
    (holdEvent e s).grid = s.grid := by unfold holdEvent; split <;> rfl
@[simp] theorem holdEvent_tracker (e : Stamped) (s : State) :
    (holdEvent e s).tracker = s.tracker := by unfold holdEvent; split <;> rfl
@[simp] theorem holdEvent_arb (e : Stamped) (s : State) :
    (holdEvent e s).arb = s.arb := by unfold holdEvent; split <;> rfl
@[simp] theorem holdEvent_seqs (e : Stamped) (s : State) :
    (holdEvent e s).seqs = s.seqs := by unfold holdEvent; split <;> rfl
@[simp] theorem holdEvent_place (e : Stamped) (s : State) :
    (holdEvent e s).place = s.place := by unfold holdEvent; split <;> rfl
@[simp] theorem holdEvent_maps (e : Stamped) (s : State) :
    (holdEvent e s).maps = s.maps := by unfold holdEvent; split <;> rfl
@[simp] theorem holdEvent_counters (e : Stamped) (s : State) :
    (holdEvent e s).counters = s.counters := by unfold holdEvent; split <;> rfl
@[simp] theorem holdEvent_sensors (e : Stamped) (s : State) :
    (holdEvent e s).sensors = s.sensors := by unfold holdEvent; split <;> rfl
@[simp] theorem holdEvent_windows (e : Stamped) (s : State) :
    (holdEvent e s).windows = s.windows := by unfold holdEvent; split <;> rfl
@[simp] theorem holdEvent_due (e : Stamped) (s : State) :
    (holdEvent e s).due = s.due := by unfold holdEvent; split <;> rfl
@[simp] theorem holdEvent_mode (e : Stamped) (s : State) : (holdEvent e s).ret.mode = s.ret.mode := by
  unfold holdEvent; split <;> rfl
@[simp] theorem holdEvent_clock (e : Stamped) (s : State) : (holdEvent e s).ret.clock = s.ret.clock := by
  unfold holdEvent; split <;> rfl
@[simp] theorem holdEvent_startKind (e : Stamped) (s : State) :
    (holdEvent e s).ret.startKind = s.ret.startKind := by unfold holdEvent; split <;> rfl
@[simp] theorem holdEvent_backup (e : Stamped) (s : State) : (holdEvent e s).ret.backup = s.ret.backup := by
  unfold holdEvent; split <;> rfl

/-! ### raise -/

@[simp] theorem raise_pending (e : Event) (s : State) :
    (raise e s).pending = s.pending := by unfold raise; split <;> simp [sendEvent]
@[simp] theorem raise_power (e : Event) (s : State) :
    (raise e s).power = s.power := by unfold raise; split <;> simp [sendEvent]
@[simp] theorem raise_cfg (e : Event) (s : State) :
    (raise e s).cfg = s.cfg := by unfold raise; split <;> simp [sendEvent]
@[simp] theorem raise_mgmt (e : Event) (s : State) :
    (raise e s).mgmt = s.mgmt := by unfold raise; split <;> simp [sendEvent]
@[simp] theorem raise_schedule (e : Event) (s : State) :
    (raise e s).schedule = s.schedule := by unfold raise; split <;> simp [sendEvent]
@[simp] theorem raise_grid (e : Event) (s : State) :
    (raise e s).grid = s.grid := by unfold raise; split <;> simp [sendEvent]
@[simp] theorem raise_tracker (e : Event) (s : State) :
    (raise e s).tracker = s.tracker := by unfold raise; split <;> simp [sendEvent]
@[simp] theorem raise_arb (e : Event) (s : State) :
    (raise e s).arb = s.arb := by unfold raise; split <;> simp [sendEvent]
@[simp] theorem raise_seqs (e : Event) (s : State) :
    (raise e s).seqs = s.seqs := by unfold raise; split <;> simp [sendEvent]
@[simp] theorem raise_place (e : Event) (s : State) :
    (raise e s).place = s.place := by unfold raise; split <;> simp [sendEvent]
@[simp] theorem raise_maps (e : Event) (s : State) :
    (raise e s).maps = s.maps := by unfold raise; split <;> simp [sendEvent]
@[simp] theorem raise_counters (e : Event) (s : State) :
    (raise e s).counters = s.counters := by unfold raise; split <;> simp [sendEvent]
@[simp] theorem raise_sensors (e : Event) (s : State) :
    (raise e s).sensors = s.sensors := by unfold raise; split <;> simp [sendEvent]
@[simp] theorem raise_windows (e : Event) (s : State) :
    (raise e s).windows = s.windows := by unfold raise; split <;> simp [sendEvent]
@[simp] theorem raise_due (e : Event) (s : State) :
    (raise e s).due = s.due := by unfold raise; split <;> simp [sendEvent]
@[simp] theorem raise_mode (e : Event) (s : State) : (raise e s).ret.mode = s.ret.mode := by
  unfold raise; split <;> simp [sendEvent]
@[simp] theorem raise_clock (e : Event) (s : State) : (raise e s).ret.clock = s.ret.clock := by
  unfold raise; split <;> simp [sendEvent]
@[simp] theorem raise_startKind (e : Event) (s : State) : (raise e s).ret.startKind = s.ret.startKind := by
  unfold raise; split <;> simp [sendEvent]
@[simp] theorem raise_backup (e : Event) (s : State) : (raise e s).ret.backup = s.ret.backup := by
  unfold raise; split <;> simp [sendEvent]
@[simp] theorem raise_station (e : Event) (s : State) :
    (raise e s).links.station = s.links.station := by unfold raise; split <;> simp [sendEvent]

/-! ### respond -/

@[simp] theorem respond_pending (h : Hdr) (n : Nat) (c : RespCode) (x : Option Nat) (d : RespData) (s : State) :
    (respond h n c x d s).pending = s.pending := by simp [respond]
@[simp] theorem respond_power (h : Hdr) (n : Nat) (c : RespCode) (x : Option Nat) (d : RespData) (s : State) :
    (respond h n c x d s).power = s.power := by simp [respond]
@[simp] theorem respond_ret (h : Hdr) (n : Nat) (c : RespCode) (x : Option Nat) (d : RespData) (s : State) :
    (respond h n c x d s).ret = s.ret := by simp [respond]
@[simp] theorem respond_cfg (h : Hdr) (n : Nat) (c : RespCode) (x : Option Nat) (d : RespData) (s : State) :
    (respond h n c x d s).cfg = s.cfg := by simp [respond]
@[simp] theorem respond_mgmt (h : Hdr) (n : Nat) (c : RespCode) (x : Option Nat) (d : RespData) (s : State) :
    (respond h n c x d s).mgmt = s.mgmt := by simp [respond]
@[simp] theorem respond_schedule (h : Hdr) (n : Nat) (c : RespCode) (x : Option Nat) (d : RespData) (s : State) :
    (respond h n c x d s).schedule = s.schedule := by simp [respond]
@[simp] theorem respond_grid (h : Hdr) (n : Nat) (c : RespCode) (x : Option Nat) (d : RespData) (s : State) :
    (respond h n c x d s).grid = s.grid := by simp [respond]
@[simp] theorem respond_tracker (h : Hdr) (n : Nat) (c : RespCode) (x : Option Nat) (d : RespData) (s : State) :
    (respond h n c x d s).tracker = s.tracker := by simp [respond]
@[simp] theorem respond_arb (h : Hdr) (n : Nat) (c : RespCode) (x : Option Nat) (d : RespData) (s : State) :
    (respond h n c x d s).arb = s.arb := by simp [respond]
@[simp] theorem respond_seqs (h : Hdr) (n : Nat) (c : RespCode) (x : Option Nat) (d : RespData) (s : State) :
    (respond h n c x d s).seqs = s.seqs := by simp [respond]
@[simp] theorem respond_place (h : Hdr) (n : Nat) (c : RespCode) (x : Option Nat) (d : RespData) (s : State) :
    (respond h n c x d s).place = s.place := by simp [respond]
@[simp] theorem respond_maps (h : Hdr) (n : Nat) (c : RespCode) (x : Option Nat) (d : RespData) (s : State) :
    (respond h n c x d s).maps = s.maps := by simp [respond]
@[simp] theorem respond_counters (h : Hdr) (n : Nat) (c : RespCode) (x : Option Nat) (d : RespData) (s : State) :
    (respond h n c x d s).counters = s.counters := by simp [respond]
@[simp] theorem respond_sensors (h : Hdr) (n : Nat) (c : RespCode) (x : Option Nat) (d : RespData) (s : State) :
    (respond h n c x d s).sensors = s.sensors := by simp [respond]
@[simp] theorem respond_windows (h : Hdr) (n : Nat) (c : RespCode) (x : Option Nat) (d : RespData) (s : State) :
    (respond h n c x d s).windows = s.windows := by simp [respond]
@[simp] theorem respond_due (h : Hdr) (n : Nat) (c : RespCode) (x : Option Nat) (d : RespData) (s : State) :
    (respond h n c x d s).due = s.due := by simp [respond]
@[simp] theorem respond_station (h : Hdr) (n : Nat) (c : RespCode) (x : Option Nat) (d : RespData)
    (s : State) : (respond h n c x d s).links.station = s.links.station := by simp [respond]

/-! ### forwardTo -/

@[simp] theorem forwardTo_pending (p : Port) (c : Instr) (s : State) :
    (forwardTo p c s).pending = s.pending := by rfl
@[simp] theorem forwardTo_power (p : Port) (c : Instr) (s : State) :
    (forwardTo p c s).power = s.power := by rfl
@[simp] theorem forwardTo_ret (p : Port) (c : Instr) (s : State) :
    (forwardTo p c s).ret = s.ret := by rfl
@[simp] theorem forwardTo_cfg (p : Port) (c : Instr) (s : State) :
    (forwardTo p c s).cfg = s.cfg := by rfl
@[simp] theorem forwardTo_mgmt (p : Port) (c : Instr) (s : State) :
    (forwardTo p c s).mgmt = s.mgmt := by rfl
@[simp] theorem forwardTo_schedule (p : Port) (c : Instr) (s : State) :
    (forwardTo p c s).schedule = s.schedule := by rfl
@[simp] theorem forwardTo_grid (p : Port) (c : Instr) (s : State) :
    (forwardTo p c s).grid = s.grid := by rfl
@[simp] theorem forwardTo_tracker (p : Port) (c : Instr) (s : State) :
    (forwardTo p c s).tracker = s.tracker := by rfl
@[simp] theorem forwardTo_arb (p : Port) (c : Instr) (s : State) :
    (forwardTo p c s).arb = s.arb := by rfl
@[simp] theorem forwardTo_seqs (p : Port) (c : Instr) (s : State) :
    (forwardTo p c s).seqs = s.seqs := by rfl
@[simp] theorem forwardTo_place (p : Port) (c : Instr) (s : State) :
    (forwardTo p c s).place = s.place := by rfl
@[simp] theorem forwardTo_maps (p : Port) (c : Instr) (s : State) :
    (forwardTo p c s).maps = s.maps := by rfl
@[simp] theorem forwardTo_counters (p : Port) (c : Instr) (s : State) :
    (forwardTo p c s).counters = s.counters := by rfl
@[simp] theorem forwardTo_sensors (p : Port) (c : Instr) (s : State) :
    (forwardTo p c s).sensors = s.sensors := by rfl
@[simp] theorem forwardTo_windows (p : Port) (c : Instr) (s : State) :
    (forwardTo p c s).windows = s.windows := by rfl
@[simp] theorem forwardTo_due (p : Port) (c : Instr) (s : State) :
    (forwardTo p c s).due = s.due := by rfl
@[simp] theorem forwardTo_station (p : Port) (c : Instr) (s : State) :
    (forwardTo p c s).links.station = s.links.station := by simp [forwardTo]

/-! ### markStart -/

@[simp] theorem markStart_pending (k : Furnace) (s : State) :
    (markStart k s).pending = s.pending := by rfl
@[simp] theorem markStart_power (k : Furnace) (s : State) :
    (markStart k s).power = s.power := by rfl
@[simp] theorem markStart_ret (k : Furnace) (s : State) :
    (markStart k s).ret = s.ret := by rfl
@[simp] theorem markStart_cfg (k : Furnace) (s : State) :
    (markStart k s).cfg = s.cfg := by rfl
@[simp] theorem markStart_links (k : Furnace) (s : State) :
    (markStart k s).links = s.links := by rfl
@[simp] theorem markStart_mgmt (k : Furnace) (s : State) :
    (markStart k s).mgmt = s.mgmt := by rfl
@[simp] theorem markStart_schedule (k : Furnace) (s : State) :
    (markStart k s).schedule = s.schedule := by rfl
@[simp] theorem markStart_grid (k : Furnace) (s : State) :
    (markStart k s).grid = s.grid := by rfl
@[simp] theorem markStart_tracker (k : Furnace) (s : State) :
    (markStart k s).tracker = s.tracker := by rfl
@[simp] theorem markStart_arb (k : Furnace) (s : State) :
    (markStart k s).arb = s.arb := by rfl
@[simp] theorem markStart_seqs (k : Furnace) (s : State) :
    (markStart k s).seqs = s.seqs := by rfl
@[simp] theorem markStart_place (k : Furnace) (s : State) :
    (markStart k s).place = s.place := by rfl
@[simp] theorem markStart_maps (k : Furnace) (s : State) :
    (markStart k s).maps = s.maps := by rfl
@[simp] theorem markStart_counters (k : Furnace) (s : State) :
    (markStart k s).counters = s.counters := by rfl
@[simp] theorem markStart_sensors (k : Furnace) (s : State) :
    (markStart k s).sensors = s.sensors := by rfl
@[simp] theorem markStart_windows (k : Furnace) (s : State) :
    (markStart k s).windows = s.windows := by rfl

/-! ### markStarts -/

@[simp] theorem markStarts_pending  (s : State) :
    (markStarts s).pending = s.pending := by rfl
@[simp] theorem markStarts_power  (s : State) :
    (markStarts s).power = s.power := by rfl
@[simp] theorem markStarts_ret  (s : State) :
    (markStarts s).ret = s.ret := by rfl
@[simp] theorem markStarts_cfg  (s : State) :
    (markStarts s).cfg = s.cfg := by rfl
@[simp] theorem markStarts_links  (s : State) :
    (markStarts s).links = s.links := by rfl
@[simp] theorem markStarts_mgmt  (s : State) :
    (markStarts s).mgmt = s.mgmt := by rfl
@[simp] theorem markStarts_schedule  (s : State) :
    (markStarts s).schedule = s.schedule := by rfl
@[simp] theorem markStarts_grid  (s : State) :
    (markStarts s).grid = s.grid := by rfl
@[simp] theorem markStarts_tracker  (s : State) :
    (markStarts s).tracker = s.tracker := by rfl
@[simp] theorem markStarts_arb  (s : State) :
    (markStarts s).arb = s.arb := by rfl
@[simp] theorem markStarts_seqs  (s : State) :
    (markStarts s).seqs = s.seqs := by rfl
@[simp] theorem markStarts_place  (s : State) :
    (markStarts s).place = s.place := by rfl
@[simp] theorem markStarts_maps  (s : State) :
    (markStarts s).maps = s.maps := by rfl
@[simp] theorem markStarts_counters  (s : State) :
    (markStarts s).counters = s.counters := by rfl
@[simp] theorem markStarts_sensors  (s : State) :
    (markStarts s).sensors = s.sensors := by rfl
@[simp] theorem markStarts_windows  (s : State) :
    (markStarts s).windows = s.windows := by rfl

/-! ### markTable -/

@[simp] theorem markTable_pending  (s : State) :
    (markTable s).pending = s.pending := by rfl
@[simp] theorem markTable_power  (s : State) :
    (markTable s).power = s.power := by rfl
@[simp] theorem markTable_ret  (s : State) :
    (markTable s).ret = s.ret := by rfl
@[simp] theorem markTable_cfg  (s : State) :
    (markTable s).cfg = s.cfg := by rfl
@[simp] theorem markTable_links  (s : State) :
    (markTable s).links = s.links := by rfl
@[simp] theorem markTable_mgmt  (s : State) :
    (markTable s).mgmt = s.mgmt := by rfl
@[simp] theorem markTable_schedule  (s : State) :
    (markTable s).schedule = s.schedule := by rfl
@[simp] theorem markTable_grid  (s : State) :
    (markTable s).grid = s.grid := by rfl
@[simp] theorem markTable_tracker  (s : State) :
    (markTable s).tracker = s.tracker := by rfl
@[simp] theorem markTable_arb  (s : State) :
    (markTable s).arb = s.arb := by rfl
@[simp] theorem markTable_seqs  (s : State) :
    (markTable s).seqs = s.seqs := by rfl
@[simp] theorem markTable_place  (s : State) :
    (markTable s).place = s.place := by rfl
@[simp] theorem markTable_maps  (s : State) :
    (markTable s).maps = s.maps := by rfl
@[simp] theorem markTable_counters  (s : State) :
    (markTable s).counters = s.counters := by rfl
@[simp] theorem markTable_sensors  (s : State) :
    (markTable s).sensors = s.sensors := by rfl
@[simp] theorem markTable_windows  (s : State) :
    (markTable s).windows = s.windows := by rfl

/-! ### markGrid -/

@[simp] theorem markGrid_pending  (s : State) :
    (markGrid s).pending = s.pending := by rfl
@[simp] theorem markGrid_power  (s : State) :
    (markGrid s).power = s.power := by rfl
@[simp] theorem markGrid_ret  (s : State) :
    (markGrid s).ret = s.ret := by rfl
@[simp] theorem markGrid_cfg  (s : State) :
    (markGrid s).cfg = s.cfg := by rfl
@[simp] theorem markGrid_links  (s : State) :
    (markGrid s).links = s.links := by rfl
@[simp] theorem markGrid_mgmt  (s : State) :
    (markGrid s).mgmt = s.mgmt := by rfl
@[simp] theorem markGrid_schedule  (s : State) :
    (markGrid s).schedule = s.schedule := by rfl
@[simp] theorem markGrid_grid  (s : State) :
    (markGrid s).grid = s.grid := by rfl
@[simp] theorem markGrid_tracker  (s : State) :
    (markGrid s).tracker = s.tracker := by rfl
@[simp] theorem markGrid_arb  (s : State) :
    (markGrid s).arb = s.arb := by rfl
@[simp] theorem markGrid_seqs  (s : State) :
    (markGrid s).seqs = s.seqs := by rfl
@[simp] theorem markGrid_place  (s : State) :
    (markGrid s).place = s.place := by rfl
@[simp] theorem markGrid_maps  (s : State) :
    (markGrid s).maps = s.maps := by rfl
@[simp] theorem markGrid_counters  (s : State) :
    (markGrid s).counters = s.counters := by rfl
@[simp] theorem markGrid_sensors  (s : State) :
    (markGrid s).sensors = s.sensors := by rfl
@[simp] theorem markGrid_windows  (s : State) :
    (markGrid s).windows = s.windows := by rfl

/-! ### markList -/

@[simp] theorem markList_pending  (s : State) :
    (markList s).pending = s.pending := by rfl
@[simp] theorem markList_power  (s : State) :
    (markList s).power = s.power := by rfl
@[simp] theorem markList_ret  (s : State) :
    (markList s).ret = s.ret := by rfl
@[simp] theorem markList_cfg  (s : State) :
    (markList s).cfg = s.cfg := by rfl
@[simp] theorem markList_links  (s : State) :
    (markList s).links = s.links := by rfl
@[simp] theorem markList_mgmt  (s : State) :
    (markList s).mgmt = s.mgmt := by rfl
@[simp] theorem markList_schedule  (s : State) :
    (markList s).schedule = s.schedule := by rfl
@[simp] theorem markList_grid  (s : State) :
    (markList s).grid = s.grid := by rfl
@[simp] theorem markList_tracker  (s : State) :
    (markList s).tracker = s.tracker := by rfl
@[simp] theorem markList_arb  (s : State) :
    (markList s).arb = s.arb := by rfl
@[simp] theorem markList_seqs  (s : State) :
    (markList s).seqs = s.seqs := by rfl
@[simp] theorem markList_place  (s : State) :
    (markList s).place = s.place := by rfl
@[simp] theorem markList_maps  (s : State) :
    (markList s).maps = s.maps := by rfl
@[simp] theorem markList_counters  (s : State) :
    (markList s).counters = s.counters := by rfl
@[simp] theorem markList_sensors  (s : State) :
    (markList s).sensors = s.sensors := by rfl
@[simp] theorem markList_windows  (s : State) :
    (markList s).windows = s.windows := by rfl

/-! ### elapse -/

@[simp] theorem elapse_pending (n : Nat) (s : State) :
    (elapse n s).pending = s.pending := by unfold elapse; split <;> rfl
@[simp] theorem elapse_power (n : Nat) (s : State) :
    (elapse n s).power = s.power := by unfold elapse; split <;> rfl
@[simp] theorem elapse_ret (n : Nat) (s : State) :
    (elapse n s).ret = s.ret := by unfold elapse; split <;> rfl
@[simp] theorem elapse_cfg (n : Nat) (s : State) :
    (elapse n s).cfg = s.cfg := by unfold elapse; split <;> rfl
@[simp] theorem elapse_links (n : Nat) (s : State) :
    (elapse n s).links = s.links := by unfold elapse; split <;> rfl
@[simp] theorem elapse_schedule (n : Nat) (s : State) :
    (elapse n s).schedule = s.schedule := by unfold elapse; split <;> rfl
@[simp] theorem elapse_tracker (n : Nat) (s : State) :
    (elapse n s).tracker = s.tracker := by unfold elapse; split <;> rfl
@[simp] theorem elapse_arb (n : Nat) (s : State) :
    (elapse n s).arb = s.arb := by unfold elapse; split <;> rfl
@[simp] theorem elapse_place (n : Nat) (s : State) :
    (elapse n s).place = s.place := by unfold elapse; split <;> rfl
@[simp] theorem elapse_maps (n : Nat) (s : State) :
    (elapse n s).maps = s.maps := by unfold elapse; split <;> rfl
@[simp] theorem elapse_windows (n : Nat) (s : State) :
    (elapse n s).windows = s.windows := by unfold elapse; split <;> rfl
@[simp] theorem elapse_due (n : Nat) (s : State) :
    (elapse n s).due = s.due := by unfold elapse; split <;> rfl

/-! ### Bounds (R183, R201) -/

theorem PortState.sendOwn_length (p : PortState) (t : OwnTelegram) (h : p.queue.length ≤ 24) :
    (p.sendOwn t).queue.length ≤ 24 := by
  unfold PortState.sendOwn
  split
  · rename_i hp
    simp only [Bool.and_eq_true, decide_eq_true_eq] at hp
    simp only [List.length_append, List.length_singleton]
    omega
  · exact h

theorem PortState.forward_length (p : PortState) (c : Instr) (h : p.queue.length ≤ 24) :
    (p.forward c).queue.length ≤ 24 := by
  unfold PortState.forward PortState.hasPlace
  split
  · rename_i hp
    simp only [Bool.and_eq_true, decide_eq_true_eq] at hp
    simp only [List.length_append, List.length_singleton]
    omega
  · exact h

theorem sendOwn_queue_length (p q : Port) (d r : Nat) (b : OwnBody) (s : State)
    (h : ∀ x, (s.links.port x).queue.length ≤ 24) :
    ((sendOwn p d r b s).links.port q).queue.length ≤ 24 := by
  unfold sendOwn
  split
  · exact h q
  · by_cases e : q = p
    · subst e
      simpa using PortState.sendOwn_length _ _ (h q)
    · simpa [Links.port_setPort_of_ne _ e] using h q

/-- R183: own telegrams to a port that is UP take the places there are, up to 24; the rest are discarded and set
OWN_DISCARDED. -/
theorem PortState.sendOwns (ts : List OwnTelegram) (p : PortState) (hu : p.up = true) :
    let q := ts.foldl PortState.sendOwn p
    q.queue.length = p.queue.length + min ts.length (24 - p.queue.length)
    ∧ q.ownDiscarded = (p.ownDiscarded || decide (24 - p.queue.length < ts.length)) := by
  induction ts generalizing p with
  | nil => simp
  | cons t ts ih =>
    simp only [List.foldl_cons, List.length_cons]
    by_cases hq : p.queue.length < 24
    · have e : p.sendOwn t = { p with queue := p.queue ++ [.own t] } := by
        simp [PortState.sendOwn, hu, hq]
      obtain ⟨h1, h2⟩ := ih (p.sendOwn t) (by rw [e]; exact hu)
      rw [h1, h2, e]
      simp only [List.length_append, List.length_singleton]
      refine ⟨by omega, ?_⟩
      congr 1
      exact decide_eq_decide.2 (by omega)
    · have e : p.sendOwn t = { p with ownDiscarded := true } := by simp [PortState.sendOwn, hq]
      obtain ⟨h1, h2⟩ := ih (p.sendOwn t) (by rw [e]; exact hu)
      rw [h1, h2, e]
      refine ⟨by simp only; omega, ?_⟩
      have : 24 - p.queue.length < ts.length + 1 := by omega
      simp [this]

/-- R197: the events of a list, sent one after another, are own telegrams of the plant port; nothing else of the
links changes. -/
theorem sendEvents_links (es : List Stamped) (s : State) {st : Nat} (hs : s.links.station = some st) :
    (es.foldl (fun s e => sendEvent e s) s).links
      = { s.links with plant := (es.map fun e =>
          ownTelegram .plant st s.reportStation 0 (.event e)).foldl PortState.sendOwn s.links.plant } := by
  induction es generalizing s with
  | nil => rfl
  | cons e es ih =>
    have hl : (sendEvent e s).links = s.links.setPort .plant
        ((s.links.port .plant).sendOwn (ownTelegram .plant st s.reportStation 0 (.event e))) := by
      simp [sendEvent, sendOwn, hs]
    have hr : (sendEvent e s).reportStation = s.reportStation := by
      simp [State.reportStation, sendEvent]
    rw [List.foldl_cons, ih _ (by rw [hl]; simpa using hs), hl, hr]
    rfl

theorem forwardTo_queue_length (p q : Port) (c : Instr) (s : State)
    (h : ∀ x, (s.links.port x).queue.length ≤ 24) :
    ((forwardTo p c s).links.port q).queue.length ≤ 24 := by
  unfold forwardTo
  by_cases e : q = p
  · subst e
    simpa using PortState.forward_length _ _ (h q)
  · simpa [Links.port_setPort_of_ne _ e] using h q

theorem holdEvent_length (e : Stamped) (s : State) (h : s.ret.held.length ≤ 16) :
    (holdEvent e s).ret.held.length ≤ 16 := by
  unfold holdEvent
  split
  · simp only [State.setRet_ret, List.length_append, List.length_singleton]
    omega
  · exact h

theorem sendOwn_held (p : Port) (d r : Nat) (b : OwnBody) (s : State) :
    (sendOwn p d r b s).ret.held = s.ret.held := by simp

theorem raise_held_length (e : Event) (s : State) (h : s.ret.held.length ≤ 16) :
    (raise e s).ret.held.length ≤ 16 := by
  unfold raise
  split
  · simpa [sendEvent] using h
  · exact holdEvent_length _ _ h
  · exact holdEvent_length _ _ h

end Sys2Proof.Machine
end

