-- ==== Sys2Proof/Laws/Passage.lean ====
section
/-! SUPPORT. What the passage unit does with a telegram that reaches a unit: the one lemma that a proof about
a telegram's command cites in place of unfolding the passage. -/

namespace Sys2Proof.Machine

/-! ### A part that is on, a part that has stopped -/

@[simp] theorem powered_on (f : State → State) (s : State) (h : s.power = true) :
    powered f s = .next (f s) := by simp [powered, h]

@[simp] theorem powered_off (f : State → State) (s : State) (h : s.power = false) :
    powered f s = .next s := by simp [powered, h]

theorem powered_next (f : State → State) (s : State) :
    powered f s = .next (if s.power then f s else s) := by
  unfold powered; split <;> simp_all

/-! ### The passage -/

/-- A received telegram passes the check of its form. -/
theorem arrive_of_received {c : Instr} {kind : Nat} {h : Hdr} {b : Bool} {m : State → State}
    {act : Role → State → State} {s : State} (r : Received s h) :
    arrive c kind h b m act s =
      if s.links.station = some h.dest then takeAddressed kind h b m act s
      else passBy c kind h b act s := by
  obtain ⟨_, hup, hlen, htr, hsrc, hown⟩ := r
  have hm : malformed s h = false := by
    simp only [malformed, htr, Bool.or_false, Bool.or_eq_false_iff, decide_eq_false_iff_not, not_lt,
      beq_eq_false_iff_ne]
    exact ⟨⟨hlen, hsrc⟩, hown⟩
  simp [arrive, received, hup, hm, addressed]

/-- A management telegram that the unit takes is handed to it, with whether its payload fits its kind. -/
theorem manage_of_managed {c : Instr} {kind : Nat} {h : Hdr} {f : Bool → State → State}
    {s : State} (hk : isManagement kind = true) (r : Managed s h) :
    manage c kind h f s = f (formFits c) s := by
  obtain ⟨hr, hp, hd⟩ := r
  simp [manage, arrive_of_received hr, hd, takeAddressed, hk, hp]

/-- A field telegram taken from its role, with the form of its kind, is handed to its block. -/
theorem field_of_taken {c : Instr} {kind : Nat} {h : Hdr} {act : Role → State → State} {r : Role}
    {s : State} (hm : isManagement kind = false) (hk : isFieldTaken kind = true)
    (ht : FieldTaken s kind h r) : field c kind h true act s = act r s := by
  obtain ⟨hr, hd, hrole, hl⟩ := ht
  simp [field, arrive_of_received hr, hd, takeAddressed, hm, hk, fromRole, hrole, lengthFits, hl]

/-- The roles a telegram comes from do not depend on the queues. -/
@[simp] theorem roleOf_forwardTo (p : Port) (c : Instr) (s : State) (kind : Nat) (h : Hdr) :
    roleOf (forwardTo p c s) kind h = roleOf s kind h := rfl

/-- An observed telegram is forwarded and then acted on. -/
theorem field_of_observed {c : Instr} {kind : Nat} {h : Hdr} {act : Role → State → State} {r : Role}
    {s : State} (ho : FieldObserved s kind h r) :
    field c kind h true act s = act r (forwardTo (otherPort h.port) c s) := by
  obtain ⟨hr, hd, ha, hrole, hl⟩ := ho
  simp [field, arrive_of_received hr, hd, passBy, ha, fromRole, hrole, lengthFits, hl]

/-! ### Ports and their links (R169, R184, R186) -/

@[simp] theorem PortState.down_link (p : PortState) : p.down.link = false := by
  unfold PortState.down; split <;> rfl

@[simp] theorem PortState.down_up (p : PortState) : p.down.up = false := by
  unfold PortState.down; split <;> simp_all

theorem PortState.comeUp_up (p : PortState) : p.comeUp.up = true := by
  unfold PortState.comeUp; split <;> simp_all

@[simp] theorem PortState.linked_up (p : PortState) : p.linked.up = p.up := rfl

@[simp] theorem PortState.forward_link (p : PortState) (c : Instr) : (p.forward c).link = p.link := by
  unfold PortState.forward; split <;> rfl

@[simp] theorem PortState.forward_up (p : PortState) (c : Instr) : (p.forward c).up = p.up := by
  unfold PortState.forward; split <;> rfl

@[simp] theorem PortState.sendOwn_link (p : PortState) (t : OwnTelegram) : (p.sendOwn t).link = p.link := by
  unfold PortState.sendOwn; split <;> rfl

@[simp] theorem PortState.sendOwn_up (p : PortState) (t : OwnTelegram) : (p.sendOwn t).up = p.up := by
  unfold PortState.sendOwn; split <;> rfl

/-! ### Commands of the management unit -/

theorem takeCommand_ok {h : Hdr} {own : State → CommandResult} {s : State} {d : RespData}
    {f : State → State} (ho : own s = .ok (d, f)) :
    takeCommand h own true s = finish (f (respond h Kind.command .ok none d s)) := by
  simp [takeCommand, ho]

theorem takeCommand_error {h : Hdr} {own : State → CommandResult} {s : State} {c : RespCode}
    {d : RespData} (ho : own s = .error (c, d)) :
    takeCommand h own true s = respond h Kind.command c none d s := by
  simp [takeCommand, ho]

theorem takeMapEdit_ok {h : Hdr} {op : MapOpCode} {own : State → EditResult} {s : State} {d : RespData}
    {f : State → State} (hl : s.mgmt.latch = none) (ho : own s = .ok (d, f)) :
    takeMapEdit h op own true s = finish (f (respond h Kind.mapEdit .ok none d s)) := by
  simp [takeMapEdit, hl, ho]

/-! ### Payloads that do not fit their kind (R187)

What each request leaves then: its RESPONSE with ILLEGAL_VALUE, a load or an edit with the latch clear its record
too, and nothing else. -/

@[simp] theorem takeCommand_unfit (h : Hdr) (own : State → CommandResult) (s : State) :
    takeCommand h own false s = respond h Kind.command .illegalValue none .none s := rfl

@[simp] theorem takeRead_unfit (h : Hdr) (own : State → ReadResult) (s : State) :
    takeRead h own false s = respond h Kind.readTable .illegalValue none .none s := rfl

@[simp] theorem takeQuery_unfit (h : Hdr) (ok : Bool) (own : State → ReadResult) (s : State) :
    takeQuery h ok own false s = respond h Kind.query .illegalValue none .none s := rfl

@[simp] theorem takeQueryHolds_unfit (h : Hdr) (clear : Code Bool) (s : State) :
    takeQueryHolds h clear false s = respond h Kind.query .illegalValue none .none s := rfl

@[simp] theorem takeHeartbeat_unfit (h : Hdr) (s : State) :
    takeHeartbeat h false s = respond h Kind.heartbeat .illegalValue none .none s := rfl

theorem takeLoad_unfit {h : Hdr} {t : TableId} {n : Nat} {own : State → LoadResult} {s : State}
    (hl : s.mgmt.latch = none) :
    takeLoad h t n own false s = refuseAndLatch h Kind.loadTable (sentTable h t) .illegalValue none s := by
  simp [takeLoad, hl]

theorem takeMapEdit_unfit {h : Hdr} {op : MapOpCode} {own : State → EditResult} {s : State}
    (hl : s.mgmt.latch = none) :
    takeMapEdit h op own false s =
      refuseAndLatch h Kind.mapEdit (sentMapOp h op) .illegalValue (some 0) s := by
  simp [takeMapEdit, hl]

theorem takeScheduleEdit_unfit {h : Hdr} {ops : List SchedOp} {s : State} (hl : s.mgmt.latch = none) :
    takeScheduleEdit h ops false s =
      refuseAndLatch h Kind.scheduleEdit (.schedule none) .illegalValue none s := by
  simp [takeScheduleEdit, hl]

end Sys2Proof.Machine
end

