-- ==== Sys2Proof/Laws/Loads.lean ====
section
/-! SUPPORT. What a refused LOAD_TABLE or COMMAND leaves (R187, R188, R191), what the checks of optional fields
say, and which entry a check of every entry names, said once for the loads and the commands. -/

namespace Sys2Proof.Machine

/-- R188, R191: a load that its owning rule refuses leaves its RESPONSE and the error latch, and nothing else. -/
theorem load_refused {c : Instr} {h : Hdr} {t : TableId} {n i : Nat} {own : State → LoadResult} {s : State}
    {code : RespCode} (hm : Managed s h) (hf : formFits c = true) (hl : s.mgmt.latch = none)
    (hn : 1 ≤ n ∧ n ≤ 16) (ho : own s = .error (code, i)) :
    powered (manage c Kind.loadTable h (takeLoad h t n own)) s = LoadRefused h t code (some i) s := by
  have hc : ¬ (n = 0 ∨ 16 < n) := by omega
  rw [powered_on _ _ hm.1.1, manage_of_managed (by decide) hm]
  simp [takeLoad, hl, hf, hc, ho, refuseAndLatch, setLatch, State.setMgmt]

/-- R188: a load that its owning rule takes leaves its RESPONSE and then its effect. -/
theorem load_taken {c : Instr} {h : Hdr} {t : TableId} {n : Nat} {own : State → LoadResult} {s : State}
    {d : RespData} {f : State → State} (hm : Managed s h) (hf : formFits c = true) (hl : s.mgmt.latch = none)
    (hn : 1 ≤ n ∧ n ≤ 16) (ho : own s = .ok (d, f)) :
    powered (manage c Kind.loadTable h (takeLoad h t n own)) s =
      .next (f (respond h Kind.loadTable .ok none d s)) := by
  have hc : ¬ (n = 0 ∨ 16 < n) := by omega
  rw [powered_on _ _ hm.1.1, manage_of_managed (by decide) hm]
  simp [takeLoad, hl, hf, hc, ho]

/-- R187: a command that its owning rule refuses leaves its RESPONSE, and nothing else. -/
theorem command_refused {c : Instr} {h : Hdr} {own : State → CommandResult} {s : State} {code : RespCode}
    {d : RespData} (hm : Managed s h) (hf : formFits c = true) (ho : own s = .error (code, d)) :
    powered (manage c Kind.command h (takeCommand h own)) s =
      .next (respond h Kind.command code none d s) := by
  rw [powered_on _ _ hm.1.1, manage_of_managed (by decide) hm]
  simp [takeCommand, hf, ho]

/-- R187: a command that its owning rule takes leaves its RESPONSE, then its effect and what follows it. -/
theorem command_taken {c : Instr} {h : Hdr} {own : State → CommandResult} {s : State} {d : RespData}
    {f : State → State} (hm : Managed s h) (hf : formFits c = true) (ho : own s = .ok (d, f)) :
    powered (manage c Kind.command h (takeCommand h own)) s =
      .next (finish (f (respond h Kind.command .ok none d s))) := by
  rw [powered_on _ _ hm.1.1, manage_of_managed (by decide) hm]
  simp [takeCommand, hf, ho]

/-! ### Fields (R171) -/

/-- An optional figure passes its range where it is absent, in either form, or in the range. -/
theorem rangeWhereGiven_figureRead (a b : Int) (x : Option Int) :
    rangeWhereGiven a b (figureRead x) = true ↔ ∀ y ∈ x, y = absentFigure ∨ (a ≤ y ∧ y ≤ b) := by
  cases x with
  | none => simp [rangeWhereGiven, figureRead]
  | some v => by_cases h : v = absentFigure <;> simp [rangeWhereGiven, figureRead, h, inRange]

/-- An optional code passes where it is absent, in either form, or names a value. -/
theorem goodWhereGiven_codeRead {α : Type} (x : Option (Code α)) :
    goodWhereGiven (codeRead x) = true ↔ ∀ raw, x = some (.bad raw) → raw = 255 := by
  unfold codeRead
  split <;> rename_i h
  · simp [goodWhereGiven]
  · cases x with
    | none => simp [goodWhereGiven]
    | some c =>
      cases c with
      | val v => simp [goodWhereGiven, Code.good]
      | bad r =>
        simp only [goodWhereGiven, Code.good, Bool.false_eq_true, false_iff]
        exact fun e => h (by rw [e r rfl])

theorem armed_false (s : State) (k : Furnace) : s.armed k = false ↔ (s.seqs.get k).state = .offline := by
  simp [State.armed, State.seq]

theorem armed_true (s : State) (k : Furnace) : s.armed k = true ↔ (s.seqs.get k).state ≠ .offline := by
  simp [State.armed, State.seq]

/-! ### Checks of every entry (R188) -/

/-- Entries read as R171 has it fail first where the entries carried do. -/
theorem firstFails_map {α β : Type} {f : α → β} {p : Nat → α → Prop} {q : Nat → β → Prop}
    {first n : Nat} {xs : List α} (hp : ∀ i x, p i x ↔ q i (f x)) (h : FirstFails p first xs n) :
    FirstFails q first (xs.map f) n := by
  obtain ⟨pre, x, post, rfl, hn, h1, h2⟩ := h
  refine ⟨pre.map f, f x, post.map f, by simp, by simpa using hn, ?_, fun h => h2 ((hp _ _).2 h)⟩
  intro i y hy
  simp only [List.getElem?_map, Option.map_eq_some_iff] at hy
  obtain ⟨a, ha, rfl⟩ := hy
  exact (hp _ _).1 (h1 i a ha)

/-- The first entry that fails a check is the one that `firstFail` names. -/
theorem firstFail_of_firstFails {α : Type} {ok : Nat → α → Bool} {p : Nat → α → Prop} {first n : Nat}
    {xs : List α} (hp : ∀ i x, ok i x = true ↔ p i x) (h : FirstFails p first xs n) :
    firstFail ok first xs = some n := by
  obtain ⟨pre, x, post, rfl, rfl, hpre, hx⟩ := h
  induction pre generalizing first with
  | nil =>
    have : ok first x = false := by
      cases e : ok first x with
      | false => rfl
      | true => exact absurd ((hp _ _).1 e) (by simpa using hx)
    simp [firstFail, this]
  | cons a l ih =>
    have ha : ok first a = true := (hp _ _).2 (by simpa using hpre 0 a rfl)
    have hrec := ih (first := first + 1)
      (fun i y hy => by have := hpre (i + 1) y (by simpa using hy); rwa [show first + (i + 1) = first + 1 + i by omega] at this)
      (by rwa [show first + 1 + l.length = first + (a :: l).length by simp; omega])
    simp [firstFail, ha, hrec]
    omega

/-- No entry fails a check that each of them passes. -/
theorem firstFail_of_all {α : Type} {ok : Nat → α → Bool} {first : Nat} {xs : List α}
    (h : ∀ i x, x ∈ xs → ok i x = true) : firstFail ok first xs = none := by
  induction xs generalizing first with
  | nil => rfl
  | cons a l ih =>
    simp [firstFail, h first a (by simp), ih (fun i x hx => h i x (by simp [hx]))]

/-- A check of every entry that finds one failing is refused with its index. -/
theorem checkEach_fails {α : Type} {ok : Nat → α → Bool} {p : Nat → α → Prop} {first n : Nat} {xs : List α}
    {code : RespCode} {next : LoadResult} (hp : ∀ i x, ok i x = true ↔ p i x)
    (h : FirstFails p first xs n) : checkEach ok code first xs next = .error (code, n) := by
  simp [checkEach, firstFail_of_firstFails hp h]

/-- A check of every entry that none fails goes on. -/
theorem checkEach_passes {α : Type} {ok : Nat → α → Bool} {first : Nat} {xs : List α} {code : RespCode}
    {next : LoadResult} (h : ∀ i x, x ∈ xs → ok i x = true) : checkEach ok code first xs next = next := by
  simp [checkEach, firstFail_of_all h]

/-! ### Required fields (R171, log 38) -/

/-- A required figure is there where it does not carry its absent value. -/
theorem figureGiven_true (x : Int) : figureGiven x = true ↔ x ≠ absentFigure := by simp [figureGiven]

/-- A required tag is there where it is not 0. -/
theorem tagGiven_true (x : Nat) : tagGiven x = true ↔ x ≠ 0 := by simp [tagGiven]

/-- A required one-byte field is there where it is not 0xFF. -/
theorem byteGiven_true (x : Nat) : byteGiven x = true ↔ x ≠ 255 := by simp [byteGiven]

/-- Entries that each carry their figure go on to the ranges. -/
theorem figuresGiven_passes {first : Nat} {xs : List Int} {next : LoadResult}
    (h : ∀ x ∈ xs, x ≠ absentFigure) : figuresGiven first xs next = next :=
  checkEach_passes fun _ x hx => (figureGiven_true x).2 (h x hx)

/-- The first entry without its figure is refused ILLEGAL_VALUE. -/
theorem figuresGiven_fails {first n : Nat} {xs : List Int} {next : LoadResult}
    (h : FirstFails (fun _ x => x ≠ absentFigure) first xs n) :
    figuresGiven first xs next = .error (.illegalValue, n) :=
  checkEach_fails (fun _ x => figureGiven_true x) h

/-! ### Windows of a line (R163) -/

/-- Windows of one list overlap nowhere where no two of one basis share a depth. -/
theorem anyOverlap_false (l : List Window) : anyOverlap l = false ↔
    l.Pairwise fun v w => ¬ (v.basis = w.basis ∧ v.on < w.off ∧ w.on < v.off) := by
  induction l with
  | nil => simp [anyOverlap]
  | cons v l ih =>
    rw [anyOverlap, Bool.or_eq_false_iff, ih, List.pairwise_cons]
    refine and_congr_left fun _ => ?_
    simp [Window.overlaps]

/-- R163: the overlap check of a line's list, by the windows it names. -/
theorem listOverlaps_false (pool : List (Option Window)) (l : List Nat) :
    listOverlaps pool l = false ↔ WindowsApart pool l := anyOverlap_false _

end Sys2Proof.Machine
end

