-- ==== Sys2Proof/Laws/Sequencer.lean ====
section
/-! SUPPORT. What the sequencers' shared operations answer, said once: the release of a charger hold, the
entries into IDLE and HELD, and what a computation leaves in the placement holds. A proof about a sequencer
cites these in place of unfolding the operations. -/

namespace Sys2Proof.Machine

/-! ### The two sides of a pair -/

@[simp] theorem PerFurnace.get_set {α : Type} (p : PerFurnace α) (k : Furnace) (v : α) :
    (p.set k v).get k = v := by cases k <;> rfl

@[simp] theorem PerFurnace.get_set_other {α : Type} (p : PerFurnace α) (k : Furnace) (v : α) :
    (p.set k v).get (otherFurnace k) = p.get (otherFurnace k) := by cases k <;> rfl

@[simp] theorem PerFurnace.set_get {α : Type} (p : PerFurnace α) (k : Furnace) : p.set k (p.get k) = p := by
  cases k <;> rfl

/-! ### Holds on the table (R101) -/

/-- R101: after a release charger k holds no table; only the hold and the occasions change. -/
theorem releaseHold_eq (k : Furnace) (s : State) : ∃ d, releaseHold k s =
    { s with arb := { s.arb with holds := s.arb.holds.set k false }, due := d } := by
  unfold releaseHold
  split
  · exact ⟨_, rfl⟩
  · rename_i h
    have e : s.arb.holds.set k false = s.arb.holds := by
      rw [← PerFurnace.set_get s.arb.holds k]; cases k <;> simp_all [PerFurnace.get, PerFurnace.set]
    exact ⟨s.due, by rw [e]⟩

/-- R94: after a withdrawal no request of charger k waits; only the requests and the occasions change. -/
theorem withdrawWaiting_eq (k : Furnace) (s : State) : ∃ d, withdrawWaiting k s =
    { s with
      arb := { s.arb with
        requests := if s.requestWaits k = true then s.arb.requests.set k none else s.arb.requests }
      due := d } := by
  unfold withdrawWaiting
  split
  · exact ⟨_, rfl⟩
  · exact ⟨s.due, rfl⟩

/-! ### The abandoned move (R93, R94, R99) -/

/-- R99: the halt of charger k's own move: TABLE_HALT with its number, and the move is no longer wanted. -/
theorem haltOwnMove_eq (k : Furnace) (reason : HaltReason) (s : State) : haltOwnMove k reason s =
    match s.arb.motion with
    | .positioning k' n _ =>
      if k' = k then
        { sendField .tableDrive 0 (.tableHalt n reason) s with
          arb := { s.arb with motion := .positioning k n false } }
      else s
    | _ => s := by
  unfold haltOwnMove
  cases h : s.arb.motion with
  | still => simp [Motion.ownedBy]
  | manual => simp [Motion.ownedBy]
  | positioning k' n w =>
    by_cases e : k' = k
    · subst e
      simp [Motion.ownedBy, sendHalt, h, Motion.moving, Motion.number, Motion.unwanted, State.setArb]
    · simp [Motion.ownedBy, e]

/-- The same, in the terms of the statements. -/
theorem haltOwnMove_eq_haltFor (k : Furnace) (reason : HaltReason) (s : State) : haltOwnMove k reason s =
    { haltFor k s.arb.motion reason s with
      arb := { s.arb with motion := unwantedFor k s.arb.motion } } := by
  obtain ⟨pend, power, ret, cfg, links, mgmt, sched, grid, tracker, arb, seqs, place, maps, ctr, sens, win, due⟩ := s
  obtain ⟨motion, holds, gridHold, requests, nextMove⟩ := arb
  rw [haltOwnMove_eq]
  cases motion with
  | still => rfl
  | manual => rfl
  | positioning k' n w =>
    by_cases e : k' = k
    · subst e; simp [haltFor, unwantedFor]
    · simp [haltFor, unwantedFor, e]

/-- R94, R99: what a sequencer that leaves POSITIONING leaves with the table arbiter: its own move halted and
unwanted, and none of its requests; beside them only the links, held events and the occasions change. -/
theorem abandonMove_eq (k : Furnace) (reason : HaltReason) (s : State) : ∃ d, abandonMove k reason s =
    { haltOwnMove k reason s with
      arb := { (haltOwnMove k reason s).arb with
        requests := (haltOwnMove k reason s).arb.requests.set k none }
      due := d } := by
  unfold abandonMove
  dsimp only
  split
  · rename_i h
    have e : (haltOwnMove k reason s).arb.requests.set k none = (haltOwnMove k reason s).arb.requests := by
      rw [← h]; exact PerFurnace.set_get _ k
    exact ⟨(haltOwnMove k reason s).due, by rw [e]⟩
  · exact ⟨_, rfl⟩

/-! ### Entries into IDLE and HELD (R49, R51, R57) -/

/-- R49, R57: the entry into IDLE. -/
theorem enterIdle_eq (k : Furnace) (s : State) : ∃ d w, d.start.get k = true ∧ enterIdle k s =
    { s with
      seqs := s.seqs.set k
        { s.seqs.get k with state := .idle, cause := none, waiting := .none, cycle := none }
      arb := { s.arb with holds := s.arb.holds.set k false }
      due := d
      windows := w } := by
  obtain ⟨d, hd⟩ := releaseHold_eq k (putStopped k none
    (s.setSeq k { s.seq k with state := .idle, cause := none, waiting := .none, cycle := none }))
  unfold enterIdle
  dsimp only
  rw [hd]
  exact ⟨_, _, by cases k <;> rfl, rfl⟩

/-- R51: the entry into HELD, with its CHARGER_HELD as the last thing done. -/
theorem enterHeld_eq (k : Furnace) (cause : HeldCause) (fault : Option Nat) (s : State) : ∃ d w,
    enterHeld k cause fault s =
      raise (.chargerHeld k cause (s.seqs.get k).state ((s.seqs.get k).cycle.map (·.tag))
          ((s.seqs.get k).inflight.map fun _ => .uncertain) fault)
        { s with
          seqs := s.seqs.set k ((s.seqs.get k).held cause)
          arb := { s.arb with
            holds := s.arb.holds.set k false
            requests := if s.requestWaits k = true then s.arb.requests.set k none else s.arb.requests }
          due := d
          windows := w } := by
  unfold enterHeld
  dsimp only
  obtain ⟨d, hd⟩ := releaseHold_eq k (putStopped k (some (s.stoppedLevels k))
    (s.setSeq k ((s.seq k).held cause)))
  rw [hd]
  obtain ⟨d', hd'⟩ := withdrawWaiting_eq k
    { putStopped k (some (s.stoppedLevels k)) (s.setSeq k ((s.seq k).held cause)) with
      arb := { s.arb with holds := s.arb.holds.set k false }, due := d }
  refine ⟨d', (putStopped k (some (s.stoppedLevels k)) s).windows, ?_⟩
  refine Eq.trans (congrArg (fun t => raise (t.heldEvent k cause (s.seq k).state fault) t) hd') ?_
  refine congrArg₂ raise ?_ rfl
  simp only [State.heldEvent, State.cycle, State.seq, putStopped, State.setSeq, State.setSeqs,
    State.setWindows, PerFurnace.get_set, Sequencer.held]
  cases (s.seqs.get k).cycle <;> cases (s.seqs.get k).inflight <;> rfl

/-! ### What a computation leaves (R35, R41, R44) -/

@[simp] theorem setHoldOnce_pending (n : HoldName) (k : Furnace) (tag : Nat) (d : Option Int) (s : State) :
    (setHoldOnce n k tag d s).pending = s.pending := by
  unfold setHoldOnce; split <;> simp [State.putHold, State.setPlaceOf]

@[simp] theorem setHoldOnce_power (n : HoldName) (k : Furnace) (tag : Nat) (d : Option Int) (s : State) :
    (setHoldOnce n k tag d s).power = s.power := by
  unfold setHoldOnce; split <;> simp [State.putHold, State.setPlaceOf]

@[simp] theorem setHoldOnce_cfg (n : HoldName) (k : Furnace) (tag : Nat) (d : Option Int) (s : State) :
    (setHoldOnce n k tag d s).cfg = s.cfg := by
  unfold setHoldOnce; split <;> simp [State.putHold, State.setPlaceOf]

@[simp] theorem setHoldOnce_mgmt (n : HoldName) (k : Furnace) (tag : Nat) (d : Option Int) (s : State) :
    (setHoldOnce n k tag d s).mgmt = s.mgmt := by
  unfold setHoldOnce; split <;> simp [State.putHold, State.setPlaceOf]

@[simp] theorem setHoldOnce_schedule (n : HoldName) (k : Furnace) (tag : Nat) (d : Option Int) (s : State) :
    (setHoldOnce n k tag d s).schedule = s.schedule := by
  unfold setHoldOnce; split <;> simp [State.putHold, State.setPlaceOf]

@[simp] theorem setHoldOnce_grid (n : HoldName) (k : Furnace) (tag : Nat) (d : Option Int) (s : State) :
    (setHoldOnce n k tag d s).grid = s.grid := by
  unfold setHoldOnce; split <;> simp [State.putHold, State.setPlaceOf]

@[simp] theorem setHoldOnce_arb (n : HoldName) (k : Furnace) (tag : Nat) (d : Option Int) (s : State) :
    (setHoldOnce n k tag d s).arb = s.arb := by
  unfold setHoldOnce; split <;> simp [State.putHold, State.setPlaceOf]

@[simp] theorem setHoldOnce_seqs (n : HoldName) (k : Furnace) (tag : Nat) (d : Option Int) (s : State) :
    (setHoldOnce n k tag d s).seqs = s.seqs := by
  unfold setHoldOnce; split <;> simp [State.putHold, State.setPlaceOf]

@[simp] theorem setHoldOnce_maps (n : HoldName) (k : Furnace) (tag : Nat) (d : Option Int) (s : State) :
    (setHoldOnce n k tag d s).maps = s.maps := by
  unfold setHoldOnce; split <;> simp [State.putHold, State.setPlaceOf]

@[simp] theorem setHoldOnce_counters (n : HoldName) (k : Furnace) (tag : Nat) (d : Option Int) (s : State) :
    (setHoldOnce n k tag d s).counters = s.counters := by
  unfold setHoldOnce; split <;> simp [State.putHold, State.setPlaceOf]

@[simp] theorem setHoldOnce_sensors (n : HoldName) (k : Furnace) (tag : Nat) (d : Option Int) (s : State) :
    (setHoldOnce n k tag d s).sensors = s.sensors := by
  unfold setHoldOnce; split <;> simp [State.putHold, State.setPlaceOf]

@[simp] theorem setHoldOnce_windows (n : HoldName) (k : Furnace) (tag : Nat) (d : Option Int) (s : State) :
    (setHoldOnce n k tag d s).windows = s.windows := by
  unfold setHoldOnce; split <;> simp [State.putHold, State.setPlaceOf]

@[simp] theorem setHoldOnce_due (n : HoldName) (k : Furnace) (tag : Nat) (d : Option Int) (s : State) :
    (setHoldOnce n k tag d s).due = s.due := by
  unfold setHoldOnce; split <;> simp [State.putHold, State.setPlaceOf]

@[simp] theorem setHoldOnce_tracker (n : HoldName) (k : Furnace) (tag : Nat) (d : Option Int) (s : State) :
    (setHoldOnce n k tag d s).tracker = s.tracker := by
  unfold setHoldOnce; split <;> simp [State.putHold, State.setPlaceOf]

@[simp] theorem placementMarks_pending (i : PlaceInput) (p : PlacementRecord) (s : State) :
    (placementMarks i p s).pending = s.pending := by
  unfold placementMarks; dsimp only; (repeat' split) <;> simp [updateRecord]

@[simp] theorem placementMarks_power (i : PlaceInput) (p : PlacementRecord) (s : State) :
    (placementMarks i p s).power = s.power := by
  unfold placementMarks; dsimp only; (repeat' split) <;> simp [updateRecord]

@[simp] theorem placementMarks_cfg (i : PlaceInput) (p : PlacementRecord) (s : State) :
    (placementMarks i p s).cfg = s.cfg := by
  unfold placementMarks; dsimp only; (repeat' split) <;> simp [updateRecord]

@[simp] theorem placementMarks_mgmt (i : PlaceInput) (p : PlacementRecord) (s : State) :
    (placementMarks i p s).mgmt = s.mgmt := by
  unfold placementMarks; dsimp only; (repeat' split) <;> simp [updateRecord]

@[simp] theorem placementMarks_schedule (i : PlaceInput) (p : PlacementRecord) (s : State) :
    (placementMarks i p s).schedule = s.schedule := by
  unfold placementMarks; dsimp only; (repeat' split) <;> simp [updateRecord]

@[simp] theorem placementMarks_grid (i : PlaceInput) (p : PlacementRecord) (s : State) :
    (placementMarks i p s).grid = s.grid := by
  unfold placementMarks; dsimp only; (repeat' split) <;> simp [updateRecord]

@[simp] theorem placementMarks_arb (i : PlaceInput) (p : PlacementRecord) (s : State) :
    (placementMarks i p s).arb = s.arb := by
  unfold placementMarks; dsimp only; (repeat' split) <;> simp [updateRecord]

@[simp] theorem placementMarks_seqs (i : PlaceInput) (p : PlacementRecord) (s : State) :
    (placementMarks i p s).seqs = s.seqs := by
  unfold placementMarks; dsimp only; (repeat' split) <;> simp [updateRecord]

@[simp] theorem placementMarks_maps (i : PlaceInput) (p : PlacementRecord) (s : State) :
    (placementMarks i p s).maps = s.maps := by
  unfold placementMarks; dsimp only; (repeat' split) <;> simp [updateRecord]

@[simp] theorem placementMarks_counters (i : PlaceInput) (p : PlacementRecord) (s : State) :
    (placementMarks i p s).counters = s.counters := by
  unfold placementMarks; dsimp only; (repeat' split) <;> simp [updateRecord]

@[simp] theorem placementMarks_sensors (i : PlaceInput) (p : PlacementRecord) (s : State) :
    (placementMarks i p s).sensors = s.sensors := by
  unfold placementMarks; dsimp only; (repeat' split) <;> simp [updateRecord]

@[simp] theorem placementMarks_windows (i : PlaceInput) (p : PlacementRecord) (s : State) :
    (placementMarks i p s).windows = s.windows := by
  unfold placementMarks; dsimp only; (repeat' split) <;> simp [updateRecord]

@[simp] theorem placementMarks_due (i : PlaceInput) (p : PlacementRecord) (s : State) :
    (placementMarks i p s).due = s.due := by
  unfold placementMarks; dsimp only; (repeat' split) <;> simp [updateRecord]

@[simp] theorem placementMarks_tracker (i : PlaceInput) (p : PlacementRecord) (s : State) :
    (placementMarks i p s).tracker = { s.tracker with
      table := s.tracker.table.map fun r =>
        if r.tag = i.record.tag then { r with substituted := i.substitutes } else r } := by
  unfold placementMarks; dsimp only; (repeat' split) <;> simp [updateRecord]

end Sys2Proof.Machine
end

