-- ==== Sys2Proof/Tests/Slice0.lean ====
section
/-! SUPPORT. Own tests: a command that each check of well-formedness refuses; worked cases of the manual;
for every statement with hypotheses, states and operands that meet those of each clause. -/

namespace Sys2Proof.Tests

open Sys2Proof Sys2Proof.Machine

/-! ## Fixtures -/

/-- The identity of twelve characters that ends with a digit. -/
def ident (n : Nat) : Identity :=
  [0x50, 0x4D, 0x32, 0x32, 0x30, 0x37, 0x2D, 0x33, 0x30, 0x30, 0x30, BitVec.ofNat 8 (48 + n)]

/-- A header from station `src` to station `dest`, arriving at a port. -/
def hdr (p : Port) (dest src len : Nat) : Hdr :=
  { port := p, etherDst := 1, etherSrc := 2, dest, source := src, reference := 9, length := len
    truncated := false, trailing := [] }

/-- A management telegram from the scheduling computer to the part, whose station is 0. -/
def mh : Hdr := hdr .plant 0 1 4

/-- A management command with the payload length of its fields. -/
def fit (c : Hdr → Instr) : Instr := c { mh with length := (Instr.fieldsLength (c mh)).getD 0 }

/-- A field telegram of a kind from a station to the part. -/
def fh (kind src : Nat) : Hdr := hdr .yard 0 src ((fieldLength kind).getD 0)

/-- A passing telegram of a field kind from a station to the scheduling computer. -/
def oh (kind src : Nat) : Hdr := hdr .yard 1 src ((fieldLength kind).getD 0)

def partners : Partners :=
  { scheduling := 1, crane1 := 2, crane2 := 3, crane3 := 4, tableDrive := 5, charger1 := 6
    charger2 := 7, beam1 := 8, beam2 := 9, discharge1 := 10, discharge2 := 11 }

/-- F1 of worked case 1 of chapter 2, with the figures of the charge example of chapter 3. -/
def geo : FurnaceGeometry :=
  { lEff := 40000, zMin := 1800, zMax := 4200, dDoor := 300, sNom := 500, basis := .nominal
    lPair := 5500, pairTolerance := 200, landingTolerance := 50, armOffset := 250
    retractClear := -2500, policy := .trap }

/-- The table geometry of the example of chapter 4. -/
def tgeo : TableGeometry :=
  { xTS := 1000, xGS := 2000, xG := 14500, xGE := 15000, xMS := 22000, xD1 := 60000, xD2 := 96000
    xTE := 140000, x1A := 61000, x1C := 61500, x1B := 62000, x2A := 97000, x2C := 97500, x2B := 98000
    trackingTolerance := 150, positioningTolerance := 40, lengthTolerance := 60 }

def tables : Tables :=
  { Tables.default with
    geometry := ⟨some geo, some geo⟩
    tableGeometry := some tgeo
    partners := some partners }

/-- The part in RUN with its tables loaded, both furnaces OFFLINE. -/
def base : State := { State.reset with cfg := tables }

def slab (tag n : Nat) (w l : Int) (grp : Nat) : FurnaceSlab :=
  { tag, id := ident n, width := w, length := l, thickness := 260, mass := none, group := grp
    chargedAt := 0, deviation := none, substituted := false }

def row (front extent : Int) (o : Occupancy) (po : Bool) : Row :=
  { front, extent, occ := o, pairOpen := po, overrun := false }

/-- A READY table record of 2100 × 4625 × 260 for F1 with its head at a coordinate. -/
def rec (tag n : Nat) (head : Int) : TableRecord :=
  { tag, id := ident n, anchor := head, measured := some 4625, width := some 2100
    thickness := some 260, mass := none, link := none, nominals := none, group := some 3
    dest := some .f1, state := .ready, seenMS := true, seenD1 := false, seenD2 := false
    substituted := false }

/-- What a placement computation reads for that record. -/
def input (kind : PlacementKind) (r : TableRecord) (lane : Lane) (rows : List Row)
    (g : FurnaceGeometry) : PlaceInput :=
  { kind, furnace := .f1, record := r, lane, map := ⟨rows, 0⟩, geometry := g
    gaps := tables.gaps.f1, bounds := tables.bounds, lastStroke := none }

/-! ## Well-formed commands -/

theorem test_wellFormed_accepts : (Instr.insertSlab mh (.val .f1) 3000 (ident 1) 2100 4625 260 3 0).wellFormed
    = true := by decide

theorem test_wellFormed_header : (Instr.clearError { mh with reference := 256 }).wellFormed = false := by
  decide

theorem test_wellFormed_bytes : (Instr.gridRelease mh 256).wellFormed = false := by decide

theorem test_wellFormed_words : (Instr.deleteSlab mh 65536).wellFormed = false := by decide

theorem test_wellFormed_figures : (Instr.strokeReport mh 2147483648).wellFormed = false := by decide

theorem test_wellFormed_masses :
    (Instr.enterSlab mh (ident 1) 2100 260 (-1)).wellFormed = false := by decide

theorem test_wellFormed_ids : (Instr.removalReport mh 1 [0x50]).wellFormed = false := by decide

theorem test_wellFormed_payload :
    (Instr.malformedTelegram ⟨mh, Kind.command, .bytes [1, 2, 3]⟩).wellFormed = false
    ∧ (Instr.manualStroke mh [1, 2, 3, 4, 5]).wellFormed = false
    ∧ (Instr.malformedTelegram ⟨{ mh with length := 0 }, Kind.loadTable, .unknownTable 9⟩).wellFormed = false
    ∧ (Instr.manualStroke mh [1, 2, 3, 4]).wellFormed = true := by decide

theorem test_wellFormed_queryForm :
    [Instr.queryTableList { mh with length := 3 } .list, .queryTableList { mh with length := 1 } (.record 305),
      .querySchedule { mh with length := 13 } (.range 1), .querySchedule { mh with length := 3 } (.identity (ident 1)),
      .queryTableList { mh with length := 1 } .list, .querySchedule { mh with length := 3 } (.range 1)].map
        Instr.wellFormed = [false, false, false, false, true, true] := by decide

theorem test_wellFormed_frameType :
    (Instr.forwardedFrame .plant 0 0 0xA7E1 []).wellFormed = false := by decide

theorem test_wellFormed_straps :
    (Instr.coldStart { ColdInputs.chosen with straps := 64 }).wellFormed = false := by decide

theorem test_decode_no_row_gives_bits : decodeTableWord 8 0x21 = none := rfl

/-! ## Worked cases of chapter 2 -/

def rows1 : List Row :=
  [row 38900 2100 (.c (slab 87 0 2100 4000 1)) false, row 3650 1900 (.c (slab 140 1 1900 4000 3)) false]

def case1 : PlacementRecord := (input .final (rec 305 5 0) .a rows1 geo).compute

theorem test_case1_strokes : case1.result = .strokes ∧ case1.strokes = some 2
    ∧ case1.target = some 2660 ∧ case1.cls = some 2 ∧ case1.fMin = some 2400
    ∧ case1.rawTarget = some 1660 ∧ case1.gap = some 90 := by decide

theorem test_case1_after_strokes :
    ((input .final (rec 305 5 0) .a (shiftRows 1000 rows1) geo).compute.result,
      (input .final (rec 305 5 0) .a (shiftRows 1000 rows1) geo).compute.target)
    = (.placed, some 2660) := by decide

theorem test_case2_last_reported :
    ({ input .final (rec 305 5 0) .a rows1 { geo with basis := .lastReported } with
        lastStroke := some 750 }).compute.target = some 2410 := by decide

def pairRows : List Row := [row 3900 1500 (.a (slab 141 1 1500 4000 5)) true]

def pairRec : TableRecord :=
  { rec 142 2 0 with width := some 1650, measured := some 3800, thickness := some 220, group := some 5 }

theorem test_case3_pair : ((input .provisional pairRec .c pairRows geo).compute.result,
    (input .provisional pairRec .c pairRows geo).compute.target,
    (input .provisional pairRec .c pairRows geo).compute.lane)
    = (.pair, some 3900, some .b) := by decide

theorem test_case3_lost : ((input .final pairRec .b (shiftRows 500 pairRows) geo).compute.result,
    (input .final pairRec .b (shiftRows 500 pairRows) geo).compute.target,
    (input .final pairRec .b (shiftRows 500 pairRows) geo).compute.pairTest)
    = (.placed, some 2830, some (.failed 1)) := by decide

theorem test_case4_noFit :
    (input .provisional { rec 1 1 0 with width := some 2700 } .c []
      { geo with zMin := 1500, zMax := 3000, dDoor := 400 }).compute.result = .noFit := by decide

def rows5 : List Row := [row 39700 2000 (.c (slab 1 1 2000 4000 1)) false,
  row 31000 2000 (.c (slab 2 2 2000 4000 1)) false, row 2600 2000 (.c (slab 3 3 2000 4000 4)) false]

def rec5 : TableRecord := { rec 4 4 0 with width := some 2000, thickness := some 300, group := some 7 }

theorem test_case5_full : (input .final rec5 .c rows5 geo).compute.result = .full
    ∧ (input .final rec5 .c (rows5.drop 1) geo).compute.strokes = some 5
    ∧ (input .final rec5 .c (rows5.drop 1) geo).compute.target = some 2600 := by decide

theorem test_case6_trap_and_substitute :
    let r := { rec 1 1 0 with measured := none, nominals := some ⟨1800, 5900, 240⟩ }
    (input .final r .c rows1 geo).compute.result = .unmeasured
      ∧ (input .final r .c rows1 geo).compute.absent = some .length
      ∧ (input .final r .c rows1 { geo with policy := .substitute }).substitutes = true := by decide

theorem test_case7_more_room : (input .final (rec 1 1 0) .a
    [row 8000 2000 (.c (slab 3 3 2000 4000 3)) false] geo).compute.target = some 4200 := by decide

/-! ## Worked example of chapter 1 -/

def map1 : FurnaceMap := ⟨[row 38900 2100 (.c (slab 87 0 2100 4000 1)) false,
  row 6200 1900 (.c (slab 140 1 1900 4000 5)) false], 0⟩

def map2 : FurnaceMap := ⟨map1.rows ++ [row 4188 1500 (.a (slab 141 2 1500 4000 5)) true], 4188⟩

theorem test_landing_new_row :
    (map1.land false .a 4188 (slab 141 2 1500 4000 5)).map (fun d => (d.map, d.row, d.front))
      = some (map2, 2, 4188) := by decide

theorem test_landing_pair :
    (map2.land true .b 4205 (slab 142 3 1650 3800 5)).map (fun d =>
        (d.map.rows.drop 2, d.row, d.front, d.map.lastLanding))
      = some ([row 4188 1650 (.ab (slab 141 2 1500 4000 5) (slab 142 3 1650 3800 5)) false], 2, 4188,
        4188) := by decide

theorem test_touch_clamp : touchClamp ⟨[row 4300 1800 (.c (slab 1 1 1800 4000 1)) false], 0⟩ 2530 = 2500 := by
  decide

theorem test_strokes_and_overrun :
    (flagOverruns 40000 (shiftRows 700 (shiftRows 500 map2.rows))).map (fun r => (r.front, r.overrun))
      = [(40100, true), (7400, false), (5388, false)] := by decide

/-- A step through exec, seen through one function of the next state. -/
def after {α : Type} (i : Instr) (s : State) (f : State → α) : Option α :=
  match exec i s with
  | .next t => some (f t)
  | .fault _ => none
  | .refused _ => none

theorem test_discharge_first_row :
    after (.dischargeReport (oh 0x54 10) 1 (ident 0) []) { base with maps := ⟨map2, .empty⟩ }
      (fun t => t.maps.f1.rows.map (·.front)) = some [6200, 4188] := by decide

theorem test_discharge_misorder :
    after (.dischargeReport (oh 0x54 10) 1 (ident 1) []) { base with maps := ⟨map2, .empty⟩ }
      (fun t => t.maps.f1.rows.map (·.front)) = some [38900, 4188] := by decide

theorem test_stroke_report :
    after (.strokeReport (oh 0x52 8) 1200) { base with maps := ⟨map2, .empty⟩ }
      (fun t => (t.maps.f1.rows.map (·.front), t.place.f1.lastStroke))
      = some ([39900, 7200, 5188], some 1000) := by decide

/-- The part's own telegrams in the two transmit queues, the plant queue first. -/
def ownBodies (s : State) : List OwnBody :=
  (s.links.plant.queue ++ s.links.yard.queue).filterMap fun f => match f with
    | .own x => some x.body
    | .forwarded _ => none

/-- The telegram of an event raised right after reset. -/
def told (e : Event) : OwnBody := .event ⟨e, 0⟩

/-! ## Worked examples of chapters 3 to 10 -/

def cyc : CycleRecord :=
  { tag := 305, id := ident 5, lane := .a, provisional := case1
    final := some { case1 with result := .placed, target := some 2660 }
    target := some 2660, cls := 2, outstanding := 0, corrective := 0, timer := none, measured := none }

def flight : InFlight := { record := rec 305 5 63324, lane := .a, target := some 2660, certainty := .normal }

/-- Sequencer 1 in a state, with its cycle and, in CARRY and LOWER, its slab in flight. -/
def sq (st : SeqState) : Sequencer :=
  { state := st, cause := if st = .held then some .stopped else none, waiting := .none
    cycle := if st = .offline ∨ st = .idle then none else some cyc
    inflight := if st = .carry ∨ st = .lower then some flight else none }

/-- F1 in a state; in POSITIONING to PICK its slab is on the table. -/
def at1 (st : SeqState) : State :=
  { base with
    seqs := ⟨sq st, .offline⟩
    maps := ⟨⟨shiftRows 1000 rows1, 3650⟩, .empty⟩
    tracker := { Tracker.cold with
      nextTag := 306
      table := if st = .positioning ∨ st = .room ∨ st = .pick then [rec 305 5 63324] else [] } }

def withDepth (s : State) (um : Int) : State :=
  s.setCounter .c1 { s.counters.c1 with acc := um, homed := true }

theorem test_lifted : after (.lifted (fh 0x43 6) 305 0) (at1 .pick)
    (fun t => (t.seqs.f1.state, t.tracker.table.length, t.seqs.f1.inflight.map (·.record.tag)))
    = some (.carry, 0, some 305) := by decide

theorem test_lowered : after (.lowered (fh 0x43 6) 305 0) (withDepth (at1 .lower) 2404000)
    (fun t => (t.seqs.f1.state, t.maps.f1.rows.getLast?.map (fun r => (r.front, r.extent, r.pairOpen))))
    = some (.retract, some (2654, 2100, true)) := by decide

theorem test_retracted : after (.retracted (fh 0x43 6) 305 0) (withDepth (at1 .retract) (-2620000))
    (fun t => t.seqs.f1.state) = some .idle := by decide

theorem test_retracted_deep : after (.retracted (fh 0x43 6) 305 0) (withDepth (at1 .retract) (-2499000))
    (fun t => (t.seqs.f1.state, t.seqs.f1.cause)) = some (.held, some .retractPosition) := by decide

theorem test_stop_in_carry : after (fit (.stopCharger · (.val .f1))) (at1 .carry)
    (fun t => (t.seqs.f1.state, t.seqs.f1.cause, t.seqs.f1.inflight.map (·.certainty)))
    = some (.held, some .stopped, some .uncertain) := by decide

theorem test_stale_report : after (.atDepth (fh 0x43 6) 305 0) (at1 .held)
    (fun t => (t.seqs.f1.state, t.links.plant.queue.length)) = some (.held, 1) := by decide

def homedIdle : State :=
  withDepth { at1 .idle with
    tracker := { Tracker.cold with nextTag := 306, table := [rec 305 5 14500] }
    mgmt := { Mgmt.cold with supervision := .ok 10 10000 } } (-2620000)

theorem test_cycle_starts : after (fit (.acceptSlab · 305 none none none none none)) homedIdle
    (fun t => (t.seqs.f1.state, t.arb.motion, t.arb.nextMove, t.links.yard.queue.length))
    = some (.positioning, .positioning .f1 1 true, 2, 1) := by decide

def edge (i : SensorId) : State :=
  { base with
    cfg := { tables with sensorSetup := ⟨⟨0, false⟩, ⟨0, false⟩, ⟨0, false⟩, ⟨0, false⟩, ⟨0, false⟩⟩ }
    tracker := { Tracker.cold with
      table := [{ rec 305 5 21980 with seenMS := false, measured := none, nominals := some ⟨2100, 4600, 260⟩ }]
      measuring := if i = .gp then some ⟨305, 10000000⟩ else none } }

theorem test_head_edge_at_MS : after (.rawTransition .ms true) (edge .ms)
    (fun t => (t.tracker.table.map (fun r => (r.anchor, r.seenMS)), t.tracker.measuring))
    = some ([(22000, true)], some ⟨305, 0⟩) := by decide

theorem test_length : lengthOutcome 60 { rec 1 1 0 with nominals := some ⟨2100, 4600, 260⟩ }
    (roundMm (14625400 - 10000000)) = .accepted := by decide

theorem test_off_nominal : lengthOutcome 60 { rec 1 1 0 with nominals := some ⟨2100, 3000, 260⟩ } 5800
    = .offNominal := by decide

theorem test_rounding : [roundMm 500, roundMm (-500), roundMm 499, roundMm (-2968700)]
    = [1, -1, 0, -2969] := by decide

theorem test_gate_speed : [gateSpeed 8550 20, gateSpeed 120000 10, gateSpeed (-20000) 20]
    = [427, 9999, -1000] := by decide

theorem test_encoder_forward : after (.encoderStep .c1 true false) base
    (fun t => (t.counters.c1.acc, t.counters.c1.raw, t.counters.c1.lastDir))
    = some (100, 1, some .forward) := by decide

theorem test_encoder_reverse_wraps : after (.encoderStep .t false true) base
    (fun t => (t.counters.t.acc, t.counters.t.raw)) = some (-100, 16777215) := by decide

theorem test_encoder_illegal : after (.encoderStep .t true true) base
    (fun t => (t.counters.t.acc, t.counters.t.encoderError)) = some (0, true) := by decide

def lead : LineSettings := { LineSettings.default with lead := 120, maxAdvance := 150 }

theorem test_advance : [advance lead 850, advance lead 427, advance lead (-900), advance lead 5000]
    = [102, 51, -108, 150] := by decide

def slow : Window :=
  { basis := .fixed, on := 2000, off := 4300, speed := .any, mask := 16, lead := true }

theorem test_slow_down_window : [slow.satisfied lead 1900 850 .carry none,
    slow.satisfied lead 1897 850 .carry none, slow.satisfied lead 1900 850 .lower none]
    = [true, false, false] := by decide

def entry (seq n : Nat) (d : SchedDest) : ScheduleEntry :=
  { seq, id := ident n, dest := d, group := 3, width := 2100, length := 4600, thickness := 260
    state := .planned }

def contend : State :=
  { base with
    schedule := [entry 4130 0 (.to .f1), entry 4131 1 .either, entry 4132 2 (.to .f2)]
    mgmt := { Mgmt.cold with supervision := .ok 10 10000 } }

theorem test_grant_at_once : after (.gridRequest (fh 0x21 4) 3 (ident 1)) contend
    (fun t => (t.grid.grant.map (·.crane), t.grid.queue.length, t.arb.gridHold, t.grid.nextRank))
    = some (some .three, 0, some .three, 2) := by decide

def grantPhaseFull : GrantPhase := .active 180000

def granted : State :=
  { contend with
    grid :=
      { queue := [⟨.one, ident 9, 40, 2⟩, ⟨.two, ident 0, 7, 3⟩], nextRank := 4
        grant := some ⟨.three, ident 1, 11, grantPhaseFull⟩ }
    arb := { Arbiter.cold with gridHold := some .three } }

theorem test_grant_order : granted.gridOrder.map (·.crane) = [.two, .one] := by decide

theorem test_deposit : after (.depositReport (oh 0x24 4) 3 (ident 1) 2100 260 17800) granted
    (fun t => (t.tracker.table.map (·.anchor), t.tracker.table.map (·.state), t.tracker.table.map (·.dest)))
    = some ([14500], [.held .offlineFurnace], [some .f1]) := by decide

theorem test_deposit_ends_the_grant :
    after (.depositReport (oh 0x24 4) 3 (ident 1) 2100 260 17800) granted
      (fun t => (t.grid.grant, t.schedule.map (·.state)))
    = some (none, [.planned, .deposited 1, .planned]) := by decide

theorem test_grant_times_out : after (.grantTimeout 180000) granted
    (fun t => (t.grid.grant.map (·.crane), t.grid.queue.map (·.crane))) = some (some .two, [.one]) := by
  decide

theorem test_manual_move : after (.manualTableMove (hdr .plant 5 1 4) []) base
    (fun t => (t.arb.motion, t.links.yard.queue.length)) = some (.manual, 1) := by decide

theorem test_manual_stroke_blocked : after (.manualStroke (hdr .plant 8 1 4) []) (at1 .carry)
    (fun t => (t.links.plant.queue.length, t.links.yard.queue.length)) = some (1, 0) := by decide

theorem test_yard_heartbeat : after (.heartbeat (hdr .yard 0 6 0)) base
    (fun t => (t.mgmt.supervision, t.links.yard.queue.length)) = some (.lost, 1) := by decide

theorem test_heartbeat : after (.heartbeat (hdr .plant 0 1 0)) base
    (fun t => (t.mgmt.supervision, t.links.plant.queue.length)) = some (.ok 10 10000, 2) := by decide

def retained : State := { at1 .pick with ret := { base.ret with mode := .retain } }

theorem test_supply_lost : after .mainSupplyLost granted
    (fun t => (t.ret.mode, t.grid.grant, t.grid.queue.length, t.links.plant.up, t.ret.held.length))
    = some (.retain, none, 0, false, 1) := by decide

theorem test_supply_returns : after .mainSupplyReturns retained
    (fun t => (t.ret.mode, t.seqs.f1.state, t.seqs.f1.cause, t.tracker.table.map (·.state),
      t.ret.held.length))
    = some (.restored, .held, some .restored, [.held .tracking], 3) := by decide

def restored : State :=
  { retained with ret := { base.ret with
      mode := .restored, startKind := .restored, held := [⟨.supervisionOk, 7⟩] } }

/-- The part in RESTORED with `n` frames in the plant queue and `m` held events. -/
def resuming (n m : Nat) : State :=
  { restored with
    links := { restored.links with plant := { restored.links.plant with
      queue := List.replicate n (.forwarded (.portUp .yard)) } }
    ret := { restored.ret with held := List.replicate m ⟨.supervisionOk, 7⟩ } }

/-- The held entries that a RESUME says it delivers, the frames queued behind it, and OWN_DISCARDED. -/
def resumed? (n m : Nat) : Option (Nat × Nat × Bool) :=
  after (fit (.resume ·)) (resuming n m) fun t =>
    ((resuming n m).heldDelivered, t.links.plant.queue.length, t.links.plant.ownDiscarded)

theorem test_resume_nearly_full : [(6, 16), (7, 16), (8, 16), (20, 5), (23, 5), (24, 5)].map (fun x => resumed? x.1 x.2)
    = [some (16, 24, false), some (16, 24, true), some (15, 24, true), some (3, 24, true), some (0, 24, true),
      some (0, 24, true)] := by decide

theorem test_resume_answer : after (fit (.resume ·)) (resuming 20 5) (fun t => t.links.plant.queue[20]?.map fun f =>
      match f with | .own u => decide (u.body = .response Kind.command .ok none (.resumed 3 false)) | _ => false)
    = some (some true) := by decide

theorem test_resume : after (fit (.resume ·)) restored
    (fun t => (t.ret.mode, t.ret.held.length, t.links.plant.queue.length)) = some (.run, 0, 3) := by
  decide

theorem test_reset_refused : after (fit (.resetAll ·)) (at1 .pick)
    (fun t => (t.seqs.f1.state, t.cfg.partners.isSome)) = some (.pick, true) := by decide

theorem test_reset_all : after (fit (.resetAll ·)) (at1 .room)
    (fun t => (t.seqs.f1.state, t.cfg.partners.isSome, t.links.station)) = some (.offline, false, some 0) := by
  decide

theorem test_load_range : after (fit (.loadGapRules · (.val .f1) 7 [2001])) base
    (fun t => (t.mgmt.latch.map (fun r => (r.code, r.entry)), t.cfg.gaps.f1.getD 7 0))
    = some (some (.outOfRange, some 7), 550) := by decide

theorem test_load_gap : after (fit (.loadGapRules · (.val .f1) 7 [2000])) base
    (fun t => (t.mgmt.latch.isSome, t.cfg.gaps.f1.getD 7 0)) = some (false, 2000) := by decide

theorem test_schedule_edit_whole : after (fit (.scheduleEdit ·
    [.append 5 (ident 1) (some (.val .either)) (some 3) (some 2100) (some 4600) (some 260), .delete 6])) base
    (fun t => (t.schedule.length, t.mgmt.latch.map (fun r => (r.code, r.entry))))
    = some (0, some (.unknownTag, some 1)) := by decide

/-! ## What meets the hypotheses of the statements -/

/-- The part takes the management telegram mh, and nothing is latched. -/
abbrev Ready (s : State) : Prop := Managed s mh ∧ s.mgmt.latch = none

/-- The part takes a management telegram whatever length from 0 to 120 its header declares. -/
theorem test_managed_of_length {s : State} {n : Nat} (m : Managed s mh) (hn : n ≤ 120) :
    Managed s { mh with length := n } :=
  let ⟨⟨h1, h2, _, h4, h5, h6⟩, h7, h8⟩ := m
  ⟨⟨h1, h2, hn, h4, h5, h6⟩, h7, h8⟩

/-- A command's payload fits its kind, in a telegram that can carry it. -/
def carried (c : Hdr → Instr) : Bool :=
  formFits (fit c) && decide ((Instr.fieldsLength (c mh)).getD 0 ≤ 120)

/-- A part at work, with a command waiting. -/
def working (s : State) : State := { s with pending := [.encoderStep .t true false, .frameSent .plant] }

theorem test_witness_StepTakesFrontCommand :
    (working base).pending = .encoderStep .t true false :: [.frameSent .plant] ∧ base.pending = [] := by
  decide

theorem test_witness_EveryStep_granted : LinesFollow (working granted) ∧ QueuesBounded (working granted)
    ∧ HeldBounded (working granted) ∧ TablesShaped (working granted)
    ∧ ScheduleInOrder (working granted) ∧ MotionExcludesHolds (working granted)
    ∧ GridHoldIsGrant (working granted) ∧ TableBounded (working granted)
    ∧ MapsInOrder (working granted) := by decide

theorem test_witness_EveryStep_at_work : SequencersConsistent (working (at1 .carry))
    ∧ SequencersConsistent (working (at1 .held))
    ∧ MapsInOrder (working (at1 .carry)) :=
  ⟨⟨⟨by decide, by decide, by decide, by decide, by decide, by decide, by decide⟩,
      ⟨by decide, by decide, by decide, by decide, by decide, by decide, by decide⟩⟩,
    ⟨⟨by decide, by decide, by decide, by decide, by decide, by decide, by decide⟩,
      ⟨by decide, by decide, by decide, by decide, by decide, by decide, by decide⟩⟩, by decide⟩

theorem test_witness_EveryStep_retain : retained.ret.mode = .retain
    ∧ RetainRequests (working retained) ∧ RetainRequests (working (at1 .positioning))
    ∧ (∃ t, step (working retained) = .next t) ∧ SequencersConsistent (working retained) :=
  ⟨by decide, by decide, by decide, ⟨_, rfl⟩,
    ⟨by decide, by decide, by decide, by decide, by decide, by decide, by decide⟩,
    ⟨by decide, by decide, by decide, by decide, by decide, by decide, by decide⟩⟩

theorem test_witness_EveryStep_next : (∃ t, step (working granted) = .next t)
    ∧ ∃ t, step (working (at1 .carry)) = .next t := ⟨⟨_, rfl⟩, ⟨_, rfl⟩⟩

theorem test_witness_EveryStep_idle : PortsFollowLinks (working granted) ∧ HeldOnce (working granted)
    ∧ TableBounded (working granted) ∧ WidthsInRange (working granted) := by decide

theorem test_witness_EveryStep_inFlight : HeldOnce (working (at1 .carry))
    ∧ TableBounded (working (at1 .carry)) ∧ WidthsInRange (working (at1 .carry))
    ∧ (working (at1 .carry)).seqs.f1.inflight.isSome = true := by decide

/-- A slab in front of door 1 with its charger's hold, one being picked, and one whose hold RETAIN dropped. -/
def holding (st : SeqState) : State :=
  { at1 st with arb := { Arbiter.cold with holds := ⟨true, false⟩ } }

theorem test_witness_EveryStep_holds : CycleSlab (working (holding .room)) .f1
    ∧ CycleSlab (working (holding .pick)) .f1 ∧ CycleSlab (working (at1 .positioning)) .f1
    ∧ HoldFollows (working (holding .room)) .f1 ∧ HoldFollows (working (holding .pick)) .f1
    ∧ HoldFollows (working (at1 .positioning)) .f1 ∧ HoldFollows (working retained) .f1 :=
  ⟨⟨fun _ => by decide, fun _ => by decide⟩, ⟨fun _ => by decide, fun _ => by decide⟩,
    ⟨fun _ => by decide, fun _ => by decide⟩, ⟨fun _ => by decide, nofun⟩, ⟨fun _ => by decide, nofun⟩,
    ⟨fun _ => by decide, nofun⟩, ⟨fun h => absurd rfl h, fun _ => rfl⟩⟩

theorem test_witness_EveryStep_holds_offline : CycleSlab (working (holding .room)) .f2
    ∧ HoldFollows (working (holding .room)) .f2 ∧ HeldOnce (working (holding .room))
    ∧ TableBounded (working (holding .room)) ∧ MapsInOrder (working (holding .room))
    ∧ ∃ t, step (working (holding .room)) = .next t :=
  ⟨⟨fun h => h.elim (absurd rfl) nofun, fun h => h.elim nofun fun h => h.elim nofun nofun⟩,
    ⟨fun _ => by decide, nofun⟩, by decide, by decide, by decide, _, rfl⟩

/-- A deposit is due with a slab downstream of the grid; two records in order. -/
def arriving : State :=
  { granted with
    pending := [.depositReport (oh 0x24 4) 3 (ident 1) 2100 260 17800]
    tracker := { Tracker.cold with nextTag := 307, table := [rec 305 5 63324, rec 306 6 32000] } }

theorem test_witness_TableOrder : TableInOrder arriving
    ∧ (arriving.tracker.table.map (·.tag)).Nodup ∧ mayCreate arriving.pending.head? = true
    ∧ arriving.cfg.tableGeometry = some tgeo ∧ (∀ r ∈ arriving.tracker.table, tgeo.xG < r.anchor + arriving.travel)
    ∧ tgeo.xG ≤ tgeo.xGE ∧ arriving.tailsClear = true ∧ (∀ r ∈ arriving.tracker.table, 0 ≤ r.assumed)
    ∧ ∃ t, step arriving = .next t :=
  ⟨by decide, by decide, by decide, by decide, by decide, by decide, by decide, by decide, _, rfl⟩

theorem test_table_order : after (.depositReport (oh 0x24 4) 3 (ident 1) 2100 260 17800) arriving
    (fun t => t.tracker.table.map (·.anchor)) = some [63324, 32000, 14500] := by decide

theorem test_figure_bytes : (Field.figure (-2)).bytes = [0xFF, 0xFF, 0xFF, 0xFE]
    ∧ (Field.figure 4294967297).bytes = [0, 0, 0, 1] ∧ (Field.tag 305).bytes = [0x01, 0x31] := by decide

theorem test_tableMove_bytes : (ownTelegram .yard 0 5 0 (.tableMove 1 (-20))).bytes
    = [5, 0, 0x31, 0, 5, 1, 0xFF, 0xFF, 0xFF, 0xEC] := by decide

theorem test_charger_report_bytes :
    Instr.fields (.lifted (fh 0x43 6) 305 7)
      = some (0x43, [.tag 305, .code (.phase .lifted), .byte 7])
    ∧ fieldBytes [.tag 305, .code (.phase .lifted), .byte 7]
      = [0x01, 0x31, Config.codeByte (.phase .lifted), 7] := ⟨rfl, rfl⟩

theorem test_timing_read_bytes : (fieldBytes (RespData.durations [40, 45]).fields)
    = [0, 0, 0, 40, 0, 0, 0, 45] := by decide

theorem test_witness_TelegramBytes : 65535 < 65536 ∧ 255 < 256 ∧ (ident 1).length ≤ 12
    ∧ ([0x50] : Identity).length ≤ 12
    ∧ (∃ l, Instr.fields (.gridRelease (fh 0x22 2) 1) = some (Kind.gridRelease, l))
    ∧ isFieldTaken Kind.gridRelease = true
    ∧ (∃ l, Instr.fields (.strokeReport (oh 0x52 8) 500) = some (Kind.strokeReport, l))
    ∧ isObservable Kind.strokeReport = true :=
  ⟨by decide, by decide, by decide, by decide, ⟨_, rfl⟩, by decide, ⟨_, rfl⟩, by decide⟩

def fullQueue : PortState :=
  { link := true, up := true, queue := List.replicate 24 (.forwarded (.portUp .yard)), linkOverrun := false
    ownDiscarded := false }

theorem test_witness_OwnTelegramsAndEvents : base.links.station = some 0
    ∧ { base.links with station := none }.station = none ∧ fullQueue.queue.length = 24
    ∧ base.ret.mode = .run ∧ restored.ret.mode ≠ .run ∧ restored.ret.held.length < 16
    ∧ 16 ≤ { restored.ret with held := List.replicate 16 ⟨.supervisionOk, 7⟩ }.held.length := by decide

/-! ### Loads -/

def wide : TableGeometry :=
  { xTS := 0, xGS := 1, xG := 2, xGE := 2, xMS := 3, xD1 := 5, xD2 := 6, xTE := 200000, x1A := 4
    x1C := 4, x1B := 4, x2A := 199999, x2C := 199999, x2B := 199999, trackingTolerance := 500
    positioningTolerance := 10, lengthTolerance := 300 }

theorem test_witness_LoadRecords : Ready base ∧ base.seqs.f1.state = .offline
    ∧ base.tracker.table = [] ∧ base.arb.motion = .still
    ∧ (∀ x ∈ [wide.xTS, wide.xGS, wide.xG, wide.xGE, wide.xMS, wide.xD1, wide.xD2, wide.xTE,
        wide.x1A, wide.x1C, wide.x1B, wide.x2A, wide.x2C, wide.x2B], 0 ≤ x ∧ x ≤ 200000)
    ∧ wide.xTS < wide.xGS ∧ wide.xGS < wide.xG ∧ wide.xG ≤ wide.xGE ∧ wide.xGE < wide.xMS
    ∧ wide.xMS < wide.xD1 ∧ wide.xD1 < wide.xD2 ∧ wide.xD2 < wide.xTE
    ∧ (∀ x ∈ [wide.x1A, wide.x1C, wide.x1B, wide.x2A, wide.x2C, wide.x2B],
        wide.xMS < x ∧ x < wide.xTE) := by decide

theorem test_witness_LoadRecords_tolerances : wide.trackingTolerance
      = (some 500).getD ((base.cfg.tableGeometry.map (·.trackingTolerance)).getD 150)
    ∧ wide.positioningTolerance
      = (some 10).getD ((base.cfg.tableGeometry.map (·.positioningTolerance)).getD 40)
    ∧ wide.lengthTolerance
      = (some 300).getD ((base.cfg.tableGeometry.map (·.lengthTolerance)).getD 60) := by decide

/-- The greatest figures R28 takes, and the least. -/
theorem test_witness_LoadRecords_geometry : let ok := fun
      (lEff zMin zMax dDoor sNom lPair pairTol landTol arm clear : Int) =>
    10000 ≤ lEff ∧ lEff ≤ 60000 ∧ 0 ≤ zMin ∧ zMax ≤ 10000 ∧ 0 ≤ dDoor ∧ dDoor ≤ 1000 ∧ 200 ≤ sNom
      ∧ sNom ≤ 800 ∧ (lPair = 0 ∨ (1500 ≤ lPair ∧ lPair ≤ 7000)) ∧ 0 ≤ pairTol ∧ pairTol ≤ 400
      ∧ 10 ≤ landTol ∧ landTol ≤ 200 ∧ -1000 ≤ arm ∧ arm ≤ 1000 ∧ -6000 ≤ clear ∧ clear ≤ 0
      ∧ zMin < zMax ∧ zMax < lEff
    ok 60000 9999 10000 1000 800 7000 400 200 1000 0 ∧ ok 10000 0 9999 0 200 0 0 10 (-1000) (-6000) := by
  decide

theorem test_witness_LoadFigures : [2000] ≠ ([] : List Int) ∧ 7 + [2000].length ≤ 8
    ∧ (∀ x ∈ [(0 : Int), 2000], 0 ≤ x ∧ x ≤ 2000) ∧ 0 + [(100 : Int), 300, 500].length ≤ 3
    ∧ (∀ x ∈ [(100 : Int), 300, 500], 100 ≤ x ∧ x ≤ 500)
    ∧ [(100 : Int), 300, 500] = [base.cfg.bounds.b1, base.cfg.bounds.b2, base.cfg.bounds.b3].take 0
      ++ [100, 300, 500] ++ [base.cfg.bounds.b1, base.cfg.bounds.b2, base.cfg.bounds.b3].drop (0 + 3)
    ∧ (100 : Int) < 300 ∧ (300 : Int) < 500 := by decide

theorem test_witness_LoadTiming : 0 + [5, 120, 5, 120, 5, 120].length ≤ 6
    ∧ ∀ i x, [5, 120, 5, 120, 5, 120][i]? = some x →
      [5, 10, 5, 5, 5, 5].getD (0 + i) 0 ≤ x ∧ x ≤ [120, 120, 60, 120, 60, 120].getD (0 + i) 0 := by
  refine ⟨by decide, fun i x h => ?_⟩
  rcases i with _ | _ | _ | _ | _ | _ | i <;> simp at h <;> subst h <;> decide

def homing : CounterSetupEntry :=
  { multiplier := some (.val .x1), invert := none, scale := some 2000, gatePeriod := some 100
    markerUse := some (.val .home), edgeRising := some (.val false), homeDirection := none
    homePosition := some (-10000), homeTolerance := some 200 }

theorem test_witness_LoadCounterSetup : Ready base ∧ base.tracker.table = [] ∧ base.arb.motion = .still
    ∧ base.seqs.f1.state = .offline ∧ base.seqs.f2.state = .offline ∧ some MarkerUse.none ≠ some .home
    ∧ (∀ x ∈ some (2000 : Int), 1 ≤ x ∧ x ≤ 2000) ∧ (∀ x ∈ some (100 : Int), x ∈ [(10 : Int), 20, 50, 100])
    ∧ (∀ x ∈ some (-10000 : Int), -10000 ≤ x ∧ x ≤ 10000) ∧ (∀ x ∈ some (200 : Int), 1 ≤ x ∧ x ≤ 200) := by
  decide

/-- Of counter C1's setup, the fields carried are taken; those carried with their absent values are not. -/
theorem test_load_counter_setup : after (fit (.loadCounterSetup · (.val .c1) 0
      [{ homing with scale := some absentFigure, edgeRising := some (.bad 255) }])) base
    (fun t => (t.cfg.counterSetup.c1.scale, t.cfg.counterSetup.c1.edgeRising, t.cfg.counterSetup.c1.homePosition,
      t.counters.c1.gateLeft)) = some (100, base.cfg.counterSetup.c1.edgeRising, -10000, 100) := by decide

theorem test_witness_LoadSensorSetup : Ready base ∧ base.tracker.table = [] ∧ base.arb.motion = .still
    ∧ base.grid.grant = none ∧ 4 + [(⟨some 50, none⟩ : SensorSetupEntry)].length ≤ 5
    ∧ (∀ e ∈ [(some (50 : Int), (none : Option (Code Bool))), (some absentFigure, some (.val true))],
      ∀ x ∈ e.1, x = absentFigure ∨ (0 ≤ x ∧ x ≤ 50))
    ∧ [SensorId.ms, .gp, .d1, .d2, .te][4 + 0]? = some .te := by decide

/-- GP's taken level is read again, and shows a slab that no record accounts for. -/
theorem test_load_sensor_setup : after (fit (.loadSensorSetup · 0 [⟨some 7, none⟩, ⟨none, some (.val true)⟩])) base
    (fun t => (t.cfg.sensorSetup.ms.filterTime, t.sensors.gp.taken, t.tracker.unidentified,
      t.links.plant.queue.length)) = some (7, true, true, 2) := by decide

def pooled : State :=
  { base with cfg := { tables with
      pool := some slow :: List.replicate 95 none
      sets := ⟨[0] :: List.replicate 31 [], List.replicate 32 []⟩ } }

def poolLoad : List PoolLoadEntry :=
  .window (.val .fixed) 0 100 (.val .any) 1 (.val false) :: List.replicate 15 .empty

theorem test_witness_LoadWindowPool : Ready pooled ∧ TablesShaped pooled ∧ poolLoad ≠ []
    ∧ poolLoad.length ≤ 16 ∧ 80 + poolLoad.length ≤ 96
    ∧ (∀ e ∈ poolLoad, PoolLoadEntry.codesOk false e = true
      ∧ edgeCheck (PoolLoadEntry.window? e) = none) := by decide

theorem test_witness_LoadWindowPool_references :
    (∀ i, i < 16 → armedReference pooled (80 + i) = false ∧ offlineReference pooled (80 + i) = false)
    ∧ (∀ l ∈ pooled.cfg.sets.f1 ++ pooled.cfg.sets.f2, WindowsApart (pooled.cfg.pool.take 80
      ++ poolLoad.map PoolLoadEntry.window? ++ pooled.cfg.pool.drop (80 + poolLoad.length)) l) := by
  decide

theorem test_witness_LoadWindowPool_free : pooled.cfg.pool[1]? = some none
    ∧ (∀ j, j < 1 → pooled.cfg.pool[j]? ≠ some none)
    ∧ (∀ l ∈ pooled.cfg.sets.f1 ++ pooled.cfg.sets.f2, 1 ∉ l)
    ∧ slow.mask ≠ 0 ∧ slow.mask.toNat < 128 ∧ slow.edgesInRange = true ∧ slow.on < slow.off := by decide

theorem test_witness_LoadWindowSets : Ready pooled ∧ pooled.seqs.f1.state = .offline
    ∧ 31 + [[0]].length ≤ 32
    ∧ (∀ l ∈ [[0]], l.length ≤ 4 ∧ (∀ i ∈ l, i ≤ 95 ∧ (pooled.cfg.pool.getD i none).isSome = true)
      ∧ WindowsApart pooled.cfg.pool l) := by decide

theorem test_witness_LoadLineSettings : TablesShaped pooled
    ∧ 0 + (List.replicate 8 StopLevel.retain).length ≤ 8 ∧ 7 + [StopLevel.on].length ≤ 8
    ∧ (∀ x ∈ some (100 : Int), 0 ≤ x ∧ x ≤ 100) ∧ (∀ x ∈ some (2000 : Int), 0 ≤ x ∧ x ≤ 2000)
    ∧ (∀ x ∈ some (500 : Int), 0 ≤ x ∧ x ≤ 500) ∧ (∀ x ∈ some (300 : Int), 0 ≤ x ∧ x ≤ 300) := by decide

def passageLoad : List PassageLoadEntry :=
  .bound 255 (.val .forward) :: .bound 0x20 (.val .drop) :: List.replicate 14 .empty

theorem test_witness_LoadPassage : Ready base ∧ passageLoad.length ≤ 16 ∧ 16 + passageLoad.length ≤ 32
    ∧ (∀ e ∈ passageLoad, PassageLoadEntry.codesOk e = true ∧ PassageLoadEntry.allowed e = true)
    ∧ ((base.cfg.passage.take 16 ++ passageLoad.map PassageLoadEntry.entry
      ++ base.cfg.passage.drop (16 + passageLoad.length)).filterMap (·.map (·.1))).Nodup := by decide

theorem test_witness_LoadPartTables : 15 + [26].length ≤ 16 ∧ (∀ q ∈ [26], q ≤ 26)
    ∧ (∀ x ∈ [1, 2, 3, 4, 5, 6, 7, 8, 9, 10, 62], x ≤ 62 ∧ base.links.station ≠ some x)
    ∧ [1, 2, 3, 4, 5, 6, 7, 8, 9, 10, 62].Nodup ∧ base.seqs.f1.state = .offline
    ∧ base.seqs.f2.state = .offline ∧ base.arb.motion = .still ∧ base.grid.grant = none
    ∧ base.grid.queue = [] := by decide

def latched : State :=
  { base with mgmt := { base.mgmt with latch := some ⟨.outOfRange, .load .gapRules, some 7⟩ } }

theorem test_witness_LatchedRefusesLoadsAndEdits : Managed latched mh
    ∧ latched.mgmt.latch.isSome = true := by decide

/-! ### Loads refused -/

def geoEntry (g : FurnaceGeometry) : GeometryEntry :=
  { lEff := some g.lEff, zMin := some g.zMin, zMax := some g.zMax, dDoor := some g.dDoor
    sNom := some g.sNom, basis := some (.val g.basis), lPair := some g.lPair
    pairTolerance := some g.pairTolerance, landingTolerance := some g.landingTolerance
    armOffset := some g.armOffset, retractClear := some g.retractClear, policy := some (.val g.policy) }

/-- The entry of TABLE_GEOMETRY with the positions of `wide`, its tolerances left out. -/
def wideEntry : TableGeometryEntry :=
  { xTS := wide.xTS, xGS := wide.xGS, xG := wide.xG, xGE := wide.xGE, xMS := wide.xMS, xD1 := wide.xD1
    xD2 := wide.xD2, xTE := wide.xTE, x1A := wide.x1A, x1C := wide.x1C, x1B := wide.x1B, x2A := wide.x2A
    x2C := wide.x2C, x2B := wide.x2B, trackingTolerance := none, positioningTolerance := none
    lengthTolerance := none }

/-- A payload a byte too long and a byte too short, an empty one, and entry counts that are none. -/
theorem test_witness_LoadFormAndCountRefused : Ready base
    ∧ [0, 7, 9].map (fun n => formFits (.loadGapRules { mh with length := n } (.val .f1) 5 [1])) = [false, false, false]
    ∧ carried (.loadGapRules · (.val .f1) 5 []) = true ∧ ([] : List Int).length = 0
    ∧ carried (.loadGapRules · (.val .f1) 5 (List.replicate 17 0)) = true
    ∧ 16 < (List.replicate 17 (0 : Int)).length := by decide

/-- What the latch records of loads and edits that do not fit. -/
theorem test_unfit_latched :
    [Instr.loadGapRules { mh with length := 9 } (.val .f1) 5 [1], .loadGapRules { mh with length := 0 } (.val .f1) 5 [1],
      .loadStatusMap { mh with length := 4 } 9 [26], .scheduleEdit { mh with length := 3 } [.delete 0, .delete 6],
      .deleteSlab { mh with length := 4 } 140, .deleteSlab { mh with length := 0 } 140].map
        (fun i => after i base (·.mgmt.latch))
    = [some (some ⟨.illegalValue, .load .gapRules, none⟩), some (some ⟨.illegalValue, .loadUnknown 0, none⟩),
      some (some ⟨.illegalValue, .load .statusMap, none⟩), some (some ⟨.illegalValue, .schedule none, none⟩),
      some (some ⟨.illegalValue, .map (some .deleteSlab), some 0⟩), some (some ⟨.illegalValue, .map none, some 0⟩)] := by
  decide

/-- A command, a read and a query with a byte too many are answered ILLEGAL_VALUE, and do nothing else. -/
theorem test_unfit_answered :
    [Instr.armFurnace { mh with length := 3 } (.val .f1), .resetAll { mh with length := 2 }].map (fun i => exec i base)
      = List.replicate 2 (.next (respond mh Kind.command .illegalValue none .none base))
    ∧ exec (.readPassage { mh with length := 5 } 0 1) base
      = .next (respond mh Kind.readTable .illegalValue none .none base)
    ∧ exec (.queryGrid { mh with length := 2 }) base
      = .next (respond mh Kind.query .illegalValue none .none base) := ⟨rfl, rfl, rfl⟩

/-- Every load fits with the length of its fields, in a telegram that can carry it. -/
theorem test_witness_forms_loads : carried (.loadFurnaceGeometry · (.val .f1) 0 [geoEntry geo]) = true
    ∧ carried (.loadGapRules · (.val .f1) 7 [2000]) = true ∧ carried (.loadThicknessClasses · 0 [100, 300, 500]) = true
    ∧ carried (.loadChargerTiming · (.val .f1) 0 [5, 120, 5, 120, 5, 120]) = true
    ∧ carried (.loadTableGeometry · 0 [wideEntry]) = true ∧ carried (.loadCounterSetup · (.val .c1) 0 [homing]) = true
    ∧ carried (.loadSensorSetup · 4 [⟨some 50, none⟩]) = true ∧ carried (.loadWindowPool · 80 poolLoad) = true
    ∧ carried (.loadWindowSets · (.val .f1) 31 [[0]]) = true
    ∧ carried (.loadLineSettings · (.val .f1) 7 [.stopLevel (.val .on), .speedLead (some 100) none none none]) = true
    ∧ carried (.loadPassage · 16 passageLoad) = true ∧ carried (.loadStatusMap · 15 [26]) = true
    ∧ carried (.loadPartSettings · 3 [.figure 600, .partners [1, 2, 3, 4, 5, 6, 7, 8, 9, 10, 62]]) = true := by decide

/-- So does every edit, command and query; a read of any table has four bytes. -/
theorem test_witness_forms : ([(.readFurnaceGeometry · (.val .f1) 0 1), (.readGapRules · (.val .f1) 0 8),
      (.readThicknessClasses · 0 3), (.readChargerTiming · (.val .f1) 0 6), (.readTableGeometry · 0 1),
      (.readCounterSetup · (.val .c1) 0 1), (.readSensorSetup · 0 5), (.readWindowPool · 0 2),
      (.readWindowSets · (.val .f1) 0 4), (.readLineSettings · (.val .f1) 0 9), (.readPassage · 0 16),
      (.readStatusMap · 0 16), (.readPartSettings · 0 5), (.queryMap · (.rows (.val .f1) 0)), (.queryMap · (.slab 140)),
      (.queryTableList · .list), (.queryTableList · (.record 305)), (.querySchedule · (.range 1)),
      (.querySchedule · (.identity (ident 1))), (.queryInflight · (.val .f1)), (.queryGrid ·), (.queryCounters ·),
      (.queryHolds · (.val true)), (.heartbeat ·),
      (.scheduleEdit · [.append 5 (ident 1) none none none none none, .delete 6, .modify 7 none none none none none]),
      (.deleteSlab · 140), (.setRowFront · (.val .f1) 0 39000), (.insertSlab · (.val .f1) 2600 (ident 7) 800 4000 260 3 0),
      (.armFurnace · (.val .f1)), (.disarmFurnace · (.val .f1)), (.stopCharger · (.val .f1)),
      (.releaseCharger · (.val .f1)), (.resolveInflightLanded · (.val .f1) 2100), (.resolveInflightRemoved · (.val .f1)),
      (.acceptSlab · 305 none none none none none), (.rejectSlab · 305), (.removeSlab · 305),
      (.enterSlab · (ident 1) 2100 260 0), (.clearHolds · .all), (.clearHolds · (.furnace (.val .f1) .all)),
      (.clearHolds · (.counter (.val .t) (.set [.encoderError]))), (.clearError ·), (.clearLink · (.val .both)),
      (.resume ·), (.resetTracking ·), (.resetAll ·)] : List (Hdr → Instr)).all carried = true := by decide

/-- Behind a bad entry code any bytes may follow; an entry of another index's fields does not fit (log 48). -/
theorem test_open_fields :
    [(Instr.loadPassage { mh with length := 5 } 0 [.badKind 9]), .loadPassage { mh with length := 9 } 0 [.badKind 9],
      .loadPassage { mh with length := 4 } 0 [.badKind 9], .loadPassage { mh with length := 9 } 0 [.empty],
      .loadPartSettings { mh with length := 30 } 5 [.figure 1], .loadPartSettings { mh with length := 8 } 4 [.figure 1],
      .loadLineSettings { mh with length := 5 } (.val .f1) 8 [.stopLevel (.val .on)]].map formFits
    = [true, true, false, false, true, false, false] := by decide

/-- F1 armed; a slab on the table. -/
theorem test_witness_LoadRefused_states : Ready (at1 .idle) ∧ (at1 .idle).seqs.f1.state ≠ .offline
    ∧ Ready homedIdle ∧ homedIdle.tracker.table ≠ [] ∧ Ready { base with arb := { base.arb with motion := .manual } }
    ∧ { base.arb with motion := .manual }.motion ≠ .still ∧ Ready granted
    ∧ granted.grid.grant.isSome = true ∧ base.seqs.f1.state = .offline ∧ base.seqs.f2.state = .offline
    ∧ base.tracker.table = [] ∧ base.arb.motion = .still ∧ base.grid.grant = none := by decide

/-- Two entries, a field left out, a code that is none, a figure below its range, z_max at z_min. -/
theorem test_witness_LoadGeometryRefused : [geoEntry geo, geoEntry geo].length ≠ 1
    ∧ { geoEntry geo with zMin := none }.zMin = none
    ∧ { geoEntry geo with zMin := some absentFigure }.zMin = some absentFigure
    ∧ { geoEntry geo with basis := some (.bad 9) }.basis = some (.bad 9)
    ∧ ¬ 10000 ≤ { geo with lEff := 9999 }.lEff ∧ (9999 : Int) ≠ absentFigure
    ∧ { geo with zMax := 1800 }.zMax ≤ { geo with zMax := 1800 }.zMin
    ∧ { geo with lEff := 10000, zMax := 10000 }.lEff ≤ { geo with lEff := 10000, zMax := 10000 }.zMax := by
  decide

/-- A position a millimetre beyond its range, and two positions at one place. -/
theorem test_witness_LoadGeometryRefused_table : ¬ { wide with xTE := 200001 }.xTE ≤ 200000
    ∧ ¬ { wide with xGS := 0 }.xTS < { wide with xGS := 0 }.xGS ∧ wide.trackingTolerance ≠ absentFigure
    ∧ (∀ x ∈ [wide.xTS, wide.xGS, wide.xTE], x ≠ absentFigure) := by decide

/-- The first of two failing entries; bounds that do not rise; a timeout a second short. -/
theorem test_witness_LoadFiguresRefused :
    FirstFails (fun _ (x : Int) => 0 ≤ x ∧ x ≤ 2000) 5 [2000, 2001, -1] 6
    ∧ 5 + [(2000 : Int), 2001, -1].length ≤ 8 ∧ 8 < 7 + [(0 : Int), 1].length
    ∧ FirstFails (fun _ (x : Int) => 100 ≤ x ∧ x ≤ 500) 0 [99] 0
    ∧ [(180 : Int), 180, 340] = [180, 260, 340].take 1 ++ [180] ++ [180, 260, 340].drop (1 + 1)
    ∧ FirstFails (fun i (x : Int) => [5, 10, 5, 5, 5, 5].getD i 0 ≤ x) 0 [5, 9] 1 := by
  refine ⟨⟨[2000], 2001, [-1], rfl, rfl, ?_, by decide⟩, by decide, by decide,
    ⟨[], 99, [], rfl, rfl, nofun, by decide⟩, by decide, ⟨[5], 9, [], rfl, rfl, ?_, by decide⟩⟩
  all_goals intro i y h; rcases i with _ | i <;> simp at h; subst h; decide

/-- A missing figure behind a good one; entries that each carry their figure. -/
theorem test_witness_LoadFiguresRefused_missing :
    FirstFails (fun _ x => x ≠ absentFigure) 5 [2000, absentFigure, 2001] 6
    ∧ (∀ x ∈ [(2000 : Int), 2001, -1], x ≠ absentFigure) := by
  refine ⟨⟨[2000], absentFigure, [2001], rfl, rfl, ?_, fun h => h rfl⟩, by decide⟩
  intro i y h; rcases i with _ | i <;> simp at h; subst h; decide

/-- Missing figures, a missing edge, station and quantity are refused before a range is judged; kind 0xFF binds. -/
theorem test_missing_load_fields :
    [after (fit (.loadGapRules · (.val .f1) 5 [2000, absentFigure, 2001])) base (·.mgmt.latch),
      after (fit (.loadThicknessClasses · 0 [absentFigure])) base (·.mgmt.latch),
      after (fit (.loadChargerTiming · (.val .f2) 2 [absentFigure])) base (·.mgmt.latch),
      after (fit (.loadWindowPool · 3 [.window (.val .fixed) absentFigure 100 (.val .any) 1 (.val false)])) base
        (·.mgmt.latch),
      after (fit (.loadPartSettings · 1 [.figure absentFigure])) base (·.mgmt.latch),
      after (fit (.loadPartSettings · 4 [.partners [1, 2, 3, 4, 5, 6, 7, 8, 9, 10, 255]])) base (·.mgmt.latch),
      after (fit (.loadStatusMap · 9 [26, 255])) base (·.mgmt.latch)]
    = ([(.gapRules, 6), (.thicknessClasses, 0), (.chargerTiming, 2), (.windowPool, 3), (.partSettings, 1),
      (.partSettings, 4), (.statusMap, 10)] : List (TableId × Nat)).map
        (fun x => some (some ⟨.illegalValue, .load x.1, some x.2⟩))
    ∧ after (fit (.loadPassage · 31 [.bound 255 (.val .forward)])) base (fun t => t.cfg.passage[31]?)
      = some (some (some (255, .forward))) := by decide

/-- A GAP_RULES load refused by checks 1 and 2 answers and latches entry index 0 (log 45). -/
theorem test_gap_rules_entry : [after (fit (.loadGapRules · (.bad 9) 5 [1])) base (·.mgmt.latch),
      after (fit (.loadGapRules · (.val .f1) 5 [1])) (at1 .idle) (·.mgmt.latch)]
    = [some (some ⟨.illegalValue, .load .gapRules, some 0⟩),
      some (some ⟨.notWhileArmed, .load .gapRules, some 0⟩)] := by decide

/-- A gate period between the allowed ones, HOME for counter T, a scale of 0. -/
theorem test_witness_LoadSetupRefused : (30 : Int) ∉ [(10 : Int), 20, 50, 100] ∧ (30 : Int) ≠ absentFigure
    ∧ homing.markerUse = some (.val .home) ∧ CounterSetupEntry.codesOk .t homing = false
    ∧ ¬ (1 : Int) ≤ 0 ∧ 5 < 4 + [(⟨some 50, none⟩ : SensorSetupEntry), ⟨none, none⟩].length
    ∧ FirstFails (fun _ (e : SensorSetupEntry) => ∀ x ∈ e.filterTime, x = absentFigure ∨ (0 ≤ x ∧ x ≤ 50))
        0 [⟨some 50, none⟩, ⟨some 51, none⟩] 1 := by
  refine ⟨by decide, by decide, by decide, by decide, by decide, by decide,
    [⟨some 50, none⟩], ⟨some 51, none⟩, [], rfl, rfl, ?_, by decide⟩
  intro i y h; rcases i with _ | i <;> simp at h; subst h; decide

/-- Line F1's one window with a second that meets it. -/
def pooledTwice : State :=
  { pooled with cfg := { pooled.cfg with
      pool := some slow :: none :: List.replicate 94 none
      sets := ⟨[0, 1] :: List.replicate 31 [], List.replicate 32 []⟩ } }

theorem test_witness_LoadWindowPoolRefused : Ready pooledTwice ∧ TablesShaped pooledTwice
    ∧ (95 : Nat) ≤ 95 ∧ 95 < 96 ∧ 96 < 95 + [PoolLoadEntry.empty, .empty].length ∧ (255 : Nat) ≠ 96
    ∧ ((0x80 : BitVec 16)).toNat = 128 ∧ slow.mask ≠ 0 ∧ slow.mask.toNat < 128
    ∧ ¬ { slow with off := 20001 }.off ≤ 20000 ∧ { slow with off := 2000 }.off ≤ { slow with off := 2000 }.on
    ∧ (∀ x ∈ { pooled.cfg with pool := List.replicate 96 (some slow) }.pool, x.isSome = true) := by decide

/-- Entry 1 meets the window of entry 0 on the line that lists both; with F1 armed it cannot be written. -/
theorem test_witness_LoadWindowPoolRefused_references : [0, 1] ∈ pooledTwice.cfg.sets.f1
    ∧ 1 ∈ [0, 1] ∧ 0 ∈ [0, 1] ∧ pooledTwice.cfg.pool[0]? = some (some slow)
    ∧ slow.on < { slow with on := 4299, off := 5000 }.off ∧ { slow with on := 4299, off := 5000 }.on < slow.off
    ∧ pooledTwice.seqs.f1.state = .offline
    ∧ { pooledTwice with seqs := ⟨sq .idle, .offline⟩ }.seqs.f1.state ≠ .offline := by decide

theorem test_witness_LoadWindowLinesRefused : 32 < 31 + [[0], [0]].length ∧ 31 + [[0]].length ≤ 32
    ∧ ¬ [0, 1, 2, 3, 4].length ≤ 4 ∧ ¬ (96 : Nat) ≤ 95 ∧ (pooledTwice.cfg.pool[1]?).join = none
    ∧ ¬ WindowsApart [some slow, some { slow with on := 4299, off := 5000 }] [0, 1]
    ∧ WindowsApart [some slow, some { slow with on := 4300, off := 5000 }] [0, 1]
    ∧ FirstFails (fun _ (l : List Nat) => l.length ≤ 4 ∧ ∀ i ∈ l, i ≤ 95) 3 [[0], [96]] 4
    ∧ 9 < 8 + [LineEntry.speedLead none none none none, .stopLevel (.val .on)].length := by
  refine ⟨by decide, by decide, by decide, by decide, by decide, by decide, by decide,
    ⟨[[0]], [96], [], rfl, rfl, ?_, by decide⟩, by decide⟩
  intro i y h; rcases i with _ | i <;> simp at h; subst h; decide

/-- A speed and lead record whose last figure is out of its range stands at index 8 alone. -/
theorem test_witness_LoadWindowLinesRefused_record :
    FirstFails (fun _ (e : LineEntry) => ∀ a b c d, e = .speedLead a b c d → ∀ x ∈ d, x = absentFigure
        ∨ (0 ≤ x ∧ x ≤ 300)) 8 [.speedLead none none none (some 301)] 8
    ∧ 8 + [LineEntry.speedLead none none none (some 301)].length ≤ 9 :=
  ⟨⟨[], .speedLead none none none (some 301), [], rfl, rfl, nofun,
    fun h => absurd (h none none none (some 301) rfl 301 rfl) (by decide)⟩, by decide⟩

/-- A stop level that is none behind one that is, at the last index of its shape. -/
theorem test_witness_LoadWindowLinesRefused_level :
    FirstFails (fun _ (e : LineEntry) => ∀ raw, e ≠ .stopLevel (.bad raw)) 6
        [.stopLevel (.val .on), .stopLevel (.bad 9)] 7
    ∧ ∀ i e, [LineEntry.stopLevel (.val .on), .stopLevel (.bad 9)][i]? = some e →
      (match e with | LineEntry.stopLevel _ => 6 + i < 8 | LineEntry.speedLead .. => 6 + i = 8) := by
  refine ⟨⟨[.stopLevel (.val .on)], .stopLevel (.bad 9), [], rfl, rfl, ?_, fun h => h 9 rfl⟩, ?_⟩
  · intro i y h
    rcases i with _ | i <;> simp at h
    subst h
    exact nofun
  · intro i e h
    rcases i with _ | _ | i <;> simp at h <;> subst h <;> decide

/-- A kind of the reset table given a second time; GUARD_TABLE with a kind that is not its own. -/
theorem test_witness_LoadPassageRefused :
    base.cfg.passage.length = 32
    ∧ 32 < 31 + [PassageLoadEntry.empty, .empty].length
    ∧ PassageLoadEntry.codesOk (.bound 256 (.val .drop)) = false
    ∧ PassageLoadEntry.allowed (.bound 0x20 (.val .guardTable)) = false
    ∧ duplicateKind [] 0 [some (7, .drop), none, some (7, .forward)] = some 2
    ∧ 16 < 15 + [26, 26].length := by decide

theorem test_witness_LoadPassageRefused_map : FirstFails (fun _ q => q ≤ 26) 14 [26, 27] 15
    ∧ FirstFails (fun _ q => q ≠ 255) 14 [26, 255] 15 ∧ (∀ q ∈ [26, 27], q ≠ 255) := by
  refine ⟨⟨[26], 27, [], rfl, rfl, ?_, by decide⟩, ⟨[26], 255, [], rfl, rfl, ?_, by decide⟩, by decide⟩
  all_goals intro i y h; rcases i with _ | i <;> simp at h; subst h; decide

theorem test_witness_LoadPartSettingsRefused : (9 : Int) > 8 ∧ (0 : Int) < 1 ∧ (29 : Int) < 30
    ∧ (600 : Int) < 601 ∧ (9 : Int) ≠ absentFigure ∧ 255 ∉ [1, 2, 3, 4, 5, 6, 7, 8, 9, 10, 63] ∧ 5 < 4 + [SettingEntry.figure 1, .figure 1].length
    ∧ [1, 2, 3, 4, 5, 6, 7, 8, 9, 10, 63].length = 11 ∧ 62 < 63
    ∧ ¬ [1, 1, 3, 4, 5, 6, 7, 8, 9, 10, 62].Nodup ∧ base.links.station = some 0
    ∧ (at1 .idle).seqs.f1.state ≠ .offline ∧ granted.grid.queue ≠ []
    ∧ granted.seqs.f1.state = .offline ∧ granted.seqs.f2.state = .offline := by decide

/-! ### Reads, queries, maps -/

theorem test_witness_Reads : Ready base ∧ base.cfg.geometry.f1 = some geo
    ∧ State.reset.cfg.geometry.f1 = none ∧ Managed State.reset mh ∧ base.cfg.tableGeometry = some tgeo := by
  decide

def mapped : State := { homedIdle with maps := ⟨map2, .empty⟩ }

theorem test_witness_Queries : Ready mapped ∧ 3 ≤ (mapped.maps.get .f1).rows.length
    ∧ (∀ x ∈ mapped.maps.f1.slabs ++ mapped.maps.f2.slabs, x.tag ≠ 9)
    ∧ slab 140 1 1900 4000 5 ∈ mapped.maps.f1.slabs ++ mapped.maps.f2.slabs
    ∧ mapped.tracker.table.find? (fun r => r.tag == 305) = some (rec 305 5 14500) := by decide

theorem test_witness_Queries_map : mapped.maps.f1.rows = mapped.maps.f1.rows.take 1
      ++ row 6200 1900 (.c (slab 140 1 1900 4000 5)) false :: mapped.maps.f1.rows.drop 2
    ∧ (row 6200 1900 (.c (slab 140 1 1900 4000 5)) false).occ.slabs.find? (fun y => y.2.tag == 140)
      = some (.c, slab 140 1 1900 4000 5)
    ∧ (∀ q ∈ mapped.maps.f1.rows.take 1, ∀ y ∈ q.slabs, y.tag ≠ 140)
    ∧ (∀ r ∈ mapped.tracker.table, r.tag ≠ 9) := by decide

theorem test_witness_Queries_schedule : Ready contend ∧ ScheduleInOrder contend
    ∧ contend.schedule = contend.schedule.take 1 ++ entry 4131 1 .either :: contend.schedule.drop 2
    ∧ (∀ e ∈ contend.schedule, e.id ≠ ident 7) := by decide

/-- R24: the flags of a row summary stand before the tags of its lanes. -/
theorem test_row_summary_fields : RowSummary.fields ⟨4188, 1650, [(.a, 141), (.b, 142)], false, true⟩
    = [.figure 4188, .figure 1650, .members [false, true, true], .code (.flag false), .code (.flag true),
      .tag 141, .tag 142] := by decide

/-- R9, R41: STROKE_BASIS alone carries a divisor. -/
theorem test_hold_set_fields : [HoldSet.fields (.placement .strokeDuringCharge .f1 none none),
      HoldSet.fields (.placement .strokeBasis .f1 (some 305) (some 500))]
    = [[.code (.holdName .strokeDuringCharge), .code (.furnace .f1), .tag 0],
      [.code (.holdName .strokeBasis), .code (.furnace .f1), .tag 305, .figure? (some 500)]] := by decide

/-- R145: the marker edge has a code of its own. R149: the counter holds, T, C1, C2. -/
theorem test_counter_fields :
    (CounterSetup.fields base.cfg.counterSetup.c1)[5]? = some (.code (.markerEdge base.cfg.counterSetup.c1.edgeRising))
    ∧ CounterHolds.fields { tError := true, c1Error := false, c1Deviation := true, c2Error := false, c2Deviation := false }
      = [.members [true], .members [false, true], .members [false, false]] := by decide

/-- R107, R132, R24: what each form carries behind the query code; the code alone is the list form. -/
theorem test_query_forms :
    [0, 1, 2, 3].map (fun n => formFits (.queryTableList { mh with length := n } .list)) = [false, true, false, false]
    ∧ [2, 3, 4].map (fun n => formFits (.queryTableList { mh with length := n } (.record 305))) = [false, true, false]
    ∧ [2, 3, 4].map (fun n => formFits (.querySchedule { mh with length := n } (.range 1))) = [false, true, false]
    ∧ [12, 13, 14].map (fun n => formFits (.querySchedule { mh with length := n } (.identity (ident 1))))
      = [false, true, false]
    ∧ [3, 4, 5].map (fun n => formFits (.queryMap { mh with length := n } (.slab 140))) = [false, true, false]
    ∧ exec (.queryTableList { mh with length := 1 } .list) mapped
      = .next (respond mh Kind.query .ok none (tableListAnswer mapped) mapped) :=
  ⟨by decide, by decide, by decide, by decide, by decide, rfl⟩

/-- A tag and a sequence number of 0 are missing. -/
theorem test_missing_query_fields : [fit (.queryMap · (.slab 0)), fit (.queryTableList · (.record 0)),
      fit (.querySchedule · (.range 0))].map (fun i => exec i mapped)
    = List.replicate 3 (.next (respond mh Kind.query .illegalValue none .none mapped)) := rfl

theorem test_witness_MapEventsKeepOrder : MapsInOrder mapped
    ∧ (∃ t, exec (.strokeReport (oh 0x52 8) 500) mapped = .next t)
    ∧ (∃ t, exec (.dischargeReport (oh 0x54 10) 1 (ident 0) []) mapped = .next t)
    ∧ (∃ t, exec (fit (.deleteSlab · 140)) mapped = .next t)
    ∧ (∃ t, exec (fit (.setRowFront · (.val .f1) 0 39000)) mapped = .next t)
    ∧ ∃ t, exec (fit (.insertSlab · (.val .f1) 2600 (ident 7) 800 4000 260 3 0)) mapped = .next t :=
  ⟨by decide, ⟨_, rfl⟩, ⟨_, rfl⟩, ⟨_, rfl⟩, ⟨_, rfl⟩, ⟨_, rfl⟩⟩

theorem test_witness_StrokeReport_observed :
    FieldObserved mapped Kind.strokeReport (oh 0x52 8) (.beam .f1) :=
  ⟨by decide, by decide, by decide, rfl, by decide⟩

theorem test_witness_StrokeReport_clauses : mapped.cfg.geometry.f1 = some geo
    ∧ mapped.maps.f1.rows.getLast?.isSome = true ∧ (0 : Int) ≤ 0 ∧ (0 : Int) < 1 ∧ (0 : Int) ≠ absentFigure
    ∧ (at1 .carry).seqs.f1.state = .carry ∧ (at1 .lower).seqs.f1.state = .lower
    ∧ (at1 .retract).seqs.f1.state = .retract := by decide

/-- F1 in ROOM with strokes outstanding and a waiting reason. -/
def inRoom (n : Nat) (w : Waiting) : State :=
  { at1 .room with
    seqs := ⟨{ sq .room with waiting := w, cycle := some { cyc with outstanding := n } }, .offline⟩ }

/-- A STROKE_REPORT with its length missing passes on and moves no row. -/
theorem test_stroke_report_missing : after (.strokeReport (oh 0x52 8) absentFigure) mapped
    (fun t => (decide (t.maps = mapped.maps), t.place.f1.lastStroke, t.links.plant.queue.length)) = some (true, none, 2) := by
  decide

theorem test_witness_StrokesCounted :
    FieldObserved (inRoom 2 .strokes) Kind.strokeReport (oh 0x52 8) (.beam .f1)
    ∧ FieldObserved (inRoom 0 (.full 305)) Kind.strokeReport (oh 0x52 8) (.beam .f1)
    ∧ (inRoom 2 .strokes).seqs.f1.cycle = some { cyc with outstanding := 2 }
    ∧ (inRoom 1 .strokes).seqs.f1.cycle = some { cyc with outstanding := 1 }
    ∧ (inRoom 0 (.full 305)).seqs.f1.cycle = some { cyc with outstanding := 0 }
    ∧ (inRoom 0 (.full 305)).seqs.f1.waiting = .full 305 ∧ (inRoom 2 .strokes).seqs.f1.state = .room
    ∧ mapped.seqs.f1.state = .idle ∧ (at1 .carry).seqs.f1.state ≠ .room :=
  ⟨⟨by decide, by decide, by decide, rfl, by decide⟩, ⟨by decide, by decide, by decide, rfl, by decide⟩,
    by decide, by decide, by decide, by decide, by decide, by decide, by decide⟩

theorem test_witness_DischargeMisorder :
    mapped.maps.f1.rows = row 38900 2100 (.c (slab 87 0 2100 4000 1)) false
      :: ([] ++ row 6200 1900 (.c (slab 140 1 1900 4000 5)) false :: mapped.maps.f1.rows.drop 2)
    ∧ (∀ y ∈ (row 38900 2100 (.c (slab 87 0 2100 4000 1)) false).slabs ++ [].flatMap Row.slabs,
      y.id ≠ ident 1)
    ∧ (row 6200 1900 (.c (slab 140 1 1900 4000 5)) false).occ.slabs.find? (fun y => y.2.id == ident 1)
      = some (.c, slab 140 1 1900 4000 5)
    ∧ { inRoom 0 (.full 305) with maps := mapped.maps }.seqs.f1.waiting = .full 305
    ∧ { base with maps := mapped.maps }.seqs.f1.state ≠ .room := by decide

/-- A report of two identities: the first row's slab, then one of another row. -/
theorem test_witness_DischargeMisorder_two : ident 0 ≠ ident 1
    ∧ mapped.maps.f1.rows = row 38900 2100 (.c (slab 87 0 2100 4000 1)) false
      :: ([] ++ row 6200 1900 (.c (slab 140 1 1900 4000 5)) false :: mapped.maps.f1.rows.drop 2)
    ∧ (row 38900 2100 (.c (slab 87 0 2100 4000 1)) false).occ.slabs = [(.c, slab 87 0 2100 4000 1)]
    ∧ (slab 87 0 2100 4000 1).id = ident 0
    ∧ { base with maps := mapped.maps }.seqs.f1.state = .offline := by decide

theorem test_witness_DischargeReport_observed :
    FieldObserved mapped Kind.dischargeReport (oh 0x54 10) (.discharge .f1) :=
  ⟨by decide, by decide, by decide, rfl, by decide⟩

def paired : Row := row 4188 1650 (.ab (slab 141 2 1500 4000 5) (slab 142 3 1650 3800 5)) false

theorem test_witness_DischargeReport_clauses :
    mapped.maps.f1.rows = row 38900 2100 (.c (slab 87 0 2100 4000 1)) false :: mapped.maps.f1.rows.tail
    ∧ (row 38900 2100 (.c (slab 87 0 2100 4000 1)) false).slabs = [slab 87 0 2100 4000 1]
    ∧ (slab 87 0 2100 4000 1).id = ident 0
    ∧ paired.occ = .ab (slab 141 2 1500 4000 5) (slab 142 3 1650 3800 5) ∧ ident 2 ≠ ident 3
    ∧ (∀ y ∈ mapped.maps.f1.slabs, y.id ≠ ident 8 ∧ y.id ≠ ident 9) := by decide

theorem test_witness_MapEdits_delete : Ready mapped ∧ mapped.seqs.f1.state.cycling = false
    ∧ mapped.maps.f1.rows = mapped.maps.f1.rows.take 1
      ++ row 6200 1900 (.c (slab 140 1 1900 4000 5)) false :: mapped.maps.f1.rows.drop 2
    ∧ (∀ q ∈ mapped.maps.f1.rows.take 1, ∀ y ∈ q.slabs, y.tag ≠ 140)
    ∧ (row 6200 1900 (.c (slab 140 1 1900 4000 5)) false).slabs = [slab 140 1 1900 4000 5]
    ∧ (slab 142 3 1650 3800 5).tag ≠ 141 := by decide

/-- The maps of `mapped` with charger 1 in a state. -/
def mappedIn (st : SeqState) : State := { mapped with seqs := ⟨sq st, .offline⟩ }

/-- A slab whose furnace's charger cycles; the tag 0. -/
theorem test_witness_MapEdits_delete_refused : (mapped.maps.f1.slabs.map (·.tag)).contains 140 = true
    ∧ (mappedIn .retract).seqs.f1.state = .retract ∧ (140 : Nat) ≠ 0
    ∧ exec (fit (.deleteSlab · 140)) (mappedIn .retract)
      = MapEditRefused mh .deleteSlab .notWhileCharging (mappedIn .retract) :=
  ⟨by decide, by decide, by decide, rfl⟩

/-- The code that the latch holds after a command. -/
def latched? (i : Instr) (s : State) : Option (Option RespCode) := after i s (·.mgmt.latch.map (·.code))

/-- Each refusal of SET_ROW_FRONT at the end of its range, in the order of the checks. -/
theorem test_witness_MapEditsRefused_front :
    [latched? (fit (.setRowFront · (.bad 9) 99 absentFigure)) (mappedIn .positioning),
      latched? (fit (.setRowFront · (.bad 9) 99 100001)) (mappedIn .positioning),
      latched? (fit (.setRowFront · (.bad 9) 99 100000)) (mappedIn .positioning),
      latched? (fit (.setRowFront · (.val .f1) 3 100000)) (mappedIn .positioning),
      latched? (fit (.setRowFront · (.val .f1) 1 1899)) (mappedIn .positioning),
      latched? (fit (.setRowFront · (.val .f1) 1 1900)) (mappedIn .positioning),
      latched? (fit (.setRowFront · (.val .f1) 1 36801)) mapped,
      latched? (fit (.setRowFront · (.val .f1) 1 6087)) mapped,
      latched? (fit (.setRowFront · (.val .f1) 1 6088)) mapped]
    = [some (some .illegalValue), some (some .outOfRange), some (some .illegalValue), some (some .outOfRange),
      some (some .outOfRange), some (some .notWhileCharging), some (some .mapConflict),
      some (some .mapConflict), some none] := by decide

/-- Rows enough to fill a map. -/
def fullRows : List Row :=
  (List.range 64).map fun (i : Nat) => row (60000 - 900 * (i : Int)) 800 (.c (slab i 1 800 4000 1)) false

/-- Each refusal of INSERT_SLAB, in the order of the checks. -/
theorem test_witness_MapEditsRefused_insert :
    [latched? (fit (.insertSlab · (.bad 9) absentFigure [33] 800 1500 100 0 0)) (mappedIn .carry),
      latched? (fit (.insertSlab · (.bad 9) 2600 [33] 800 1500 100 255 0)) (mappedIn .carry),
      latched? (fit (.insertSlab · (.bad 9) 799 [33] 800 1500 100 0 0)) (mappedIn .carry),
      latched? (fit (.insertSlab · (.val .f1) 800 [33] 800 1500 100 0 0)) (mappedIn .carry),
      latched? (fit (.insertSlab · (.bad 9) 800 (ident 5) 800 1500 100 0 0)) (mappedIn .carry),
      latched? (fit (.insertSlab · (.val .f1) 800 (ident 5) 800 1500 100 0 0)) { mapped with cfg := .default },
      latched? (fit (.insertSlab · (.val .f1) 800 (ident 5) 800 1500 100 0 0)) (mappedIn .carry),
      latched? (fit (.insertSlab · (.val .f1) 800 (ident 5) 800 1500 100 0 0)) { mapped with maps := ⟨⟨fullRows, 0⟩, .empty⟩ },
      latched? (fit (.insertSlab · (.val .f1) 800 (ident 7) 800 1500 100 0 0)) { mapped with maps := ⟨⟨fullRows, 0⟩, .empty⟩ },
      latched? (fit (.insertSlab · (.val .f1) 2689 (ident 7) 800 1500 100 0 0)) mapped,
      latched? (fit (.insertSlab · (.val .f1) 2688 (ident 7) 800 1500 100 0 0)) mapped]
    = [some (some .illegalValue), some (some .illegalValue), some (some .outOfRange), some (some .illegalValue),
      some (some .illegalValue), some (some .notConfigured), some (some .notWhileCharging),
      some (some .duplicate), some (some .mapFullEdit), some (some .mapConflict), some none] := by decide

/-- What the latch records of a MAP_EDIT known by its bytes: its first byte, or with an empty payload none. -/
theorem test_raw_map_edit_latch : [rawMapOp (.bytes [9, 1]), rawMapOp (.bytes [])] = [some (.other 9), none] := by decide

/-- A row's front at both ends of the room its neighbours leave. -/
theorem test_witness_MapEdits_front : (0 : Int) ≤ 36800 - 1900 ∧ (36800 : Int) ≤ 38900 - 2100
    ∧ (4188 : Int) ≤ 6088 - 1900 ∧ (100000 : Int) ≤ 100000 := by decide

theorem test_witness_MapEdits_insert : Ready mapped ∧ mapped.cfg.geometry.f1 = some geo
    ∧ idCharsOk (ident 7) = true ∧ mapped.idHeld (ident 7) = false
    ∧ mapped.maps.f1.rows = mapped.maps.f1.rows ++ [] ∧ mapped.maps.f1.rows.length < 64
    ∧ (∀ r ∈ mapped.maps.f1.rows, 2688 ≤ r.front)
    ∧ (∀ r ∈ mapped.maps.f1.rows ++ [], r.front ≤ 2688 - 2688 ∨ 2688 ≤ r.front - r.extent)
    ∧ (0 : Int) ≤ 2688 - 2688 := by decide

/-! ### Sequencers -/

theorem test_witness_Arm : Ready base ∧ base.ret.mode = .run ∧ base.seqs.f1.state = .offline
    ∧ (base.cfg.geometry.f1).isSome = true ∧ base.cfg.tableGeometry.isSome = true
    ∧ base.cfg.partners.isSome = true ∧ Ready restored ∧ restored.ret.mode ≠ .run
    ∧ Ready (at1 .held) ∧ (at1 .held).seqs.f1.state ≠ .offline ∧ Ready State.reset
    ∧ State.reset.cfg.geometry.f1 = none
    ∧ { tables with tableGeometry := none }.tableGeometry = none
    ∧ { tables with partners := none }.partners = none := by decide

/-- F1 with a geometry whose charging zone takes no slab. -/
def shallow (s : State) : State :=
  { s with cfg := { tables with geometry := ⟨some { geo with zMax := 2000 }, some geo⟩ } }

theorem test_witness_StartEvaluation_bars : homedIdle.seqs.f1.state = .idle
    ∧ { homedIdle with ret := { base.ret with mode := .restored } }.ret.mode ≠ .run
    ∧ homedIdle.ret.mode = .run ∧ homedIdle.mgmt.supervision ≠ .lost ∧ homedIdle.homed .f1 = true
    ∧ (at1 .idle).mgmt.supervision = .lost
    ∧ { homedIdle with counters := base.counters }.homed .f1 = false
    ∧ (∀ r ∈ { homedIdle with tracker := .cold }.tracker.table, r.state ≠ .ready) := by decide

theorem test_witness_StartEvaluation_record : homedIdle.tracker.table = [] ++ rec 305 5 14500 :: []
    ∧ (homedIdle.tracker.table.map (·.tag)).Nodup
    ∧ (rec 305 5 14500).state = .ready ∧ (rec 305 5 14500).dest = some .f1
    ∧ homedIdle.cfg.geometry.f1 = some geo ∧ homedIdle.cfg.tableGeometry = some tgeo
    ∧ homedIdle.maps.f1.rows = shiftRows 1000 rows1 := by decide

/-- A provisional computation of F1, and a final one. -/
def prov (r : TableRecord) (rows : List Row) (g : FurnaceGeometry) : PlacementRecord :=
  (input .provisional r .c rows g).compute

def fin (r : TableRecord) (l : Lane) (rows : List Row) (g : FurnaceGeometry) : PlacementRecord :=
  (input .final r l rows g).compute

/-- The results of a provisional computation, with the lane and the class of the first. -/
theorem test_witness_StartEvaluation_results :
    (prov (rec 305 5 14500) (shiftRows 1000 rows1) geo).result = .placed
    ∧ (prov (rec 305 5 14500) (shiftRows 1000 rows1) geo).lane = some .a
    ∧ (prov (rec 305 5 14500) (shiftRows 1000 rows1) geo).cls = some 2
    ∧ (prov (rec 305 5 14500) rows1 geo).result = .strokes ∧ (prov pairRec pairRows geo).result = .pair
    ∧ (prov (rec 305 5 14500) rows5 geo).result = .full ∧ (prov (rec 305 5 14500) fullRows geo).result = .mapFull
    ∧ (prov (rec 305 5 14500) [] { geo with zMax := 2000 }).result = .noFit
    ∧ (prov { rec 305 5 14500 with width := none } [] geo).result = .unmeasured := by decide

theorem test_witness_FinalComputation : (at1 .positioning).seqs.f1.cycle = some cyc
    ∧ (at1 .positioning).tracker.table.find? (fun r => r.tag == cyc.tag) = some (rec 305 5 63324)
    ∧ (at1 .positioning).cfg.geometry.f1 = some geo ∧ (rec 305 5 63324).state ≠ .reject
    ∧ (shallow (at1 .positioning)).cfg.geometry.f1 = some { geo with zMax := 2000 } := by decide

theorem test_witness_FinalComputation_results :
    (fin (rec 305 5 63324) .a (shiftRows 1000 rows1) geo).target = some 2660
    ∧ (fin (rec 305 5 63324) .a (shiftRows 1000 rows1) geo).result = .placed
    ∧ (fin pairRec .b pairRows geo).result = .pair ∧ (fin pairRec .b pairRows geo).target = some 3900
    ∧ (fin (rec 305 5 63324) .a rows1 geo).result = .strokes
    ∧ (fin (rec 305 5 63324) .a rows1 geo).strokes = some 2
    ∧ (fin (rec 305 5 63324) .a rows1 geo).divisor = some 500
    ∧ (fin (rec 305 5 63324) .a rows5 geo).result = .full
    ∧ (fin (rec 305 5 63324) .a fullRows geo).result = .mapFull
    ∧ (fin (rec 305 5 63324) .a [] { geo with zMax := 2000 }).result = .noFit
    ∧ (fin { rec 305 5 63324 with width := none } .a [] geo).result = .unmeasured := by decide

/-- F1 HELD, with or without its slab in flight. -/
def heldWith (f : Option InFlight) : State :=
  { at1 .held with seqs := ⟨{ sq .held with inflight := f }, .offline⟩ }

theorem test_witness_Disarm_Stop_Release :
    (∀ x ∈ [at1 .offline, at1 .idle, at1 .positioning, at1 .room, at1 .pick, at1 .carry, at1 .lower,
      at1 .retract, heldWith none, heldWith (some flight)], Managed x mh)
    ∧ (heldWith none).seqs.f1.inflight = none
    ∧ (heldWith (some flight)).seqs.f1.inflight.isSome = true ∧ (heldWith none).seqs.f1.state = .held := by
  decide

theorem test_witness_ResolveInflight : Managed (heldWith (some flight)) mh
    ∧ (heldWith (some flight)).seqs.f1.inflight = some flight
    ∧ (heldWith (some flight)).seqs.f1.cycle = some cyc
    ∧ (cyc.final.bind (·.operands)).map (·.width.value) = some 2100
    ∧ (heldWith (some flight)).cfg.geometry.f1 = some geo := by decide

/-- Front edges at the ends of the edit range and a millimetre beyond; depth shared with a row; 64 rows. -/
theorem test_witness_ResolveInflightRefused : let s := heldWith (some flight)
    (2099 : Int) ≠ absentFigure ∧
    (heldWith none).seqs.f1.inflight = none ∧ (at1 .carry).seqs.f1.state ≠ .held
    ∧ s.seqs.f1.state = .held ∧ ¬ (0 : Int) ≤ 2099 - 2100 ∧ ¬ (100001 : Int) ≤ 100000
    ∧ s.maps.f1.rows.length < 64 ∧ 64 ≤ fullRows.length
    ∧ ∃ r ∈ s.maps.f1.rows, (4700 : Int) - 2100 < r.front ∧ r.front - r.extent < 4700 := by decide

/-- A landing behind the last row at depth 0, and one in front of the first. -/
theorem test_witness_ResolveInflight_fronts : let rows := (heldWith (some flight)).maps.f1.rows
    (rows.length < 64 ∧ (0 : Int) ≤ 2100 - 2100 ∧ (∀ r ∈ rows, 2100 ≤ r.front)
      ∧ ∀ r ∈ rows ++ [], r.front ≤ 2100 - 2100 ∨ 2100 ≤ r.front - r.extent)
    ∧ ((100000 : Int) ≤ 100000 ∧ (∀ r ∈ rows.head?, r.front < 100000)
      ∧ ∀ r ∈ [] ++ rows, r.front ≤ 100000 - 2100 ∨ 100000 ≤ r.front - r.extent) := by decide

theorem test_witness_CarriageReports_taken :
    FieldTaken (at1 .pick) Kind.chargerReport (fh 0x43 6) (.charger .f1)
    ∧ FieldTaken (at1 .carry) Kind.chargerReport (fh 0x43 6) (.charger .f1)
    ∧ FieldTaken (withDepth (at1 .lower) 2404000) Kind.chargerReport (fh 0x43 6) (.charger .f1)
    ∧ FieldTaken (withDepth (at1 .retract) (-2500000)) Kind.chargerReport (fh 0x43 6) (.charger .f1) :=
  ⟨⟨by decide, by decide, rfl, by decide⟩, ⟨by decide, by decide, rfl, by decide⟩,
    ⟨by decide, by decide, rfl, by decide⟩, ⟨by decide, by decide, rfl, by decide⟩⟩

/-- At the retract clear depth, and a millimetre beyond it. -/
theorem test_witness_CarriageReports_states : (at1 .pick).seqs.f1.state = .pick
    ∧ (at1 .pick).seqs.f1.cycle = some cyc ∧ cyc.tag = 305
    ∧ (at1 .pick).tracker.table.find? (fun r => r.tag == 305) = some (rec 305 5 63324)
    ∧ (at1 .carry).seqs.f1.state = .carry ∧ (at1 .retract).seqs.f1.state = .retract
    ∧ (withDepth (at1 .retract) (-2500000)).depth .f1 ≤ geo.retractClear
    ∧ geo.retractClear < (withDepth (at1 .retract) (-2499000)).depth .f1 := by decide

/-- F1 in PICK, with its slab alone on the grid zone, its measurement pending, and presence at GP. -/
def uncovering : State :=
  { at1 .pick with
    sensors := { base.sensors with gp := { base.sensors.gp with electrical := true, taken := true } }
    tracker := { Tracker.cold with
      nextTag := 306, table := [rec 305 5 14500], measuring := some ⟨305, 0⟩ } }

theorem test_witness_CarriageReports_presence :
    FieldTaken uncovering Kind.chargerReport (fh 0x43 6) (.charger .f1) ∧ uncovering.zoneTaken = true
    ∧ uncovering.tracker.table.find? (fun r => r.tag == 305) = some (rec 305 5 14500)
    ∧ after (.lifted (fh 0x43 6) 305 0) uncovering (fun t => (t.tracker, ownBodies t))
      = some ({ Tracker.cold with nextTag := 306, unidentified := true },
        [told (.unidentifiedOnGrid 0)]) :=
  ⟨⟨by decide, by decide, rfl, by decide⟩, by decide, by decide, by decide⟩

theorem test_retract_position_told :
    after (.retracted (fh 0x43 6) 305 0) (withDepth (at1 .retract) (-2499000)) ownBodies
      = some [told (.chargerHeld .f1 .retractPosition .retract (some 305) none none)] := by decide

/-- A cycle whose final computation gave PAIR. -/
def pairCycle : CycleRecord :=
  { cyc with lane := .b, final := some { case1 with result := .pair, target := some 2660 } }

theorem test_witness_Lowered : (at1 .lower).seqs.f1.cycle = some cyc
    ∧ (at1 .lower).seqs.f1.inflight = some flight ∧ cyc.target = some 2660
    ∧ (cyc.final.map (·.result)) = some .placed ∧ (cyc.final.bind (·.operands)).isSome = true
    ∧ (at1 .lower).maps.f1.rows.length < 64 ∧ (at1 .lower).maps.f1.rows ≠ []
    ∧ (pairCycle.final.map (·.result)) = some .pair ∧ pairCycle.tag = 305
    ∧ pairRows = [] ++ [row 3900 1500 (.a (slab 141 1 1500 4000 5)) true]
    ∧ fullRows.length = 64 ∧ (FurnaceMap.mk fullRows 0).openSlab = none
    ∧ (FurnaceMap.mk (shiftRows 500 pairRows) 0).openSlab = none := by decide

/-- A landing at the landing tolerance, and a millimetre beyond it. -/
theorem test_witness_Lowered_deviation :
    mag ((withDepth (at1 .lower) 2460000).depth .f1 + geo.armOffset - 2660) ≤ geo.landingTolerance
    ∧ geo.landingTolerance
      < mag ((withDepth (at1 .lower) 2461000).depth .f1 + geo.armOffset - 2660) := by decide

theorem test_witness_ChargerTrouble :
    FieldTaken (at1 .retract) Kind.chargerReport (fh 0x43 6) (.charger .f1)
    ∧ FieldTaken base Kind.chargerReport (fh 0x43 6) (.charger .f1)
    ∧ (at1 .pick).seqs.f1.cycle.map (·.tag) = some 305
    ∧ (at1 .pick).seqs.f1.cycle.map (·.tag) ≠ some 306 ∧ base.seqs.f1.state ≠ .pick :=
  ⟨⟨by decide, by decide, rfl, by decide⟩, ⟨by decide, by decide, rfl, by decide⟩, by decide, by decide,
    by decide⟩

theorem test_charger_trouble_told :
    after (.chargerReportRefused (fh 0x43 6) 305 7) (at1 .pick) ownBodies
      = some [told (.chargerHeld .f1 .chargerRefused .pick (some 305) none (some 7))]
    ∧ after (.chargerReportFault (fh 0x43 6) 0 7) (at1 .carry) ownBodies
      = some [told (.chargerHeld .f1 .chargerFault .carry (some 305) (some .uncertain) (some 7))] := by decide

/-- F1 in a state with its timer running. -/
def timed (st : SeqState) (which : TimeoutKind) : State :=
  { at1 st with seqs := ⟨{ sq st with cycle := some { cyc with timer := some ⟨which, 20000⟩ } }, .offline⟩ }

theorem test_witness_SequencerTimeouts_sent : ∀ x ∈ [(SeqState.positioning, TimeoutKind.positioning),
      (.room, .stroke), (.pick, .pick), (.carry, .carry), (.lower, .lower), (.retract, .retract)],
    (timed x.1 x.2).seqs.f1.state = x.1
    ∧ (timed x.1 x.2).seqs.f1.cycle.bind (·.timer) = some ⟨x.2, 20000⟩ := by decide

theorem test_witness_SequencerTimeouts : (timed .pick .pick).power = true
    ∧ (timed .pick .pick).ret.mode ≠ .retain
    ∧ (timed .pick .pick).seqs.f1.cycle.bind (·.timer) = some ⟨.pick, 20000⟩
    ∧ 20000 ≤ 20000 ∧ 19999 < 20000 ∧ TimeoutKind.pick ≠ .carry ∧ retained.power = true
    ∧ retained.ret.mode = .retain := by decide

/-! ### Placement -/

theorem test_witness_ThicknessClasses : (180 : Int) < 260 ∧ (260 : Int) < 340
    ∧ [classOf ⟨180, 260, 340⟩ 179, classOf ⟨180, 260, 340⟩ 180, classOf ⟨180, 260, 340⟩ 259,
      classOf ⟨180, 260, 340⟩ 260, classOf ⟨180, 260, 340⟩ 339, classOf ⟨180, 260, 340⟩ 340]
      = [0, 1, 1, 2, 2, 3] := by decide

/-- What the statements read of a computation whose operands stand. -/
def ops (w l t : Int) (grp : Nat) : Operands := ⟨⟨w, false⟩, ⟨l, false⟩, ⟨t, false⟩, ⟨grp, false⟩⟩

theorem test_witness_PairTest : (input .provisional pairRec .c pairRows geo).operands
      = .ok (ops 1650 3800 220 5)
    ∧ geo.lPair ≠ 0 ∧ (3800 : Int) ≤ geo.lPair
    ∧ pairTest geo ⟨pairRows, 0⟩ (ops 1650 3800 220 5) = .passed
    ∧ pairRows.getLast? = some (row 3900 1500 (.a (slab 141 1 1500 4000 5)) true) :=
  ⟨rfl, by decide, by decide, by decide, by decide⟩

/-- A long slab, a short one whose pair test fails, one that passes it, and lane B lost to strokes. -/
theorem test_witness_LaneAndFirstFailure :
    (prov { rec 1 1 0 with measured := some 5501 } [] geo).lane = some .c
    ∧ (prov { rec 1 1 0 with measured := some 5500 } [] geo).lane = some .a
    ∧ (prov pairRec pairRows geo).lane = some .b ∧ (prov pairRec pairRows geo).strokes = none
    ∧ (fin pairRec .b (shiftRows 500 pairRows) geo).pairTest = some (.failed 1)
    ∧ (fin pairRec .a pairRows geo).pairTest = none ∧ (fin pairRec .a pairRows geo).lane = some .a := by decide

/-- Each condition of the pair test the first to fail, at the end of its range. -/
theorem test_witness_LaneAndFirstFailure_conditions : let m := fun b =>
      ({ rows := [row 4200 1500 (.a (slab 141 1 1500 4000 5)) b], lastLanding := 0 } : FurnaceMap)
    [pairTest geo (m false) (ops 1700 5501 220 4), pairTest geo (m true) (ops 1701 5501 220 4),
      pairTest geo (m true) (ops 1701 5500 220 4), pairTest geo (m true) (ops 1700 5500 220 4),
      pairTest { geo with zMax := 4199 } (m true) (ops 1700 5500 220 5),
      pairTest geo (m true) (ops 1700 5500 220 5)]
    = [.failed 1, .failed 2, .failed 3, .failed 4, .failed 5, .passed] := by decide

theorem test_witness_Operands :
    (input .final { rec 1 1 0 with width := none } .c [] geo).operands = .error .width
    ∧ (input .final (rec 1 1 0) .c [] geo).operands = .ok (ops 2100 4625 260 3) := ⟨rfl, rfl⟩

/-- A record with nominal values alone. -/
def filled : TableRecord :=
  { rec 305 5 0 with
    width := none, measured := none, thickness := none, nominals := some ⟨2100, 4625, 260⟩ }

/-- A slab with no schedule entry has no group and no nominals: its computations end by either policy. -/
theorem test_witness_AbsentOperandEnds :
    [FaultPolicy.trap, .substitute].map (fun p =>
      let by_ := fun (r : TableRecord) => (input .final r .c rows1 { geo with policy := p }).compute.absent
      [by_ { rec 1 1 0 with group := none }, by_ { rec 1 1 0 with measured := none, group := none },
        by_ { rec 1 1 0 with thickness := none }, by_ { rec 1 1 0 with width := none, group := none }])
    = List.replicate 2 [some .group, some .length, some .thickness, some .width] := by decide

theorem test_witness_Substitution : filled.nominals = some ⟨2100, 4625, 260⟩ ∧ filled.group = some 3
    ∧ geo.policy = .trap ∧ { geo with policy := .substitute }.policy = .substitute
    ∧ { filled with width := some 2100 }.measured = none
    ∧ (input .final filled .a rows1 { geo with policy := .substitute }).substitutes = true
    ∧ (input .final filled .a rows1 { geo with policy := .substitute }).compute.fallback ≠ some true
    ∧ (input .final (rec 305 5 0) .a rows1 geo).substitutes = false
    ∧ base.place.f1.holds.substituted = false
    ∧ (base.putHold .f1 .substituted true).place.f1.holds.substituted = true := by decide

theorem test_witness_StrokeBasisDivisor : let i := (input .final (rec 305 5 0) .a rows1
      { geo with basis := .lastReported })
    i.compute.fallback = some true ∧ i.substitutes = false ∧ i.compute.result = .strokes
    ∧ i.lastStroke = none ∧ { i with lastStroke := some 0 }.lastStroke = some 0 ∧ (750 : Int) ≠ 0
    ∧ base.place.f1.holds.strokeBasis = false
    ∧ (base.putHold .f1 .strokeBasis true).place.f1.holds.strokeBasis = true
    ∧ (input .final (rec 305 5 0) .a [] geo).compute.result = .placed := by decide

/-- A map of 64 rows, an empty one, and a zone one millimetre too short. -/
theorem test_witness_FitEmptyAndFullMap : let i := input .final (rec 1 1 0) .c fullRows geo
    i.operands = .ok (ops 2100 4625 260 3) ∧ i.pairOutcome (ops 2100 4625 260 3) ≠ some .passed
    ∧ max geo.zMin (geo.dDoor + 2100) ≤ geo.zMax ∧ i.map.rows.length = 64
    ∧ (input .final (rec 1 1 0) .c [] { geo with zMax := 2400 }).map.rows = []
    ∧ max geo.zMin (geo.dDoor + 2100) ≤ 2400 ∧ 2399 < max geo.zMin (geo.dDoor + 2100) :=
  ⟨rfl, by decide, by decide, by decide, by decide, by decide, by decide⟩

theorem test_witness_RoomAndStrokes : let i := input .final (rec 305 5 0) .c rows1 geo
    i.operands = .ok (ops 2100 4625 260 3) ∧ i.pairOutcome (ops 2100 4625 260 3) ≠ some .passed
    ∧ i.map.rows.head?.map (·.front) = some 38900 ∧ i.map.rows.getLast?.map (·.front) = some 3650
    ∧ i.map.rows.length < 64 ∧ (3650 : Int) - 1900 - 90 < max geo.zMin (geo.dDoor + 2100)
    ∧ 0 < i.divisor ∧ (38900 : Int) + 2 * 500 ≤ geo.lEff
    ∧ geo.lEff < 39700 + 2 * 500 :=
  ⟨rfl, by decide, by decide, by decide, by decide, by decide, by decide, by decide, by decide⟩

theorem test_witness_Targets :
    (input .final (rec 1 1 0) .a [row 8000 2000 (.c (slab 3 3 2000 4000 3)) false] geo).compute.result
      = .placed
    ∧ (input .provisional pairRec .c pairRows geo).compute.result = .pair := by decide

/-! ### Table, grid and schedule -/

/-- The table in a positioning move for F1, its slab's head at a coordinate and door D1 taken or not. -/
def moving (head : Int) (taken : Bool) (n : Nat) (w : Bool) : State :=
  { at1 .positioning with
    tracker := { Tracker.cold with nextTag := 306, table := [rec 305 5 head] }
    sensors := { base.sensors with d1 := { base.sensors.d1 with electrical := taken, taken } }
    arb := { Arbiter.cold with
      motion := .positioning .f1 n w
      requests := ⟨some ⟨305, 61000, .granted⟩, none⟩
      nextMove := 2 } }

/-- F1's move no longer wanted, its new request waiting behind it (R98, R99). -/
def overtaken : State :=
  { moving 63312 true 7 false with
    arb := { (moving 63312 true 7 false).arb with requests := ⟨some ⟨305, 61000, .waiting⟩, none⟩ } }

theorem test_overtaken_move_is_halted :
    ([fit (.stopCharger · (.val .f1)), fit (.disarmFurnace · (.val .f1))].map fun i =>
      after i overtaken fun t => (t.arb.motion, t.arb.requests.f1, t.links.yard.queue.length))
    = [some (.positioning .f1 7 false, none, 2), some (.positioning .f1 7 false, none, 1)] := by decide

theorem test_witness_Disarm_Stop_halts : Ready overtaken ∧ overtaken.seqs.f1.state = .positioning
    ∧ overtaken.arb.motion = .positioning .f1 7 false
    ∧ (haltFor .f1 overtaken.arb.motion .stopped overtaken).links.yard.queue.length = 1
    ∧ (haltFor .f2 overtaken.arb.motion .stopped overtaken).links.yard.queue.length = 0
    ∧ unwantedFor .f1 (moving 63312 true 1 true).arb.motion = .positioning .f1 1 false := by decide

theorem test_witness_TableReports_taken :
    FieldTaken base Kind.tableReport (fh 0x33 5) .tableDrive
    ∧ FieldTaken (moving 63312 true 1 true) Kind.tableReport (fh 0x33 5) .tableDrive :=
  ⟨⟨by decide, by decide, rfl, by decide⟩, ⟨by decide, by decide, rfl, by decide⟩⟩

theorem test_witness_TableReports_clauses : base.arb.motion = .still
    ∧ { base.arb with motion := .manual }.motion = .manual
    ∧ (moving 63312 true 1 true).arb.motion = .positioning .f1 1 true
    ∧ (moving 63312 true 1 false).arb.motion = .positioning .f1 1 false
    ∧ MoveOutcome.halted ≠ .done ∧ (moving 63312 true 1 true).seqs.f1.cycle = some cyc
    ∧ cyc.corrective < 2 ∧ (moving 63312 true 1 true).arb.requests.f1 = some ⟨305, 61000, .granted⟩
    ∧ (moving 63352 true 1 true).tracker.table.find? (fun r => r.tag == 305) = some (rec 305 5 63352) := by
  decide

theorem test_table_fault_told :
    after (.tableReport (fh 0x33 5) 1 (.val .halted) 0) (moving 63312 true 1 true) ownBodies
      = some [told (.chargerHeld .f1 .tableFault .positioning (some 305) none none)] := by decide

/-- At the positioning tolerance, and a millimetre beyond it, where the move limits allow a move. -/
theorem test_witness_TableReports_positions :
    mag (61000 - (rec 305 5 63352).centre (moving 63352 true 1 true).travel) ≤ tgeo.positioningTolerance
    ∧ tgeo.positioningTolerance < mag (61000 - (rec 305 5 63353).centre (moving 63353 true 1 true).travel)
    ∧ ((moving 63352 true 1 true).sensors.get (doorSensor .f1)).taken = true
    ∧ ((moving 63352 false 1 true).sensors.get (doorSensor .f1)).taken = false
    ∧ (moving 63353 true 1 true).limitsPass tgeo
        (61000 - (rec 305 5 63353).centre (moving 63353 true 1 true).travel) = true := by decide

/-- The move of F1's grant with its corrective count and the target of its request. -/
def corrected (n : Nat) (target : Int) : State :=
  { moving 63353 true 1 true with
    seqs := ⟨{ sq .positioning with cycle := some { cyc with corrective := n } }, .offline⟩
    arb := { (moving 63353 true 1 true).arb with requests := ⟨some ⟨305, target, .granted⟩, none⟩ } }

theorem test_witness_LastMiss :
    FieldTaken (corrected 2 61000) Kind.tableReport (fh 0x33 5) .tableDrive
    ∧ FieldTaken (corrected 0 139000) Kind.tableReport (fh 0x33 5) .tableDrive
    ∧ (corrected 2 61000).arb.motion = .positioning .f1 1 true
    ∧ (corrected 2 61000).seqs.f1.cycle = some { cyc with corrective := 2 }
    ∧ (corrected 2 61000).arb.requests.f1 = some ⟨305, 61000, .granted⟩ ∧ cyc.tag = 305
    ∧ (corrected 2 61000).tracker.table.find? (fun r => r.tag == 305) = some (rec 305 5 63353)
    ∧ tgeo.positioningTolerance
      < mag (61000 - (rec 305 5 63353).centre (corrected 2 61000).travel)
    ∧ (corrected 0 139000).limitsPass tgeo
        (139000 - (rec 305 5 63353).centre (corrected 0 139000).travel) = false
    ∧ (rec 305 5 63353).state ≠ .reject :=
  ⟨⟨by decide, by decide, rfl, by decide⟩, ⟨by decide, by decide, rfl, by decide⟩, by decide, by decide,
    by decide, by decide, by decide, by decide, by decide, by decide⟩

/-- The STILL table with a request of each charger; F1's slab at a coordinate with door D1 showing presence,
F2's at 30000. -/
def asking (head t1 t2 : Int) : State :=
  { moving head true 1 true with
    tracker := { Tracker.cold with nextTag := 307, table := [rec 305 5 head, rec 306 6 30000] }
    arb := { Arbiter.cold with requests := ⟨some ⟨305, t1, .waiting⟩, some ⟨306, t2, .skipped⟩⟩ } }

theorem test_witness_GrantRule : (asking 63352 61000 97000).cfg.tableGeometry = some tgeo
    ∧ (asking 63352 61000 97000).arb.motion = .still
    ∧ (asking 63352 61000 97000).arb.holds = ⟨false, false⟩
    ∧ (asking 63352 61000 97000).arb.gridHold = none ∧ granted.arb.gridHold ≠ none
    ∧ (∀ q ∈ (asking 63352 61000 97000).arb.requests.f1, q.status ≠ .granted)
    ∧ (∀ q ∈ (asking 63352 61000 97000).arb.requests.f2, q.status ≠ .granted)
    ∧ (rec 306 6 30000).anchor < (rec 305 5 63352).anchor := by decide

/-- Moves that pass the limits: complete at once, and a millimetre away; moves that fail them. -/
theorem test_witness_GrantRule_moves :
    let s := asking 63352 61000 97000
    let d := fun (head target : Int) => target - (rec 305 5 head).centre s.travel
    s.limitsPass tgeo (d 63352 61000) = true ∧ mag (d 63352 61000) ≤ tgeo.positioningTolerance
    ∧ (s.sensors.get (doorSensor .f1)).taken = true
    ∧ (asking 63353 61000 97000).limitsPass tgeo (d 63353 61000) = true
    ∧ tgeo.positioningTolerance < mag (d 63353 61000)
    ∧ s.limitsPass tgeo (d 63352 139000) = false
    ∧ s.limitsPass tgeo (139000 - (rec 306 6 30000).centre s.travel) = false := by decide

theorem test_witness_MoveLimits : tgeo.xGS ≤ tgeo.xGE
    ∧ (∀ r ∈ (moving 63312 true 1 true).tracker.table, 0 ≤ r.assumed)
    ∧ (moving 63312 true 1 true).limitsPass tgeo (140000 - 63312) = true
    ∧ (moving 63312 true 1 true).limitsPass tgeo (140001 - 63312) = false := by decide

/-- The record that the edge at MS meets. -/
def met : TableRecord :=
  { rec 305 5 21980 with seenMS := false, measured := none, nominals := some ⟨2100, 4600, 260⟩ }

theorem test_witness_HeadEdge : (edge .ms).power = true ∧ ((edge .ms).cfg.sensorSetup.get .ms).filterTime = 0
    ∧ ((edge .ms).sensors.get .ms).taken = false
    ∧ ((edge .ms).sensors.get .ms).electrical = ((edge .ms).cfg.sensorSetup.get .ms).invert
    ∧ (edge .ms).counters.t.lastDir ≠ some .reverse ∧ (edge .ms).cfg.tableGeometry = some tgeo
    ∧ (edge .ms).tracker.table = [] ++ met :: [] ∧ ((edge .ms).tracker.table.map (·.tag)).Nodup
    ∧ (edge .ms).tracker.table.filter (TableRecord.candidateAt tgeo (edge .ms).travel .ms) = [met] := by
  decide

/-- MS with a change that has held for 4 ms of its 10, captured before the table moved on by a metre. -/
def filtered (level : Bool) (capture : Int) (dir : Option Direction) (l : List TableRecord) : State :=
  { base with
    sensors := { base.sensors with
      ms := { base.sensors.ms with electrical := level, taken := !level, pending := some ⟨level, 4, capture, dir⟩ } }
    counters := { base.counters with t := { base.counters.t with acc := capture + 1000000 } }
    tracker := { Tracker.cold with
      nextTag := 307, table := l, measuring := if level then none else some ⟨305, 10000000⟩ } }

def unseen (tag n : Nat) (anchor : Int) : TableRecord := { rec tag n anchor with seenMS := false }

/-- The nearer of two candidates, and of two equally near the more downstream, at the captured travel. -/
theorem test_filtered_edges :
    [[unseen 305 5 22120, unseen 306 6 21890], [unseen 305 5 22100, unseen 306 6 21900], [unseen 305 5 22151]].map (fun l =>
      after (.filterTimeElapsed .ms 6) (filtered true 0 (some .forward) l) fun t =>
        (t.tracker.table.map (fun r => (r.anchor, r.seenMS)), t.tracker.measuring, t.links.plant.queue.length))
    = [some ([(22120, false), (22000, true)], some ⟨306, 0⟩, 0),
      some ([(22000, true), (21900, false)], some ⟨305, 0⟩, 0), some ([(22151, false)], none, 1)] := by decide

theorem test_witness_FilteredEdges : (filtered true 0 none [unseen 305 5 22100, unseen 306 6 21900]).power = true
    ∧ ((filtered true 0 none []).sensors.get .ms).pending = some ⟨true, 4, 0, none⟩
    ∧ ((filtered true 0 none []).cfg.sensorSetup.get .ms).filterTime ≤ 4 + 6
    ∧ [unseen 305 5 22100, unseen 306 6 21900] = [] ++ unseen 305 5 22100 :: [unseen 306 6 21900]
    ∧ ([unseen 305 5 22100, unseen 306 6 21900].map (·.tag)).Nodup
    ∧ mag ((unseen 305 5 22150).anchor + 0 - 22000) ≤ tgeo.trackingTolerance
    ∧ tgeo.trackingTolerance < mag ((unseen 305 5 22151).anchor + 0 - 22000)
    ∧ mag ((unseen 305 5 22100).anchor - 22000) = mag ((unseen 306 6 21900).anchor - 22000) := by decide

theorem test_witness_FilteredEdges_length : let s := filtered false 14660000 none [met]
    s.tracker.measuring = some ⟨305, 10000000⟩
    ∧ s.tracker.table.find? (fun r => r.tag == 305) = some met
    ∧ roundMm (14660000 - 10000000) = 4660 ∧ mag (4660 - 4600) ≤ tgeo.lengthTolerance := by decide

/-- An edge captured in reverse, and a falling one at D1. -/
theorem test_witness_FilteredEdges_ignored :
    ((filtered true 0 (some .reverse) [met]).sensors.get .ms).pending = some ⟨true, 4, 0, some .reverse⟩
    ∧ (let s := { base with sensors := { base.sensors with
          d1 := { base.sensors.d1 with taken := true, pending := some ⟨false, 4, 0, none⟩ } } }
      (s.sensors.get .d1).pending = some ⟨false, 4, 0, none⟩
      ∧ (s.cfg.sensorSetup.get .d1).filterTime ≤ 4 + 6) := by decide

/-- The edge at MS meets a slab whose place a neighbour ahead, or one behind, denies it. -/
def crossed (ahead : Bool) : State :=
  { edge .ms with
    seqs := ⟨sq .positioning, .offline⟩
    tracker := { Tracker.cold with
      nextTag := 307
      table := if ahead then [rec 306 6 22000, met] else [met, rec 306 6 22000] } }

theorem test_witness_TrackingConflict : (crossed true).power = true
    ∧ ((crossed true).sensors.get .ms).taken = false
    ∧ (crossed true).counters.t.lastDir ≠ some .reverse ∧ (crossed true).cfg.tableGeometry = some tgeo
    ∧ (crossed true).tracker.table = [rec 306 6 22000] ++ met :: []
    ∧ (crossed false).tracker.table = [] ++ met :: [rec 306 6 22000]
    ∧ ((crossed true).tracker.table.map (·.tag)).Nodup
    ∧ (crossed true).tracker.table.filter (TableRecord.candidateAt tgeo (crossed true).travel .ms) = [met]
    ∧ (crossed false).tracker.table.filter (TableRecord.candidateAt tgeo (crossed false).travel .ms) = [met]
    ∧ met.state ≠ .reject ∧ (rec 306 6 22000).anchor + (crossed true).travel ≤ tgeo.sensorAt .ms
    ∧ tgeo.sensorAt .ms ≤ (rec 306 6 22000).anchor + (crossed false).travel
    ∧ (crossed true).positioned 305 = true ∧ (edge .ms).positioned 305 = false := by decide

/-- A slab that a step of counter T takes one millimetre beyond the tolerance of MS, unseen. -/
def passing : State :=
  { edge .ms with
    counters := { base.counters with t := { base.counters.t with acc := 400 } }
    tracker := { Tracker.cold with nextTag := 306, table := [{ met with anchor := 22150 }] } }

theorem test_witness_MissedEdge : passing.power = true ∧ passing.cfg.tableGeometry = some tgeo
    ∧ (passing.tracker.table.map (·.tag)).Nodup
    ∧ passing.travel = 0 ∧ (takeStep .t (true, false) passing).travel = 1
    ∧ { met with anchor := 22150 }.seen .ms = false
    ∧ tgeo.sensorAt .ms + tgeo.trackingTolerance < 22150 + 1
    ∧ (22150 : Int) + 0 ≤ tgeo.sensorAt .ms + tgeo.trackingTolerance := by decide

theorem test_missed_edge : after (.encoderStep .t true false) passing
    (fun t => (t.tracker.table.map (fun r => (r.state, r.seenMS)), t.links.plant.queue.length))
    = some ([(.held .tracking, true)], 2) := by decide

/-- The same step with presence at GP where no record lies on the grid zone, or one does; with the table geometry
or without it. -/
def arrived (l : List TableRecord) (g : Option TableGeometry) : State :=
  { passing with
    cfg := { passing.cfg with tableGeometry := g }
    sensors := { base.sensors with gp := { base.sensors.gp with electrical := true, taken := true } }
    tracker := { passing.tracker with table := l ++ passing.tracker.table } }

theorem test_presence_before_missed_edge :
    after (.encoderStep .t true false) (arrived [] (some tgeo)) (fun t => (t.tracker.unidentified, ownBodies t))
      = some (true, [told (.unidentifiedOnGrid 1), told (.missedEdge 305 .ms 22151),
        told (.slabHeld 305 (ident 5) (some .tracking) (some .ready) 22151)]) := by decide

/-- A step that raises the table travel, one that lowers it, and both cases of the grid zone. -/
theorem test_witness_TravelChange : (arrived [] none).power = true
    ∧ (takeStep .t (true, false) (arrived [] none)).travel = 1
    ∧ (arrived [] (some tgeo)).cfg.tableGeometry = some tgeo ∧ (arrived [] none).cfg.tableGeometry = none
    ∧ (let s := { arrived [] (some tgeo) with
          counters := { base.counters with t := { base.counters.t with acc := 500 } } }
      s.travel = 1 ∧ (takeStep .t (false, true) s).travel = 0)
    ∧ (takeStep .t (true, false) (arrived [rec 306 6 14500] (some tgeo))).zoneTaken = true
    ∧ (takeStep .t (true, false) (arrived [] (some tgeo))).zoneTaken = false := by decide

theorem test_witness_TrackerHold : (∀ st ∈ [SeqState.positioning, .room, .pick, .retract],
      (at1 st).seqs.f1.cycle = some cyc ∧ (at1 st).seqs.f1.state = st)
    ∧ (moving 63312 true 1 true).arb.requests.f1.map (·.status) = some .granted
    ∧ (moving 63312 true 1 true).arb.motion = .positioning .f1 1 true
    ∧ (asking 63352 61000 97000).arb.requests.f1.map (·.status) ≠ some .granted
    ∧ 306 ≠ cyc.tag := by decide

/-- The measured slab's tail at MS. -/
def tailing (acc : Int) : State :=
  { edge .gp with
    sensors := { (edge .gp).sensors with ms := { base.sensors.ms with electrical := true, taken := true } }
    counters := { base.counters with t := { base.counters.t with acc } } }

theorem test_witness_TailEdge : (tailing 14660000).power = true
    ∧ ((tailing 14660000).sensors.get .ms).taken = true
    ∧ ((tailing 14660000).sensors.get .ms).electrical
      = !((tailing 14660000).cfg.sensorSetup.get .ms).invert
    ∧ (tailing 14660000).counters.t.lastDir ≠ some .reverse
    ∧ (tailing 14660000).tracker.measuring = some ⟨305, 10000000⟩
    ∧ (tailing 14660000).tracker.table.find? (fun r => r.tag == 305) = some met
    ∧ met.state ≠ .reject := by decide

/-- Lengths of 1499, 1500, 12000, 12001, at the length tolerance and a millimetre beyond it. -/
theorem test_witness_TailEdge_lengths : [11499000, 11500000, 22000000, 22001000, 14660000, 14661000].map
      (fun x : Int => roundMm (x - 10000000)) = [1499, 1500, 12000, 12001, 4660, 4661]
    ∧ mag (4660 - 4600) ≤ tgeo.lengthTolerance ∧ tgeo.lengthTolerance < mag (4661 - 4600) := by decide

theorem test_witness_SlabRecordCommands : Ready homedIdle
    ∧ homedIdle.tracker.table.find? (fun r => r.tag == 305) = some (rec 305 5 14500)
    ∧ homedIdle.positioned 305 = false ∧ (rec 305 5 14500).dest ≠ none
    ∧ (∀ x ∈ some (2800 : Int), 800 ≤ x ∧ x ≤ 2800) ∧ (∀ x ∈ some (12000 : Int), 1500 ≤ x ∧ x ≤ 12000)
    ∧ (∀ x ∈ some (100 : Int), 100 ≤ x ∧ x ≤ 500) ∧ (∀ x ∈ some 15, x ≤ 15) := by decide

/-- Tags in no list, positioned, and free; figures a step beyond their ranges; no destination. -/
theorem test_witness_SlabCommandsRefused : (∀ r ∈ homedIdle.tracker.table, r.tag ≠ 9)
    ∧ Ready (at1 .room) ∧ (at1 .room).positioned 305 = true
    ∧ (at1 .room).tracker.table.find? (fun r => r.tag == 305) = some (rec 305 5 63324)
    ∧ ¬ (2801 : Int) ≤ 2800 ∧ (2801 : Int) ≠ absentFigure ∧ ¬ (16 : Nat) ≤ 15 ∧ (16 : Nat) ≠ 255
    ∧ (7 : Nat) ≠ 255 ∧ (9 : Nat) ≠ 0 ∧ (absentFigure ≠ 2800) ∧ { rec 305 5 14500 with dest := none }.dest = none := by decide

/-- Presence at GP, one slab just past the grid zone. -/
def presence : State :=
  { contend with
    sensors := { base.sensors with gp := { base.sensors.gp with electrical := true, taken := true } }
    tracker := { Tracker.cold with nextTag := 306, table := [rec 305 5 19626] } }

/-- The destinations of a match, armed or not, and one with more entries ahead of it than the look-ahead. -/
theorem test_witness_MatchedTo : let s := { presence with seqs := ⟨.offline, sq .idle⟩ }
    s.seqs.f2.state ≠ .offline ∧ s.seqs.f1.state = .offline ∧ s.cfg.settings.lookAhead = 2
    ∧ (s.schedule.filter fun x => x.state == .planned && decide (x.seq < 4132)).length = 2
    ∧ (s.schedule.filter fun x => x.state == .planned && decide (x.seq < 4131)).length = 1
    ∧ [0, 1, 2].map (fun n => after (fit (.enterSlab · (ident n) 2100 260 0)) s fun t =>
        (t.tracker.table.getLast?).map fun r => (r.dest, r.state))
      = [some (some (some .f1, .held .offlineFurnace)), some (some (some .f2, .ready)),
        some (some (some .f2, .held .outOfSequence))] := by decide

/-- Width, thickness and mass at the ends of their ranges; each reason of BUSY. -/
theorem test_witness_EnterSlabRefused : Managed restored mh ∧ restored.ret.mode ≠ .run
    ∧ Managed State.reset mh ∧ State.reset.cfg.tableGeometry = none
    ∧ ¬ (800 : Int) ≤ 799 ∧ ¬ (501 : Int) ≤ 500 ∧ (799 : Int) ≠ absentFigure ∧ idCharsOk [0x0A] = false
    ∧ presence.idHeld (ident 5) = true ∧ base.sensors.gp.taken = false ∧ granted.grid.grant.isSome = true
    ∧ 8 ≤ (List.replicate 8 (rec 1 1 0)).length
    ∧ (rec 305 5 19625).tail presence.travel ≤ tgeo.xGE := by decide

theorem test_witness_EnterSlab : Ready presence ∧ presence.ret.mode = .run
    ∧ presence.cfg.tableGeometry = some tgeo ∧ idCharsOk (ident 1) = true
    ∧ presence.idHeld (ident 1) = false ∧ presence.sensors.gp.taken = true ∧ presence.grid.grant = none
    ∧ presence.tracker.table.length < 8
    ∧ (∀ r ∈ presence.tracker.table, tgeo.xGE < r.tail presence.travel)
    ∧ (∀ e ∈ presence.schedule, e.id = ident 7 → e.state ≠ .planned)
    ∧ presence.schedule.find? (fun e => e.id == ident 1 && e.state == .planned)
      = some (entry 4131 1 .either) := by decide

theorem test_witness_RemovalReport_observed :
    FieldObserved homedIdle Kind.removalReport (oh 0x26 4) (.crane .three) :=
  ⟨by decide, by decide, by decide, rfl, by decide⟩

theorem test_witness_RemovalReport_clauses : (∀ r ∈ homedIdle.tracker.table, r.id ≠ ident 6)
    ∧ homedIdle.tracker.table.find? (fun r => r.id == ident 5) = some (rec 305 5 14500)
    ∧ homedIdle.positionedFor .f1 305 = false ∧ (at1 .pick).positionedFor .f1 305 = true := by decide

/-- A slab positioned for F1 alone, in POSITIONING and in PICK, with no presence at GP. -/
theorem test_witness_RemovalReport_sent : (∀ s ∈ [overtaken, moving 63312 true 1 true, at1 .room, at1 .pick],
      s.positionedFor .f1 305 = true ∧ s.positionedFor .f2 305 = false ∧ s.sensors.gp.taken = false
      ∧ (s.tracker.table.find? fun r => r.id == ident 5).map (·.tag) = some 305)
    ∧ tgeo.xGS ≤ tgeo.xG ∧ tgeo.xG ≤ tgeo.xGE ∧ 0 ≤ (rec 305 5 14500).assumed := by decide

theorem test_witness_DestinationResolved :
    contend.schedule.find? (fun e => e.id == (rec 1 1 0).id && e.state == .planned)
      = some (entry 4131 1 .either)
    ∧ contend.schedule.find? (fun e => e.id == (rec 1 2 0).id && e.state == .planned)
      = some (entry 4132 2 (.to .f2))
    ∧ (at1 .idle).seqs.f1.state ≠ .offline ∧ (at1 .idle).seqs.f2.state = .offline
    ∧ (at1 .idle).maps.f2.rows.length < (at1 .idle).maps.f1.rows.length := by decide

theorem test_witness_GridRequest_taken :
    FieldTaken contend Kind.gridRequest (fh 0x21 4) (.crane .three)
    ∧ FieldTaken granted Kind.gridRequest (fh 0x21 4) (.crane .three)
    ∧ FieldTaken granted Kind.gridRequest (fh 0x21 2) (.crane .one)
    ∧ FieldTaken restored Kind.gridRequest (fh 0x21 4) (.crane .three) :=
  ⟨⟨by decide, by decide, rfl, by decide⟩, ⟨by decide, by decide, rfl, by decide⟩,
    ⟨by decide, by decide, rfl, by decide⟩, ⟨by decide, by decide, rfl, by decide⟩⟩

theorem test_witness_GridRequest_forms : Crane.number .three = 3 ∧ Crane.number .one = 1
    ∧ idRulesOk (ident 1) = true ∧ idRulesOk (0x20 :: (ident 1).tail) = false
    ∧ contend.ret.mode = .run ∧ restored.ret.mode ≠ .run ∧ contend.cfg.tableGeometry.isSome = true
    ∧ contend.idHeld (ident 1) = false ∧ (at1 .pick).idHeld (ident 5) = true
    ∧ (granted.grid.queue.all fun q => q.id != ident 1) = true := by decide

theorem test_witness_GridRequest_grants : contend.grid.grant = none ∧ contend.grid.queue = []
    ∧ contend.mgmt.supervision.isOk = true ∧ contend.gridClear = true
    ∧ contend.tracker.table.length < 8 ∧ contend.permitsGrid = true
    ∧ granted.grid.grant.map (·.crane) = some .three ∧ granted.grid.grant.isSome = true
    ∧ (∀ q ∈ granted.grid.queue, q.crane ≠ .one → granted.idHeld q.id = false)
    ∧ base.grantConditions.all = false := by decide

theorem test_witness_GridRelease_taken :
    FieldTaken granted Kind.gridRelease (fh 0x22 4) (.crane .three)
    ∧ FieldTaken granted Kind.gridRelease (fh 0x22 2) (.crane .one)
    ∧ FieldTaken base Kind.gridRelease (fh 0x22 2) (.crane .one) :=
  ⟨⟨by decide, by decide, rfl, by decide⟩, ⟨by decide, by decide, rfl, by decide⟩,
    ⟨by decide, by decide, rfl, by decide⟩⟩

theorem test_witness_GridRelease_clauses : 2 ≠ Crane.number .three ∧ 3 = Crane.number .three
    ∧ granted.grid.grant.map (·.crane) = some .three
    ∧ granted.grid.queue.find? (fun q => q.crane == .one) = some ⟨.one, ident 9, 40, 2⟩
    ∧ base.grid.grant = none ∧ base.grid.queue = [] := by decide

theorem test_witness_GrantTimeout : granted.power = true ∧ granted.ret.mode ≠ .retain
    ∧ granted.grid.grant.map (·.phase) = some (.active 180000) ∧ 180000 ≤ 180000 ∧ 179999 < 180000
    ∧ granted.sensors.gp.taken = false ∧ presence.sensors.gp.taken = true
    ∧ retained.ret.mode = .retain := by decide

/-- GP with filter time 0, showing presence or absence, with a grant in a phase and a table list. -/
def watched (taken : Bool) (p : Option GrantPhase) (l : List TableRecord) : State :=
  { edge .ms with
    sensors := { base.sensors with gp := { base.sensors.gp with electrical := taken, taken } }
    grid := { Grid.cold with grant := p.map fun p => ⟨.three, ident 1, 11, p⟩ }
    arb := { Arbiter.cold with gridHold := p.map fun _ => .three }
    tracker := { Tracker.cold with nextTag := 306, table := l } }

theorem test_grid_edges :
    [after (.rawTransition .gp true) (watched false none []), after (.rawTransition .gp true)
        (watched false (some (.active 5)) []), after (.rawTransition .gp false) (watched true (some .overdue) [])].map
      (fun f => f fun t => (t.tracker.unidentified, t.grid.grant.isSome, t.links.plant.queue.length,
        t.links.yard.queue.length))
    = [some (true, false, 1, 0), some (false, true, 0, 0), some (false, false, 1, 1)] := by decide

theorem test_witness_GridWatchEdges : (watched false none []).power = true
    ∧ ((watched false none []).cfg.sensorSetup.get .gp).filterTime = 0
    ∧ (watched false none [rec 305 5 14500]).zoneTaken = true ∧ (watched false none []).zoneTaken = false
    ∧ (watched false none []).sensors.gp.electrical = ((watched false none []).cfg.sensorSetup.get .gp).invert
    ∧ (watched true none []).sensors.gp.electrical = (!((watched true none []).cfg.sensorSetup.get .gp).invert)
    ∧ (watched true (some .overdue) []).grid.grant.map (·.phase) = some .overdue
    ∧ (watched true (some (.active 1)) []).grid.grant.map (·.phase) ≠ some .overdue := by decide

/-- The same with GP's change pending for 4 ms of its 10, captured before the table moved on by a metre. -/
def watchedLate (level : Bool) (p : Option GrantPhase) (l : List TableRecord) : State :=
  let s := watched (!level) p l
  { s with
    cfg := tables
    sensors := { s.sensors with
      gp := { s.sensors.gp with electrical := level, pending := some ⟨level, 4, 300000, none⟩ } }
    counters := { s.counters with t := { s.counters.t with acc := 1300000 } } }

/-- The events carry the travel of the capture. -/
theorem test_grid_edges_filtered :
    after (.filterTimeElapsed .gp 6) (watchedLate true none []) (fun t => (t.tracker.unidentified, ownBodies t))
      = some (true, [told (.unidentifiedOnGrid 300)])
    ∧ after (.filterTimeElapsed .gp 6) (watchedLate false (some .overdue) []) (fun t => (t.grid.grant, ownBodies t))
      = some (none, [told (.unidentifiedAfterGrant .three (ident 1) 300),
        .gridAnswer .three (some (ident 1)) .withdrawnTimeout]) := by decide

theorem test_witness_GridWatchEdges_filtered : (watchedLate true none []).power = true
    ∧ ((watchedLate true none []).sensors.get .gp).pending = some ⟨true, 4, 300000, none⟩
    ∧ ((watchedLate false none []).sensors.get .gp).pending = some ⟨false, 4, 300000, none⟩
    ∧ ((watchedLate true none []).cfg.sensorSetup.get .gp).filterTime ≤ 4 + 6
    ∧ (elapse 6 (watchedLate true none [rec 305 5 13500])).zoneTaken = true
    ∧ (elapse 6 (watchedLate true none [])).zoneTaken = false
    ∧ (elapse 6 (watchedLate true (some (.active 5)) [])).grid.grant.isSome = true
    ∧ (elapse 6 (watchedLate false (some .overdue) [])).grid.grant.map (·.phase) = some .overdue
    ∧ (elapse 6 (watchedLate false (some (.active 9)) [])).grid.grant.map (·.phase) ≠ some .overdue := by decide

/-- A release of the grant with presence at GP and the zone empty. -/
theorem test_witness_GridRelease_presence :
    FieldTaken (watched true (some (.active 5)) []) Kind.gridRelease (fh 0x22 4) (.crane .three)
    ∧ ((watched true (some (.active 5)) []).sensors.gp.taken
      && !(watched true (some (.active 5)) []).zoneTaken
      && !(watched true (some (.active 5)) []).tracker.unidentified) = true :=
  ⟨⟨by decide, by decide, rfl, by decide⟩, by decide⟩

theorem test_witness_DepositReport_observed :
    FieldObserved granted Kind.depositReport (oh 0x24 4) (.crane .three)
    ∧ FieldObserved granted Kind.depositReport (oh 0x24 2) (.crane .one) :=
  ⟨⟨by decide, by decide, by decide, rfl, by decide⟩, ⟨by decide, by decide, by decide, rfl, by decide⟩⟩

theorem test_witness_DepositReport_clauses : granted.grid.grant.map (·.crane) = some .three
    ∧ idRulesOk (ident 1) = true ∧ idRulesOk (0x20 :: (ident 1).tail) = false
    ∧ granted.idHeld (ident 1) = false
    ∧ { granted with tracker := presence.tracker }.idHeld (ident 5) = true
    ∧ granted.cfg.tableGeometry = some tgeo
    ∧ (∀ e ∈ granted.schedule, e.id = ident 7 → e.state ≠ .planned) := by decide

theorem test_witness_ScheduleEdit : Ready contend ∧ ScheduleInOrder contend
    ∧ (∀ x ∈ contend.schedule, x.id ≠ (entry 65535 7 .either).id)
    ∧ contend.idHeld (entry 65535 7 .either).id = false ∧ contend.schedule.length < 256
    ∧ idRulesOk (entry 65535 7 .either).id = true ∧ (entry 65535 7 .either).state = .planned
    ∧ (∀ x ∈ contend.schedule, x.seq < (entry 65535 7 .either).seq)
    ∧ (∀ x ∈ contend.schedule, (entry 1 7 .either).seq < x.seq)
    ∧ contend.schedule = contend.schedule.take 1 ++ entry 4131 1 .either :: contend.schedule.drop 2 := by
  decide

theorem test_witness_ScheduleEdit_whole :
    (∃ l, scheduleOps contend.idHeld 0 [.delete 4131] contend.schedule = .ok l)
    ∧ (∃ c i, scheduleOps contend.idHeld 0 [.delete 4131, .delete 6] contend.schedule = .error (c, i)) :=
  ⟨⟨_, rfl⟩, ⟨_, _, rfl⟩⟩

/-- The code that the latch holds after a SCHEDULE_EDIT of one operation. -/
def edited? (op : SchedOp) (s : State) : Option (Option RespCode) := latched? (fit (.scheduleEdit · [op])) s

/-- A schedule whose first entry is deposited; one of 256 entries. -/
def deposited : State :=
  { contend with schedule := { entry 4130 0 (.to .f1) with state := .deposited 87 } :: contend.schedule.tail }

def fullSchedule : State :=
  { contend with schedule := (List.range 256).map fun n => entry (2 * n + 2) 100 .either }

/-- Each refusal of APPEND and INSERT at the end of its range, in the order of the checks. -/
theorem test_witness_ScheduleEditRefused_new :
    [0, 65536].map (fun n => edited? (.append n [] (some (.bad 9)) (some 16) none none none) contend)
      = List.replicate 2 (some (some .outOfRange))
    ∧ [edited? (.append 1 [0x20] none (some 16) none none none) contend,
      edited? (.append 1 (ident 1) (some (.bad 9)) (some 16) none none none) contend,
      edited? (.append 1 (ident 1) none (some 16) none none none) contend,
      edited? (.append 1 (ident 1) none (some 15) (some 799) none none) contend,
      edited? (.append 1 (ident 1) (some (.bad 255)) (some 15) (some 800) (some 1500) (some 100)) contend,
      edited? (.append 1 (ident 1) (some (.val .either)) (some 255) (some 800) (some 1500) (some 100)) contend,
      edited? (.append 1 (ident 1) (some (.val .either)) (some 15) (some absentFigure) (some 1500) (some 100)) contend,
      edited? (.append 4132 (ident 1) (some (.val .either)) (some 15) (some 800) (some 1500) (some 100)) contend,
      edited? (.append 4133 (ident 1) (some (.val .either)) (some 15) (some 800) (some 1500) (some 100)) contend,
      edited? (.insert 4132 (ident 1) (some (.val .either)) (some 15) (some 800) (some 1500) (some 100)) contend,
      edited? (.insert 1 (ident 1) (some (.val .either)) (some 15) (some 800) (some 1500) (some 100)) contend]
    = [.illegalValue, .illegalValue, .outOfRange, .outOfRange, .illegalValue, .illegalValue, .illegalValue,
      .illegalValue, .duplicate, .duplicate, .duplicate].map fun c => some (some c) := by decide

set_option maxRecDepth 20000 in
theorem test_witness_ScheduleEditRefused_full : Ready fullSchedule ∧ 256 ≤ fullSchedule.schedule.length
    ∧ edited? (.append 513 (ident 7) (some (.val .either)) (some 15) (some 800) (some 1500) (some 100)) fullSchedule
      = some (some .scheduleFull)
    ∧ edited? (.insert 1 (ident 7) (some (.val .either)) (some 15) (some 800) (some 1500) (some 100)) fullSchedule
      = some (some .scheduleFull) := by decide

/-- Each refusal of DELETE and MODIFY, in the order of the checks. -/
theorem test_witness_ScheduleEditRefused_old : Ready contend ∧ Ready deposited
    ∧ [edited? (.badCode 9) contend, edited? (.delete 0) contend, edited? (.delete 6) contend,
      edited? (.delete 4130) deposited, edited? (.modify 65536 (some (.bad 9)) none none none none) contend,
      edited? (.modify 6 (some (.bad 9)) (some 16) none none none) contend,
      edited? (.modify 6 none (some 16) none none none) contend,
      edited? (.modify 6 none none none none (some 501)) contend,
      edited? (.modify 6 none none none none none) contend,
      edited? (.modify 4130 none none none none none) deposited,
      edited? (.modify 4130 (some (.bad 255)) (some 255) (some absentFigure) none none) contend]
    = [.illegalValue, .outOfRange, .unknownTag, .busy, .outOfRange, .illegalValue, .outOfRange, .outOfRange,
      .unknownTag, .busy, .illegalValue].map fun c => some (some c) := by decide

/-- Requests of a held identity, of a PLANNED one and of two that are not; the grid free and not. -/
def gridAsked (ids : List Nat) : State :=
  { contend with
    grid := { contend.grid with
      queue := (ids.zip [Crane.one, .two, .three]).zipIdx.map fun x => ⟨x.1.2, ident x.1.1, 40, x.2 + 2⟩
      nextRank := 7 }
    maps := ⟨⟨[row 38900 2100 (.ab (slab 87 3 2100 4000 1) (slab 88 4 2100 4000 1)) false], 0⟩, .empty⟩ }

theorem test_witness_GridEvaluation : (gridAsked [3, 9, 1]).grid.grant = none
    ∧ (gridAsked [3, 9, 1]).mgmt.supervision ≠ .lost ∧ (gridAsked [3, 9, 1]).ret.mode = .run
    ∧ (gridAsked [3, 9, 1]).gridClear = true ∧ (gridAsked [3, 9, 1]).tracker.table.length < 8
    ∧ (gridAsked [3, 9, 1]).permitsGrid = true
    ∧ ((gridAsked [3, 9, 1]).grid.queue.filter fun q => !(gridAsked [3, 9, 1]).idHeld q.id).map (·.crane) = [.two, .three]
    ∧ base.mgmt.supervision = .lost
    ∧ ((gridAsked [3, 4]).grid.queue.filter fun q => !(gridAsked [3, 4]).idHeld q.id) = [] := by decide

/-- A PLANNED identity before an earlier request, its sequence numbers among themselves, then the arrival. -/
theorem test_grid_choice : [[3, 9, 1], [2, 9, 1], [9, 8], [3, 4]].map (fun ids =>
      let t := gridEval (gridAsked ids)
      (t.grid.grant.map (·.crane), t.grid.queue.map (·.crane), t.links.yard.queue.length))
    = [(some .three, [.two], 2), (some .three, [.one, .two], 1), (some .one, [.two], 1), (none, [], 2)] := by
  decide

/-! ### Passage, ports, holds -/

/-- The yard port with a number of frames waiting. -/
def yardHolds (n : Nat) (s : State) : State :=
  { s with links := { s.links with yard := { s.links.yard with
      queue := List.replicate n (.forwarded (.portUp .yard)) } } }

theorem test_witness_GuardedTelegrams : Received base (hdr .plant 5 1 4)
    ∧ base.links.station ≠ some (hdr .plant 5 1 4).dest
    ∧ actionOf base.cfg.passage Kind.manualTableMove = .guardTable
    ∧ actionOf base.cfg.passage Kind.manualStroke = .guardStroke
    ∧ base.cfg.partners.map (·.tableDrive) = some (hdr .plant 5 1 4).dest
    ∧ base.cfg.partners.map (·.tableDrive) ≠ some (hdr .plant 8 1 4).dest
    ∧ ((yardHolds 19 base).links.port .yard).queue.length < 20
    ∧ ¬ ((yardHolds 20 base).links.port .yard).queue.length < 20
    ∧ base.arb.holds.f1 = false ∧ base.arb.gridHold = none
    ∧ (moving 63312 true 1 true).arb.motion ≠ .still ∧ granted.arb.gridHold = some .three := by decide

theorem test_witness_GuardedTelegrams_beams : base.cfg.partners.map (·.beam1) = some 8
    ∧ base.cfg.partners.map (·.beam2) = some 9 ∧ Received (at1 .carry) (hdr .plant 8 1 4)
    ∧ (at1 .carry).seqs.f1.state = .carry ∧ base.seqs.f1.state = .offline := by decide

def raw (kind : Nat) (h : Hdr) : RawTel := { hdr := h, kind, body := .bytes [] }

theorem test_witness_TelegramsByForm : Received base (hdr .plant 0 1 0) ∧ Received base (hdr .yard 0 1 0)
    ∧ 120 < (hdr .plant 0 1 121).length ∧ (hdr .plant 0 63 0).source = 63
    ∧ base.links.station = some (hdr .plant 5 0 0).source
    ∧ base.links.station = some (hdr .plant 0 1 0).dest
    ∧ (raw 0x60 (hdr .plant 0 1 0)).kind < 0x61 ∧ 0x67 < (raw 0x68 (hdr .plant 0 1 0)).kind
    ∧ 0x60 ∉ [Kind.gridRequest, Kind.gridRelease, Kind.tableReport, Kind.chargerReport]
    ∧ (hdr .yard 0 1 0).port = .yard ∧ base.links.station ≠ some (hdr .plant 5 1 0).dest
    ∧ actionOf base.cfg.passage 0x10 = .forward
    ∧ actionOf [some (0x10, .drop)] 0x10 = .drop := by decide

/-- The partner's station at its port, at the other port, and a station of no role of the kind. -/
theorem test_witness_TelegramsByForm_roles : base.cfg.partners = some partners
    ∧ State.reset.cfg.partners = none
    ∧ [(fh 0x21 3).source, (fh 0x33 5).source, (fh 0x43 7).source, (oh 0x52 9).source, (oh 0x54 11).source]
      = [partners.crane2, partners.tableDrive, partners.charger2, partners.beam2, partners.discharge2]
    ∧ (fh 0x33 5).port = .yard ∧ (hdr .plant 0 5 3).port = .plant ∧ (fh 0x33 6).source ≠ partners.tableDrive
    ∧ some (0x10, Action.drop) ∉ [some (0x11, Action.drop), none]
    ∧ [none, some (0x10, Action.drop), none] = [none] ++ some (0x10, .drop) :: [none] := by decide

theorem test_witness_TelegramsByForm_strays :
    (Received base (fh 0x33 5) ∧ base.links.station = some (fh 0x33 5).dest
      ∧ roleOf base Kind.tableReport (fh 0x33 5) = .ok .tableDrive)
    ∧ roleOf base Kind.tableReport (hdr .plant 0 5 3) = .error .wrongPort
    ∧ roleOf base Kind.tableReport (fh 0x33 6) = .error .noPartner
    ∧ fieldLength Kind.tableReport ≠ some (hdr .yard 0 5 4).length
    ∧ (Received base (oh 0x52 8) ∧ base.links.station ≠ some (oh 0x52 8).dest
      ∧ actionOf base.cfg.passage Kind.strokeReport = .observe)
    ∧ roleOf base Kind.strokeReport (oh 0x52 8) = .ok (.beam .f1)
    ∧ roleOf base Kind.strokeReport (oh 0x52 5) = .error .noPartner
    ∧ fieldLength Kind.strokeReport ≠ some (hdr .yard 1 8 5).length
    ∧ actionOf base.cfg.passage Kind.gridRequest = .forward
    ∧ actionOf [some (Kind.strokeReport, .drop)] Kind.strokeReport = .drop :=
  ⟨⟨by decide, by decide, rfl⟩, rfl, rfl, by decide, ⟨by decide, by decide, by decide⟩, rfl, rfl, by decide,
    by decide, by decide⟩

theorem test_stray_field_telegrams : let stray := fun (kind : Nat) (h : Hdr) (r : StrayReason) (s : State) =>
      (.next (raise (.strayTelegram h.port h.source h.dest kind r) s) : Host.Outcome State Fault Refusal)
    exec (.lifted (hdr .plant 0 6 4) 305 0) (at1 .pick)
      = stray Kind.chargerReport (hdr .plant 0 6 4) .wrongPort (at1 .pick)
    ∧ exec (.strokeReport (hdr .yard 1 8 5) 500) base = stray Kind.strokeReport (hdr .yard 1 8 5) .format
      (forwardTo .plant (.strokeReport (hdr .yard 1 8 5) 500) base) := ⟨rfl, rfl⟩

theorem test_witness_PortsAndQueues : base.power = true ∧ (base.links.port .plant).up = true
    ∧ retained.ret.mode = .retain ∧ base.ret.mode ≠ .retain
    ∧ { base.links with plant := PortState.cold false }.plant.up = false
    ∧ { base with power := false }.power = false
    ∧ ((yardHolds 19 base).links.port .yard).queue.length < 20 := by decide

theorem test_witness_ClearCommands : Ready base ∧ Managed latched mh
    ∧ (∀ n ∈ [HoldName.landingDeviation], n ∈ placementHoldNames)
    ∧ ¬ (∀ n ∈ [HoldName.encoderError], n ∈ placementHoldNames)
    ∧ (∀ n ∈ [HoldName.homeDeviation], n ∈ counterHoldNames) := by decide

/-! ### Bounds of the reads, the tag sequence, the holds selected, the grid conditions -/

/-- Count 0 and 17, a first index one beyond the last entry, a bad selector, and no table geometry. -/
theorem test_witness_ReadsRefused : Managed base mh
    ∧ exec (fit (.readGapRules · (.val .f1) 0 17)) base
      = .next (respond mh Kind.readTable .outOfRange none .none base)
    ∧ exec (fit (.readPartSettings · 5 1)) base = .next (respond mh Kind.readTable .outOfRange none .none base)
    ∧ exec (fit (.readGapRules · (.bad 3) 8 0)) base
      = .next (respond mh Kind.readTable .illegalValue none .none base)
    ∧ Managed { base with cfg := .default } mh ∧ Tables.default.tableGeometry = none :=
  ⟨by decide, rfl, rfl, rfl, by decide, rfl⟩

/-- The first tag that nothing holds, at once, behind two that are held, and past the wrap. -/
theorem test_witness_FreshTag : [(305, []), (305, [305, 306]), (65535, [65535, 1])].map (fun x : Nat × List Nat =>
      ({ base with tracker := { Tracker.cold with
          nextTag := x.1, table := x.2.map fun t => rec t 5 14500 } } : State).freshTag) = [305, 307, 2]
    ∧ (65535 - 1 + 2) % 65535 + 1 = 2 := by decide

/-- Unknown identities and invalid reports: the identities that are nowhere, and the four states of R64. -/
theorem test_witness_DischargeUnknown : (∀ y ∈ mapped.maps.f1.slabs, y.id ≠ ident 9 ∧ y.id ≠ ident 8)
    ∧ (3 ≠ 1 ∧ 3 ≠ 2) ∧ (0 ≠ 1 ∧ 0 ≠ 2) ∧ ident 9 ≠ ident 8
    ∧ (inRoom 0 (.mapFull 305)).seqs.f1.waiting = .mapFull 305
    ∧ (inRoom 2 .strokes).seqs.f1.waiting = .strokes ∧ mapped.seqs.f1.state = .idle
    ∧ (at1 .carry).seqs.f1.state = .carry := by decide

/-- Two identities, the first nowhere: DISCHARGE_UNKNOWN for it alone, the second leaves its row. -/
theorem test_discharge_unknown : [(1, 9, 0), (2, 9, 0), (2, 0, 0), (3, 0, 1)].map (fun x =>
      after (.dischargeReport (oh 0x54 10) x.1 (ident x.2.1) (ident x.2.2)) { base with maps := mapped.maps }
        (fun t => (t.maps.f1.rows.length, t.links.plant.queue.length)))
    = [some (3, 2), some (2, 3), some (3, 2), some (3, 2)] := by decide

/-- A record on the zone beside the removed one, another far downstream, and presence at GP. -/
def removing (gp flag : Bool) (rs : List TableRecord) : State :=
  { base with
    sensors := base.sensors.set .gp { base.sensors.gp with taken := gp }
    tracker := { Tracker.cold with nextTag := 400, unidentified := flag, table := rs } }

theorem test_remove_presence : [removing true false [rec 305 5 14500],
      removing true false [rec 305 5 14500, rec 9 6 14600], removing true false [rec 305 5 14500, rec 9 6 50000],
      removing true true [rec 305 5 14500], removing false true [rec 305 5 14500]].map (fun s =>
        after (fit (.removeSlab · 305)) s fun t => (t.tracker.unidentified, t.links.plant.queue.length))
    = [some (true, 2), some (false, 1), some (true, 2), some (true, 1), some (false, 1)] := by decide

theorem test_witness_RejectAndRemove : Managed (removing true false [rec 305 5 14500]) mh
    ∧ (removing true false [rec 305 5 14500]).tracker.table.find? (fun r => r.tag == 305) = some (rec 305 5 14500)
    ∧ (removing true false [rec 305 5 14500]).positioned 305 = false
    ∧ (removing true false [rec 305 5 14500]).grid.grant = none
    ∧ (rec 9 6 14600).tail base.travel ≤ tgeo.xGE ∧ tgeo.xGS ≤ (rec 9 6 14600).anchor + base.travel
    ∧ ¬ (rec 9 6 50000).tail base.travel ≤ tgeo.xGE := by decide

/-- SLAB_HELD of REJECT_SLAB has the state REJECT in the place of a cause (log 47). -/
theorem test_reject_fields : (Event.slabHeld 305 (ident 5) none (some .ready) 14500).fields
    = [.tag 305, .identity (ident 5), .code .slabReject] ++ SlabState.fields .ready ++ [.figure 14500] := rfl

theorem test_accept_told : after (fit (.acceptSlab · 305 (some 900) none none none (some (.val .f2))))
    (removing false false [rec 305 5 14500])
    (fun t => (t.tracker.table.map (fun r => (r.width, r.dest)), t.links.plant.queue.length))
    = some ([(some 900, some .f2)], 2) := by decide

/-- The grid conditions at their bounds: a tail at X_GE and one beyond, presence, a waiting request. -/
theorem test_witness_GridConditions :
    (removing false false [{ rec 305 5 19625 with measured := some 4625 }]).gridClear = false
    ∧ (removing false false [{ rec 305 5 19626 with measured := some 4625 }]).gridClear = true
    ∧ (removing true false []).gridClear = false ∧ (removing false false []).gridClear = true
    ∧ { removing false false [] with cfg := .default }.gridClear = true
    ∧ { removing false false [rec 305 5 19626] with cfg := .default }.gridClear = false
    ∧ base.permitsGrid = true ∧ (at1 .positioning).permitsGrid = true
    ∧ { base with arb := { Arbiter.cold with motion := .manual } }.permitsGrid = false
    ∧ (removing false false [rec 305 5 (15000 + 4625)]).zoneTaken = true
    ∧ (removing false false [rec 305 5 2000]).zoneTaken = true
    ∧ (removing false false [rec 305 5 1999]).zoneTaken = false := by decide

/-- Main supply lost with a grant and presence at GP, with the flag clear and set, and without a grant. -/
theorem test_supply_lost_presence : [(true, false, true), (true, true, true), (false, true, true), (true, false, false)].map
      (fun x => after .mainSupplyLost
        { granted with
          grid := if x.1 then granted.grid else base.grid
          tracker := { Tracker.cold with unidentified := x.2.1 }
          sensors := granted.sensors.set .gp { granted.sensors.gp with taken := x.2.2 } }
        (fun t => (t.tracker.unidentified, t.ret.held.length)))
    = [some (true, 2), some (true, 1), some (true, 1), some (false, 1)] := by decide

/-- Every hold set, on both furnaces and all counters. -/
def allHolds : State :=
  { base with
    place := ⟨⟨none, ⟨true, true, true, true⟩⟩, ⟨none, ⟨true, true, true, true⟩⟩⟩
    counters :=
      ⟨{ base.counters.t with encoderError := true }, { base.counters.c1 with encoderError := true, homeDeviation := true },
        { base.counters.c2 with encoderError := true, homeDeviation := true }⟩ }

/-- The holds that stand after a CLEAR_HOLDS: of each furnace, of each counter. -/
def holdsAfter (sel : HoldSelection) : Option (Nat × Nat × Nat) :=
  let number := fun l : List Bool => (l.filter id).length
  after (fit (.clearHolds · sel)) allHolds fun t =>
    (number (placementHoldNames.map t.place.f1.holds.get), number (placementHoldNames.map t.place.f2.holds.get),
      number ([CounterId.t, .c1, .c2].flatMap fun c => [(t.counters.get c).encoderError, (t.counters.get c).homeDeviation]))

/-- The furnace form clears its furnace's holds alone, the counter form its counter's, ALL everything. -/
theorem test_clear_holds_taken : [HoldSelection.all, .furnace (.val .f1) .all, .furnace (.val .f2) (.set [.strokeBasis]),
      .counter (.val .t) .all, .counter (.val .c2) (.set [.homeDeviation])].map holdsAfter
    = [some (0, 0, 0), some (0, 4, 5), some (4, 3, 5), some (4, 4, 4), some (4, 4, 4)] := by decide

/-- The empty set, a name of the other form and the bad codes clear nothing. -/
theorem test_clear_holds_refused : [HoldSelection.furnace (.val .f1) (.set []), .furnace (.val .f1) (.set [.encoderError]),
      .counter (.val .c1) (.set []), .counter (.val .c1) (.set [.substituted]), .furnace (.bad 3) .all,
      .counter (.bad 4) .all, .badForm 3].all (fun sel => holdsAfter sel == some (4, 4, 5)) = true := by decide

/-! ### Time, counters, sensors, lines, supply -/

theorem test_witness_Supervision : Managed contend mh ∧ contend.mgmt.supervision ≠ .lost
    ∧ Managed base mh ∧ base.mgmt.supervision = .lost
    ∧ Managed base { mh with length := 0 } ∧ Managed contend { mh with length := 0 } ∧ mh.length ≠ 0
    ∧ contend.power = true ∧ contend.ret.mode ≠ .retain ∧ contend.mgmt.supervision = .ok 10 10000
    ∧ 10000 ≤ 10000 ∧ 9999 < 10000 ∧ contend.mgmt.statusTimer = some 500
    ∧ retained.ret.mode = .retain := by decide

/-- A HEARTBEAT with a payload fails and leaves supervision as it is; one known by its bytes has its length judged. -/
theorem test_heartbeat_form :
    [Instr.heartbeat { mh with length := 5 }, .malformedTelegram ⟨{ mh with length := 5 }, Kind.heartbeat, .bytes []⟩].map
        (fun i => exec i base) = List.replicate 2 (.next (respond mh Kind.heartbeat .illegalValue none .none base))
    ∧ exec (.malformedTelegram ⟨{ mh with length := 0 }, Kind.heartbeat, .bytes []⟩) base
      = exec (fit (.heartbeat ·)) base := ⟨rfl, rfl⟩

theorem test_witness_EncoderStep : base.power = true ∧ base.counters.c1.phase = (false, false)
    ∧ (∃ t, exec (.markerEdge .c1 true) base = .next t)
    ∧ (∃ t, exec (.coldStart ColdInputs.chosen) base = .next t)
    ∧ Managed base mh ∧ base.seqs.f1.state.chargeBusy = false
    ∧ base.seqs.f2.state.chargeBusy = false ∧ ∃ t, exec (fit (.resetAll ·)) base = .next t :=
  ⟨by decide, by decide, ⟨_, rfl⟩, ⟨_, rfl⟩, by decide, by decide, by decide, ⟨_, rfl⟩⟩

/-- An illegal transition with the hold clear and with it set. -/
theorem test_witness_EncoderStep_illegal : let s := base.setCounter .c1 { base.counters.c1 with encoderError := true }
    base.counters.c1.encoderError = false
    ∧ s.counters.c1.phase = (false, false) ∧ s.counters.c1.encoderError = true
    ∧ after (.encoderStep .c1 true true) base ownBodies
      = some [told (.holdSet (.encoderError .c1 (false, false) (true, true)))]
    ∧ after (.encoderStep .c1 true true) s ownBodies = some [] := by decide

/-- Carriage C1 with its marker in use, its last count forward. -/
def marked (acc : Int) (homed : Bool) : State :=
  { base with
    cfg := { tables with counterSetup := { tables.counterSetup with
      c1 := { CounterSetup.default with markerUse := .home } } }
    counters := { base.counters with
      c1 := { base.counters.c1 with acc, homed, lastDir := some .forward } } }

/-- At the home tolerance and a millimetre beyond it; a gate at its end and a millisecond before. -/
theorem test_witness_MarkerAndGate : (marked 20000 true).power = true
    ∧ ((marked 20000 true).cfg.counterSetup.get .c1).markerUse = .home
    ∧ ((marked 20000 true).cfg.counterSetup.get .c1).edgeRising = true
    ∧ (marked 20000 true).counters.c1.homed = true ∧ (marked 0 false).counters.c1.homed = false
    ∧ mag (roundMm 20000 - 0) ≤ 20 ∧ 20 < mag (roundMm 21000 - 0)
    ∧ (base.cfg.counterSetup.get .c1).markerUse ≠ .home
    ∧ base.counters.c1.gateLeft ≤ 20 ∧ 19 < base.counters.c1.gateLeft := by decide

/-- A pending change at MS that has held for 4 ms of its 10. -/
def changing : State :=
  { base with sensors := { base.sensors with
      ms := { base.sensors.ms with electrical := true, pending := some ⟨true, 4, 0, none⟩ } } }

theorem test_witness_SensorTransitions : base.power = true ∧ (base.sensors.get .ms).electrical = false
    ∧ (base.cfg.sensorSetup.get .ms).filterTime ≠ 0
    ∧ ((edge .ms).cfg.sensorSetup.get .ms).filterTime = 0
    ∧ (changing.sensors.get .ms).electrical ≠ false ∧ (changing.sensors.get .ms).taken = false
    ∧ (changing.sensors.get .ms).pending = some ⟨true, 4, 0, none⟩
    ∧ (changing.cfg.sensorSetup.get .ms).filterTime ≤ 4 + 6
    ∧ 4 + 5 < (changing.cfg.sensorSetup.get .ms).filterTime
    ∧ (base.sensors.get .ms).pending = none := by decide

theorem test_witness_TableEnd : (edge .te).power = true
    ∧ ((edge .te).cfg.sensorSetup.get .te).filterTime = 0
    ∧ ((edge .te).sensors.get .te).taken = false
    ∧ ((edge .te).sensors.get .te).electrical = ((edge .te).cfg.sensorSetup.get .te).invert
    ∧ (edge .te).ret.mode ≠ .retain ∧ (edge .te).arb.motion = .still := by decide

/-- TE with its change pending for 4 ms of its 10, captured before the table moved on by a metre. -/
def endLate (level : Bool) (s : State) : State :=
  { s with
    sensors := { s.sensors with
      te := { s.sensors.te with electrical := level, taken := !level, pending := some ⟨level, 4, 300000, none⟩ } }
    counters := { s.counters with t := { s.counters.t with acc := 1300000 } } }

/-- TABLE_END carries the travel of the capture; the move in progress is halted. -/
theorem test_table_end_filtered :
    after (.filterTimeElapsed .te 6) (endLate true (moving 63312 true 1 true)) ownBodies
      = some [told (.tableEnd 300 (.positioning .f1 1 true)), .tableHalt 1 .tableEnd] := by decide

theorem test_witness_TableEnd_filtered : (endLate true base).power = true
    ∧ ((endLate true base).sensors.get .te).pending = some ⟨true, 4, 300000, none⟩
    ∧ ((endLate false base).sensors.get .te).pending = some ⟨false, 4, 300000, none⟩
    ∧ ((endLate true base).cfg.sensorSetup.get .te).filterTime ≤ 4 + 6
    ∧ (elapse 6 (endLate true base)).arb.motion = .still ∧ (elapse 6 (endLate true base)).ret.mode ≠ .retain
    ∧ (elapse 6 (endLate true retained)).ret.mode = .retain
    ∧ (elapse 6 (endLate true { base with arb := { base.arb with motion := .manual } })).arb.motion = .manual
    ∧ (elapse 6 (endLate true (moving 63312 true 1 true))).arb.motion = .positioning .f1 1 true
    ∧ (let s := { edge .te with sensors := { base.sensors with
          te := { base.sensors.te with electrical := true, taken := true } } }
      (s.sensors.get .te).electrical = (!(s.cfg.sensorSetup.get .te).invert)) := by decide

def seen (s : State) : State :=
  { s with windows := ⟨⟨some (List.replicate 8 true), List.replicate 8 false⟩, .cold⟩ }

theorem test_witness_LineLevels : retained.ret.mode ≠ .run ∧ base.seqs.f1.state = .offline
    ∧ base.counters.c1.homed = false ∧ (withDepth (at1 .held) 0).counters.c1.homed = true
    ∧ (seen (withDepth (at1 .held) 0)).windows.f1.stopped = some (List.replicate 8 true)
    ∧ (at1 .held).seqs.f1.state = .held ∧ (withDepth (at1 .carry) 0).ret.mode = .run
    ∧ (withDepth (at1 .carry) 0).counters.c1.homed = true
    ∧ (at1 .carry).seqs.f1.state ≠ .held := by decide

theorem test_witness_SupplyLostAndReturns : base.power = true ∧ base.ret.mode ≠ .retain
    ∧ base.ret.backup = true ∧ { base.ret with backup := false }.backup = false
    ∧ retained.power = true ∧ retained.ret.mode = .retain
    ∧ { base with power := false }.power = false ∧ (∀ i, Instr.mainSupplyLost ≠ .coldStart i)
    ∧ restored.ret.held.length < 16 ∧ (at1 .held).seqs.f1.state = .held
    ∧ (withDepth (at1 .retract) (-2500000)).depth .f1 ≤ geo.retractClear :=
  ⟨by decide, by decide, by decide, by decide, by decide, by decide, by decide, fun _ => nofun,
    by decide, by decide, by decide⟩

/-- Both chargers in PICK, each with its slab on the table. -/
def pickingBoth : State :=
  { retained with
    seqs := ⟨sq .pick, { sq .pick with cycle := some { cyc with tag := 306 } }⟩
    tracker := { Tracker.cold with table := [rec 305 5 63324, rec 306 6 50000] } }

/-- At the return both slabs are held with TRACKING, and seven events are held. -/
theorem test_witness_SupplyReturns_picked : pickingBoth.power = true ∧ pickingBoth.ret.mode = .retain
    ∧ (pickingBoth.seqs.f1.cycle.map (·.tag)) ≠ pickingBoth.seqs.f2.cycle.map (·.tag)
    ∧ after .mainSupplyReturns pickingBoth (fun t => t.tracker.table.map (·.state))
      = some [.held .tracking, .held .tracking] := by decide

theorem test_witness_Resume_Resets : Managed restored mh ∧ restored.ret.mode = .restored
    ∧ Managed base mh ∧ base.ret.mode ≠ .restored
    ∧ (∀ x ∈ [at1 .pick, at1 .carry, at1 .lower, at1 .retract], Managed x mh)
    ∧ Managed (at1 .room) mh ∧ (at1 .room).seqs.f1.state = .room ∧ ColdInputs.chosen.gp = false := by
  decide

end Sys2Proof.Tests
end

section
/-! Proofs of the statements on the read of FURNACE_GEOMETRY and on stages 5 to 7 of the placement computation.
First what every read answers and which record each stage of the computation leaves; then the statements. -/

namespace Sys2Proof.Machine

/-! ### Reads (R189) -/

/-- R189: a read that the management unit takes, with a payload that fits, leaves what its owning rule answers. -/
theorem read_fitting {c : Instr} {h : Hdr} {own : State → ReadResult} {s : State} (hm : Managed s h)
    (hf : formFits c = true) :
    powered (manage c Kind.readTable h (takeRead h own)) s = .next (takeRead h own true s) := by
  rw [powered_on _ _ hm.1.1, manage_of_managed (by decide) hm, hf]

/-- R189: a read that its owning rule answers leaves its RESPONSE with the entries, and nothing else. -/
theorem read_taken {c : Instr} {h : Hdr} {own : State → ReadResult} {s : State} {d : RespData}
    (hm : Managed s h) (hf : formFits c = true) (ho : own s = .ok d) :
    powered (manage c Kind.readTable h (takeRead h own)) s =
      .next (respond h Kind.readTable .ok none d s) := by
  simp [read_fitting hm hf, takeRead, ho]

/-- R187: a read that its owning rule refuses leaves its RESPONSE with the code, and nothing else. -/
theorem read_refused {c : Instr} {h : Hdr} {own : State → ReadResult} {s : State} {code : RespCode}
    (hm : Managed s h) (hf : formFits c = true) (ho : own s = .error code) :
    powered (manage c Kind.readTable h (takeRead h own)) s =
      .next (respond h Kind.readTable code none .none s) := by
  simp [read_fitting hm hf, takeRead, ho]

/-- R189: a count of 1 to 16 and a first index in the table pass the check of the range. -/
theorem readRange_passes {first count last : Nat} (r : ReadResult) (h1 : 1 ≤ count) (h16 : count ≤ 16)
    (hl : first ≤ last) : readRange first count last r = r :=
  if_neg (by omega)

/-- R189: the one record of a table that has values. -/
theorem oneRecord_some {α : Type} {count : Nat} (a : α) (f : α → RespData) (h1 : 1 ≤ count)
    (h16 : count ≤ 16) : oneRecord 0 count (some a) f = .ok (f a) :=
  readRange_passes _ h1 h16 le_rfl

/-- R189: the one record of a table that has no values. -/
theorem oneRecord_none {α : Type} {count : Nat} (f : α → RespData) (h1 : 1 ≤ count) (h16 : count ≤ 16) :
    oneRecord 0 count none f = .error .notConfigured :=
  readRange_passes _ h1 h16 le_rfl

/-- R29: what the geometry's rule answers for a furnace is the record of that furnace. -/
theorem ownReadFurnaceGeometry_val (k : Furnace) (first count : Nat) (s : State) :
    ownReadFurnaceGeometry (.val k) first count s =
      oneRecord first count (s.cfg.geometry.get k) .geometry := rfl

/-- R29: the meaning of READ_FURNACE_GEOMETRY. -/
theorem exec_readFurnaceGeometry (h : Hdr) (sel : Code Furnace) (first count : Nat) (s : State) :
    exec (.readFurnaceGeometry h sel first count) s =
      powered (manage (.readFurnaceGeometry h sel first count) Kind.readTable h
        (takeRead h (ownReadFurnaceGeometry sel first count))) s := rfl

/-- Settles O18: the record of the furnace either has values, which the read answers, or has none, which
the geometry's rule refuses. -/
theorem readFurnaceGeometry : Obligations.ReadFurnaceGeometry := by
  intro h k count s hm hf h1 h16
  refine ⟨fun g hg => ?configured, fun hg => ?unconfigured, fun g => rfl⟩
  case configured =>
    have own : ownReadFurnaceGeometry (.val k) 0 count s = .ok (.geometry g) := by
      rw [ownReadFurnaceGeometry_val, hg, oneRecord_some g _ h1 h16]
    rw [exec_readFurnaceGeometry, read_taken hm hf own]
  case unconfigured =>
    have own : ownReadFurnaceGeometry (.val k) 0 count s = .error .notConfigured := by
      rw [ownReadFurnaceGeometry_val, hg, oneRecord_none _ h1 h16]
    rw [exec_readFurnaceGeometry, read_refused hm hf own]

/-! ### Stages 1 to 4 of the computation (R35 to R37) -/

/-- R35 to R37, R43: the record as stages 1 to 4 leave it, for operands that are all there. -/
def PlaceInput.pairStages (i : PlaceInput) (o : Operands) : PlacementRecord :=
  { i.blank with
    operands := some o, cls := some (classOf i.bounds o.thickness.value), lane := some (i.laneOf o)
    pairTest := i.pairOutcome o }

/-- R33, R37: a computation with its operands that does not end with its pair test goes on to stage 5. -/
theorem PlaceInput.compute_of_not_passed {i : PlaceInput} {o : Operands} (ho : i.operands = .ok o)
    (hp : i.pairOutcome o ≠ some .passed) :
    i.compute = i.rowStages o (classOf i.bounds o.thickness.value) (i.pairStages o) := by
  simp [PlaceInput.compute, ho, hp, PlaceInput.pairStages]

/-! ### Stages 5 to 7 of the computation (R38, R39) -/

section
variable {i : PlaceInput} {o : Operands} {cls : Nat} {p : PlacementRecord}

/-- R43: stages 8 to 10 leave the least front edge as it was recorded. -/
@[simp] theorem PlaceInput.roomStages_fMin (fMin first : Int) (last : Row) :
    (i.roomStages o cls fMin first last p).fMin = p.fMin := by
  unfold PlaceInput.roomStages
  dsimp only
  split
  · rfl
  · split <;> rfl

/-- R38: a zone too short for the slab gives NO_FIT. -/
theorem PlaceInput.rowStages_noFit (h : i.geometry.zMax < fMinOf i.geometry o.width.value) :
    i.rowStages o cls p =
      { p with fMin := some (fMinOf i.geometry o.width.value), result := .noFit } := by
  simp [PlaceInput.rowStages, h]

/-- R39: an empty map takes the slab at the end of the zone. -/
theorem PlaceInput.rowStages_emptyMap (h : fMinOf i.geometry o.width.value ≤ i.geometry.zMax)
    (hr : i.map.rows = []) :
    i.rowStages o cls p =
      { p with
        fMin := some (fMinOf i.geometry o.width.value), result := .placed
        target := some i.geometry.zMax } := by
  simp [PlaceInput.rowStages, h, hr]

/-- A map that is not empty has a first and a last row. -/
theorem FurnaceMap.exists_first_last {m : FurnaceMap} (h : m.rows ≠ []) :
    ∃ first last, m.rows.head? = some first ∧ m.last = some last :=
  ⟨_, _, List.head?_eq_some_head h, List.getLast?_eq_some_getLast h⟩

/-- R39: a map of 64 rows gives MAP_FULL. -/
theorem PlaceInput.rowStages_fullMap (h : fMinOf i.geometry o.width.value ≤ i.geometry.zMax)
    (hr : 64 ≤ i.map.rows.length) :
    i.rowStages o cls p =
      { p with fMin := some (fMinOf i.geometry o.width.value), result := .mapFull } := by
  obtain ⟨first, last, hfirst, hlast⟩ :=
    FurnaceMap.exists_first_last (m := i.map) (List.ne_nil_of_length_pos (by omega))
  simp [PlaceInput.rowStages, h, hfirst, hlast, hr]

/-- R39, R40: behind the last row of a map that is not full, stages 8 to 10 decide. -/
theorem PlaceInput.rowStages_behindRow {first last : Row}
    (h : fMinOf i.geometry o.width.value ≤ i.geometry.zMax) (hfirst : i.map.rows.head? = some first)
    (hlast : i.map.last = some last) (hr : i.map.rows.length < 64) :
    i.rowStages o cls p =
      i.roomStages o cls (fMinOf i.geometry o.width.value) first.front last
        { p with fMin := some (fMinOf i.geometry o.width.value) } := by
  simp [PlaceInput.rowStages, h.not_gt, hfirst, hlast, hr.not_ge]

/-- R38, R43: whichever stage ends the computation, the record carries the least front edge. -/
theorem PlaceInput.rowStages_fMin :
    (i.rowStages o cls p).fMin = some (fMinOf i.geometry o.width.value) := by
  rcases lt_or_ge i.geometry.zMax (fMinOf i.geometry o.width.value) with hz | hz
  · rw [rowStages_noFit hz]
  · by_cases hrows : i.map.rows = []
    · rw [rowStages_emptyMap hz hrows]
    · rcases lt_or_ge i.map.rows.length 64 with hlen | hlen
      · obtain ⟨first, last, hfirst, hlast⟩ := FurnaceMap.exists_first_last hrows
        rw [rowStages_behindRow hz hfirst hlast hlen, roomStages_fMin]
      · rw [rowStages_fullMap hz hlen]

end

/-- Settles O35: such a computation is that of stages 5 to 10, whose first three end it by the zone, the empty
map and the full map. -/
theorem fitEmptyAndFullMap : Obligations.FitEmptyAndFullMap := by
  intro i o ho hp
  rw [PlaceInput.compute_of_not_passed ho hp]
  refine ⟨PlaceInput.rowStages_fMin, fun hz => ?noFit, fun hz hrows => ?emptyMap, fun hz hlen => ?fullMap⟩
  case noFit => rw [PlaceInput.rowStages_noFit hz]
  case emptyMap =>
    rw [PlaceInput.rowStages_emptyMap hz hrows]
    exact ⟨rfl, rfl⟩
  case fullMap => rw [PlaceInput.rowStages_fullMap hz hlen.ge]

end Sys2Proof.Machine
end

section
/-! Proof of the statement on RELEASE_CHARGER. First what an entry into IDLE does to the sequencer and
what it keeps, and what the rule of RELEASE_CHARGER answers; then the statement. -/

namespace Sys2Proof.Machine

/-! ### The entry into IDLE (R49, R57) -/

/-- R49, R57: the sequencer that enters IDLE. -/
theorem enterIdle_idleFrom (k : Furnace) (s : State) :
    IdleFrom (s.seqs.get k) ((enterIdle k s).seqs.get k) := by
  obtain ⟨d, w, -, he⟩ := enterIdle_eq k s
  simp [he, IdleFrom]

/-- R57: a start evaluation is due at an entry into IDLE. -/
theorem enterIdle_start_due (k : Furnace) (s : State) : (enterIdle k s).due.start.get k = true := by
  obtain ⟨d, w, hd, he⟩ := enterIdle_eq k s
  simpa [he] using hd

/-- R49: an entry into IDLE is that of one sequencer alone. -/
theorem enterIdle_seqs_other (k : Furnace) (s : State) :
    (enterIdle k s).seqs.get (otherFurnace k) = s.seqs.get (otherFurnace k) := by
  obtain ⟨d, w, -, he⟩ := enterIdle_eq k s
  simp [he]

/-- R49: an entry into IDLE sends nothing. -/
theorem enterIdle_links (k : Furnace) (s : State) : (enterIdle k s).links = s.links := by
  obtain ⟨d, w, -, he⟩ := enterIdle_eq k s
  rw [he]

/-- R49: an entry into IDLE leaves the tables, the lists and the counters as they are. -/
theorem enterIdle_keepsAccounts (k : Furnace) (s : State) : KeepsAccounts s (enterIdle k s) := by
  obtain ⟨d, w, -, he⟩ := enterIdle_eq k s
  simp [he, KeepsAccounts]

/-! ### RELEASE_CHARGER (R74) -/

/-- R74: the meaning of RELEASE_CHARGER. -/
theorem exec_releaseCharger (h : Hdr) (sel : Code Furnace) (s : State) :
    exec (.releaseCharger h sel) s =
      powered (manage (.releaseCharger h sel) Kind.command h (takeCommand h (ownRelease sel))) s := rfl

section
variable {k : Furnace} {s : State}

/-- R74: a HELD sequencer with no slab in flight is released. -/
theorem ownRelease_idle (hq : (s.seqs.get k).state = .held) (hn : (s.seqs.get k).inflight = none) :
    ownRelease (.val k) s = .ok (.none, enterIdle k) := by
  simp [ownRelease, forSelected, State.seq, hq, hn]

/-- R74: a HELD sequencer with a slab in flight is not released. -/
theorem ownRelease_busy (hq : (s.seqs.get k).state = .held) (hi : (s.seqs.get k).inflight.isSome = true) :
    ownRelease (.val k) s = .error (.busy, .none) := by
  simp [ownRelease, forSelected, State.seq, hq, hi, refuse]

/-- R74: outside HELD the state is answered and stays. -/
theorem ownRelease_state (hq : (s.seqs.get k).state ≠ .held) :
    ownRelease (.val k) s = .ok (.sequencerState (s.seqs.get k).state, fun s => s) := by
  simp [ownRelease, forSelected, State.seq, hq]

end

/-- Settles O28: the rule of the command enters IDLE, refuses or answers the state, by the state of the sequencer
and its in-flight record; the entry into IDLE is made behind the RESPONSE, which changes the links alone. -/
theorem releaseCharger : Obligations.ReleaseCharger := by
  intro h k s hm hf
  rw [exec_releaseCharger]
  refine ⟨fun hq hn => ?released, fun hq hi => ?busy, fun hq => ?notHeld⟩
  case released =>
    have idle := enterIdle_idleFrom k (respond h Kind.command .ok none .none s)
    have other := enterIdle_seqs_other k (respond h Kind.command .ok none .none s)
    have accounts := enterIdle_keepsAccounts k (respond h Kind.command .ok none .none s)
    simp only [respond_seqs] at idle other
    exact ⟨_, command_taken hm hf (ownRelease_idle hq hn), idle, enterIdle_start_due .., other,
      enterIdle_links .., by simpa [KeepsAccounts] using accounts⟩
  case busy => exact command_refused hm hf (ownRelease_busy hq hi)
  case notHeld => exact command_taken hm hf (ownRelease_state hq)

end Sys2Proof.Machine
end

section
/-! Proof of the statement on the move limits. First when two spans of the table share a point, which turns
the comparisons of bounds in the model into the points of R96; then what the limits ask of one record, and
the statement. -/

namespace Sys2Proof.Machine

/-! ### Spans that share a point (R87, R96) -/

/-- R96: two spans share a point exactly when neither lies wholly beyond the other. The more downstream of
the two lower bounds is such a point. -/
theorem spans_share_point_iff {a b u v : Int} (hab : a ≤ b) (huv : u ≤ v) :
    (∃ x, a ≤ x ∧ x ≤ b ∧ u ≤ x ∧ x ≤ v) ↔ a ≤ v ∧ u ≤ b := by
  constructor
  · rintro ⟨x, hax, hxb, hux, hxv⟩
    exact ⟨hax.trans hxv, hux.trans hxb⟩
  · rintro ⟨hav, hub⟩
    exact ⟨max a u, le_max_left a u, max_le hab hub, le_max_right a u, max_le hav huv⟩

namespace TableRecord

section
variable {g : TableGeometry} {r : TableRecord} (travel d : Int)

/-- R82: the tail of a record whose length is not negative lies no further downstream than its head. -/
theorem tail_le_head (hr : 0 ≤ r.assumed) : r.tail travel ≤ r.head travel :=
  sub_le_self _ hr

/-- R96: the span that a move sweeps runs from its lower bound to its upper bound. -/
theorem swept_tail_le_head (hr : 0 ≤ r.assumed) :
    r.tail travel + min 0 d ≤ r.head travel + max 0 d :=
  add_le_add (tail_le_head travel hr) ((min_le_left 0 d).trans (le_max_left 0 d))

/-- R87: a record lies on the grid zone exactly when its span shares a point with it. -/
theorem onZone_iff_shares_point (hg : g.xGS ≤ g.xGE) (hr : 0 ≤ r.assumed) :
    r.onZone g travel = true ↔
      ∃ x, r.tail travel ≤ x ∧ x ≤ r.head travel ∧ g.xGS ≤ x ∧ x ≤ g.xGE := by
  rw [spans_share_point_iff (tail_le_head travel hr) hg]
  simp [onZone]

/-- R96, condition 3: the swept span shares no point with the grid zone exactly when it ends upstream of the
zone or starts downstream of it. -/
theorem swept_avoids_zone_iff (hg : g.xGS ≤ g.xGE) (hr : 0 ≤ r.assumed) :
    (¬ ∃ x, r.tail travel + min 0 d ≤ x ∧ x ≤ r.head travel + max 0 d ∧ g.xGS ≤ x ∧ x ≤ g.xGE) ↔
      r.head travel + max 0 d < g.xGS ∨ g.xGE < r.tail travel + min 0 d := by
  rw [spans_share_point_iff (swept_tail_le_head travel d hr) hg, not_and_or, not_le, not_le, or_comm]

/-! ### The limits of one record (R96) -/

/-- R96: the three limits of one record, the third with the swept span beside the zone. -/
theorem withinLimits_iff (gp : Bool) :
    r.withinLimits g travel gp d = true ↔
      r.head travel + d ≤ g.xTE ∧ g.xTS ≤ r.tail travel + d
        ∧ (gp = true → ¬ r.onZone g travel = true →
          r.head travel + max 0 d < g.xGS ∨ g.xGE < r.tail travel + min 0 d) := by
  cases gp <;> cases hz : r.onZone g travel <;> simp [withinLimits, hz, and_assoc]

/-- R96: the three limits of one record, the third by the points of the grid zone. -/
theorem withinLimits_iff_points (gp : Bool) (hg : g.xGS ≤ g.xGE) (hr : 0 ≤ r.assumed) :
    r.withinLimits g travel gp d = true ↔
      r.head travel + d ≤ g.xTE ∧ g.xTS ≤ r.tail travel + d
        ∧ (gp = true →
          (¬ ∃ x, r.tail travel ≤ x ∧ x ≤ r.head travel ∧ g.xGS ≤ x ∧ x ≤ g.xGE) →
          ¬ ∃ x, r.tail travel + min 0 d ≤ x ∧ x ≤ r.head travel + max 0 d ∧ g.xGS ≤ x
            ∧ x ≤ g.xGE) := by
  rw [withinLimits_iff, onZone_iff_shares_point travel hg hr, swept_avoids_zone_iff travel d hg hr]

end

end TableRecord

/-- R96: a move passes the move limits when every record of the list meets them. -/
theorem State.limitsPass_iff (s : State) (g : TableGeometry) (d : Int) :
    s.limitsPass g d = true ↔
      ∀ r ∈ s.tracker.table, r.withinLimits g s.travel s.sensors.gp.taken d = true :=
  List.all_eq_true

/-- Settles O38: record by record, the model's comparisons of bounds are R96's conditions on points, for the
spans of the record, of its sweep and of the zone are none of them empty. -/
theorem moveLimits : Obligations.MoveLimits := by
  intro s g d hg hlen
  rw [State.limitsPass_iff]
  exact forall₂_congr fun r hr => r.withinLimits_iff_points s.travel d s.sensors.gp.taken hg (hlen r hr)

end Sys2Proof.Machine
end

section
/-! Proof of the statement on the destination of a match. First what the model resolves an entry's destination
to under each arming, then that the changes of an entry's state keep the destinations of the schedule, and the
statement. -/

namespace Sys2Proof.Machine

/-! ### The destination resolved (R119) -/

section
variable {s : State}

/-- R119: EITHER with both furnaces armed. -/
theorem resolveDest_either_both (h1 : s.armed .f1 = true) (h2 : s.armed .f2 = true) :
    resolveDest s .either =
      if s.maps.f2.rows.length < s.maps.f1.rows.length then .f2 else .f1 := by
  simp only [resolveDest, h1, h2]

/-- R119: EITHER with F2 not armed is F1, whether F1 is armed or not. -/
theorem resolveDest_either_f2_offline (h2 : s.armed .f2 = false) : resolveDest s .either = .f1 := by
  cases h1 : s.armed .f1 <;> simp only [resolveDest, h1, h2]

/-- R119: EITHER with F2 alone armed. -/
theorem resolveDest_either_f2_only (h1 : s.armed .f1 = false) (h2 : s.armed .f2 = true) :
    resolveDest s .either = .f2 := by
  simp only [resolveDest, h1, h2]

/-- R118, R119: the match writes the destination resolved from the PLANNED entry into the record. -/
theorem matchRecord_dest {r : TableRecord} {e : ScheduleEntry}
    (h : plannedEntry r.id s.schedule = some e) :
    (matchRecord s r).dest = some (resolveDest s e.dest) := by
  simp only [matchRecord, h]

end

/-! ### The destinations of the entries -/

/-- R112: a change of an entry's state keeps every entry's destination. -/
theorem setEntryState_dests (seq : Nat) (st : EntryState) (l : List ScheduleEntry) :
    (setEntryState seq st l).map (·.dest) = l.map (·.dest) := by
  rw [setEntryState, List.map_map]
  refine List.map_congr_left fun e _ => ?_
  by_cases he : e.seq = seq <;> simp [he]

/-- R119: the match keeps every entry's destination. -/
theorem matchSchedule_dests (r : TableRecord) (l : List ScheduleEntry) :
    (matchSchedule r l).map (·.dest) = l.map (·.dest) := by
  cases h : plannedEntry r.id l with
  | none => simp only [matchSchedule, h]
  | some e => simp only [matchSchedule, h, setEntryState_dests]

/-- R119: the return of an entry to PLANNED keeps every entry's destination. -/
theorem revertLink_dests (link : Option Nat) (s : State) :
    (revertLink link s).schedule.map (·.dest) = s.schedule.map (·.dest) := by
  cases link with
  | none => rfl
  | some q => exact setEntryState_dests q .planned s.schedule

/-- Settles O43: the record's destination is the one resolved from its entry, which R119 tells apart by the
arming and, with both furnaces armed, by the row counts; no change of an entry's state touches its destination. -/
theorem destinationResolved : Obligations.DestinationResolved := by
  intro s r e hfind armed1 armed2 dest
  have hdest : dest = some (resolveDest s e.dest) := matchRecord_dest hfind
  have on1 : armed1 → s.armed .f1 = true := (armed_true s .f1).2
  have on2 : armed2 → s.armed .f2 = true := (armed_true s .f2).2
  have off1 (h : ¬ armed1) : s.armed .f1 = false := (armed_false s .f1).2 (not_not.1 h)
  have off2 (h : ¬ armed2) : s.armed .f2 = false := (armed_false s .f2).2 (not_not.1 h)
  rw [hdest]
  refine ⟨fun k hk => ?named, fun he a1 a2 hlt => ?fewerF1, fun he a1 a2 hlt => ?fewerF2,
    fun he a1 a2 heq => ?equal, fun he _ a2 => ?f1Only, fun he a1 a2 => ?f2Only, fun he _ a2 => ?neither,
    matchSchedule_dests r s.schedule, fun link => revertLink_dests link s⟩
  case named => rw [hk, resolveDest]
  case fewerF1 => rw [he, resolveDest_either_both (on1 a1) (on2 a2), if_neg hlt.not_gt]
  case fewerF2 => rw [he, resolveDest_either_both (on1 a1) (on2 a2), if_pos hlt]
  case equal => rw [he, resolveDest_either_both (on1 a1) (on2 a2), if_neg heq.le.not_gt]
  case f1Only => rw [he, resolveDest_either_f2_offline (off2 a2)]
  case f2Only => rw [he, resolveDest_either_f2_only (off1 a1) (on2 a2)]
  case neither => rw [he, resolveDest_either_f2_offline (off2 a2)]

end Sys2Proof.Machine
end

section
/-! Proof of the statement on encoder steps. First what the blocks' operations and the examination of the table
list leave of the accounts beside them, then what one encoder step does to its counter and what it keeps, what a
marker edge, a cold start and RESET_ALL leave of the raw count and the last direction; then the statement. -/

namespace Sys2Proof.Machine

/-! ### What the blocks keep -/

/-- What neither an encoder step nor a block changes: maps, schedule, tables, sensor inputs, management items and
mode. -/
structure KeepsRecords (s t : State) : Prop where
  maps : t.maps = s.maps
  schedule : t.schedule = s.schedule
  cfg : t.cfg = s.cfg
  sensors : t.sensors = s.sensors
  mgmt : t.mgmt = s.mgmt
  mode : t.ret.mode = s.ret.mode

theorem KeepsRecords.refl (s : State) : KeepsRecords s s := ⟨rfl, rfl, rfl, rfl, rfl, rfl⟩

theorem KeepsRecords.trans {s t u : State} (h : KeepsRecords s t) (k : KeepsRecords t u) : KeepsRecords s u :=
  ⟨k.maps.trans h.maps, k.schedule.trans h.schedule, k.cfg.trans h.cfg, k.sensors.trans h.sensors,
    k.mgmt.trans h.mgmt, k.mode.trans h.mode⟩

/-- The blocks keep the counters besides. -/
structure KeepsCounters (s t : State) : Prop extends KeepsRecords s t where
  counters : t.counters = s.counters

/-- No elementary update of the blocks touches the counters or those records. -/
theorem keepsCounters_blockClosed : BlockClosed KeepsCounters where
  refl s := ⟨.refl s, rfl⟩
  trans h k := ⟨h.toKeepsRecords.trans k.toKeepsRecords, k.counters.trans h.counters⟩
  sendOwn _ _ _ _ _ := ⟨⟨by simp, by simp, by simp, by simp, by simp, by simp⟩, by simp⟩
  holdEvent _ _ := ⟨⟨by simp, by simp, by simp, by simp, by simp, by simp⟩, by simp⟩
  setGrid _ _ := ⟨⟨rfl, rfl, rfl, rfl, rfl, rfl⟩, rfl⟩
  setTracker _ _ := ⟨⟨rfl, rfl, rfl, rfl, rfl, rfl⟩, rfl⟩
  setArb _ _ := ⟨⟨rfl, rfl, rfl, rfl, rfl, rfl⟩, rfl⟩
  setSeqs _ _ := ⟨⟨rfl, rfl, rfl, rfl, rfl, rfl⟩, rfl⟩
  setPlace _ _ := ⟨⟨rfl, rfl, rfl, rfl, rfl, rfl⟩, rfl⟩
  setWindows _ _ := ⟨⟨rfl, rfl, rfl, rfl, rfl, rfl⟩, rfl⟩
  setDue _ _ := ⟨⟨rfl, rfl, rfl, rfl, rfl, rfl⟩, rfl⟩

/-- Serving the occasions of an event does not count. -/
theorem finish_keepsCounters (s : State) : KeepsCounters s (finish s) := keepsCounters_blockClosed.finish s

/-- Nor does the evaluation of the grid watch. -/
theorem evalPresence_counters (s : State) : (evalPresence s).counters = s.counters :=
  (keepsCounters_blockClosed.evalPresence s).counters

/-! ### A change of table travel (R87, R92) -/

namespace BlockClosed

variable {R : State → State → Prop} (c : BlockClosed R)
include c

theorem examine (g : TableGeometry) (tag : Nat) (i : SensorId) (s : State) :
    R s (Machine.examine g tag i s) := by
  unfold Machine.examine
  split
  · exact c.refl s
  · split
    · exact c.trans (c.trans (c.updateRecord ..) (c.raise ..)) (c.trackerHold ..)
    · exact c.refl s

theorem examineRecord (g : TableGeometry) (tag : Nat) (s : State) :
    R s (Machine.examineRecord g tag s) :=
  c.trans (c.trans (c.examine ..) (c.examine ..)) (c.examine ..)

theorem examineRecords (g : TableGeometry) (tags : List Nat) (s : State) :
    R s (tags.foldl (fun s t => Machine.examineRecord g t s) s) := by
  induction tags generalizing s with
  | nil => exact c.refl s
  | cons tag tags ih => exact c.trans (c.examineRecord g tag s) (ih _)

theorem examineAll (s : State) : R s (Machine.examineAll s) := by
  unfold Machine.examineAll
  split
  · exact c.refl s
  · exact c.examineRecords ..

theorem travelChanged (old : Int) (s : State) : R s (Machine.travelChanged old s) := by
  have watched : R s (Machine.markGrid (Machine.evalPresence s)) :=
    c.trans (c.evalPresence s) (c.markGrid _)
  unfold Machine.travelChanged
  dsimp only
  split
  · exact c.trans watched (c.examineAll _)
  · exact watched

end BlockClosed

/-! ### The counter after a step (R136, R137) -/

/-- R137: a transition is illegal when both phases change. -/
theorem illegalStep_iff (old new : Bool × Bool) :
    illegalStep old new = true ↔ old.1 ≠ new.1 ∧ old.2 ≠ new.2 := by
  simp [illegalStep]

/-- R136: the four steps of the forward sequence. -/
theorem stepForward_iff : ∀ old new : Bool × Bool, stepForward old new = true ↔
    (old, new) ∈ [((false, false), (true, false)), ((true, false), (true, true)),
      ((true, true), (false, true)), ((false, true), (false, false))] := by
  decide

section
variable {x : Counter} {setup : CounterSetup} {new : Bool × Bool}

/-- R136: a valid step that the multiplier does not count. -/
theorem Counter.validStep_uncounted (h : ¬ stepCounted x.phase new setup.multiplier = true) :
    x.validStep setup new = { x with phase := new } := if_neg h

/-- R136, R139: a counted increment, in the direction of the step with the setup's inversion. -/
theorem Counter.validStep_counted (h : stepCounted x.phase new setup.multiplier = true) :
    x.validStep setup new =
      { x.increment setup.scale (stepForward x.phase new != setup.invert) with phase := new } := if_pos h

/-- R139: a counted increment forward. -/
theorem Counter.validStep_forward (h : stepCounted x.phase new setup.multiplier = true)
    (hd : (stepForward x.phase new != setup.invert) = true) :
    x.validStep setup new = { x with
      phase := new, acc := x.acc + setup.scale, raw := x.raw + 1, lastDir := some .forward } := by
  rw [validStep_counted h, hd]; rfl

/-- R139: a counted increment in reverse. -/
theorem Counter.validStep_reverse (h : stepCounted x.phase new setup.multiplier = true)
    (hd : ¬ (stepForward x.phase new != setup.invert) = true) :
    x.validStep setup new = { x with
      phase := new, acc := x.acc - setup.scale, raw := x.raw - 1, lastDir := some .reverse } := by
  rw [validStep_counted h, Bool.eq_false_of_not_eq_true hd]; rfl

end

/-! ### The step of counter c (R136, R137) -/

section
variable {c : CounterId} {new : Bool × Bool} {s : State}

/-- R136: phases that show the pair they showed before. -/
theorem takeStep_same (h : (s.counters.get c).phase = new) : takeStep c new s = s := if_pos h

/-- R137: an illegal transition. -/
theorem takeStep_illegal (h : (s.counters.get c).phase.1 ≠ new.1 ∧ (s.counters.get c).phase.2 ≠ new.2) :
    takeStep c new s = illegalTransition c new s := by
  have changed : (s.counters.get c).phase ≠ new := fun e => h.1 (congrArg Prod.fst e)
  rw [takeStep, State.counter, if_neg changed, if_pos ((illegalStep_iff _ _).2 h)]

/-- R136: a valid step. -/
theorem takeStep_valid (hne : (s.counters.get c).phase ≠ new)
    (h : ¬ ((s.counters.get c).phase.1 ≠ new.1 ∧ (s.counters.get c).phase.2 ≠ new.2)) :
    takeStep c new s =
      s.setCounter c ((s.counters.get c).validStep (s.cfg.counterSetup.get c) new) := by
  rw [takeStep, State.counter, if_neg hne, if_neg (mt (illegalStep_iff _ _).1 h)]

/-- R137: the first illegal transition raises HOLD_SET. -/
theorem illegalTransition_first (h : (s.counters.get c).encoderError = false) :
    illegalTransition c new s = raise (.holdSet (.encoderError c (s.counters.get c).phase new))
      (s.setCounter c { s.counters.get c with phase := new, encoderError := true }) := by
  simp [illegalTransition, State.counter, h]

/-- R137: one while ENCODER_ERROR stands sends nothing. -/
theorem illegalTransition_again (h : (s.counters.get c).encoderError = true) :
    illegalTransition c new s =
      s.setCounter c { s.counters.get c with phase := new, encoderError := true } := by
  simp [illegalTransition, State.counter, h]

/-- R137: an illegal transition sets ENCODER_ERROR, with the hold clear or set before. -/
theorem illegalTransition_counters : (illegalTransition c new s).counters =
    s.counters.set c { s.counters.get c with phase := new, encoderError := true } := by
  cases h : (s.counters.get c).encoderError with
  | false => simp [illegalTransition_first h]
  | true => simp [illegalTransition_again h]

theorem illegalTransition_keepsRecords : KeepsRecords s (illegalTransition c new s) := by
  cases h : (s.counters.get c).encoderError with
  | false => rw [illegalTransition_first h]; constructor <;> simp
  | true => rw [illegalTransition_again h]; constructor <;> rfl

/-- R137: an illegal transition does not move the table. -/
theorem illegalTransition_travel : (illegalTransition c new s).travel = s.travel := by
  unfold State.travel
  rw [illegalTransition_counters]
  cases c <;> rfl

/-- A step of counter c leaves the other counters. -/
theorem takeStep_get_of_ne {d : CounterId} (hd : d ≠ c) :
    (takeStep c new s).counters.get d = s.counters.get d := by
  unfold takeStep
  split
  · rfl
  · split
    · rw [illegalTransition_counters, PerCounter.get_set_of_ne _ hd]
    · exact PerCounter.get_set_of_ne _ hd _

theorem takeStep_keepsRecords : KeepsRecords s (takeStep c new s) := by
  unfold takeStep
  split
  · exact .refl s
  · split
    · exact illegalTransition_keepsRecords
    · constructor <;> rfl

/-! ### ENCODER_STEP -/

/-- R138: a step that leaves the table travel brings about nothing more. -/
theorem encoderStep_of_travel (h : (takeStep c new s).travel = s.travel) :
    encoderStep c new s = takeStep c new s := if_pos h

/-- R87, R92: a change of table travel does not count. -/
theorem encoderStep_keepsCounters : KeepsCounters (takeStep c new s) (encoderStep c new s) := by
  unfold encoderStep
  dsimp only
  split
  · exact keepsCounters_blockClosed.refl _
  · exact keepsCounters_blockClosed.travelChanged ..

/-- R136: phases that show the pair they showed before bring about nothing. -/
theorem encoderStep_same (h : (s.counters.get c).phase = new) : encoderStep c new s = s := by
  have unchanged := takeStep_same h
  rw [encoderStep_of_travel (by rw [unchanged]), unchanged]

/-- R137: an illegal transition brings about nothing more. -/
theorem encoderStep_illegal (h : (s.counters.get c).phase.1 ≠ new.1 ∧ (s.counters.get c).phase.2 ≠ new.2) :
    encoderStep c new s = illegalTransition c new s := by
  have transition := takeStep_illegal h
  rw [encoderStep_of_travel (by rw [transition, illegalTransition_travel]), transition]

/-- R136: the counters after ENCODER_STEP are those of the step. -/
theorem finish_encoderStep_counters :
    (finish (encoderStep c new s)).counters = (takeStep c new s).counters :=
  (keepsCounters_blockClosed.trans encoderStep_keepsCounters (finish_keepsCounters _)).counters

/-- R136: the counter after a valid step. -/
theorem finish_encoderStep_valid (hne : (s.counters.get c).phase ≠ new)
    (h : ¬ ((s.counters.get c).phase.1 ≠ new.1 ∧ (s.counters.get c).phase.2 ≠ new.2)) :
    (finish (encoderStep c new s)).counters.get c =
      (s.counters.get c).validStep (s.cfg.counterSetup.get c) new := by
  rw [finish_encoderStep_counters, takeStep_valid hne h, State.setCounter_counters,
    PerCounter.get_set_self]

theorem finish_encoderStep_keepsRecords : KeepsRecords s (finish (encoderStep c new s)) :=
  takeStep_keepsRecords.trans
    (keepsCounters_blockClosed.trans encoderStep_keepsCounters (finish_keepsCounters _)).toKeepsRecords

end

/-- R136: the meaning of ENCODER_STEP. -/
theorem exec_encoderStep (c : CounterId) (a b : Bool) (s : State) :
    exec (.encoderStep c a b) s = powered (fun s => finish (encoderStep c (a, b) s)) s := rfl

/-! ### The raw count and the last direction elsewhere (R139) -/

/-- R139: the raw count and the last direction have not changed. -/
def SameCount (x y : Counter) : Prop := y.raw = x.raw ∧ y.lastDir = x.lastDir

theorem SameCount.refl (x : Counter) : SameCount x x := ⟨rfl, rfl⟩

/-- A counter put in the place of one with the same count leaves the count of every counter. -/
theorem setCounter_sameCount {s : State} {c : CounterId} {y : Counter} (h : SameCount (s.counter c) y)
    (d : CounterId) : SameCount (s.counters.get d) ((s.setCounter c y).counters.get d) := by
  rw [State.setCounter_counters]
  by_cases hd : d = c
  · subst hd
    rwa [PerCounter.get_set_self]
  · rw [PerCounter.get_set_of_ne _ hd]
    exact .refl _

/-- R140, R141: a qualifying edge loads the home position, which is no increment. -/
theorem homeFirst_sameCount (c d : CounterId) (k : Furnace) (setup : CounterSetup) (s : State) :
    SameCount (s.counters.get d) ((homeFirst c k setup s).counters.get d) := by
  rw [homeFirst, markStart_counters]
  exact setCounter_sameCount (by exact ⟨rfl, rfl⟩) d

theorem homeAgain_sameCount (c d : CounterId) (setup : CounterSetup) (s : State) :
    SameCount (s.counters.get d) ((homeAgain c setup s).counters.get d) := by
  unfold homeAgain
  dsimp only
  split
  · rw [raise_counters]
    exact setCounter_sameCount (by exact ⟨rfl, rfl⟩) d
  · exact setCounter_sameCount (by exact ⟨rfl, rfl⟩) d

theorem takeMarker_sameCount (c d : CounterId) (rising : Bool) (s : State) :
    SameCount (s.counters.get d) ((takeMarker c rising s).counters.get d) := by
  unfold takeMarker
  split
  · exact .refl _
  · dsimp only
    split
    · exact .refl _
    · split
      · exact homeAgain_sameCount ..
      · exact homeFirst_sameCount ..

/-- R140, R141: the meaning of MARKER_EDGE. -/
theorem exec_markerEdge (c : CounterId) (rising : Bool) (s : State) :
    exec (.markerEdge c rising) s = powered (fun s => finish (takeMarker c rising s)) s := rfl

/-- R139: MARKER_EDGE leaves the counts, in a part that is on and in one that has stopped. -/
theorem exec_markerEdge_sameCount {c d : CounterId} {rising : Bool} {s t : State}
    (h : exec (.markerEdge c rising) s = .next t) : SameCount (s.counters.get d) (t.counters.get d) := by
  rw [exec_markerEdge, powered_next] at h
  obtain rfl := Host.Outcome.next.inj h
  split
  · rw [(finish_keepsCounters _).counters]
    exact takeMarker_sameCount ..
  · exact .refl _

/-! ### Counters at their cold values (R151, R205, R206) -/

/-- R151, R206: every counter of the cold state is at its cold values. -/
theorem State.cold_get_counters (i : ColdInputs) (d : CounterId) :
    ∃ phase, (State.cold i).counters.get d = .cold phase := by
  cases d <;> exact ⟨_, rfl⟩

/-- R206: so is every counter after a cold start. -/
theorem coldStart_get_counters (i : ColdInputs) (d : CounterId) (s : State) :
    ∃ phase, (coldStart i s).counters.get d = .cold phase := by
  rw [coldStart, evalPresence_counters]
  exact State.cold_get_counters i d

/-- R205: the change of mode leaves the counters. -/
theorem runAgain_counters (s : State) : (runAgain s).counters = s.counters := by
  unfold runAgain changeMode
  split
  · rfl
  · exact raise_counters ..

/-- R151, R205: RESET_ALL leaves each counter at its cold values, with the pair its phases show. -/
theorem coldBlocks_get_counters (d : CounterId) (s : State) :
    (coldBlocks s).counters.get d = .cold (s.counters.get d).phase := by
  cases d <;> rfl

theorem resetAll_get_counters (d : CounterId) (s : State) :
    ∃ phase, (resetAll s).counters.get d = .cold phase := by
  rw [resetAll, evalPresence_counters, runAgain_counters]
  exact ⟨_, coldBlocks_get_counters d _⟩

/-- R204: RESET_ALL is taken while no charge is under way. -/
theorem ownResetAll_taken {s : State} (h1 : s.seqs.f1.state.chargeBusy = false)
    (h2 : s.seqs.f2.state.chargeBusy = false) : ownResetAll s = .ok (.none, resetAll) := by
  have free : resetRefused s = false := by simp [resetRefused, State.seq, PerFurnace.get, h1, h2]
  simp [ownResetAll, free]

/-- R205: the counters behind a RESET_ALL that is taken. -/
theorem exec_resetAll_get_counters {h : Hdr} {d : CounterId} {s t : State} (hm : Managed s h)
    (hf : formFits (.resetAll h) = true) (h1 : s.seqs.f1.state.chargeBusy = false)
    (h2 : s.seqs.f2.state.chargeBusy = false) (ht : exec (.resetAll h) s = .next t) :
    ∃ phase, t.counters.get d = .cold phase := by
  have taken : exec (.resetAll h) s =
      .next (finish (resetAll (respond h Kind.command .ok none .none s))) :=
    command_taken hm hf (ownResetAll_taken h1 h2)
  obtain rfl := Host.Outcome.next.inj (taken.symm.trans ht)
  rw [(finish_keepsCounters _).counters]
  exact resetAll_get_counters ..

/-- R151: a counter at its cold values has the raw count 0 and no last direction. -/
theorem Counter.cold_count {x : Counter} (h : ∃ phase, x = .cold phase) : x.raw = 0 ∧ x.lastDir = none := by
  obtain ⟨_, rfl⟩ := h
  exact ⟨rfl, rfl⟩

end Sys2Proof.Machine

namespace Sys2Proof

open Machine

/-- Settles O53: an encoder step changes its counter by the illegal transition or by the valid step, whose count
and direction the model tells as R136 does, and what follows a change of table travel counts nothing; a marker
edge loads the accumulator alone, and a cold counter has counted nothing. -/
theorem encoderStep : Obligations.EncoderStep := by
  refine ⟨?step, fun c d rising s t h => exec_markerEdge_sameCount h, fun i d s t h => ?coldStart,
    fun h d s t hm hf h1 h2 ht => Counter.cold_count (exec_resetAll_get_counters hm hf h1 h2 ht)⟩
  case coldStart =>
    obtain rfl := Host.Outcome.next.inj h
    exact Counter.cold_count (coldStart_get_counters i d s)
  case step =>
    intro c a b s hp x setup illegal valid counted rises forward
    have counts : stepCounted x.phase (a, b) setup.multiplier = true ↔ counted := by
      simp only [counted]
      cases setup.multiplier <;> simp [stepCounted]
    have goesForward : (stepForward x.phase (a, b) != setup.invert) = true ↔ forward := by
      simp only [forward, rises, ← stepForward_iff]
      cases setup.invert <;> simp
    have keeps : KeepsRecords s (finish (Machine.encoderStep c (a, b) s)) := finish_encoderStep_keepsRecords
    rw [exec_encoderStep, powered_on _ s hp]
    refine ⟨_, rfl, fun hs => ?same, fun hi => ?illegal,
      fun hi => ⟨fun hclear => ?first, fun hset => ?again⟩, fun hv hc => ?uncounted,
      fun hv hc hd => ?forward, fun hv hc hd => ?reverse, fun d hd => ?others,
      keeps.maps, keeps.schedule, keeps.cfg, keeps.sensors, keeps.mgmt, keeps.mode⟩
    case same => rw [encoderStep_same hs]
    case illegal =>
      rw [encoderStep_illegal hi, (finish_keepsCounters _).counters, illegalTransition_counters,
        PerCounter.get_set_self]
    case first => rw [encoderStep_illegal hi, illegalTransition_first hclear]; rfl
    case again => rw [encoderStep_illegal hi, illegalTransition_again hset]; rfl
    case uncounted =>
      rw [finish_encoderStep_valid hv.1 hv.2]
      exact Counter.validStep_uncounted (mt counts.1 hc)
    case forward =>
      rw [finish_encoderStep_valid hv.1 hv.2]
      exact Counter.validStep_forward (counts.2 hc) (goesForward.2 hd)
    case reverse =>
      rw [finish_encoderStep_valid hv.1 hv.2]
      exact Counter.validStep_reverse (counts.2 hc) (mt goesForward.1 hd)
    case others => rw [finish_encoderStep_counters, takeStep_get_of_ne hd]

end Sys2Proof
end

section
/-! What a command can do, said once for the statements on every step. Three closures name the updates that the
commands are made of, each with the condition under which the model makes it: sending and watching, the updates
outside an event, and the effects of an event. A relation that stands for these updates stands for every command. -/

namespace Sys2Proof.Machine

/-! ### Sending and watching -/

/-- A relation that sending, holding an event, forwarding, the management items, the pending measurement and the
presence flag stay within. -/
structure SendClosed (R : State → State → Prop) : Prop where
  refl : ∀ s, R s s
  trans : ∀ {a b c}, R a b → R b c → R a c
  sendOwn : ∀ p d r b s, R s (sendOwn p d r b s)
  holdEvent : ∀ e s, R s (holdEvent e s)
  forwardTo : ∀ p c s, R s (forwardTo p c s)
  setMgmt : ∀ s v, R s (State.setMgmt s v)
  setWatch : ∀ s m u, R s (State.setTracker s { s.tracker with measuring := m, unidentified := u })

namespace SendClosed

variable {R : State → State → Prop} (c : SendClosed R)
include c

theorem sendField (r : Role) (n : Nat) (b : OwnBody) (s : State) : R s (Machine.sendField r n b s) := by
  unfold Machine.sendField
  split
  · exact c.refl s
  · exact c.sendOwn ..

theorem raise (e : Event) (s : State) : R s (Machine.raise e s) := by
  unfold Machine.raise
  split
  · exact c.sendOwn ..
  · exact c.holdEvent ..
  · exact c.holdEvent ..

theorem raiseAll (es : List Event) (s : State) : R s (es.foldl (fun s e => Machine.raise e s) s) := by
  induction es generalizing s with
  | nil => exact c.refl s
  | cons e es ih => exact c.trans (c.raise e s) (ih _)

theorem answerCrane (x : Crane) (id : Option Identity) (n : Nat) (a : GridAnswer) (s : State) :
    R s (Machine.answerCrane x id n a s) := c.sendField ..

theorem respond (h : Hdr) (n : Nat) (x : RespCode) (i : Option Nat) (d : RespData) (s : State) :
    R s (Machine.respond h n x i d s) := c.sendOwn ..

theorem setLatch (r : Option LatchRecord) (s : State) : R s (Machine.setLatch r s) := c.setMgmt ..

theorem refuseAndLatch (h : Hdr) (n : Nat) (i : LatchItem) (x : RespCode) (y : Option Nat) (s : State) :
    R s (Machine.refuseAndLatch h n i x y s) := c.trans (c.respond ..) (c.setLatch ..)

theorem stray (h : Hdr) (n : Nat) (x : StrayReason) (s : State) : R s (Machine.stray h n x s) := c.raise ..

theorem block (h : Hdr) (n : Nat) (x : BlockReason) (s : State) : R s (Machine.block h n x s) := c.sendOwn ..

theorem putSupervision (v : Supervision) (s : State) : R s (Machine.putSupervision v s) := c.setMgmt ..

theorem evalPresenceAt (x : Int) (s : State) : R s (Machine.evalPresenceAt x s) := by
  unfold Machine.evalPresenceAt
  split
  · exact c.setWatch s s.tracker.measuring false
  · split
    · exact c.refl s
    · exact c.trans (c.setWatch s s.tracker.measuring true) (c.raise ..)

theorem evalPresence (s : State) : R s (Machine.evalPresence s) := c.evalPresenceAt ..

theorem sendHalt (x : HaltReason) (s : State) : R s (Machine.sendHalt x s) := by
  unfold Machine.sendHalt
  split
  · exact c.sendField ..
  · exact c.refl s

theorem sendChargerStop (k : Furnace) (x : StopReason) (s : State) :
    R s (Machine.sendChargerStop k x s) := c.sendField ..

theorem tableEnd (x : Int) (s : State) : R s (Machine.tableEnd x s) :=
  c.trans (c.raise ..) (c.sendHalt ..)

theorem answerRequests (a : GridAnswer) (l : List GridRequest) (s : State) :
    R s (l.foldl (fun t q => Machine.answerCrane q.crane (some q.id) q.reference a t) s) := by
  induction l generalizing s with
  | nil => exact c.refl s
  | cons q l ih => exact c.trans (c.answerCrane ..) (ih _)

theorem sendResetNotices (s : State) : R s (Machine.sendResetNotices s) := by
  have holder : R s (withdrawHolder s) := by
    unfold withdrawHolder
    split
    · exact c.refl s
    · exact c.answerCrane ..
  exact c.trans (c.trans holder (c.answerRequests ..)) (c.sendHalt ..)

theorem deliverHeld (s : State) : R s (Machine.deliverHeld s) := by
  unfold Machine.deliverHeld
  generalize s.ret.held = es
  induction es generalizing s with
  | nil => exact c.refl s
  | cons e es ih => exact c.trans (c.sendOwn ..) (ih _)

theorem takeStatusExpiry (s : State) : R s (Machine.takeStatusExpiry s) := c.trans (c.sendOwn ..) (c.setMgmt ..)

theorem takeSupervisionExpiry (n : Nat) (s : State) : R s (Machine.takeSupervisionExpiry n s) :=
  c.trans (c.putSupervision ..) (c.raise ..)

end SendClosed

/-! ### What sending leaves alone -/

/-- R183: sending an own telegram changes the links alone. -/
theorem sendOwn_eq_links (p : Port) (d r : Nat) (b : OwnBody) (s : State) :
    ∃ l, sendOwn p d r b s = { s with links := l } ∧ ∀ q, (l.port q).up = (s.links.port q).up := by
  unfold sendOwn
  split
  · exact ⟨s.links, rfl, fun _ => rfl⟩
  · refine ⟨_, rfl, fun q => ?_⟩
    by_cases h : q = p
    · subst h; simp
    · rw [Links.port_setPort_of_ne _ h]

/-- R187: a RESPONSE changes the links alone. -/
theorem respond_eq_links (h : Hdr) (n : Nat) (x : RespCode) (i : Option Nat) (d : RespData) (s : State) :
    ∃ l, respond h n x i d s = { s with links := l } ∧ ∀ q, (l.port q).up = (s.links.port q).up :=
  sendOwn_eq_links ..

/-! ### Updates outside an event -/

/-- R32, R53, R155 to R157, R178, R196: the loaded tables have their sizes. -/
def Tables.Shaped (a : Tables) : Prop :=
  a.gaps.f1.length = 8 ∧ a.gaps.f2.length = 8 ∧ a.timing.f1.length = 6 ∧ a.timing.f2.length = 6
    ∧ a.pool.length = 96 ∧ a.sets.f1.length = 32 ∧ a.sets.f2.length = 32
    ∧ a.lineSettings.f1.stops.length = 8 ∧ a.lineSettings.f2.stops.length = 8 ∧ a.passage.length = 32
    ∧ a.statusMap.length = 16

/-- The tables as a load leaves them: their sizes kept, and every geometry record that had values. -/
structure Tables.Reloaded (a b : Tables) : Prop where
  shaped : a.Shaped → b.Shaped
  geometry : ∀ k, (a.geometry.get k).isSome = true → (b.geometry.get k).isSome = true
  tableGeometry : a.tableGeometry.isSome = true → b.tableGeometry.isSome = true

/-- The tables that the levels of the lines depend on (R153 to R158) have not changed. -/
structure Tables.SameWindows (a b : Tables) : Prop where
  pool : b.pool = a.pool
  sets : b.sets = a.sets
  lineSettings : b.lineSettings = a.lineSettings

/-- A relation that the updates a command makes outside an event stay within. -/
structure OuterClosed (R : State → State → Prop) : Prop extends SendClosed R where
  clearAllHolds : ∀ s, R s (clearAllHolds s)
  linkDown : ∀ p s, R s (linkDown p s)
  linkUp : ∀ p s, R s (linkUp p s)
  frameSent : ∀ p s, R s (State.setLinks s (s.links.setPort p (s.links.port p).sent))
  setOverrun : ∀ p s, R s (setOverrun p s)
  clock : ∀ s, R s (State.setRet s { s.ret with clock := s.ret.clock + 1 })
  putBackup : ∀ b s, R s (putBackup b s)
  elapse : ∀ n s, R s (elapse n s)
  reload : ∀ s v, s.cfg.Reloaded v → s.cfg.SameWindows v → R s (State.setCfg s v)
  reloadWindows : ∀ s v, s.cfg.Reloaded v → R s (refreshLines (State.setCfg s v))
  counterSetup : ∀ c x s, (∀ k, furnaceOf c = some k → s.armed k = false) → R s (putCounterSetup c x s)
  powerOff : ∀ s, R s (powerOff s)
  cold : ∀ i s, R s { State.cold i with pending := s.pending }

/-! ### Effects of an event -/

/-- R6, R83, R86, R138: the slabs in the part's account, the table geometry and the table travel are the same. -/
structure SameAccount (s t : State) : Prop where
  tracker : t.tracker = s.tracker
  inflight : ∀ k, (t.seqs.get k).inflight = (s.seqs.get k).inflight
  maps : t.maps = s.maps
  tableGeometry : t.cfg.tableGeometry = s.cfg.tableGeometry
  travel : t.counters.t.acc = s.counters.t.acc

/-- A record that is changed only in its length, state, sensor flags or substituted flag. -/
structure TableRecord.SameSlab (r r' : TableRecord) : Prop where
  tag : r'.tag = r.tag
  id : r'.id = r.id
  anchor : r'.anchor = r.anchor
  width : r'.width = r.width
  nominals : r'.nominals = r.nominals
  dest : r'.dest = r.dest

/-- A relation that the map unit's work on a report or an edit stays within. `D` is what a created furnace slab record
may rely on; it speaks of no more than the account. -/
structure MapClosed (D : State → Prop) (E : State → State → Prop) : Prop extends SendClosed E where
  stableD : ∀ {s t}, SameAccount s t → D s → D t
  setPlace : ∀ s v, E s (State.setPlace s v)
  setDue : ∀ s v, E s (State.setDue s v)
  shiftMap : ∀ s k len rows, (rows = shiftRows len (s.map k).rows
      ∨ ∃ lEff, rows = flagOverruns lEff (shiftRows len (s.map k).rows)) →
    E s (State.setMap s k { s.map k with rows })
  removeSlab : ∀ s k l i, E s (State.setMap s k { s.map k with rows := removeAt l i (s.map k).rows })
  moveRow : ∀ s k i r front o, (s.map k).rows[i]? = some r → frontFits (s.map k).rows i front r.extent = true →
    E s (State.setMap s k { s.map k with rows := (s.map k).rows.set i (r.moved front o) })
  insertSlab : ∀ s k front id w len th g m clock o, D s → s.idHeld id = false →
    insertRangesOk front w len th g m = true → insertChecks front w (s.map k) = .ok () →
    E s (State.setMap (takeTag s.freshTag s) k { s.map k with
      rows := insertRows front o (insertedSlab s.freshTag id w len th g m clock) (s.map k).rows })
  removePlanned : ∀ id s, E s (removePlanned id s)

/-- A relation that the effects of an event stay within. `C` is what a created table record may rely on, `D` what
a corrected anchor and an accepted record may too; neither speaks of more than the account. -/
structure EventClosed (C D : State → Prop) (E : State → State → Prop) : Prop extends MapClosed D E where
  stableC : ∀ {s t}, SameAccount s t → C s → C t
  setWindows : ∀ s v, E s (State.setWindows s v)
  setCounters : ∀ s v, E s (State.setCounters s v)
  setSensors : ∀ s v, E s (State.setSensors s v)
  clearFlags : ∀ x s, E s (clearFlags x s)
  setQueue : ∀ s q n, E s (State.setGrid s { s.grid with queue := q, nextRank := n })
  overdue : ∀ s g, s.grid.grant = some g →
    E s (State.setGrid s { s.grid with grant := some { g with phase := .overdue } })
  grantMade : ∀ s g q, s.grid.grant = none → s.grantConditions.all = true →
    E s ((State.setArb s { s.arb with gridHold := some g.crane }).setGrid
      { s.grid with queue := q, grant := some g })
  grantEnded : ∀ s, E s ((State.setGrid s { s.grid with grant := none }).setArb
    { s.arb with gridHold := none })
  revertLink : ∀ l s, E s (revertLink l s)
  editSchedule : ∀ s held ops l, scheduleOps held 0 ops s.schedule = .ok l → E s (State.setSchedule s l)
  editRecord : ∀ s tag f, (∀ r, TableRecord.SameSlab r (f r)) → E s (updateRecord tag f s)
  moveHead : ∀ s i r x travel, D s → r ∈ s.tracker.table →
    neighboursAllow r.tag x travel none s.tracker.table = true →
    E s (updateRecord r.tag (fun y => { y.mark i with anchor := x - travel }) s)
  rejectSlab : ∀ s tag, s.positioned tag = false →
    E s (updateRecord tag (fun x => { x with state := .reject, dest := none }) s)
  acceptSlab : ∀ s r w len th g d, D s → s.findTag r.tag = some r → s.positioned r.tag = false →
    figuresInRange g w len th = true →
    E s (updateRecord r.tag (fun _ => r.accepted w len th g d) s)
  createRecord : ∀ s id w th m, C s → s.idHeld id = false → s.grid.grant = none →
    s.tracker.table.length < 8 → E s (createRecord id w th m s)
  acceptDeposit : ∀ s h id w th m c, C s → depositCheck c id s = none →
    E s (acceptDeposit h id w th m c s)
  deleteRecord : ∀ s r, s.positioned r.tag = false → E s (deleteRecord r s)
  takeRemoval : ∀ s id, E s (takeRemoval id s)
  showWaiting : ∀ k w s, E s (showWaiting k w s)
  beginCycle : ∀ s k r p, (s.seqs.get k).state = .idle → s.ret.mode = .run →
    (s.cfg.geometry.get k).isSome = true → (∃ r' ∈ s.tracker.table, r'.tag = r.tag ∧ r'.dest = some k) →
    E s (beginCycle k r p s)
  checkedRequest : ∀ s k q st, s.arb.requests.get k = some q → q.status ≠ .granted → st ≠ .granted →
    E s (putRequest k (some { q with status := st }) s)
  grantMove : ∀ s k q, s.arb.motion.moving = false → s.chargerHold = false → s.arb.gridHold = none →
    s.arb.requests.get k = some q → q.status = .waiting → E s (grantMove k s)
  becomeStill : ∀ s, E s (State.setArb s { s.arb with motion := .still })
  moveEnded : ∀ s k n, s.arb.motion = .positioning k n true → E s (moveEnded k s)
  moveFailed : ∀ s k n, s.arb.motion = .positioning k n true → E s (moveFailed k s)
  startManual : ∀ s, s.manualAllowed = true → E s (startManual s)
  enterHeld : ∀ s k x f, (s.seqs.get k).state ≠ .positioning ∧ (s.seqs.get k).state ≠ .offline →
    E s (enterHeld k x f s)
  timedOut : ∀ s k w x, ((s.seqs.get k).cycle.bind (·.timer)).map (·.which) = some w → w ≠ .positioning →
    E s (Machine.enterHeld k x none s)
  abandonHeld : ∀ s k x reason, (s.seqs.get k).state = .positioning
      ∨ ((s.seqs.get k).cycle.bind (·.timer)).map (·.which) = some .positioning →
    E s (Machine.enterHeld k x none (abandonMove k reason s))
  abandonIdle : ∀ s k reason, (s.seqs.get k).state = .positioning →
    E s (enterIdle k (abandonMove k reason s))
  toIdle : ∀ s k, (s.seqs.get k).state = .room ∨ (s.seqs.get k).state = .retract → E s (enterIdle k s)
  arm : ∀ s k, (s.seqs.get k).state = .offline → (s.cfg.geometry.get k).isSome = true →
    s.cfg.tableGeometry.isSome = true → E s (enterIdle k s)
  release : ∀ s k, (s.seqs.get k).state = .held → (s.seqs.get k).inflight = none → E s (enterIdle k s)
  disarm : ∀ s k, disarmRefused (s.seqs.get k) = false → E s (disarm k s)
  resolveLanded : ∀ s k f front, (s.seqs.get k).unresolved = some f →
    editRange front (resolutionWidth f (s.finalOperands k)) = true →
    insertChecks front (resolutionWidth f (s.finalOperands k)) (s.map k) = .ok () →
    E s (afterResolution k (resolutionInsert k f (s.finalOperands k) front s))
  resolveRemoved : ∀ s k, (s.seqs.get k).state = .held → E s (afterResolution k s)
  takeLifted : ∀ s k, (s.seqs.get k).state = .pick → E s (takeLifted k s)
  takeAtDepth : ∀ s k, (s.seqs.get k).state = .carry → E s (takeAtDepth k s)
  takeLowered : ∀ s k, (s.seqs.get k).state = .lower → E s (takeLowered k s)
  runFinal : ∀ s k, (s.seqs.get k).state = .room → E s (runFinal k s)
  countStroke : ∀ s k n, (s.seqs.get k).state = .room →
    E s (updateCycle k (fun c => { c with outstanding := n }) s)
  stopTimer : ∀ s k, E s (stopTimer k s)
  strokeTimer : ∀ s k, (s.seqs.get k).state = .room → E s (startTimer k .stroke s)
  enterRetain : ∀ s, s.ret.mode ≠ .retain → E s (enterRetain s)
  enterRestored : ∀ s, s.ret.mode = .retain → E s (enterRestored s)
  clearHeldList : ∀ s, E s (clearHeldList s)
  resumeMode : ∀ s, s.ret.mode = .restored → E s (putMode .run s)
  revertAll : ∀ s, E s (revertAll s)
  clearTracking : ∀ s, E s (clearTracking s)
  coldRun : ∀ s, (∃ p, (s.links.port p).up = true) → E s (putMode .run (coldBlocks s))

end Sys2Proof.Machine
end

section
/-! The map unit's work on a report (R12 to R19) and on a MAP_EDIT (R21 to R23) within the closures. -/

namespace Sys2Proof.Machine

/-! ### The same account -/

theorem SameAccount.links (s : State) (l : Links) : SameAccount s { s with links := l } :=
  ⟨rfl, fun _ => rfl, rfl, rfl, rfl⟩

theorem SameAccount.forwardTo (p : Port) (x : Instr) (s : State) : SameAccount s (forwardTo p x s) :=
  ⟨rfl, fun _ => rfl, rfl, rfl, rfl⟩

theorem SameAccount.elapse (n : Nat) (s : State) : SameAccount s (elapse n s) := by
  refine ⟨by simp, fun k => ?_, by simp, by simp, ?_⟩ <;> unfold Machine.elapse <;> split
  · rfl
  · cases k <;> rfl
  · rfl
  · rfl

theorem SameAccount.trans {s t u : State} (h : SameAccount s t) (k : SameAccount t u) : SameAccount s u :=
  ⟨k.tracker.trans h.tracker, fun j => (k.inflight j).trans (h.inflight j), k.maps.trans h.maps,
    k.tableGeometry.trans h.tableGeometry, k.travel.trans h.travel⟩

theorem SameAccount.setSensor (i : SensorId) (x : Sensor) (s : State) : SameAccount s (s.setSensor i x) :=
  ⟨rfl, fun _ => rfl, rfl, rfl, rfl⟩

/-! ### The map unit -/

/-- A map edit's fields that it requires are there. -/
theorem editGiven_ok {b : Bool} {next : EditResult} {y : RespData × (State → State)}
    (h : editGiven b next = .ok y) : next = .ok y := by
  unfold editGiven at h
  split at h
  · exact h
  · cases h

/-- R84: the search for a fresh tag asks only which tags are held. -/
theorem freshTagFrom_congr {s t : State} (h : s.tagHeld = t.tagHeld) (n x : Nat) :
    freshTagFrom s n x = freshTagFrom t n x := by
  induction n generalizing x with
  | zero => rfl
  | succ n ih => rw [freshTagFrom, freshTagFrom, h, ih]

/-- R84: a fresh tag does not depend on the links. -/
theorem State.freshTag_links (s : State) (l : Links) : State.freshTag { s with links := l } = s.freshTag := by
  unfold State.freshTag
  rw [freshTagFrom_congr (s := { s with links := l }) (t := s) rfl]

namespace MapClosed

variable {D : State → Prop} {E : State → State → Prop} (c : MapClosed D E)
include c

theorem markStart (k : Furnace) (s : State) : E s (Machine.markStart k s) := c.setDue ..

theorem markGrid (s : State) : E s (Machine.markGrid s) := c.setDue ..

theorem markEdit (k : Furnace) (s : State) : E s (Machine.markEdit k s) :=
  c.trans (c.markStart ..) (c.markGrid _)

theorem setHoldAlways (n : HoldName) (k : Furnace) (tag : Option Nat) (s : State) :
    E s (Machine.setHoldAlways n k tag s) := c.trans (c.setPlace ..) (c.raise ..)

theorem mapStroke (k : Furnace) (x : Int) (s : State) : E s (Machine.mapStroke k x s) := by
  have shift (len : Int) (t : State) : E t (Machine.strokeShift k len t) := by
    unfold Machine.strokeShift
    dsimp only
    split
    · exact c.refl t
    · split
      · exact c.shiftMap t k len _ (.inl rfl)
      · exact c.trans (c.shiftMap t k len _ (.inr ⟨_, rfl⟩)) (c.raiseAll ..)
  have clamp : E s (Machine.strokeClamp k x s) := by
    unfold Machine.strokeClamp
    split
    · exact c.refl s
    · exact c.raise ..
  have hold (t : State) : E t (Machine.strokeHold k t) := by
    unfold Machine.strokeHold
    split
    · exact c.setHoldAlways ..
    · exact c.refl t
  exact c.trans (c.trans (c.trans clamp (shift ..)) (c.setPlace ..)) (hold _)

theorem mapDischarge (k : Furnace) (n : Nat) (a b : Identity) (s : State) : E s (Machine.mapDischarge k n a b s) := by
  have one (first : List Identity) (id : Identity) (t : State) :
      E t (Machine.dischargeIdentity k first id t) := by
    have slab (p : Place) (u : State) : E u (Machine.dischargeSlab k p u) :=
      c.trans (c.removeSlab ..) (c.raise ..)
    unfold Machine.dischargeIdentity
    split
    · exact c.raise ..
    · split
      · exact slab ..
      · exact c.trans (c.raise ..) (slab ..)
  unfold Machine.mapDischarge
  dsimp only
  split
  · exact one ..
  · split
    · exact c.trans (one ..) (one ..)
    · exact c.raise ..

/-! ### Map edits (R21 to R23) -/

section
variable {s : State} {d : RespData} {f : State → State} (l : Links)

theorem ownDeleteSlab {tag : Nat} (h : ownDeleteSlab tag s = .ok (d, f)) :
    E { s with links := l } (f { s with links := l }) := by
  replace h := editGiven_ok h
  split at h
  · cases h
  · split at h
    · cases h
    · cases h
      exact c.trans (c.removeSlab ..) (c.markEdit ..)

theorem ownSetRowFront {sel : Code Furnace} {row : Nat} {front : Int}
    (h : ownSetRowFront sel row front s = .ok (d, f)) :
    E { s with links := l } (f { s with links := l }) := by
  replace h := editGiven_ok h
  split at h
  · cases h
  · split at h
    · cases h
    · split at h
      · cases h
      · rename_i k _ r hr
        split at h
        · cases h
        · split at h
          · cases h
          · split at h
            · cases h
            · rename_i hfit
              cases h
              unfold Machine.moveRow
              dsimp only
              have moved := c.trans (c.moveRow { s with links := l } k row r front
                (State.beyond { s with links := l } k front) hr
                (by rw [Bool.not_eq_true, Bool.not_eq_false'] at hfit; exact hfit)) (c.markEdit k _)
              split
              · exact c.trans moved (c.raise ..)
              · exact moved

theorem ownInsertSlab {sel : Code Furnace} {front : Int} {id : Identity} {w len th : Int} {g : Nat} {m : Int}
    (hD : D s) (h : ownInsertSlab sel front id w len th g m s = .ok (d, f)) :
    E { s with links := l } (f { s with links := l }) := by
  replace h := editGiven_ok h
  split at h
  · cases h
  · rename_i hr
    split at h
    · cases h
    · split at h
      · cases h
      · rename_i k
        split at h
        · cases h
        · split at h
          · cases h
          · split at h
            · cases h
            · rename_i hid
              split at h
              · cases h
              · rename_i hc
                cases h
                have inserted := c.insertSlab { s with links := l } k front id w len th g m s.ret.clock
                  (State.beyond { s with links := l } k front) (c.stableD (.links s l) hD)
                  (Bool.eq_false_of_not_eq_true hid) (by simpa using hr) hc
                have beyond (t : Nat) : State.beyond (takeTag t { s with links := l }) k front
                    = State.beyond { s with links := l } k front := rfl
                rw [State.freshTag_links] at inserted
                generalize s.freshTag = tag at inserted ⊢
                unfold Machine.insertSlab insertSlabRow
                dsimp only
                rw [beyond]
                split
                · exact c.trans (c.trans (c.trans inserted (c.raise ..)) (c.removePlanned ..)) (c.markEdit k _)
                · exact c.trans (c.trans inserted (c.removePlanned ..)) (c.markEdit k _)

end

end MapClosed

end Sys2Proof.Machine
end

section
/-! Every command stays within the closures: first the operations of the blocks, made of the effects of an event,
and serving; then the passage unit, the loads and the commands; then every command. -/

namespace Sys2Proof.Machine

namespace EventClosed

variable {C D : State → Prop} {E : State → State → Prop} (c : EventClosed C D E)
include c

/-! ### Occasions, marks and holds -/

theorem markStarts (s : State) : E s (Machine.markStarts s) := c.setDue ..

theorem markList (s : State) : E s (Machine.markList s) := c.trans (c.setDue ..) (c.setDue ..)

theorem markReady (b : Bool) (s : State) : E s (Machine.markReady b s) := by
  unfold Machine.markReady
  split
  · exact c.markStarts s
  · exact c.refl s

theorem setHoldOnce (n : HoldName) (k : Furnace) (tag : Nat) (d : Option Int) (s : State) :
    E s (Machine.setHoldOnce n k tag d s) := by
  unfold Machine.setHoldOnce
  split
  · exact c.refl s
  · exact c.trans (c.setPlace ..) (c.raise ..)

theorem placementMarks (i : PlaceInput) (p : PlacementRecord) (s : State) :
    E s (Machine.placementMarks i p s) := by
  unfold Machine.placementMarks
  refine c.trans (c.editRecord s i.record.tag (fun r => { r with substituted := i.substitutes })
    fun r => ⟨rfl, rfl, rfl, rfl, rfl, rfl⟩) ?_
  split <;> split
  · exact c.trans (c.setHoldOnce ..) (c.setHoldOnce ..)
  · exact c.setHoldOnce ..
  · exact c.setHoldOnce ..
  · exact c.refl _

theorem holdRecord (x : SlabCause) (tag : Nat) (s : State) :
    E s (updateRecord tag (fun r => { r with state := .held x }) s) :=
  c.editRecord s tag _ fun _ => ⟨rfl, rfl, rfl, rfl, rfl, rfl⟩

theorem markSeen (i : SensorId) (tag : Nat) (s : State) : E s (updateRecord tag (TableRecord.mark i) s) :=
  c.editRecord s tag _ fun r => by cases i <;> exact ⟨rfl, rfl, rfl, rfl, rfl, rfl⟩

theorem measure (len : Int) (tag : Nat) (s : State) :
    E s (updateRecord tag (fun y => { y with measured := some len }) s) :=
  c.editRecord s tag _ fun _ => ⟨rfl, rfl, rfl, rfl, rfl, rfl⟩

theorem placeHold (x : SlabCause) (r : TableRecord) (s : State) : E s (Machine.placeHold x r s) := by
  unfold Machine.placeHold
  split
  · exact c.refl s
  · exact c.trans (c.trans (c.trans (c.holdRecord ..) (c.raise ..)) (c.markList _)) (c.markReady ..)

theorem holdTag (x : SlabCause) (tag : Nat) (s : State) : E s (Machine.holdTag x tag s) := by
  unfold Machine.holdTag
  split
  · exact c.refl s
  · exact c.placeHold ..

end EventClosed

/-! ### Start evaluations (R57, R58) -/

/-- R57: the most downstream record of a list is one of it. -/
theorem mostDownstream_mem {l : List TableRecord} {r : TableRecord} (h : mostDownstream l = some r) : r ∈ l := by
  induction l generalizing r with
  | nil => cases h
  | cons a l ih =>
    unfold mostDownstream at h
    split at h
    · cases h
      exact List.mem_cons_self
    · rename_i b hb
      cases h
      unfold moreDownstream
      split
      · exact List.mem_cons_of_mem _ (ih hb)
      · exact List.mem_cons_self

/-- R57: the candidate of a start evaluation is a READY record of the list with the furnace as its destination. -/
theorem State.candidate_mem {s : State} {k : Furnace} {r : TableRecord} (h : s.candidate k = some r) :
    r ∈ s.tracker.table ∧ r.state = .ready ∧ r.dest = some k := by
  have hr := mostDownstream_mem h
  simpa [TableRecord.candidateFor, TableRecord.ready] using hr

/-- The geometry of the furnace that a computation reads has values. -/
theorem State.placeInput_geometry {s : State} {kind : PlacementKind} {k : Furnace} {r : TableRecord} {l : Lane}
    {i : PlaceInput} (h : s.placeInput kind k r l = some i) : (s.cfg.geometry.get k).isSome = true := by
  simp only [State.placeInput, Option.map_eq_some_iff] at h
  obtain ⟨g, hg, -⟩ := h
  exact Option.isSome_iff_exists.2 ⟨g, hg⟩

/-- R34: what a computation reads is of its furnace and its record. -/
theorem State.placeInput_eq {s : State} {kind : PlacementKind} {k : Furnace} {r : TableRecord} {l : Lane}
    {i : PlaceInput} (h : s.placeInput kind k r l = some i) :
    i.kind = kind ∧ i.furnace = k ∧ i.record = r ∧ i.lane = l := by
  simp only [State.placeInput, Option.map_eq_some_iff] at h
  obtain ⟨g, -, rfl⟩ := h
  exact ⟨rfl, rfl, rfl, rfl⟩

@[simp] theorem placementMarks_mode (i : PlaceInput) (p : PlacementRecord) (s : State) :
    (placementMarks i p s).ret.mode = s.ret.mode := by
  unfold placementMarks setHoldOnce
  dsimp only
  (repeat' split) <;> simp [updateRecord, State.putHold, State.setPlaceOf]

namespace EventClosed

variable {C D : State → Prop} {E : State → State → Prop} (c : EventClosed C D E)
include c

theorem startCycle {k : Furnace} {r : TableRecord} {i : PlaceInput} {s : State}
    (hidle : (s.seqs.get k).state = .idle) (hmode : s.ret.mode = .run) (hr : s.candidate k = some r)
    (hi : s.placeInput .provisional k r .c = some i) (p : PlacementRecord) :
    E s (Machine.beginCycle k r p (Machine.placementMarks i p s)) := by
  obtain ⟨hmem, -, hdest⟩ := State.candidate_mem hr
  refine c.trans (c.placementMarks ..) (c.beginCycle _ k r p (by simpa using hidle) (by simpa using hmode)
    (by simpa using State.placeInput_geometry hi) ?_)
  refine ⟨_, by simpa using ⟨r, hmem, rfl⟩, ?_, ?_⟩ <;> split <;> first | rfl | exact hdest

end EventClosed

@[simp] theorem placeHold_seqs (x : SlabCause) (r : TableRecord) (s : State) :
    (placeHold x r s).seqs = s.seqs := by
  unfold placeHold markReady
  (repeat' split) <;> simp [updateRecord]

@[simp] theorem placeHold_mode (x : SlabCause) (r : TableRecord) (s : State) :
    (placeHold x r s).ret.mode = s.ret.mode := by
  unfold placeHold markReady
  (repeat' split) <;> simp [updateRecord]

@[simp] theorem holdTag_seqs (x : SlabCause) (tag : Nat) (s : State) : (holdTag x tag s).seqs = s.seqs := by
  unfold holdTag
  split <;> simp

@[simp] theorem holdTag_mode (x : SlabCause) (tag : Nat) (s : State) :
    (holdTag x tag s).ret.mode = s.ret.mode := by
  unfold holdTag
  split <;> simp

namespace EventClosed

variable {C D : State → Prop} {E : State → State → Prop} (c : EventClosed C D E)
include c

theorem startLoop (k : Furnace) (n : Nat) (s : State) (hidle : (s.seqs.get k).state = .idle)
    (hmode : s.ret.mode = .run) : E s (Machine.startLoop k n s) := by
  induction n generalizing s with
  | zero => exact c.refl s
  | succ n ih =>
    unfold Machine.startLoop
    split
    · exact c.showWaiting ..
    · split
      · exact c.refl s
      · rename_i r hr _ i hi
        dsimp only
        split
        · exact c.startCycle hidle hmode hr hi _
        · exact c.startCycle hidle hmode hr hi _
        · exact c.startCycle hidle hmode hr hi _
        · exact c.trans (c.trans (c.placementMarks ..) (c.holdTag ..)) (ih _ (by simpa) (by simpa))
        · exact c.trans (c.trans (c.placementMarks ..) (c.holdTag ..)) (ih _ (by simpa) (by simpa))
        · exact c.trans (c.placementMarks ..) (c.showWaiting ..)
        · exact c.trans (c.placementMarks ..) (c.showWaiting ..)

end EventClosed

/-- R52, R57: where no condition bars a start, the mode is RUN. -/
theorem State.startBar_none {s : State} {k : Furnace} (h : s.startBar k = none) : s.ret.mode = .run := by
  unfold State.startBar at h
  split at h
  · cases h
  · rename_i hm
    exact not_not.1 hm

namespace EventClosed

variable {C D : State → Prop} {E : State → State → Prop} (c : EventClosed C D E)
include c

theorem startEval (k : Furnace) (s : State) : E s (Machine.startEval k s) := by
  unfold Machine.startEval
  split
  · exact c.refl s
  · rename_i hidle
    split
    · exact c.showWaiting ..
    · rename_i hb
      exact c.startLoop k _ s (not_not.1 hidle) (State.startBar_none hb)

theorem showBar (k : Furnace) (s : State) : E s (Machine.showBar k s) := by
  unfold Machine.showBar
  split
  · split
    · exact c.refl s
    · exact c.showWaiting ..
  · exact c.refl s

/-! ### The two arbiters (R95, R125, R129) -/

theorem checkRequest (k : Furnace) (s : State) : E s (Machine.checkRequest k s) := by
  unfold Machine.checkRequest
  split
  · exact c.refl s
  · rename_i q hq
    split
    · exact c.refl s
    · rename_i hs
      split
      · exact c.trans (c.checkedRequest s k q .waiting hq hs (by decide)) (c.showWaiting ..)
      · exact c.trans (c.checkedRequest s k q .skipped hq hs (by decide)) (c.showWaiting ..)

end EventClosed

/-- R94, R95: the check of a request changes the requests alone of the table arbiter. -/
theorem checkRequest_arb (k : Furnace) (s : State) :
    ∃ q, (checkRequest k s).arb = { s.arb with requests := q } := by
  unfold checkRequest
  split
  · exact ⟨_, rfl⟩
  · split
    · exact ⟨_, rfl⟩
    · split <;> exact ⟨_, rfl⟩

/-- R95: the charger whose request is granted has a waiting one. -/
theorem State.winner_waiting {s : State} {k : Furnace} (h : s.winner = some k) :
    ∃ q, s.arb.requests.get k = some q ∧ q.status = .waiting := by
  have key : ∀ j, (s.eligibleHead j).isSome = true →
      ∃ q, s.arb.requests.get j = some q ∧ q.status = .waiting := by
    intro j hj
    unfold State.eligibleHead at hj
    split at hj
    · cases hj
    · rename_i q hq
      split at hj
      · exact ⟨q, hq, ‹_›⟩
      · cases hj
  unfold State.winner at h
  split at h
  · cases h
  · cases h; exact key .f1 (by simp [*])
  · cases h; exact key .f2 (by simp [*])
  · split at h <;> cases h
    · exact key .f2 (by simp [*])
    · exact key .f1 (by simp [*])

namespace EventClosed

variable {C D : State → Prop} {E : State → State → Prop} (c : EventClosed C D E)
include c

theorem tableRule (s : State) : E s (Machine.tableRule s) := by
  unfold Machine.tableRule
  split
  · exact c.refl s
  · rename_i hfree
    simp only [Bool.or_eq_true, not_or, Bool.not_eq_true, Option.isSome_eq_false_iff,
      Option.isNone_iff_eq_none] at hfree
    obtain ⟨⟨hstill, hhold⟩, hgrid⟩ := hfree
    have checked : E s (Machine.markGrid (Machine.checkRequest .f2 (Machine.checkRequest .f1 s))) :=
      c.trans (c.trans (c.checkRequest ..) (c.checkRequest ..)) (c.markGrid _)
    dsimp only
    split
    · exact checked
    · rename_i k hk
      obtain ⟨q, hq, hw⟩ := State.winner_waiting hk
      obtain ⟨q1, h1⟩ := checkRequest_arb .f1 s
      obtain ⟨q2, h2⟩ := checkRequest_arb .f2 (Machine.checkRequest .f1 s)
      refine c.trans checked (c.grantMove _ k q ?_ ?_ ?_ hq hw)
      · simp [h2, h1, hstill]
      · simpa [State.chargerHold, h2, h1] using hhold
      · simp [h2, h1, hgrid]

theorem dropHeld (s : State) : E s (Machine.dropHeld s) :=
  c.trans (c.setQueue s _ s.grid.nextRank) (c.answerRequests ..)

theorem makeGrant (q : GridRequest) (s : State) (hg : s.grid.grant = none)
    (hc : s.grantConditions.all = true) : E s (Machine.makeGrant q s) :=
  c.trans (c.grantMade s ⟨q.crane, q.id, q.reference, .active (1000 * s.cfg.settings.grantTimeout)⟩
    (s.grid.queue.filter fun x => x.crane != q.crane) hg hc) (c.answerCrane ..)

theorem gridEval (s : State) : E s (Machine.gridEval s) := by
  unfold Machine.gridEval
  dsimp only
  split
  · rename_i h
    simp only [Bool.and_eq_true, Option.isNone_iff_eq_none] at h
    split
    · exact c.dropHeld s
    · exact c.trans (c.dropHeld s) (c.makeGrant _ _ h.1 h.2)
  · exact c.dropHeld s

theorem endGrant (s : State) : E s (Machine.endGrant s) :=
  c.trans (c.trans (c.grantEnded s) (c.evalPresence _)) (c.markList _)

theorem withdrawGrant (g : Grant) (s : State) : E s (Machine.withdrawGrant g s) :=
  c.trans (c.answerCrane ..) (c.endGrant _)

/-! ### Serving (R57, R95, R125, R159) -/

theorem settle (n : Nat) (s : State) : E s (Machine.settle n s) := by
  induction n generalizing s with
  | zero => exact c.refl s
  | succ n ih =>
    unfold Machine.settle
    split
    · exact c.trans (c.trans (c.setDue ..) (c.startEval ..)) (ih _)
    · split
      · exact c.trans (c.trans (c.setDue ..) (c.startEval ..)) (ih _)
      · split
        · exact c.trans (c.trans (c.setDue ..) (c.tableRule _)) (ih _)
        · split
          · exact c.trans (c.trans (c.setDue ..) (c.gridEval _)) (ih _)
          · exact c.refl s

theorem finish (s : State) : E s (Machine.finish s) := by
  unfold Machine.finish Machine.serve
  split
  · exact c.trans (c.setDue ..) (c.setWindows ..)
  · exact c.trans (c.trans (c.trans (c.settle ..) (c.showBar ..)) (c.showBar ..)) (c.setWindows ..)

end EventClosed

end Sys2Proof.Machine
end

section
/-! The effects of each event within the closures: the drives' and cranes' telegrams, the sensor inputs, the
commands of the management unit. -/

namespace Sys2Proof.Machine

/-- R90: the nearest record of a list is one of it. -/
theorem nearest_mem {x travel : Int} {l : List TableRecord} {r : TableRecord}
    (h : nearest x travel l = some r) : r ∈ l := by
  induction l generalizing r with
  | nil => cases h
  | cons a l ih =>
    unfold nearest at h
    split at h
    · cases h
      exact List.mem_cons_self
    · rename_i b hb
      cases h
      unfold nearer moreDownstream
      dsimp only
      (repeat' split) <;> first | exact List.mem_cons_self | exact List.mem_cons_of_mem _ (ih hb)

namespace EventClosed

variable {C D : State → Prop} {E : State → State → Prop} (c : EventClosed C D E)
include c

/-! ### Holds of the tracker (R77, R85, R92) -/

theorem handHold (k : Furnace) (tag : Nat) (s : State) : E s (Machine.handHold k tag s) := by
  unfold Machine.handHold
  split
  · unfold Machine.takeTrackerHold
    split
    · exact c.abandonIdle _ _ _ ‹_›
    · exact c.toIdle _ _ (.inl ‹_›)
    · rename_i hp
      exact c.trans (c.sendChargerStop ..) (c.enterHeld _ _ _ _ (by
        rw [Machine.sendChargerStop, sendField_seqs]
        rw [State.seq] at hp
        rw [hp]
        decide))
    · exact c.refl s
  · exact c.refl s

theorem trackerHold (x : SlabCause) (r : TableRecord) (s : State) :
    E s (Machine.trackerHold x r s) := by
  unfold Machine.trackerHold
  split
  · exact c.refl s
  · dsimp only
    split
    · exact c.placeHold ..
    · exact c.trans (c.trans (c.placeHold ..) (c.handHold ..)) (c.handHold ..)

theorem examine (g : TableGeometry) (tag : Nat) (i : SensorId) (s : State) :
    E s (Machine.examine g tag i s) := by
  unfold Machine.examine
  split
  · exact c.refl s
  · split
    · exact c.trans (c.trans (c.markSeen ..) (c.raise ..)) (c.trackerHold ..)
    · exact c.refl s

theorem examineAll (s : State) : E s (Machine.examineAll s) := by
  have records (g : TableGeometry) (tags : List Nat) (t : State) :
      E t (tags.foldl (fun s t => Machine.examineRecord g t s) t) := by
    induction tags generalizing t with
    | nil => exact c.refl t
    | cons tag tags ih =>
      exact c.trans (c.trans (c.trans (c.examine ..) (c.examine ..)) (c.examine ..)) (ih _)
  unfold Machine.examineAll
  split
  · exact c.refl s
  · exact records ..

/-! ### Counters (R87, R92, R136, R140) -/

theorem encoderStep (x : CounterId) (new : Bool × Bool) (s : State) :
    E s (Machine.encoderStep x new s) := by
  have step : E s (Machine.takeStep x new s) := by
    unfold Machine.takeStep
    split
    · exact c.refl s
    · split
      · unfold Machine.illegalTransition
        dsimp only
        split
        · exact c.setCounters ..
        · exact c.trans (c.setCounters ..) (c.raise ..)
      · exact c.setCounters ..
  have watched (t : State) : E t (Machine.markGrid (Machine.evalPresence t)) :=
    c.trans (c.evalPresence t) (c.markGrid _)
  unfold Machine.encoderStep Machine.travelChanged
  dsimp only
  split
  · exact step
  · split
    · exact c.trans (c.trans step (watched _)) (c.examineAll _)
    · exact c.trans step (watched _)

theorem takeMarker (x : CounterId) (rising : Bool) (s : State) : E s (Machine.takeMarker x rising s) := by
  unfold Machine.takeMarker Machine.homeAgain Machine.homeFirst
  dsimp only
  split
  · exact c.refl s
  · split
    · exact c.refl s
    · split
      · split
        · exact c.trans (c.setCounters ..) (c.raise ..)
        · exact c.setCounters ..
      · exact c.trans (c.setCounters ..) (c.markStart ..)

/-! ### Sensor inputs (R87, R90, R91, R100, R130) -/

theorem headEdge (i : SensorId) (capture : Int) (s : State) (hD : D s) :
    E s (Machine.headEdge i capture s) := by
  unfold Machine.headEdge Machine.acceptHead Machine.refuseHead Machine.openMeasurement
  dsimp only
  split
  · exact c.raise ..
  · split
    · exact c.raise ..
    · rename_i g hg _ r hr
      have hmem : r ∈ s.tracker.table := (List.mem_filter.1 (nearest_mem hr)).1
      split
      · rename_i hn
        have moved := c.moveHead s i r (g.sensorAt i) (roundMm capture) hD hmem hn
        split
        · exact c.trans (c.trans moved (c.setWatch _ _ _)) (c.markList _)
        · exact c.trans moved (c.markList _)
      · exact c.trans (c.trans (c.markSeen ..) (c.raise ..)) (c.trackerHold ..)

theorem tailEdge (capture : Int) (s : State) : E s (Machine.tailEdge capture s) := by
  have length (r : TableRecord) (len : Int) (o : LengthOutcome) (t : State) :
      E t (Machine.applyLength r len o t) := by
    unfold Machine.applyLength
    split
    · exact c.trackerHold ..
    · exact c.trans (c.trans (c.measure ..) (c.markList _)) (c.trackerHold ..)
    · exact c.trans (c.measure ..) (c.markList _)
  unfold Machine.tailEdge Machine.endMeasurement
  dsimp only
  split
  · exact c.raise ..
  · split
    · exact c.setWatch s none s.tracker.unidentified
    · exact c.trans (c.trans (c.setWatch s none s.tracker.unidentified) (length ..)) (c.raise ..)

theorem gpEdge (rising : Bool) (travel : Int) (s : State) : E s (Machine.gpEdge rising travel s) := by
  have watched : E s (Machine.markList (Machine.evalPresenceAt travel s)) :=
    c.trans (c.evalPresenceAt ..) (c.markList _)
  unfold Machine.gpEdge Machine.overdueGone
  dsimp only
  split
  · exact watched
  · split
    · exact watched
    · split
      · exact c.trans (c.trans watched (c.withdrawGrant ..)) (c.raise ..)
      · exact watched

theorem trackEdge (i : SensorId) (rising : Bool) (capture : Int) (dir : Option Direction) (s : State)
    (hD : D s) : E s (Machine.trackEdge i rising capture dir s) := by
  unfold Machine.trackEdge
  cases i with
  | gp => exact c.gpEdge ..
  | te =>
    dsimp only
    unfold Machine.teEdge
    split
    · exact c.tableEnd ..
    · exact c.refl s
  | ms =>
    dsimp only
    split
    · exact c.refl s
    · split
      · exact c.headEdge .ms capture s hD
      · exact c.tailEdge ..
  | d1 =>
    dsimp only
    split
    · exact c.refl s
    · exact c.headEdge .d1 capture s hD
  | d2 =>
    dsimp only
    split
    · exact c.refl s
    · exact c.headEdge .d2 capture s hD

theorem takeChange (i : SensorId) (p : PendingChange) (s : State) (hD : D s) :
    E s (Machine.takeChange i p s) :=
  c.trans (c.setSensors ..) (c.trackEdge _ _ _ _ _ (c.stableD (.setSensor ..) hD))

theorem rawTransition (i : SensorId) (x : Bool) (s : State) (hD : D s) :
    E s (Machine.rawTransition i x s) := by
  unfold Machine.rawTransition
  dsimp only
  split
  · exact c.refl s
  · split
    · exact c.setSensors ..
    · split
      · exact c.trans (c.setSensors ..) (c.takeChange _ _ _ (c.stableD (.setSensor ..) hD))
      · exact c.setSensors ..

/-! ### The cranes' telegrams (R123, R124, R127) -/

theorem takeGridRequest (h : Hdr) (n : Nat) (id : Identity) (x : Crane) (s : State) :
    E s (Machine.takeGridRequest h n id x s) := by
  unfold Machine.takeGridRequest Machine.answerQueued
  split
  · exact c.answerCrane ..
  · split
    · exact c.answerCrane ..
    · have evaluated := c.trans (c.setQueue s
        (s.grid.queue.filter (fun q => q.crane != x) ++ [⟨x, id, h.reference, s.grid.nextRank⟩])
        (s.grid.nextRank + 1)) (c.gridEval _)
      split
      · exact evaluated
      · exact c.trans evaluated (c.answerCrane ..)

theorem takeGridRelease (h : Hdr) (n : Nat) (x : Crane) (s : State) :
    E s (Machine.takeGridRelease h n x s) := by
  have queued : E s (Machine.releaseQueued h x s) := by
    unfold Machine.releaseQueued
    split
    · exact c.refl s
    · exact c.trans (c.trans (c.setQueue s _ s.grid.nextRank) (c.answerCrane ..)) (c.markGrid _)
  unfold Machine.takeGridRelease
  split
  · exact c.answerCrane ..
  · split
    · exact queued
    · split
      · exact c.trans (c.answerCrane ..) (c.endGrant _)
      · exact queued

theorem takeDeposit (h : Hdr) (n : Nat) (id : Identity) (w th m : Int) (x : Crane) (s : State) (hC : C s) :
    E s (Machine.takeDeposit h n id w th m x s) := by
  unfold Machine.takeDeposit
  split
  · exact c.trans (c.sendField ..) (c.raise ..)
  · exact c.acceptDeposit _ _ _ _ _ _ _ hC ‹_›

theorem takeGrantTimeout (g : Grant) (s : State) (hg : s.grid.grant = some g) :
    E s (Machine.takeGrantTimeout g s) := by
  unfold Machine.takeGrantTimeout
  split
  · exact c.overdue s g hg
  · exact c.withdrawGrant ..

/-! ### The drives' telegrams (R12 to R19, R68, R98) -/

theorem takeTableReport (n : Nat) (o : MoveOutcome) (s : State) :
    E s (Machine.takeTableReport n o s) := by
  have still : E s (Machine.becomeStill s) := c.trans (c.becomeStill s) (c.markList _)
  unfold Machine.takeTableReport
  split
  · exact c.raise ..
  · split
    · exact still
    · exact c.raise ..
  · rename_i k m wanted hm
    split
    · exact c.raise ..
    · split
      · exact still
      · rename_i hw
        have hm' : s.arb.motion = .positioning k m true := by
          rw [hm]; simp only [Bool.not_eq_true', Bool.not_eq_false] at hw; rw [hw]
        split
        · exact c.moveEnded s k m hm'
        · exact c.moveFailed s k m hm'

theorem strokeHandedOn (k : Furnace) (x : Int) (s : State) : E s (Machine.strokeHandedOn k x s) := by
  unfold Machine.strokeHandedOn Machine.takeStroke
  split
  · exact c.markStart ..
  · rename_i cycle hroom _
    have room (y : Sequencer) (hy : y.state = (s.seqs.get k).state) :
        ((s.setSeq k y).seqs.get k).state = .room := by
      simpa [hy, State.seq] using hroom
    dsimp only
    split
    · have counted := c.countStroke s k (Machine.countStroke x cycle.outstanding) hroom
      split
      · exact c.trans (c.trans counted (c.stopTimer ..)) (c.runFinal _ _ (by
          simpa [Machine.stopTimer, updateCycle, State.seq] using hroom))
      · exact c.trans counted (c.strokeTimer _ _ (room _ rfl))
    · split
      · exact c.runFinal _ _ hroom
      · exact c.refl s
  · exact c.refl s

theorem takeDischargeReport (n : Nat) (a b : Identity) (k : Furnace) (s : State) :
    E s (Machine.takeDischargeReport n a b k s) := by
  unfold Machine.takeDischargeReport Machine.dischargeHandedOn
  refine c.trans (c.mapDischarge k n a b s) ?_
  split
  · exact c.markStart ..
  · split
    · exact c.runFinal _ _ ‹_›
    · exact c.refl _
  · exact c.refl _

end EventClosed

end Sys2Proof.Machine
end

section
/-! The commands within the closures: first the passage unit, the management unit and the loads; then every
command, and so every step. -/

namespace Sys2Proof.Machine

/-! ### Loads (R188) -/

/-- R188: entries written over those of a table leave its size. -/
theorem writeAt_length {α : Type} {first n : Nat} {xs l : List α} (hl : l.length = n)
    (h : first + xs.length ≤ n) : (writeAt first xs l).length = n := by
  simp only [writeAt, List.length_append, List.length_take, List.length_drop]
  omega

/-- R188: where a check of every entry goes on, no entry fails it, and what follows answers. -/
theorem checkEach_ok {α : Type} {ok : Nat → α → Bool} {code : RespCode} {first : Nat} {xs : List α}
    {next : LoadResult} {y : RespData × (State → State)} (h : checkEach ok code first xs next = .ok y) :
    next = .ok y := by
  unfold checkEach at h
  split at h
  · cases h
  · exact h

theorem figuresGiven_ok {first : Nat} {xs : List Int} {next : LoadResult}
    {y : RespData × (State → State)} (h : figuresGiven first xs next = .ok y) : next = .ok y := checkEach_ok h

/-- R28: a load for a furnace is taken with a good selector, while the furnace is not armed. -/
theorem forFurnace_ok {sel : Code Furnace} {s : State} {f : Furnace → LoadResult}
    {y : RespData × (State → State)} (h : forFurnace sel s f = .ok y) :
    ∃ k, sel = .val k ∧ s.armed k = false ∧ f k = .ok y := by
  unfold forFurnace at h
  split at h
  · cases h
  · rename_i k
    split at h
    · cases h
    · exact ⟨k, rfl, Bool.eq_false_of_not_eq_true ‹_›, h⟩

/-- R165: the entries of a load leave the number of stop levels. -/
theorem putLineEntries_stops (i : Nat) (es : List LineEntry) (x : LineSettings) :
    (putLineEntries i es x).stops.length = x.stops.length := by
  induction es generalizing i x with
  | nil => rfl
  | cons e es ih =>
    rw [putLineEntries, ih]
    unfold putLineEntry
    split
    · exact List.length_set
    · rfl
    · rfl

/-- R162: the entries of a load leave the size of the pool. -/
theorem poolAfter_length (ps : List (Option Nat)) (es : List PoolLoadEntry) (pool : List (Option Window)) :
    (poolAfter ps es pool).length = pool.length := by
  induction ps generalizing es pool with
  | nil => rfl
  | cons p ps ih =>
    cases es with
    | nil => rfl
    | cons e es =>
      rw [poolAfter, ih]
      unfold writePool
      split
      · rfl
      · exact List.length_set

theorem Tables.Reloaded.of_shaped {a b : Tables} (h : a.Shaped → b.Shaped) (hg : b.geometry = a.geometry)
    (ht : b.tableGeometry = a.tableGeometry) : a.Reloaded b :=
  ⟨h, fun k hk => by rw [hg]; exact hk, fun hk => by rw [ht]; exact hk⟩

/-- The four closures' parts that the commands need together: what happens within an event, what happens outside
one, and that an event's end closes it. -/
structure StepClosed (C D : State → Prop) (E R : State → State → Prop) : Prop where
  outer : OuterClosed R
  event : EventClosed C D E
  lift : ∀ {s t}, R s t → E s t
  finish : ∀ {s t}, E s t → R s (Machine.finish t)

/-- A relation that the effects of an event and the updates outside one stay within alike. -/
theorem StepClosed.of_event {C D : State → Prop} {R : State → State → Prop} (o : OuterClosed R)
    (e : EventClosed C D R) : StepClosed C D R R :=
  ⟨o, e, fun h => h, fun h => o.trans h (e.finish _)⟩

namespace OuterClosed

variable {R : State → State → Prop} (o : OuterClosed R)
include o

theorem ownFurnaceGeometry {sel : Code Furnace} {first : Nat} {es : List GeometryEntry} {s : State} {d : RespData}
    {f : State → State} (l : Links) (h : ownFurnaceGeometry sel first es s = .ok (d, f)) :
    R { s with links := l } (f { s with links := l }) := by
  obtain ⟨k, -, -, h⟩ := forFurnace_ok h
  dsimp only at h
  split at h
  · split at h
    · cases h
    · split at h
      · cases h
      · split at h
        · cases h
        · cases h
          refine o.reload _ _ ⟨fun h => h, fun j hj => ?_, fun h => h⟩ ⟨rfl, rfl, rfl⟩
          by_cases e : j = k
          · subst e; simp
          · simpa [PerFurnace.get_set_of_ne _ e] using hj
  · cases h

theorem ownGapRules {sel : Code Furnace} {first : Nat} {es : List Int} {s : State} {d : RespData}
    {f : State → State} (l : Links) (h : ownGapRules sel first es s = .ok (d, f)) :
    R { s with links := l } (f { s with links := l }) := by
  obtain ⟨k, -, -, h⟩ := forFurnace_ok h
  split at h
  · cases h
  · rename_i hlen
    cases checkEach_ok (figuresGiven_ok h)
    refine o.reload _ _ (.of_shaped (fun hs => ?_) rfl rfl) ⟨rfl, rfl, rfl⟩
    obtain ⟨h1, h2, hs⟩ := hs
    cases k
    · exact ⟨writeAt_length h1 (by omega), h2, hs⟩
    · exact ⟨h1, writeAt_length h2 (by omega), hs⟩

theorem ownThicknessClasses {first : Nat} {es : List Int} {s : State} {d : RespData}
    {f : State → State} (l : Links) (h : ownThicknessClasses first es s = .ok (d, f)) :
    R { s with links := l } (f { s with links := l }) := by
  unfold Machine.ownThicknessClasses at h
  split at h
  · cases h
  · have h := checkEach_ok (figuresGiven_ok h)
    split at h
    · cases h
    · split at h
      · cases h
      · cases h
        exact o.reload _ _ (.of_shaped (fun h => h) rfl rfl) ⟨rfl, rfl, rfl⟩

theorem ownChargerTiming {sel : Code Furnace} {first : Nat} {es : List Int} {s : State} {d : RespData}
    {f : State → State} (l : Links) (h : ownChargerTiming sel first es s = .ok (d, f)) :
    R { s with links := l } (f { s with links := l }) := by
  obtain ⟨k, -, -, h⟩ := forFurnace_ok h
  split at h
  · cases h
  · rename_i hlen
    cases checkEach_ok (figuresGiven_ok h)
    refine o.reload _ _ (.of_shaped (fun hs => ?_) rfl rfl) ⟨rfl, rfl, rfl⟩
    obtain ⟨h1, h2, h3, h4, hs⟩ := hs
    cases k
    · exact ⟨h1, h2, writeAt_length h3 (by rw [List.length_map]; omega), h4, hs⟩
    · exact ⟨h1, h2, h3, writeAt_length h4 (by rw [List.length_map]; omega), hs⟩

theorem ownTableGeometry {first : Nat} {es : List TableGeometryEntry} {s : State} {d : RespData}
    {f : State → State} (l : Links) (h : ownTableGeometry first es s = .ok (d, f)) :
    R { s with links := l } (f { s with links := l }) := by
  unfold Machine.ownTableGeometry at h
  split at h
  · cases h
  · split at h
    · dsimp only at h
      split at h
      · cases h
      · split at h
        · cases h
        · split at h
          · cases h
          · cases h
            exact o.reload _ _ ⟨fun h => h, fun _ h => h, fun _ => rfl⟩ ⟨rfl, rfl, rfl⟩
    · cases h

theorem ownCounterSetup {sel : Code CounterId} {first : Nat} {es : List CounterSetupEntry} {s : State}
    {d : RespData} {f : State → State} (l : Links) (h : ownCounterSetup sel first es s = .ok (d, f)) :
    R { s with links := l } (f { s with links := l }) := by
  unfold Machine.ownCounterSetup at h
  split at h
  · cases h
  · rename_i c
    split at h
    · cases h
    · rename_i hbar
      split at h
      · dsimp only at h
        split at h
        · cases h
        · split at h
          · cases h
          · cases h
            refine o.counterSetup _ _ _ fun k hk => ?_
            unfold counterBar at hbar
            rw [hk] at hbar
            dsimp only at hbar
            split at hbar
            · cases hbar
            · exact Bool.eq_false_of_not_eq_true ‹_›
      · cases h

theorem ownWindowPool {first : Nat} {es : List PoolLoadEntry} {s : State}
    {d : RespData} {f : State → State} (l : Links) (h : ownWindowPool first es s = .ok (d, f)) :
    R { s with links := l } (f { s with links := l }) := by
  unfold Machine.ownWindowPool at h
  dsimp only at h
  split at h
  · cases h
  · split at h
    · cases h
    · split at h
      · cases h
      · cases h
        refine o.reloadWindows _ _ (.of_shaped (fun hs => ?_) rfl rfl)
        obtain ⟨h1, h2, h3, h4, h5, hs⟩ := hs
        exact ⟨h1, h2, h3, h4, (poolAfter_length ..).trans h5, hs⟩

theorem ownWindowSets {sel : Code Furnace} {first : Nat} {es : List (List Nat)} {s : State}
    {d : RespData} {f : State → State} (l : Links) (h : ownWindowSets sel first es s = .ok (d, f)) :
    R { s with links := l } (f { s with links := l }) := by
  obtain ⟨k, -, -, h⟩ := forFurnace_ok h
  split at h
  · cases h
  · rename_i hlen
    cases checkEach_ok (checkEach_ok (checkEach_ok h))
    refine o.reloadWindows _ _ (.of_shaped (fun hs => ?_) rfl rfl)
    obtain ⟨h1, h2, h3, h4, h5, h6, h7, hs⟩ := hs
    cases k
    · exact ⟨h1, h2, h3, h4, h5, writeAt_length h6 (by omega), h7, hs⟩
    · exact ⟨h1, h2, h3, h4, h5, h6, writeAt_length h7 (by omega), hs⟩

theorem ownLineSettings {sel : Code Furnace} {first : Nat} {es : List LineEntry} {s : State}
    {d : RespData} {f : State → State} (l : Links) (h : ownLineSettings sel first es s = .ok (d, f)) :
    R { s with links := l } (f { s with links := l }) := by
  obtain ⟨k, -, -, h⟩ := forFurnace_ok h
  split at h
  · cases h
  · cases checkEach_ok (checkEach_ok h)
    refine o.reloadWindows _ _ (.of_shaped (fun hs => ?_) rfl rfl)
    obtain ⟨h1, h2, h3, h4, h5, h6, h7, h8, h9, hs⟩ := hs
    cases k
    · exact ⟨h1, h2, h3, h4, h5, h6, h7, (putLineEntries_stops ..).trans h8, h9, hs⟩
    · exact ⟨h1, h2, h3, h4, h5, h6, h7, h8, (putLineEntries_stops ..).trans h9, hs⟩

theorem ownPassage {first : Nat} {es : List PassageLoadEntry} {s : State}
    {d : RespData} {f : State → State} (l : Links) (h : ownPassage first es s = .ok (d, f)) :
    R { s with links := l } (f { s with links := l }) := by
  unfold Machine.ownPassage at h
  split at h
  · cases h
  · have h := checkEach_ok (checkEach_ok h)
    split at h
    · cases h
    · cases h
      refine o.reload _ _ (.of_shaped (fun hs => ?_) rfl rfl) ⟨rfl, rfl, rfl⟩
      obtain ⟨h1, h2, h3, h4, h5, h6, h7, h8, h9, h10, hs⟩ := hs
      exact ⟨h1, h2, h3, h4, h5, h6, h7, h8, h9,
        writeAt_length h10 (by rw [List.length_map]; omega), hs⟩

theorem ownStatusMap {first : Nat} {es : List Nat} {s : State}
    {d : RespData} {f : State → State} (l : Links) (h : ownStatusMap first es s = .ok (d, f)) :
    R { s with links := l } (f { s with links := l }) := by
  unfold Machine.ownStatusMap at h
  split at h
  · cases h
  · cases checkEach_ok (checkEach_ok h)
    refine o.reload _ _ (.of_shaped (fun hs => ?_) rfl rfl) ⟨rfl, rfl, rfl⟩
    obtain ⟨h1, h2, h3, h4, h5, h6, h7, h8, h9, h10, h11⟩ := hs
    exact ⟨h1, h2, h3, h4, h5, h6, h7, h8, h9, h10, writeAt_length h11 (by omega)⟩

theorem ownPartSettings {first : Nat} {es : List SettingEntry} {s : State}
    {d : RespData} {f : State → State} (l : Links) (h : ownPartSettings first es s = .ok (d, f)) :
    R { s with links := l } (f { s with links := l }) := by
  unfold Machine.ownPartSettings at h
  split at h
  · cases h
  · split at h
    · cases h
    · cases h
      exact o.reload _ _ (.of_shaped (fun h => h) rfl rfl) ⟨rfl, rfl, rfl⟩

/-- R188: a LOAD_TABLE stays within the relation where its owning rule's effect does. -/
theorem takeLoad {h : Hdr} {t : TableId} {n : Nat} {own : State → LoadResult} {b : Bool} {s : State}
    (ho : ∀ d f l, own s = .ok (d, f) → R { s with links := l } (f { s with links := l })) :
    R s (takeLoad h t n own b s) := by
  unfold Machine.takeLoad
  split
  · exact o.respond ..
  · split
    · exact o.refuseAndLatch ..
    · split
      · exact o.refuseAndLatch ..
      · split
        · exact o.refuseAndLatch ..
        · rename_i d f hok
          obtain ⟨l, hl, -⟩ := respond_eq_links h Kind.loadTable .ok none d s
          refine o.trans (o.respond h Kind.loadTable .ok none d s) ?_
          rw [hl]
          exact ho d f l hok

theorem takeRead (h : Hdr) (own : State → ReadResult) (b : Bool) (s : State) :
    R s (Machine.takeRead h own b s) := by
  unfold Machine.takeRead
  (repeat' split) <;> exact o.respond ..

theorem takeQuery (h : Hdr) (ok : Bool) (own : State → ReadResult) (b : Bool) (s : State) :
    R s (Machine.takeQuery h ok own b s) := by
  unfold Machine.takeQuery
  (repeat' split) <;> exact o.respond ..

theorem takeQueryHolds (h : Hdr) (x : Code Bool) (b : Bool) (s : State) :
    R s (Machine.takeQueryHolds h x b s) := by
  unfold Machine.takeQueryHolds
  dsimp only
  split
  · exact o.trans (o.takeQuery ..) (o.clearAllHolds _)
  · exact o.takeQuery ..

theorem answerYard (h : Hdr) (n : Nat) (s : State) : R s (Machine.answerYard h n s) := o.sendOwn ..

theorem blockFull (h : Hdr) (n : Nat) (s : State) : R s (Machine.blockFull h n s) :=
  o.trans (o.setOverrun ..) (o.block ..)

end OuterClosed

end Sys2Proof.Machine
end

section
/-! The passage unit, the commands and the events within the closures; then every command, and every step. -/

namespace Sys2Proof.Machine

/-- R14, R45, R149: clearing holds changes the placement states and the counters alone. -/
theorem clearCounter_eq (l : List (CounterId × HoldName)) (s : State) :
    ∃ c, clearCounter l s = s.setCounters c := by
  unfold clearCounter
  induction l generalizing s with
  | nil => exact ⟨_, rfl⟩
  | cons x l ih =>
    obtain ⟨c, hc⟩ := ih (s.setCounter x.1 ((s.counter x.1).clearHold x.2))
    exact ⟨c, by rw [List.foldl_cons, hc]; rfl⟩

theorem clearPlacement_eq (l : List (Furnace × HoldName)) (s : State) :
    ∃ p, clearPlacement l s = s.setPlace p := by
  unfold clearPlacement
  induction l generalizing s with
  | nil => exact ⟨_, rfl⟩
  | cons x l ih =>
    obtain ⟨p, hp⟩ := ih (s.putHold x.1 x.2 false)
    exact ⟨p, by rw [List.foldl_cons, hp]; rfl⟩

/-- A command for a furnace is taken with a good selector. -/
theorem forSelected_ok {sel : Code Furnace} {f : Furnace → CommandResult} {y : RespData × (State → State)}
    (h : forSelected sel f = .ok y) : ∃ k, f k = .ok y := by
  unfold forSelected at h
  split at h
  · cases h
  · exact ⟨_, h⟩

/-- A command on a slab's tag is taken for a record of the list with the tag. -/
theorem forTag_ok {tag : Nat} {s : State} {f : TableRecord → CommandResult} {y : RespData × (State → State)}
    (h : forTag tag s f = .ok y) : ∃ r, s.findTag tag = some r ∧ f r = .ok y := by
  unfold forTag at h
  split at h
  · cases h
  · split at h
    · cases h
    · exact ⟨_, ‹_›, h⟩

/-- The record found by a tag is one of the list with the tag. -/
theorem State.findTag_some {s : State} {tag : Nat} {r : TableRecord} (h : s.findTag tag = some r) :
    r ∈ s.tracker.table ∧ r.tag = tag :=
  ⟨List.mem_of_find?_eq_some h, by simpa using List.find?_some h⟩

theorem forFreeRecord_ok {tag : Nat} {s : State} {f : TableRecord → State → State} {d : RespData}
    {g : State → State} (h : forFreeRecord tag s f = .ok (d, g)) :
    ∃ r, s.findTag tag = some r ∧ s.positioned r.tag = false ∧ g = f r := by
  obtain ⟨r, hr, h⟩ := forTag_ok h
  split at h
  · cases h
  · cases h
    exact ⟨r, hr, by rw [(State.findTag_some hr).2]; exact Bool.eq_false_of_not_eq_true ‹_›, rfl⟩

namespace EventClosed

variable {C D : State → Prop} {E : State → State → Prop} (c : EventClosed C D E)
include c

theorem clearCounter (l : List (CounterId × HoldName)) (s : State) : E s (Machine.clearCounter l s) := by
  obtain ⟨x, hx⟩ := clearCounter_eq l s
  rw [hx]
  exact c.setCounters ..

theorem clearSelected (x : HoldSelection) (s : State) : E s (Machine.clearSelected x s) := by
  obtain ⟨p, hp⟩ := clearPlacement_eq (selectedPlacement x) s
  refine c.trans (b := clearPlacement (selectedPlacement x) s) ?_ (c.clearCounter ..)
  rw [hp]
  exact c.setPlace ..

/-! ### Commands (R46, R55, R56, R73 to R75, R103 to R105, R185, R191, R203 to R205) -/

section
variable {s : State} {d : RespData} {f : State → State} (l : Links)

theorem ownArm {sel : Code Furnace} (h : ownArm sel s = .ok (d, f)) :
    E { s with links := l } (f { s with links := l }) := by
  obtain ⟨k, h⟩ := forSelected_ok h
  split at h
  · cases h
  · split at h
    · cases h
    · rename_i ha
      split at h
      · cases h
      · rename_i hm
        cases h
        unfold missingTable at hm
        split at hm
        · cases hm
        · rename_i hg
          split at hm
          · cases hm
          · rename_i ht
            refine c.arm _ k ((armed_false s k).1 (Bool.eq_false_of_not_eq_true ha)) ?_ ?_
            · simpa [State.geometry, Option.isSome_iff_ne_none] using hg
            · simpa [Option.isSome_iff_ne_none] using ht

theorem ownDisarm {sel : Code Furnace} (h : ownDisarm sel s = .ok (d, f)) :
    E { s with links := l } (f { s with links := l }) := by
  obtain ⟨k, h⟩ := forSelected_ok h
  split at h
  · cases h
  · cases h
    exact c.disarm _ k (Bool.eq_false_of_not_eq_true ‹_›)

theorem stopSequencer (k : Furnace) (t : State) : E t (Machine.stopSequencer k t) := by
  unfold Machine.stopSequencer
  split
  · exact c.refl t
  · exact c.refl t
  · exact c.abandonHeld _ _ _ _ (.inl ‹_›)
  · exact c.enterHeld _ _ _ _ ⟨‹_›, ‹_›⟩

theorem ownStop {sel : Code Furnace} (h : ownStop sel s = .ok (d, f)) :
    E { s with links := l } (f { s with links := l }) := by
  obtain ⟨k, h⟩ := forSelected_ok h
  cases h
  exact c.trans (c.sendChargerStop ..) (c.stopSequencer ..)

theorem ownRelease {sel : Code Furnace} (h : ownRelease sel s = .ok (d, f)) :
    E { s with links := l } (f { s with links := l }) := by
  obtain ⟨k, h⟩ := forSelected_ok h
  split at h
  · split at h
    · cases h
    · cases h
      refine c.release _ k ‹_› (Option.not_isSome_iff_eq_none.1 ‹_›)
  · cases h
    exact c.refl _

theorem ownResolveLanded {sel : Code Furnace} {front : Int} (h : ownResolveLanded sel front s = .ok (d, f)) :
    E { s with links := l } (f { s with links := l }) := by
  obtain ⟨k, h⟩ := forSelected_ok h
  split at h
  · cases h
  · rename_i g hg
    dsimp only at h
    split at h
    · cases h
    · split at h
      · cases h
      · rename_i hr
        split at h
        · cases h
        · rename_i hc
          cases h
          exact c.resolveLanded { s with links := l } k g front hg
            (by rw [Bool.not_eq_true, Bool.not_eq_false'] at hr; exact hr) hc

theorem ownResolveRemoved {sel : Code Furnace} (h : ownResolveRemoved sel s = .ok (d, f)) :
    E { s with links := l } (f { s with links := l }) := by
  obtain ⟨k, h⟩ := forSelected_ok h
  split at h
  · cases h
  · rename_i g hg
    cases h
    refine c.trans (c.revertLink g.record.link _) (c.resolveRemoved _ k ?_)
    unfold Sequencer.unresolved at hg
    split at hg
    · unfold Machine.revertLink
      split <;> assumption
    · cases hg

theorem ownAcceptSlab {tag : Nat} {w len th : Option Int} {g : Option Nat} {dest : Option (Code Furnace)}
    (hD : D s) (h : ownAcceptSlab tag w len th g dest s = .ok (d, f)) :
    E { s with links := l } (f { s with links := l }) := by
  obtain ⟨r, hr, h⟩ := forTag_ok h
  split at h
  · cases h
  · rename_i hp
    split at h
    · cases h
    · rename_i hok
      split at h
      · cases h
      · split at h
        · cases h
        · cases h
          have ht := (State.findTag_some hr).2
          refine c.trans (c.trans (c.trans
            (c.acceptSlab { s with links := l } r _ _ _ _ (givenCode (codeRead dest)) (c.stableD (.links s l) hD)
              (by rw [ht]; exact hr) ?_ ?_)
            (c.raise ..)) (c.markList _)) (c.markStarts _)
          · rw [ht]
            exact Bool.eq_false_of_not_eq_true hp
          · simpa [acceptRangesOk] using hok

theorem rejectRecord (r : TableRecord) (t : State) (hp : t.positioned r.tag = false) :
    E t (Machine.rejectRecord r t) :=
  c.trans (c.trans (c.trans (c.rejectSlab _ _ hp) (c.raise ..)) (c.markList _)) (c.markReady ..)

theorem removeRecord (r : TableRecord) (t : State) (hp : t.positioned r.tag = false) :
    E t (Machine.removeRecord r t) :=
  c.trans (c.trans (c.deleteRecord _ _ hp) (c.revertLink ..)) (c.evalPresence _)

theorem ownRejectSlab {tag : Nat} (h : ownRejectSlab tag s = .ok (d, f)) :
    E { s with links := l } (f { s with links := l }) := by
  obtain ⟨r, -, hp, rfl⟩ := forFreeRecord_ok h
  exact c.rejectRecord r _ hp

theorem ownRemoveSlab {tag : Nat} (h : ownRemoveSlab tag s = .ok (d, f)) :
    E { s with links := l } (f { s with links := l }) := by
  obtain ⟨r, -, hp, rfl⟩ := forFreeRecord_ok h
  exact c.removeRecord r _ hp

theorem ownEnterSlab {id : Identity} {w th m : Int} (hC : C s) (h : ownEnterSlab id w th m s = .ok (d, f)) :
    E { s with links := l } (f { s with links := l }) := by
  unfold Machine.ownEnterSlab at h
  split at h
  · cases h
  · split at h
    · cases h
    · split at h
      · cases h
      · split at h
        · cases h
        · split at h
          · cases h
          · split at h
            · cases h
            · rename_i hid
              split at h
              · cases h
              · rename_i hb
                cases h
                simp only [enterBusy, Bool.or_eq_true, not_or, Bool.not_eq_true, decide_eq_true_eq,
                  Option.isSome_eq_false_iff, Option.isNone_iff_eq_none, not_le] at hb
                obtain ⟨⟨⟨-, hgrant⟩, hlen⟩, -⟩ := hb
                exact c.createRecord { s with links := l } id w th m (c.stableC (.links s l) hC)
                  (Bool.eq_false_of_not_eq_true hid) hgrant hlen

theorem ownClearHolds {sel : HoldSelection} (h : ownClearHolds sel s = .ok (d, f)) :
    E { s with links := l } (f { s with links := l }) := by
  unfold Machine.ownClearHolds at h
  split at h
  · cases h
  · cases h
    exact c.clearSelected ..

theorem ownClearError (h : ownClearError s = .ok (d, f)) : E { s with links := l } (f { s with links := l }) := by
  cases h
  exact c.setLatch ..

theorem ownClearLink {sel : Code LinkSelection} (h : ownClearLink sel s = .ok (d, f)) :
    E { s with links := l } (f { s with links := l }) := by
  unfold Machine.ownClearLink at h
  split at h
  · cases h
  · cases h
    exact c.clearFlags ..

end


end EventClosed

/-- R203: sending events changes the links alone. -/
theorem sendEvents_eq_links (es : List Stamped) (s : State) :
    ∃ l, es.foldl (fun s e => sendEvent e s) s = { s with links := l } := by
  induction es generalizing s with
  | nil => exact ⟨_, rfl⟩
  | cons e es ih =>
    obtain ⟨l, hl, -⟩ := sendOwn_eq_links .plant s.reportStation 0 (.event e) s
    obtain ⟨l', hl'⟩ := ih { s with links := l }
    refine ⟨l', ?_⟩
    rw [List.foldl_cons, sendEvent, hl, hl']

/-- R134: what a reset sends changes the links alone, and no port goes down. -/
theorem sendResetNotices_eq_links (s : State) :
    ∃ l, sendResetNotices s = { s with links := l } ∧ ∀ q, (l.port q).up = (s.links.port q).up := by
  have field (r : Role) (n : Nat) (b : OwnBody) (t : State) :
      ∃ l, sendField r n b t = { t with links := l } ∧ ∀ q, (l.port q).up = (t.links.port q).up := by
    unfold sendField
    split
    · exact ⟨t.links, rfl, fun _ => rfl⟩
    · exact sendOwn_eq_links ..
  have answers (l : List GridRequest) (t : State) : ∃ k,
      l.foldl (fun s q => answerCrane q.crane (some q.id) q.reference .withdrawnReset s) t = { t with links := k }
        ∧ ∀ q, (k.port q).up = (t.links.port q).up := by
    induction l generalizing t with
    | nil => exact ⟨_, rfl, fun _ => rfl⟩
    | cons q l ih =>
      obtain ⟨k, hk, hu⟩ := field (.crane q.crane) q.reference (.gridAnswer q.crane (some q.id) .withdrawnReset) t
      obtain ⟨k', hk', hu'⟩ := ih { t with links := k }
      exact ⟨k', by rw [List.foldl_cons, answerCrane, hk, hk'], fun p => (hu' p).trans (hu p)⟩
  have holder : ∃ l, withdrawHolder s = { s with links := l } ∧ ∀ q, (l.port q).up = (s.links.port q).up := by
    unfold withdrawHolder
    split
    · exact ⟨_, rfl, fun _ => rfl⟩
    · exact field ..
  obtain ⟨l1, h1, u1⟩ := holder
  obtain ⟨l2, h2, u2⟩ := answers (State.gridOrder { s with links := l1 }) { s with links := l1 }
  have halted : ∃ l, sendHalt .reset { s with links := l2 } = { s with links := l }
      ∧ ∀ q, (l.port q).up = (l2.port q).up := by
    unfold sendHalt
    split
    · exact field ..
    · exact ⟨l2, rfl, fun _ => rfl⟩
  obtain ⟨l3, h3, u3⟩ := halted
  refine ⟨l3, ?_, fun q => ((u3 q).trans (u2 q)).trans (u1 q)⟩
  rw [sendResetNotices, h1, withdrawQueued, h2, h3]

namespace EventClosed

variable {C D : State → Prop} {E : State → State → Prop} (c : EventClosed C D E)
include c

theorem ownResume {s : State} {d : RespData} {f : State → State} (l : Links)
    (h : ownResume s = .ok (d, f)) : E { s with links := l } (f { s with links := l }) := by
  unfold Machine.ownResume at h
  split at h
  · cases h
  · cases h
  · rename_i hmode
    cases h
    obtain ⟨k, hk⟩ := sendEvents_eq_links s.ret.held { s with links := l }
    have delivered : deliverHeld { s with links := l } = { s with links := k } := hk
    refine c.trans (c.trans (c.trans (c.trans (c.trans (c.deliverHeld _) (c.clearHeldList _))
      (c.resumeMode _ ?_)) (c.raise ..)) (c.markStarts _)) (c.markGrid _)
    rw [delivered]
    exact hmode

theorem ownResetTracking {s : State} {d : RespData} {f : State → State} (l : Links)
    (h : ownResetTracking s = .ok (d, f)) : E { s with links := l } (f { s with links := l }) := by
  unfold Machine.ownResetTracking at h
  split at h
  · cases h
  · cases h
    exact c.trans (c.trans (c.trans (c.trans (c.sendResetNotices _) (c.revertAll _)) (c.clearTracking _))
      (c.clearCounter ..)) (c.evalPresence _)

theorem runAgain (s : State) (hu : ∃ p, (s.links.port p).up = true) :
    E s (Machine.runAgain (coldBlocks s)) := by
  have run := c.coldRun s hu
  unfold Machine.runAgain
  split
  · rename_i hm
    have : putMode .run (coldBlocks s) = coldBlocks s := by
      have hm : s.ret.mode = .run := hm
      simp [putMode, coldBlocks, State.setRet, hm]
    rwa [this] at run
  · exact c.trans run (c.raise ..)

theorem ownResetAll {s : State} {d : RespData} {f : State → State} (l : Links)
    (hu : ∃ p, (l.port p).up = true)
    (h : ownResetAll s = .ok (d, f)) : E { s with links := l } (f { s with links := l }) := by
  unfold Machine.ownResetAll at h
  split at h
  · cases h
  · cases h
    obtain ⟨k, hk, hup⟩ := sendResetNotices_eq_links { s with links := l }
    obtain ⟨p, hp⟩ := hu
    refine c.trans (c.trans (c.sendResetNotices _) (c.runAgain _ ⟨p, ?_⟩)) (c.evalPresence _)
    rw [hk]
    exact (hup p).trans hp

end EventClosed

end Sys2Proof.Machine
end

section
/-! Every command, and so every step, stays within the closures. -/

namespace Sys2Proof.Machine

/-- R98: the charger report that a sequencer expects comes in the state of its phase. -/
theorem reportExpected_state {s : State} {k : Furnace} {phase : ChargerPhase} {tag : Nat}
    (h : reportExpected s k phase tag = true) : phaseExpected (s.seqs.get k).state phase = true := by
  simp only [reportExpected, Bool.and_eq_true] at h
  exact h.1

/-- R53: a timer that has run out is that of the cycle. -/
theorem timerOut_which {s : State} {k : Furnace} {w : TimeoutKind} (h : timerOut k w s = true) :
    ((s.seqs.get k).cycle.bind (·.timer)).map (·.which) = some w := by
  simp only [timerOut, Bool.and_eq_true, beq_iff_eq] at h
  have : (s.seqs.get k).cycle.bind (·.timer) = some ⟨w, 0⟩ := h.2
  rw [this]
  rfl

/-- R130: the grant that has run out is the one that stands. -/
theorem State.grantRunOut_some {s : State} {g : Grant} (h : s.grantRunOut = some g) : s.grid.grant = some g := by
  unfold State.grantRunOut at h
  split at h
  · cases h
  · rename_i g' hg
    split at h
    · split at h
      · cases h
        exact hg
      · cases h
    · cases h

/-- What the passage of a telegram asks of a relation: sending, the overrun flag, and a manual move that has been let
through. -/
structure PassClosed (R : State → State → Prop) : Prop extends SendClosed R where
  overrun : ∀ p s, R s (setOverrun p s)
  manual : ∀ p x s, State.manualAllowed (Machine.forwardTo p x s) = true →
    R s (finish (startManual (Machine.forwardTo p x s)))

namespace PassClosed

variable {R : State → State → Prop} (w : PassClosed R)
include w

theorem answerYard (h : Hdr) (n : Nat) (s : State) : R s (Machine.answerYard h n s) := w.sendOwn ..

theorem blockFull (h : Hdr) (n : Nat) (s : State) : R s (Machine.blockFull h n s) :=
  w.trans (w.overrun ..) (w.block ..)

/-! ### The passage unit (R169 to R184) -/

theorem guardTable (x : Instr) (n : Nat) (h : Hdr) (s : State) : R s (guardTable x n h s) := by
  unfold Machine.guardTable
  split
  · exact w.block ..
  · split
    · exact w.blockFull ..
    · split
      · exact w.block ..
      · rename_i hm
        refine w.manual _ _ _ ?_
        rw [Bool.not_eq_true, Bool.not_eq_false'] at hm
        exact hm

theorem guardStroke (x : Instr) (n : Nat) (h : Hdr) (s : State) : R s (guardStroke x n h s) := by
  unfold Machine.guardStroke
  split
  · exact w.block ..
  · split
    · exact w.block ..
    · split
      · exact w.blockFull ..
      · exact w.forwardTo ..

theorem fromRole {kind : Nat} {h : Hdr} {b : Bool} {act : Role → State → State} {s : State}
    (ha : ∀ r, R s (act r s)) : R s (fromRole kind h b act s) := by
  unfold Machine.fromRole
  split
  · exact w.stray ..
  · split
    · exact ha _
    · exact w.stray ..

/-- A telegram's passage stays within the relation where what the management unit and the blocks do with it does. -/
theorem arrive {x : Instr} {kind : Nat} {h : Hdr} {b : Bool} {m : State → State} {act : Role → State → State}
    {s : State} (hm : (s.links.port h.port).up = true → R s (m s))
    (ha : ∀ r t, SameAccount s t → R t (act r t)) : R s (arrive x kind h b m act s) := by
  unfold Machine.arrive
  split
  · exact w.refl s
  · rename_i hup
    replace hup : (s.links.port h.port).up = true := by simpa [received] using hup
    have same : SameAccount s s := ⟨rfl, fun _ => rfl, rfl, rfl, rfl⟩
    split
    · exact w.stray ..
    · split
      · unfold takeAddressed
        split
        · split
          · exact hm hup
          · exact w.answerYard ..
        · split
          · exact w.fromRole fun r => ha r s same
          · exact w.stray ..
      · unfold passBy
        split
        · exact w.forwardTo ..
        · exact w.refl s
        · exact w.trans (w.forwardTo ..) (w.fromRole fun r => ha r _ (.forwardTo ..))
        · exact w.guardTable ..
        · exact w.guardStroke ..

theorem manage {x : Instr} {kind : Nat} {h : Hdr} {f : Bool → State → State} {s : State}
    (hf : (s.links.port h.port).up = true → ∀ b, R s (f b s)) : R s (manage x kind h f s) :=
  w.arrive (fun hu => hf hu _) (fun _ t _ => w.refl t)

theorem field {x : Instr} {kind : Nat} {h : Hdr} {b : Bool} {act : Role → State → State} {s : State}
    (ha : ∀ r t, SameAccount s t → R t (act r t)) : R s (field x kind h b act s) :=
  w.arrive (fun _ => w.refl s) ha

theorem takeMapEdit {h : Hdr} {op : MapOpCode} {own : State → EditResult} {b : Bool} {s : State}
    (ho : ∀ d f l, own s = .ok (d, f) →
      R { s with links := l } (finish (f { s with links := l }))) :
    R s (takeMapEdit h op own b s) := by
  unfold Machine.takeMapEdit
  split
  · exact w.respond ..
  · split
    · exact w.refuseAndLatch ..
    · split
      · exact w.refuseAndLatch ..
      · rename_i d f hok
        obtain ⟨l, hl, hu⟩ := respond_eq_links h Kind.mapEdit .ok none d s
        refine w.trans (w.respond h Kind.mapEdit .ok none d s) ?_
        rw [hl]
        exact ho d f l hok

/-- A command that acts in a part that is on. -/
theorem powered {f : State → State} {s t : State} (h : powered f s = .next t) (hf : R s (f s)) : R s t := by
  rw [powered_next] at h
  obtain rfl := Host.Outcome.next.inj h
  split
  · exact hf
  · exact w.refl s

/-- A MAP_EDIT that acts. -/
theorem mapEdit {x : Instr} {h : Hdr} {op : MapOpCode} {own : State → EditResult} {s t : State}
    (ho : ∀ d f l, own s = .ok (d, f) → R { s with links := l } (finish (f { s with links := l })))
    (ht : Machine.powered (Machine.manage x Kind.mapEdit h (Machine.takeMapEdit h op own)) s = .next t) :
    R s t :=
  w.powered ht (w.manage fun _ _ => w.takeMapEdit ho)

end PassClosed

namespace StepClosed

variable {C D : State → Prop} {E R : State → State → Prop} (w : StepClosed C D E R)
include w

theorem pass : PassClosed R where
  toSendClosed := w.outer.toSendClosed
  overrun := w.outer.setOverrun
  manual _ _ _ h := w.finish (w.event.trans (w.event.forwardTo ..) (w.event.startManual _ h))

theorem beat (s : State) : R s (beat s) := by
  unfold Machine.beat
  split
  · exact w.outer.putSupervision ..
  · exact w.finish (w.event.trans (w.event.trans (w.event.trans (w.event.putSupervision ..) (w.event.raise ..))
      (w.event.markStarts _)) (w.event.markGrid _))

theorem takeHeartbeat (h : Hdr) (b : Bool) (s : State) : R s (takeHeartbeat h b s) := by
  unfold Machine.takeHeartbeat
  split
  · exact w.outer.respond ..
  · exact w.outer.trans (w.outer.respond ..) (w.beat _)

theorem rawTelegram (x : Instr) (t : RawTel) (s : State) : R s (rawTelegram x t s) := by
  refine w.pass.arrive (fun _ => ?_) (fun _ u _ => w.outer.refl u)
  unfold rawManage rawLoad rawMapEdit rawScheduleEdit rawRead
  (repeat' split) <;>
    first
    | exact w.outer.respond ..
    | exact w.outer.refuseAndLatch ..
    | exact w.takeHeartbeat ..

/-! ### Commands and edits (R20, R114, R192) -/

/-- A command stays within the relation where its owner's effect does. -/
theorem takeCommand {h : Hdr} {own : State → CommandResult} {b : Bool} {s : State}
    (ho : ∀ d f l, (∀ q, (l.port q).up = (s.links.port q).up) → own s = .ok (d, f) →
      E { s with links := l } (f { s with links := l })) :
    R s (takeCommand h own b s) := by
  unfold Machine.takeCommand
  split
  · exact w.outer.respond ..
  · split
    · exact w.outer.respond ..
    · rename_i d f hok
      obtain ⟨l, hl, hu⟩ := respond_eq_links h Kind.command .ok none d s
      refine w.outer.trans (w.outer.respond h Kind.command .ok none d s) (w.finish ?_)
      rw [hl]
      exact ho d f l hu hok

theorem takeScheduleEdit (h : Hdr) (ops : List SchedOp) (b : Bool) (s : State) :
    R s (takeScheduleEdit h ops b s) := by
  unfold Machine.takeScheduleEdit
  split
  · exact w.outer.respond ..
  · split
    · exact w.outer.refuseAndLatch ..
    · split
      · exact w.outer.refuseAndLatch ..
      · split
        · exact w.outer.refuseAndLatch ..
        · rename_i l hl
          refine w.outer.trans (w.outer.respond ..) (w.finish (w.event.trans
            (w.event.editSchedule _ s.idHeld ops l ?_) (w.event.markGrid _)))
          rw [respond_schedule]
          exact hl

theorem ownSensorSetup {first : Nat} {es : List SensorSetupEntry} {s : State} {d : RespData}
    {f : State → State} (l : Links) (h : ownSensorSetup first es s = .ok (d, f)) :
    R { s with links := l } (f { s with links := l }) := by
  have setups (i : Nat) (xs : List SensorSetupEntry) (t : State) : E t (putSensorSetups i xs t) := by
    induction xs generalizing i t with
    | nil => exact w.event.refl t
    | cons x xs ih =>
      unfold putSensorSetups
      split
      · exact w.event.refl t
      · rename_i i' _
        have reloaded (v : PerSensor SensorSetup) : E t (t.setCfg { t.cfg with sensorSetup := v }) :=
          w.lift (w.outer.reload _ _ (.of_shaped (fun h => h) rfl rfl) ⟨rfl, rfl, rfl⟩)
        exact w.event.trans (w.event.trans (reloaded _) (w.event.setSensors ..)) (ih ..)
  unfold Machine.ownSensorSetup at h
  dsimp only at h
  split at h
  · cases h
  · split at h
    · cases h
    · cases checkEach_ok (checkEach_ok h)
      exact w.finish (w.event.trans (w.event.trans (setups ..) (w.event.evalPresence _)) (w.event.markList _))

/-! ### Telegrams of the field (R68, R121) -/

theorem fromCrane {act : Crane → State → State} {r : Role} {s : State} (ha : ∀ x, E s (act x s)) :
    R s (fromCrane act r s) := by
  unfold Machine.fromCrane
  split
  · exact w.finish (ha _)
  · exact w.outer.refl s

theorem fromBeam {act : Furnace → State → State} {r : Role} {s : State} (ha : ∀ k, E s (act k s)) :
    R s (fromBeam act r s) := by
  unfold Machine.fromBeam
  split
  · exact w.finish (ha _)
  · exact w.outer.refl s

theorem fromDischarge {act : Furnace → State → State} {r : Role} {s : State} (ha : ∀ k, E s (act k s)) :
    R s (fromDischarge act r s) := by
  unfold Machine.fromDischarge
  split
  · exact w.finish (ha _)
  · exact w.outer.refl s

theorem fromTableDrive (n : Nat) (o : Code MoveOutcome) (r : Role) (s : State) :
    R s (fromTableDrive n o r s) := by
  unfold Machine.fromTableDrive
  split
  · exact w.finish (w.event.takeTableReport ..)
  · exact w.outer.refl s

theorem fromCharger {phase : ChargerPhase} {tag : Nat} {act : Furnace → State → State} {r : Role} {s : State}
    (ha : ∀ k, phaseExpected (s.seqs.get k).state phase = true → E s (act k s)) :
    R s (fromCharger phase tag act r s) := by
  unfold Machine.fromCharger
  split
  · split
    · exact w.finish (ha _ (reportExpected_state ‹_›))
    · exact w.outer.raise ..
  · exact w.outer.refl s

theorem takeRetracted {k : Furnace} {s : State} (hs : phaseExpected (s.seqs.get k).state .retracted = true) :
    E s (takeRetracted k s) := by
  have state : (s.seqs.get k).state = .retract := by
    revert hs
    cases (s.seqs.get k).state <;> decide
  unfold Machine.takeRetracted
  split
  · exact w.event.toIdle _ _ (.inr state)
  · exact w.event.enterHeld _ _ _ _ (by rw [state]; decide)

/-- R53: an expiry stays within the relation where what it brings about does. -/
theorem expire {k : Furnace} {x : TimeoutKind} {n : Nat} {act : State → State} {s : State}
    (ha : ∀ t : State, ((t.seqs.get k).cycle.bind (·.timer)).map (·.which) = some x → E t (act t)) :
    R s (expire k x n act s) := by
  unfold Machine.expire
  dsimp only
  split
  · exact w.outer.trans (w.outer.elapse ..) (w.finish (ha _ (timerOut_which ‹_›)))
  · exact w.outer.elapse ..

theorem takeChargeTimeout {k : Furnace} {x : TimeoutKind} (hx : x ≠ .positioning) (t : State)
    (ht : ((t.seqs.get k).cycle.bind (·.timer)).map (·.which) = some x) :
    E t (takeChargeTimeout k x t) :=
  w.event.trans (w.event.sendChargerStop ..) (w.event.timedOut _ k x _
    (by rw [Machine.sendChargerStop, sendField_seqs]; exact ht) hx)

/-! ### Every command -/

/-- A LOAD_TABLE. -/
theorem load {x : Instr} {h : Hdr} {y : TableId} {n : Nat} {own : State → LoadResult} {s t : State}
    (ho : ∀ d f l, own s = .ok (d, f) → R { s with links := l } (f { s with links := l }))
    (ht : Machine.powered (Machine.manage x Kind.loadTable h (takeLoad h y n own)) s = .next t) : R s t :=
  w.pass.powered ht (w.pass.manage fun _ _ => w.outer.takeLoad ho)

/-- A READ_TABLE. -/
theorem read {x : Instr} {h : Hdr} {own : State → ReadResult} {s t : State}
    (ht : Machine.powered (Machine.manage x Kind.readTable h (takeRead h own)) s = .next t) : R s t :=
  w.pass.powered ht (w.pass.manage fun _ _ => w.outer.takeRead ..)

/-- A QUERY. -/
theorem query {x : Instr} {h : Hdr} {ok : Bool} {own : State → ReadResult} {s t : State}
    (ht : Machine.powered (Machine.manage x Kind.query h (takeQuery h ok own)) s = .next t) : R s t :=
  w.pass.powered ht (w.pass.manage fun _ _ => w.outer.takeQuery ..)

/-- A COMMAND, by its owner's effect. -/
theorem command {x : Instr} {h : Hdr} {own : State → CommandResult} {s t : State}
    (ho : ∀ d f l, own s = .ok (d, f) → E { s with links := l } (f { s with links := l }))
    (ht : Machine.powered (Machine.manage x Kind.command h (Machine.takeCommand h own)) s = .next t) : R s t :=
  w.pass.powered ht (w.pass.manage fun _ _ => w.takeCommand fun d f l _ => ho d f l)

/-- A CHARGER_REPORT, by what its phase does in the state that expects it. -/
theorem charger {x : Instr} {h : Hdr} {phase : ChargerPhase} {tag : Nat} {act : Furnace → State → State}
    {s t : State} {st : SeqState}
    (hs : ∀ y, phaseExpected y phase = true → y = st)
    (ha : ∀ k (u : State), (u.seqs.get k).state = st → E u (act k u))
    (ht : Machine.powered (Machine.field x Kind.chargerReport h true (Machine.fromCharger phase tag act)) s
      = .next t) : R s t :=
  w.pass.powered ht (w.pass.field fun _ u _ => w.fromCharger fun k hp => ha k u (hs _ hp))

/-- An expiry of a sequencer's timer, by what it brings about. -/
theorem expiry {k : Furnace} {x : TimeoutKind} {n : Nat} {act : State → State} {s t : State}
    (ha : ∀ u : State, ((u.seqs.get k).cycle.bind (·.timer)).map (·.which) = some x → E u (act u))
    (ht : Machine.powered (Machine.expire k x n act) s = .next t) : R s t :=
  w.pass.powered ht (w.expire ha)

/-- Every command stays within the relation: from a state in which a created table record may rely on `C` and the
rest on `D`. -/
theorem exec {i : Instr} {s t : State} (hC : mayCreate (some i) = true → C s) (hD : D s)
    (ht : exec i s = .next t) : R s t := by
  have o := w.outer
  have e := w.event
  cases i with
  | frameCheckFailed p => exact w.pass.powered (f := id) ht (o.refl s)
  | forwardedFrame p a b x bytes =>
    refine w.pass.powered ht ?_
    split
    · exact o.forwardTo ..
    · exact o.refl s
  | malformedTelegram x => exact w.pass.powered ht (w.rawTelegram ..)
  | wrongKindTelegram x => exact w.pass.powered ht (w.rawTelegram ..)
  | notFromYard x => exact w.pass.powered ht (w.rawTelegram ..)
  | passingTelegram x => exact w.pass.powered ht (w.rawTelegram ..)
  | gridRequest h n id =>
    exact w.pass.powered ht (w.pass.field fun _ _ _ => w.fromCrane fun _ => e.takeGridRequest ..)
  | gridRelease h n => exact w.pass.powered ht (w.pass.field fun _ _ _ => w.fromCrane fun _ => e.takeGridRelease ..)
  | depositReport h n id a b m =>
    exact w.pass.powered ht (w.pass.field fun _ _ hu => w.fromCrane fun _ =>
      e.takeDeposit _ _ _ _ _ _ _ _ (e.stableC hu (hC rfl)))
  | removalReport h n id => exact w.pass.powered ht (w.pass.field fun _ u _ => w.fromCrane fun _ => e.takeRemoval u id)
  | tableReport h n x f => exact w.pass.powered ht (w.pass.field fun _ _ _ => w.fromTableDrive ..)
  | manualTableMove h p => exact w.pass.powered ht (w.pass.arrive (fun _ => o.refl s) fun _ u _ => o.refl u)
  | manualStroke h p => exact w.pass.powered ht (w.pass.arrive (fun _ => o.refl s) fun _ u _ => o.refl u)
  | strokeReport h x =>
    exact w.pass.powered ht (w.pass.field fun _ _ _ => w.fromBeam fun _ =>
      e.trans (e.mapStroke ..) (e.strokeHandedOn ..))
  | dischargeReport h n a b =>
    exact w.pass.powered ht (w.pass.field fun _ _ _ => w.fromDischarge fun _ => e.takeDischargeReport ..)
  | lifted h tag f => exact w.charger (st := .pick) (by intro y; cases y <;> decide) (fun k u hu => e.takeLifted u k hu) ht
  | atDepth h tag f => exact w.charger (st := .carry) (by intro y; cases y <;> decide) (fun k u hu => e.takeAtDepth u k hu) ht
  | lowered h tag f => exact w.charger (st := .lower) (by intro y; cases y <;> decide) (fun k u hu => e.takeLowered u k hu) ht
  | retracted h tag f => exact w.pass.powered ht (w.pass.field fun _ _ _ => w.fromCharger fun _ => w.takeRetracted)
  | chargerReportRefused h tag f =>
    exact w.charger (st := .pick) (by intro y; cases y <;> decide)
      (fun k u hu => e.enterHeld u k _ _ (by rw [hu]; decide)) ht
  | chargerReportFault h tag f =>
    refine w.pass.powered ht (w.pass.field fun _ u _ => w.fromCharger fun k hp => e.enterHeld u k _ _ ?_)
    constructor <;> (intro hs; rw [hs] at hp; cases hp)
  | heartbeat h => exact w.pass.powered ht (w.pass.manage fun _ _ => w.takeHeartbeat ..)
  | loadFurnaceGeometry h sel first es => exact w.load (fun d f l => o.ownFurnaceGeometry l) ht
  | loadGapRules h sel first es => exact w.load (fun d f l => o.ownGapRules l) ht
  | loadThicknessClasses h first es => exact w.load (fun d f l => o.ownThicknessClasses l) ht
  | loadChargerTiming h sel first es => exact w.load (fun d f l => o.ownChargerTiming l) ht
  | loadTableGeometry h first es => exact w.load (fun d f l => o.ownTableGeometry l) ht
  | loadCounterSetup h sel first es => exact w.load (fun d f l => o.ownCounterSetup l) ht
  | loadSensorSetup h first es => exact w.load (fun d f l => w.ownSensorSetup l) ht
  | loadWindowPool h first es => exact w.load (fun d f l => o.ownWindowPool l) ht
  | loadWindowSets h sel first es => exact w.load (fun d f l => o.ownWindowSets l) ht
  | loadLineSettings h sel first es => exact w.load (fun d f l => o.ownLineSettings l) ht
  | loadPassage h first es => exact w.load (fun d f l => o.ownPassage l) ht
  | loadStatusMap h first es => exact w.load (fun d f l => o.ownStatusMap l) ht
  | loadPartSettings h first es => exact w.load (fun d f l => o.ownPartSettings l) ht
  | readFurnaceGeometry h sel first n => exact w.read ht
  | readGapRules h sel first n => exact w.read ht
  | readThicknessClasses h first n => exact w.read ht
  | readChargerTiming h sel first n => exact w.read ht
  | readTableGeometry h first n => exact w.read ht
  | readCounterSetup h sel first n => exact w.read ht
  | readSensorSetup h first n => exact w.read ht
  | readWindowPool h first n => exact w.read ht
  | readWindowSets h sel first n => exact w.read ht
  | readLineSettings h sel first n => exact w.read ht
  | readPassage h first n => exact w.read ht
  | readStatusMap h first n => exact w.read ht
  | readPartSettings h first n => exact w.read ht
  | scheduleEdit h ops => exact w.pass.powered ht (w.pass.manage fun _ _ => w.takeScheduleEdit ..)
  | deleteSlab h tag => exact w.pass.mapEdit (fun d f l ok => w.finish (e.ownDeleteSlab l ok)) ht
  | setRowFront h sel row x => exact w.pass.mapEdit (fun d f l ok => w.finish (e.ownSetRowFront l ok)) ht
  | insertSlab h sel x id a b th g m => exact w.pass.mapEdit (fun d f l ok => w.finish (e.ownInsertSlab l hD ok)) ht
  | armFurnace h sel => exact w.command (fun d f l => e.ownArm l) ht
  | disarmFurnace h sel => exact w.command (fun d f l => e.ownDisarm l) ht
  | stopCharger h sel => exact w.command (fun d f l => e.ownStop l) ht
  | releaseCharger h sel => exact w.command (fun d f l => e.ownRelease l) ht
  | resolveInflightLanded h sel x => exact w.command (fun d f l => e.ownResolveLanded l) ht
  | resolveInflightRemoved h sel => exact w.command (fun d f l => e.ownResolveRemoved l) ht
  | acceptSlab h tag a b th g x => exact w.command (fun d f l => e.ownAcceptSlab l hD) ht
  | rejectSlab h tag => exact w.command (fun d f l => e.ownRejectSlab l) ht
  | removeSlab h tag => exact w.command (fun d f l => e.ownRemoveSlab l) ht
  | enterSlab h id a th m => exact w.command (fun d f l => e.ownEnterSlab l (hC rfl)) ht
  | clearHolds h sel => exact w.command (fun d f l => e.ownClearHolds l) ht
  | clearError h => exact w.command (fun d f l => e.ownClearError l) ht
  | clearLink h sel => exact w.command (fun d f l => e.ownClearLink l) ht
  | resume h => exact w.command (fun d f l => e.ownResume l) ht
  | resetTracking h => exact w.command (fun d f l => e.ownResetTracking l) ht
  | resetAll h =>
    exact w.pass.powered ht (w.pass.manage fun hup _ => w.takeCommand fun d f l hu =>
      e.ownResetAll l ⟨h.port, (hu _).trans hup⟩)
  | queryMap h q => exact w.query ht
  | queryTableList h q => exact w.query ht
  | querySchedule h q => exact w.query ht
  | queryInflight h sel => exact w.query ht
  | queryGrid h => exact w.query ht
  | queryCounters h => exact w.query ht
  | queryHolds h x => exact w.pass.powered ht (w.pass.manage fun _ _ => o.takeQueryHolds ..)
  | positioningTimeout k n => exact w.expiry (fun u hu => e.abandonHeld u k _ _ (.inr hu)) ht
  | strokeTimeout k n => exact w.expiry (fun u hu => e.timedOut u k _ _ hu (by decide)) ht
  | pickTimeout k n => exact w.expiry (fun u hu => w.takeChargeTimeout (by decide) u hu) ht
  | carryTimeout k n => exact w.expiry (fun u hu => w.takeChargeTimeout (by decide) u hu) ht
  | lowerTimeout k n => exact w.expiry (fun u hu => w.takeChargeTimeout (by decide) u hu) ht
  | retractTimeout k n => exact w.expiry (fun u hu => w.takeChargeTimeout (by decide) u hu) ht
  | grantTimeout n =>
    have ht : execGrantTimeout n s = .next t := ht
    unfold execGrantTimeout at ht
    refine w.pass.powered ht ?_
    dsimp only
    split
    · exact o.elapse ..
    · exact o.trans (o.elapse ..) (w.finish (e.takeGrantTimeout _ _ (State.grantRunOut_some ‹_›)))
  | supervisionTimeout n =>
    have ht : execSupervisionTimeout n s = .next t := ht
    unfold execSupervisionTimeout at ht
    refine w.pass.powered ht ?_
    dsimp only
    split
    · exact o.elapse ..
    · exact o.trans (o.elapse ..) (w.finish (e.takeSupervisionExpiry ..))
  | statusTimerExpiry n =>
    have ht : execStatusTimerExpiry n s = .next t := ht
    unfold execStatusTimerExpiry at ht
    refine w.pass.powered ht ?_
    dsimp only
    split
    · exact o.trans (o.elapse ..) (o.takeStatusExpiry _)
    · exact o.elapse ..
  | gateEnd x n =>
    have ht : execGateEnd x n s = .next t := ht
    unfold execGateEnd at ht
    refine w.pass.powered ht ?_
    dsimp only
    split
    · exact o.trans (o.elapse ..) (w.finish (e.setCounters ..))
    · exact o.elapse ..
  | secondsClockStep n =>
    have ht : execSecondsClockStep n s = .next t := ht
    unfold execSecondsClockStep at ht
    exact w.pass.powered ht (o.trans (o.elapse ..) (o.clock _))
  | encoderStep x a b =>
    exact w.pass.powered (f := fun s => Machine.finish (Machine.encoderStep x (a, b) s)) ht (w.finish (e.encoderStep ..))
  | markerEdge x rising =>
    exact w.pass.powered (f := fun s => Machine.finish (Machine.takeMarker x rising s)) ht (w.finish (e.takeMarker ..))
  | rawTransition x b =>
    exact w.pass.powered (f := fun s => Machine.finish (Machine.rawTransition x b s)) ht (w.finish (e.rawTransition _ _ _ hD))
  | filterTimeElapsed x n =>
    have ht : execFilterTimeElapsed x n s = .next t := ht
    unfold execFilterTimeElapsed at ht
    refine w.pass.powered ht ?_
    dsimp only
    split
    · exact o.elapse ..
    · exact o.trans (o.elapse ..) (w.finish (e.takeChange _ _ _ (e.stableD (.elapse ..) hD)))
  | portDown p => exact w.pass.powered ht (o.linkDown ..)
  | portUp p => exact w.pass.powered ht (o.linkUp ..)
  | frameSent p =>
    have ht : execFrameSent p s = .next t := ht
    unfold execFrameSent at ht
    exact w.pass.powered ht (o.frameSent ..)
  | mainSupplyLost =>
    refine w.pass.powered ht ?_
    unfold mainLost
    split
    · exact o.refl s
    · split
      · exact w.finish (e.enterRetain s ‹_›)
      · exact o.powerOff s
  | mainSupplyReturns =>
    refine w.pass.powered ht ?_
    unfold mainReturns
    split
    · exact o.trans (w.finish (e.enterRestored s ‹_›)) (o.takeStatusExpiry _)
    · exact o.refl s
  | backupSupplyLost =>
    refine w.pass.powered ht ?_
    unfold backupLost
    split
    · exact o.powerOff s
    · exact o.refl s
  | backupSenseChange b => exact w.pass.powered ht (o.putBackup ..)
  | coldStart x =>
    obtain rfl := Host.Outcome.next.inj ht
    exact o.trans (o.cold x s) (o.evalPresence _)

end StepClosed

/-- Every step stays within a relation that the closures have, if taking a command off the queue does. -/
theorem StepClosed.step {C D : State → Prop} {E R : State → State → Prop} (w : StepClosed C D E R)
    (hp : ∀ s v, R s (s.setPending v)) {s t : State} (hC : mayCreate s.pending.head? = true → C s) (hD : D s)
    (ht : step s = .next t) : R s t := by
  have same (rest : List Instr) : SameAccount s (s.setPending rest) := ⟨rfl, fun _ => rfl, rfl, rfl, rfl⟩
  unfold Machine.step at ht
  split at ht
  · obtain rfl := Host.Outcome.next.inj ht
    exact w.outer.refl s
  · rename_i i rest h
    refine w.outer.trans (hp s rest) (w.exec (fun hi => ?_) (w.event.stableD (same rest) hD) ht)
    exact w.event.stableC (same rest) (hC (by rw [h]; exact hi))

end Sys2Proof.Machine
end

section
/-! Statements that do not depend on how the account and the sequencers change. A relation that the blocks'
elementary updates, the maps, the counters, the sensor inputs and the schedule's changes stay within, stands for
every effect of an event. -/

namespace Sys2Proof.Machine

/-- A relation that every elementary update of an event stays within. -/
structure PlainClosed (R : State → State → Prop) : Prop extends BlockClosed R where
  forwardTo : ∀ p c s, R s (forwardTo p c s)
  setMgmt : ∀ s v, R s (State.setMgmt s v)
  setMaps : ∀ s v, R s (State.setMaps s v)
  setCounters : ∀ s v, R s (State.setCounters s v)
  setSensors : ∀ s v, R s (State.setSensors s v)
  clearFlags : ∀ x s, R s (clearFlags x s)
  editSchedule : ∀ s held ops l, scheduleOps held 0 ops s.schedule = .ok l → R s (State.setSchedule s l)
  setEntryState : ∀ s q st, R s (State.setSchedule s (setEntryState q st s.schedule))
  filterSchedule : ∀ s p, R s (State.setSchedule s (s.schedule.filter p))
  revertAll : ∀ s, R s (revertAll s)
  clearHeldList : ∀ s, R s (clearHeldList s)
  retained : ∀ s, s.ret.mode ≠ .retain → R s (changePorts PortState.retained (changeMode .retain s))
  restored : ∀ s, s.ret.mode = .retain →
    R s (changePorts PortState.restored (changeMode .restored (putStart .restored s)))
  resumed : ∀ s, s.ret.mode = .restored → R s (putMode .run s)
  coldRun : ∀ s, (∃ p, (s.links.port p).up = true) → R s (putMode .run (coldBlocks s))

namespace PlainClosed

variable {R : State → State → Prop} (c : PlainClosed R)
include c

theorem setMap (s : State) (k : Furnace) (m : FurnaceMap) : R s (s.setMap k m) := c.setMaps ..

theorem revertLink (l : Option Nat) (s : State) : R s (Machine.revertLink l s) := by
  cases l with
  | none => exact c.refl s
  | some q => exact c.setEntryState ..

theorem removeLink (l : Option Nat) (s : State) : R s (Machine.removeLink l s) := by
  cases l with
  | none => exact c.refl s
  | some q => exact c.filterSchedule ..

theorem matchSchedule (r : TableRecord) (s t : State) (h : t.schedule = s.schedule) :
    R t (t.setSchedule (Machine.matchSchedule r s.schedule)) := by
  unfold Machine.matchSchedule
  split
  · rw [← h]
    exact c.refl t
  · rw [← h]
    exact c.setEntryState ..

theorem createRecord (id : Identity) (w th m : Int) (s : State) : R s (Machine.createRecord id w th m s) :=
  c.trans (c.setTracker ..) (c.trans (c.matchSchedule (s.depositRecord id w th m) s _ rfl)
    (c.trans (c.setTracker ..) (c.trans (c.raise ..) (c.trans (c.evalPresence _) (c.trans (c.markList _)
      (c.markReady ..))))))

theorem handRemoval (k : Furnace) (tag : Nat) (s : State) : R s (Machine.handRemoval k tag s) := by
  unfold Machine.handRemoval
  split
  · unfold takeRemovedSlab
    split
    · exact c.trans (c.abandonMove ..) (c.enterHeld ..)
    · exact c.enterHeld ..
    · exact c.trans (c.sendChargerStop ..) (c.enterHeld ..)
    · exact c.refl s
  · exact c.refl s

theorem setHoldAlways (n : HoldName) (k : Furnace) (tag : Option Nat) (s : State) :
    R s (Machine.setHoldAlways n k tag s) := c.trans (c.putHold ..) (c.raise ..)

theorem completeLanding (k : Furnace) (f : InFlight) (x : FurnaceSlab) (v : Int) (d : Landing) (s : State) :
    R s (Machine.completeLanding k f x v d s) := by
  have hold (s : State) : R s (landingHold k x.tag v s) := by
    unfold landingHold
    split
    · exact c.refl s
    · split
      · exact c.setHoldAlways ..
      · exact c.refl s
  exact c.trans (c.setMap ..) (c.trans (hold _) (c.trans (c.removeLink ..) (c.raise ..)))

theorem takeLowered (k : Furnace) (s : State) : R s (Machine.takeLowered k s) := by
  unfold Machine.takeLowered
  split
  · dsimp only
    split
    · exact c.trans (c.updateCycle ..) (c.enterHeld ..)
    · rename_i h
      obtain ⟨d, -, rfl⟩ := Option.map_eq_some_iff.1 h
      exact c.trans (c.updateCycle ..) (c.trans (c.completeLanding ..) (c.trans (c.setSeqs ..)
        (c.trans (c.putSeqState ..) (c.startTimer ..))))
  · exact c.refl s

theorem insertSlabRow (k : Furnace) (front : Int) (x : FurnaceSlab) (s : State) :
    R s (Machine.insertSlabRow k front x s) := by
  unfold Machine.insertSlabRow
  dsimp only
  split
  · exact c.trans (c.setMap ..) (c.raise ..)
  · exact c.setMap ..

theorem afterResolution (k : Furnace) (s : State) : R s (Machine.afterResolution k s) := by
  unfold Machine.afterResolution
  dsimp only
  split
  · exact c.trans (c.setSeqs ..) (c.trans (c.markGrid _) (c.enterIdle ..))
  · exact c.trans (c.setSeqs ..) (c.markGrid _)

theorem takeLifted (k : Furnace) (s : State) : R s (Machine.takeLifted k s) := by
  unfold Machine.takeLifted
  split
  · exact c.refl s
  · split
    · exact c.refl s
    · exact c.trans (c.setSeqs ..) (c.trans (c.deleteRecord ..) (c.trans (c.releaseHold ..)
        (c.trans (c.putSeqState ..) (c.trans (c.startTimer ..) (c.evalPresence _)))))

theorem disarm (k : Furnace) (s : State) : R s (Machine.disarm k s) := by
  unfold Machine.disarm
  split
  · exact c.refl s
  · exact c.trans (c.abandonMove ..) (c.enterOffline ..)
  · exact c.enterOffline ..

theorem darken (k : Furnace) (s : State) : R s (Machine.darken k s) := by
  unfold Machine.darken
  split
  · exact c.putStopped ..
  · exact c.refl s

theorem dropMotion (s : State) : R s (Machine.dropMotion s) := by
  unfold Machine.dropMotion
  dsimp only
  split
  · exact c.trans (c.setGrid ..) (c.trans (c.setArb ..) (c.evalPresence _))
  · exact c.trans (c.setGrid ..) (c.setArb ..)

theorem restoreSequencer (k : Furnace) (s : State) : R s (Machine.restoreSequencer k s) := by
  unfold Machine.restoreSequencer
  split
  · exact c.refl s
  · exact c.refl s
  · exact c.refl s
  · exact c.enterIdle ..
  · exact c.enterIdle ..
  · exact c.enterHeld ..
  · exact c.enterHeld ..
  · exact c.enterHeld ..
  · split
    · exact c.enterIdle ..
    · exact c.enterHeld ..

theorem restoreHold (tag : Option Nat) (s : State) : R s (Machine.restoreHold tag s) := by
  unfold Machine.restoreHold
  split
  · exact c.refl s
  · exact c.trans (c.updateRecord ..) (c.raise ..)

theorem loseSupervision (s : State) : R s (Machine.loseSupervision s) := by
  unfold Machine.loseSupervision
  split
  · exact c.refl s
  · exact c.trans (c.setMgmt ..) (c.raise ..)

theorem takeRemoval (s : State) (id : Identity) : R s (Machine.takeRemoval id s) := by
  unfold Machine.takeRemoval
  split
  · exact c.refl s
  · exact c.trans (c.deleteRecord ..) (c.trans (c.revertLink ..) (c.trans (c.handRemoval ..)
      (c.trans (c.handRemoval ..) (c.evalPresence _))))

theorem acceptDeposit (h : Hdr) (id : Identity) (w th m : Int) (x : Crane) (s : State) :
    R s (Machine.acceptDeposit h id w th m x s) :=
  c.trans (c.createRecord ..) (c.trans (c.endGrant _) (c.sendField ..))

theorem resolveLanded (k : Furnace) (f : InFlight) (o : Option Operands) (front : Int) (s : State) :
    R s (Machine.afterResolution k (resolutionInsert k f o front s)) :=
  c.trans (c.insertSlabRow ..) (c.trans (c.setMap ..) (c.trans (c.removeLink ..) (c.trans (c.raise ..)
    (c.afterResolution ..))))

theorem enterRetain (s : State) (h : s.ret.mode ≠ .retain) : R s (Machine.enterRetain s) :=
  c.trans (c.retained s h) (c.trans (c.setMgmt ..) (c.trans (c.dropMotion _) (c.trans (c.darken ..)
    (c.darken ..))))

theorem enterRestored (s : State) (h : s.ret.mode = .retain) : R s (Machine.enterRestored s) :=
  c.trans (c.restored s h) (c.trans (c.restoreSequencer ..) (c.trans (c.restoreSequencer ..)
    (c.trans (c.restoreHold ..) (c.trans (c.restoreHold ..) (c.loseSupervision _)))))

theorem clearTracking (s : State) : R s (Machine.clearTracking s) := by
  have parts : Machine.clearTracking s =
      (((((((s.setMaps ⟨.empty, .empty⟩).setTracker { Tracker.cold with nextTag := s.tracker.nextTag }).setSeqs
        ⟨.offline, .offline⟩).setGrid .cold).setArb { Arbiter.cold with nextMove := s.arb.nextMove }).setPlace
        ⟨.cold, .cold⟩).setWindows
        ⟨{ s.windows.f1 with stopped := none }, { s.windows.f2 with stopped := none }⟩).setDue .none := by
    simp only [Machine.clearTracking, State.setMaps, State.setTracker, State.setSeqs, State.setGrid, State.setArb,
      State.setPlace, State.setWindows, State.setDue]
  rw [parts]
  exact c.trans (c.trans (c.trans (c.trans (c.trans (c.trans (c.trans (c.setMaps ..) (c.setTracker ..))
    (c.setSeqs ..)) (c.setGrid ..)) (c.setArb ..)) (c.setPlace ..)) (c.setWindows ..)) (c.setDue ..)

/-- The closure of the effects of an event that such a relation has. -/
theorem event : EventClosed (fun _ => True) (fun _ => True) R where
  refl := c.refl
  trans := c.trans
  sendOwn := c.sendOwn
  holdEvent := c.holdEvent
  forwardTo := c.forwardTo
  setMgmt := c.setMgmt
  setWatch _ _ _ := c.setTracker ..
  stableC _ _ := trivial
  stableD _ _ := trivial
  setPlace := c.setPlace
  setWindows := c.setWindows
  setDue := c.setDue
  setCounters := c.setCounters
  setSensors := c.setSensors
  clearFlags := c.clearFlags
  setQueue _ _ _ := c.setGrid ..
  overdue _ _ _ := c.setGrid ..
  grantMade _ _ _ _ _ := c.trans (c.setArb ..) (c.setGrid ..)
  grantEnded _ := c.trans (c.setGrid ..) (c.setArb ..)
  revertLink := c.revertLink
  editSchedule := c.editSchedule
  shiftMap _ _ _ _ _ := c.setMap ..
  removeSlab _ _ _ _ := c.setMap ..
  moveRow _ _ _ _ _ _ _ _ := c.setMap ..
  insertSlab _ _ _ _ _ _ _ _ _ _ _ _ _ _ _ := c.trans (c.setTracker ..) (c.setMap ..)
  removePlanned _ _ := c.filterSchedule ..
  editRecord _ _ _ _ := c.updateRecord ..
  moveHead _ _ _ _ _ _ _ _ := c.updateRecord ..
  rejectSlab _ _ _ := c.updateRecord ..
  acceptSlab _ _ _ _ _ _ _ _ _ _ _ := c.updateRecord ..
  createRecord _ _ _ _ _ _ _ _ _ := c.createRecord ..
  acceptDeposit _ _ _ _ _ _ _ _ _ := c.acceptDeposit ..
  deleteRecord _ _ _ := c.deleteRecord ..
  takeRemoval := c.takeRemoval
  showWaiting := c.showWaiting
  beginCycle _ _ _ _ _ _ _ _ := c.beginCycle ..
  checkedRequest _ _ _ _ _ _ _ := c.putRequest ..
  grantMove _ _ _ _ _ _ _ _ := c.grantMove ..
  becomeStill _ := c.setArb ..
  moveEnded _ _ _ _ := c.moveEnded ..
  moveFailed _ _ _ _ := c.moveFailed ..
  startManual _ _ := c.setArb ..
  enterHeld _ _ _ _ _ := c.enterHeld ..
  timedOut _ _ _ _ _ _ := c.enterHeld ..
  abandonHeld _ _ _ _ _ := c.trans (c.abandonMove ..) (c.enterHeld ..)
  abandonIdle _ _ _ _ := c.trans (c.abandonMove ..) (c.enterIdle ..)
  toIdle _ _ _ := c.enterIdle ..
  arm _ _ _ _ _ := c.enterIdle ..
  release _ _ _ _ := c.enterIdle ..
  disarm _ _ _ := c.disarm ..
  resolveLanded _ _ _ _ _ _ _ := c.resolveLanded ..
  resolveRemoved _ _ _ := c.afterResolution ..
  takeLifted _ _ _ := c.takeLifted ..
  takeAtDepth _ _ _ := c.trans (c.putSeqState ..) (c.startTimer ..)
  takeLowered _ _ _ := c.takeLowered ..
  runFinal _ _ _ := c.runFinal ..
  countStroke _ _ _ _ := c.updateCycle ..
  stopTimer _ _ := c.stopTimer ..
  strokeTimer _ _ _ := c.startTimer ..
  enterRetain := c.enterRetain
  enterRestored := c.enterRestored
  clearHeldList := c.clearHeldList
  resumeMode := c.resumed
  revertAll := c.revertAll
  clearTracking := c.clearTracking
  coldRun := c.coldRun

end PlainClosed

end Sys2Proof.Machine
end

section
/-! The loaded tables, the schedule and the buffers: what each elementary update leaves of their form. -/

namespace Sys2Proof.Machine

/-! ### The sizes of the loaded tables (R32, R53, R155 to R157, R178, R196) -/

/-- The loaded tables keep their sizes. -/
def KeepsShape (s t : State) : Prop := s.cfg.Shaped → t.cfg.Shaped

theorem KeepsShape.of_cfg {s t : State} (h : t.cfg = s.cfg) : KeepsShape s t := fun hs => h ▸ hs

theorem Tables.default_shaped : Tables.default.Shaped := by
  unfold Tables.Shaped
  decide

theorem cfg_clearAllHolds (s : State) : (clearAllHolds s).cfg = s.cfg := by
  unfold clearAllHolds
  obtain ⟨c, hc⟩ := clearCounter_eq (selectedCounter .all) (clearPlacement (selectedPlacement .all) s)
  obtain ⟨p, hp⟩ := clearPlacement_eq (selectedPlacement .all) s
  rw [hc, hp]
  rfl

theorem keepsShape_plain : PlainClosed KeepsShape where
  refl _ := id
  trans h k := k ∘ h
  sendOwn _ _ _ _ _ := .of_cfg (sendOwn_cfg ..)
  holdEvent _ _ := .of_cfg (holdEvent_cfg ..)
  setGrid _ _ := .of_cfg rfl
  setTracker _ _ := .of_cfg rfl
  setArb _ _ := .of_cfg rfl
  setSeqs _ _ := .of_cfg rfl
  setPlace _ _ := .of_cfg rfl
  setWindows _ _ := .of_cfg rfl
  setDue _ _ := .of_cfg rfl
  forwardTo _ _ _ := .of_cfg (forwardTo_cfg ..)
  setMgmt _ _ := .of_cfg rfl
  setMaps _ _ := .of_cfg rfl
  setCounters _ _ := .of_cfg rfl
  setSensors _ _ := .of_cfg rfl
  clearFlags _ _ := .of_cfg rfl
  editSchedule _ _ _ _ _ := .of_cfg rfl
  setEntryState _ _ _ := .of_cfg rfl
  filterSchedule _ _ := .of_cfg rfl
  revertAll _ := .of_cfg rfl
  clearHeldList _ := .of_cfg rfl
  retained _ _ := .of_cfg (raise_cfg ..)
  restored _ _ := .of_cfg (raise_cfg ..)
  resumed _ _ := .of_cfg rfl
  coldRun _ _ := fun _ => Tables.default_shaped

theorem keepsShape_outer : OuterClosed KeepsShape where
  toSendClosed := keepsShape_plain.event.toSendClosed
  clearAllHolds _ := .of_cfg (cfg_clearAllHolds _)
  linkDown _ _ := .of_cfg rfl
  linkUp _ _ := .of_cfg rfl
  frameSent _ _ := .of_cfg rfl
  setOverrun _ _ := .of_cfg rfl
  clock _ := .of_cfg rfl
  putBackup _ _ := .of_cfg rfl
  elapse _ _ := .of_cfg (elapse_cfg ..)
  reload _ _ h _ := h.shaped
  reloadWindows _ _ h := h.shaped
  counterSetup _ _ _ _ := id
  powerOff _ := fun _ => Tables.default_shaped
  cold _ _ := fun _ => Tables.default_shaped

/-- Settles O6: only a load writes a table, and it writes entry by entry. -/
theorem tablesShapedEveryStep : Obligations.TablesShapedEveryStep := by
  unfold Obligations.TablesShapedEveryStep
  intro s t hs ht
  exact (StepClosed.of_event keepsShape_outer keepsShape_plain.event).step (fun _ _ => id) (fun _ => trivial)
    trivial ht hs

/-! ### The order of the schedule (R111) -/

/-- R111: the order of a schedule table. -/
def ScheduleOrdered (l : List ScheduleEntry) : Prop :=
  l.Pairwise (fun a b => a.seq < b.seq) ∧ l.Pairwise (fun a b => a.id ≠ b.id) ∧ l.length ≤ 256

theorem seqsRise_iff (l : List ScheduleEntry) : seqsRise l = true ↔ l.Pairwise fun a b => a.seq < b.seq := by
  induction l with
  | nil => simp [seqsRise]
  | cons a l ih =>
    cases l with
    | nil => simp [seqsRise]
    | cons b l =>
      rw [seqsRise, Bool.and_eq_true, ih, decide_eq_true_iff, List.pairwise_cons (a := a)]
      constructor
      · rintro ⟨hab, hl⟩
        refine ⟨fun x hx => ?_, hl⟩
        rcases List.mem_cons.1 hx with rfl | hx
        · exact hab
        · exact hab.trans ((List.pairwise_cons.1 hl).1 x hx)
      · rintro ⟨ha, hl⟩
        exact ⟨ha b List.mem_cons_self, hl⟩

theorem idsDiffer_iff (l : List ScheduleEntry) : idsDiffer l = true ↔ l.Pairwise fun a b => a.id ≠ b.id := by
  induction l with
  | nil => simp [idsDiffer]
  | cons a l ih =>
    rw [idsDiffer, Bool.and_eq_true, ih, List.all_eq_true, List.pairwise_cons]
    refine and_congr_left fun _ => forall₂_congr fun x _ => ?_
    rw [bne_iff_ne, ne_comm]

theorem scheduleInOrder_iff (s : State) : ScheduleInOrder s ↔ ScheduleOrdered s.schedule := by
  rw [ScheduleOrdered, ← seqsRise_iff, ← idsDiffer_iff]

/-- A change of entries that keeps their sequence numbers and identities keeps the order. -/
theorem ScheduleOrdered.map {l : List ScheduleEntry} (f : ScheduleEntry → ScheduleEntry)
    (hs : ∀ e, (f e).seq = e.seq) (hi : ∀ e, (f e).id = e.id) (h : ScheduleOrdered l) :
    ScheduleOrdered (l.map f) := by
  obtain ⟨hseq, hid, hlen⟩ := h
  refine ⟨?_, ?_, by simpa using hlen⟩
  · simpa [List.pairwise_map, hs] using hseq
  · simpa [List.pairwise_map, hi] using hid

theorem ScheduleOrdered.filter {l : List ScheduleEntry} (p : ScheduleEntry → Bool) (h : ScheduleOrdered l) :
    ScheduleOrdered (l.filter p) := by
  obtain ⟨hseq, hid, hlen⟩ := h
  exact ⟨hseq.filter p, hid.filter p, (List.length_filter_le ..).trans hlen⟩

theorem mem_insertEntry (e x : ScheduleEntry) (l : List ScheduleEntry) :
    x ∈ insertEntry e l ↔ x = e ∨ x ∈ l := by
  induction l with
  | nil => simp [insertEntry]
  | cons a l ih =>
    unfold insertEntry
    split
    · simp
    · simp [ih]
      tauto

theorem insertEntry_length (e : ScheduleEntry) (l : List ScheduleEntry) :
    (insertEntry e l).length = l.length + 1 := by
  induction l with
  | nil => rfl
  | cons a l ih =>
    unfold insertEntry
    split
    · rfl
    · simp [ih]

/-- R116: a new sequence number takes the place that the order gives it. -/
theorem insertEntry_seqs (e : ScheduleEntry) (l : List ScheduleEntry) (h : l.Pairwise fun a b => a.seq < b.seq)
    (he : ∀ x ∈ l, x.seq ≠ e.seq) : (insertEntry e l).Pairwise fun a b => a.seq < b.seq := by
  induction l with
  | nil => simp [insertEntry]
  | cons a l ih =>
    rw [List.pairwise_cons] at h
    obtain ⟨ha, hl⟩ := h
    have hea := he a List.mem_cons_self
    unfold insertEntry
    split
    · rename_i hlt
      refine List.pairwise_cons.2 ⟨fun x hx => ?_, List.pairwise_cons.2 ⟨ha, hl⟩⟩
      rcases List.mem_cons.1 hx with rfl | hx
      · exact hlt
      · exact hlt.trans (ha x hx)
    · refine List.pairwise_cons.2 ⟨fun x hx => ?_, ih hl fun x hx => he x (List.mem_cons_of_mem a hx)⟩
      rcases (mem_insertEntry ..).1 hx with rfl | hx
      · omega
      · exact ha x hx

theorem insertEntry_ids (e : ScheduleEntry) (l : List ScheduleEntry) (h : l.Pairwise fun a b => a.id ≠ b.id)
    (he : ∀ x ∈ l, x.id ≠ e.id) : (insertEntry e l).Pairwise fun a b => a.id ≠ b.id := by
  induction l with
  | nil => simp [insertEntry]
  | cons a l ih =>
    rw [List.pairwise_cons] at h
    obtain ⟨ha, hl⟩ := h
    unfold insertEntry
    split
    · exact List.pairwise_cons.2 ⟨fun x hx => (he x hx).symm, List.pairwise_cons.2 ⟨ha, hl⟩⟩
    · refine List.pairwise_cons.2 ⟨fun x hx => ?_, ih hl fun x hx => he x (List.mem_cons_of_mem a hx)⟩
      rcases (mem_insertEntry ..).1 hx with rfl | hx
      · exact he a List.mem_cons_self
      · exact ha x hx

theorem addEntry_ordered {held : Identity → Bool} {e : ScheduleEntry} {l l' : List ScheduleEntry}
    (h : ScheduleOrdered l) (he : ∀ x ∈ l, x.seq ≠ e.seq) (ok : addEntry held e l = .ok l') :
    ScheduleOrdered l' := by
  obtain ⟨hseq, hid, -⟩ := h
  unfold addEntry at ok
  split at ok
  · cases ok
  · rename_i hdup
    split at ok
    · cases ok
    · split at ok
      · cases ok
      · obtain rfl := Except.ok.inj ok
        refine ⟨insertEntry_seqs e l hseq he, insertEntry_ids e l hid fun x hx hxe => hdup ?_, ?_⟩
        · exact List.any_eq_true.2 ⟨x, hx, by simp [hxe]⟩
        · rw [insertEntry_length]
          omega

/-- R116: an APPEND comes behind the last entry, and so behind all. -/
theorem appendEntry_ordered {held : Identity → Bool} {e : ScheduleEntry} {l l' : List ScheduleEntry}
    (h : ScheduleOrdered l) (ok : appendEntry held e l = .ok l') : ScheduleOrdered l' := by
  unfold appendEntry at ok
  split at ok
  · rename_i hnil
    refine addEntry_ordered h (fun x hx => ?_) ok
    rw [List.getLast?_eq_none_iff.1 hnil] at hx
    cases hx
  · rename_i y hy
    split at ok
    · rename_i hlt
      refine addEntry_ordered h (fun x hx => ?_) ok
      obtain ⟨l₁, rfl⟩ := List.getLast?_eq_some_iff.1 hy
      have before := (List.pairwise_append.1 h.1).2.2
      rcases List.mem_append.1 hx with hx | hx
      · exact ((before x hx y List.mem_cons_self).trans hlt).ne
      · obtain rfl := List.mem_singleton.1 hx
        exact hlt.ne
    · cases ok

theorem insertNewEntry_ordered {held : Identity → Bool} {e : ScheduleEntry} {l l' : List ScheduleEntry}
    (h : ScheduleOrdered l) (ok : insertNewEntry held e l = .ok l') : ScheduleOrdered l' := by
  unfold insertNewEntry at ok
  split at ok
  · cases ok
  · rename_i hdup
    exact addEntry_ordered h (fun x hx hxe => hdup (List.any_eq_true.2 ⟨x, hx, by simp [hxe]⟩)) ok

theorem deleteEntry_ordered {q : Nat} {l l' : List ScheduleEntry} (h : ScheduleOrdered l)
    (ok : deleteEntry q l = .ok l') : ScheduleOrdered l' := by
  unfold deleteEntry at ok
  split at ok
  · cases ok
  · obtain rfl := Except.ok.inj ok
    exact h.filter _

theorem modifyEntry_ordered {q : Nat} {dest : Option (Code SchedDest)} {g : Option Nat} {w len t : Option Int}
    {l l' : List ScheduleEntry} (h : ScheduleOrdered l) (ok : modifyEntry q dest g w len t l = .ok l') :
    ScheduleOrdered l' := by
  unfold modifyEntry at ok
  split at ok
  · cases ok
  · split at ok
    · cases ok
    · obtain rfl := Except.ok.inj ok
      refine h.map _ (fun e => ?_) (fun e => ?_)
      · split <;> rfl
      · split <;> rfl

/-- R114: an operation that is not refused keeps the order. -/
theorem scheduleOp_ordered {held : Identity → Bool} {op : SchedOp} {l l' : List ScheduleEntry}
    (h : ScheduleOrdered l) (ok : scheduleOp held op l = .ok l') : ScheduleOrdered l' := by
  unfold scheduleOp at ok
  split at ok
  · split at ok
    · cases ok
    · split at ok
      · cases ok
      · exact appendEntry_ordered h ok
  · split at ok
    · cases ok
    · split at ok
      · cases ok
      · exact insertNewEntry_ordered h ok
  · split at ok
    · cases ok
    · exact deleteEntry_ordered h ok
  · split at ok
    · cases ok
    · split at ok
      · cases ok
      · split at ok
        · cases ok
        · exact modifyEntry_ordered h ok
  · cases ok

theorem scheduleOps_ordered {held : Identity → Bool} {ops : List SchedOp} {l' : List ScheduleEntry} :
    ∀ {i : Nat} {l : List ScheduleEntry}, ScheduleOrdered l → scheduleOps held i ops l = .ok l' →
      ScheduleOrdered l' := by
  induction ops with
  | nil =>
    intro i l h ok
    obtain rfl := Except.ok.inj ok
    exact h
  | cons op ops ih =>
    intro i l h ok
    unfold scheduleOps at ok
    split at ok
    · cases ok
    · rename_i l₁ h₁
      exact ih (scheduleOp_ordered h h₁) ok

/-- The schedule keeps its order. -/
def KeepsScheduleOrder (s t : State) : Prop := ScheduleOrdered s.schedule → ScheduleOrdered t.schedule

theorem KeepsScheduleOrder.of_schedule {s t : State} (h : t.schedule = s.schedule) : KeepsScheduleOrder s t :=
  fun hs => h ▸ hs

theorem scheduleOrdered_nil : ScheduleOrdered [] := ⟨.nil, .nil, by decide⟩

theorem schedule_clearAllHolds (s : State) : (clearAllHolds s).schedule = s.schedule := by
  unfold clearAllHolds
  obtain ⟨c, hc⟩ := clearCounter_eq (selectedCounter .all) (clearPlacement (selectedPlacement .all) s)
  obtain ⟨p, hp⟩ := clearPlacement_eq (selectedPlacement .all) s
  rw [hc, hp]
  rfl

theorem keepsScheduleOrder_plain : PlainClosed KeepsScheduleOrder where
  refl _ := id
  trans h k := k ∘ h
  sendOwn _ _ _ _ _ := .of_schedule (sendOwn_schedule ..)
  holdEvent _ _ := .of_schedule (holdEvent_schedule ..)
  setGrid _ _ := .of_schedule rfl
  setTracker _ _ := .of_schedule rfl
  setArb _ _ := .of_schedule rfl
  setSeqs _ _ := .of_schedule rfl
  setPlace _ _ := .of_schedule rfl
  setWindows _ _ := .of_schedule rfl
  setDue _ _ := .of_schedule rfl
  forwardTo _ _ _ := .of_schedule (forwardTo_schedule ..)
  setMgmt _ _ := .of_schedule rfl
  setMaps _ _ := .of_schedule rfl
  setCounters _ _ := .of_schedule rfl
  setSensors _ _ := .of_schedule rfl
  clearFlags _ _ := .of_schedule rfl
  editSchedule _ _ _ _ ok := fun h => scheduleOps_ordered h ok
  setEntryState _ _ _ := fun h => h.map _ (fun _ => by split <;> rfl) (fun _ => by split <;> rfl)
  filterSchedule _ _ := fun h => h.filter _
  revertAll _ := fun h => h.map _ (fun _ => rfl) (fun _ => rfl)
  clearHeldList _ := .of_schedule rfl
  retained _ _ := .of_schedule (raise_schedule ..)
  restored _ _ := .of_schedule (raise_schedule ..)
  resumed _ _ := .of_schedule rfl
  coldRun _ _ := fun _ => scheduleOrdered_nil

theorem keepsScheduleOrder_outer : OuterClosed KeepsScheduleOrder where
  toSendClosed := keepsScheduleOrder_plain.event.toSendClosed
  clearAllHolds _ := .of_schedule (schedule_clearAllHolds _)
  linkDown _ _ := .of_schedule rfl
  linkUp _ _ := .of_schedule rfl
  frameSent _ _ := .of_schedule rfl
  setOverrun _ _ := .of_schedule rfl
  clock _ := .of_schedule rfl
  putBackup _ _ := .of_schedule rfl
  elapse _ _ := .of_schedule (elapse_schedule ..)
  reload _ _ _ _ := .of_schedule rfl
  reloadWindows _ _ _ := .of_schedule rfl
  counterSetup _ _ _ _ := .of_schedule rfl
  powerOff _ := fun _ => scheduleOrdered_nil
  cold _ _ := fun _ => scheduleOrdered_nil

/-- Settles O7: the schedule changes by operations that are checked, by removals and by changes of an entry's
state. -/
theorem scheduleInOrderEveryStep : Obligations.ScheduleInOrderEveryStep := by
  unfold Obligations.ScheduleInOrderEveryStep
  intro s t hs ht
  rw [scheduleInOrder_iff] at hs ⊢
  exact (StepClosed.of_event keepsScheduleOrder_outer keepsScheduleOrder_plain.event).step (fun _ _ => id)
    (fun _ => trivial) trivial ht hs

end Sys2Proof.Machine
end

section
/-! The transmit queues, the held events and the ports (R169, R183, R184, R186, R201): what an update does to
one port, and what every elementary update leaves of the three bounds. -/

namespace Sys2Proof.Machine

/-! ### One port -/

/-- A change of a port in a mode: a queue of at most 24 frames stays one, and a port that follows its link still
does. -/
structure PortKept (m : Mode) (p p' : PortState) : Prop where
  queue : p.queue.length ≤ 24 → p'.queue.length ≤ 24
  follows : PortFollowsLink m p → PortFollowsLink m p'

theorem PortKept.refl (m : Mode) (p : PortState) : PortKept m p p := ⟨id, id⟩

/-- A change that leaves the link and whether the port is UP, and neither lengthens the queue nor fills it. -/
theorem PortKept.of_queue {m : Mode} {p p' : PortState} (hl : p'.link = p.link) (hu : p'.up = p.up)
    (hq : p'.queue.length ≤ p.queue.length) : PortKept m p p' where
  queue h := hq.trans h
  follows := fun ⟨h, hd⟩ => ⟨by rw [hu, hl, h], fun hn => by
    have := hd (hu ▸ hn)
    rw [this] at hq
    exact List.length_eq_zero_iff.1 (Nat.le_zero.1 hq)⟩

/-- A frame that takes a place behind the others does so at a port that is UP with fewer than 24 frames. -/
theorem PortKept.of_append {m : Mode} {p : PortState} (f : Frame) (hu : p.up = true) (hq : p.queue.length < 24) :
    PortKept m p { p with queue := p.queue ++ [f] } where
  queue _ := by simp; omega
  follows := fun ⟨h, _⟩ => ⟨h, fun hn => absurd (hu.symm.trans hn) (by decide)⟩

theorem PortKept.sendOwn (m : Mode) (p : PortState) (t : OwnTelegram) : PortKept m p (p.sendOwn t) := by
  unfold PortState.sendOwn
  split
  · rename_i h
    simp only [Bool.and_eq_true, decide_eq_true_iff] at h
    exact .of_append _ h.1 h.2
  · exact .of_queue rfl rfl le_rfl

theorem PortKept.forward (m : Mode) (p : PortState) (x : Instr) : PortKept m p (p.forward x) := by
  unfold PortState.forward
  split
  · rename_i h
    simp only [PortState.hasPlace, Bool.and_eq_true, decide_eq_true_iff] at h
    exact .of_append _ h.1 (by omega)
  · exact .of_queue rfl rfl le_rfl

theorem PortKept.down (m : Mode) (p : PortState) : PortKept m p p.down := by
  unfold PortState.down
  split
  · exact ⟨fun _ => by simp, fun _ => ⟨by simp, fun _ => rfl⟩⟩
  · rename_i h
    exact ⟨id, fun ⟨_, hd⟩ => ⟨by simpa using h, hd⟩⟩

theorem PortKept.linkUp (m : Mode) (p : PortState) :
    PortKept m p (if m = .retain then p.linked else p.comeUp) := by
  split
  · rename_i h
    subst h
    exact ⟨id, fun ⟨h, hd⟩ => ⟨by simpa [PortState.linked] using h, hd⟩⟩
  · rename_i h
    unfold PortState.comeUp
    split
    · exact .refl ..
    · exact ⟨fun _ => by simp, fun _ => ⟨by simp [h], fun hn => by simp at hn⟩⟩

theorem PortKept.sent (m : Mode) (p : PortState) : PortKept m p p.sent :=
  .of_queue rfl rfl (by simp [PortState.sent])

theorem PortKept.clearFlags (m : Mode) (p : PortState) : PortKept m p p.clearFlags := .of_queue rfl rfl le_rfl

theorem PortFollowsLink.retained (p : PortState) : PortFollowsLink .retain p.retained :=
  ⟨by simp [PortState.retained], fun _ => rfl⟩

theorem PortFollowsLink.restored (p : PortState) : PortFollowsLink .restored p.restored :=
  ⟨by simp [PortState.restored], fun _ => rfl⟩

theorem PortFollowsLink.cold (b : Bool) : PortFollowsLink .run (.cold b) :=
  ⟨by simp [PortState.cold], fun _ => rfl⟩

/-! ### The state -/

/-- The bounds of the queues and the held-event list stay, and the ports go on following their links. -/
structure BuffersKept (s t : State) : Prop where
  queues : QueuesBounded s → QueuesBounded t
  held : HeldBounded s → HeldBounded t
  ports : PortsFollowLinks s → PortsFollowLinks t

namespace BuffersKept

theorem of_eq {s t : State} (hl : t.links = s.links) (hh : t.ret.held = s.ret.held)
    (hm : t.ret.mode = s.ret.mode) : BuffersKept s t where
  queues h := by rw [QueuesBounded, hl]; exact h
  held h := by rw [HeldBounded, hh]; exact h
  ports h := by rw [PortsFollowLinks, hl, hm]; exact h

theorem of_ports {s : State} {l : Links} (hp : PortKept s.ret.mode s.links.plant l.plant)
    (hy : PortKept s.ret.mode s.links.yard l.yard) : BuffersKept s (s.setLinks l) where
  queues := fun ⟨h, h'⟩ => ⟨hp.queue h, hy.queue h'⟩
  held := id
  ports := fun ⟨h, h'⟩ => ⟨hp.follows h, hy.follows h'⟩

theorem of_port {s : State} (p : Port) {v : PortState} (h : PortKept s.ret.mode (s.links.port p) v) :
    BuffersKept s (s.setLinks (s.links.setPort p v)) := by
  cases p with
  | plant => exact of_ports h (.refl ..)
  | yard => exact of_ports (.refl ..) h

theorem sendOwn (p : Port) (d r : Nat) (b : OwnBody) (s : State) : BuffersKept s (sendOwn p d r b s) := by
  unfold Machine.sendOwn
  split
  · exact of_eq rfl rfl rfl
  · exact of_port p (.sendOwn ..)

theorem holdEvent (e : Stamped) (s : State) : BuffersKept s (holdEvent e s) := by
  unfold Machine.holdEvent
  split
  · exact ⟨id, fun _ => by simp [HeldBounded]; omega, id⟩
  · exact ⟨id, id, id⟩

theorem clearLinkFlags (x : LinkSelection) (s : State) : BuffersKept s (clearFlags x s) := by
  have both : ∀ ps : List Port, PortKept s.ret.mode s.links.plant (Machine.clearLinkFlags ps s.links).plant
      ∧ PortKept s.ret.mode s.links.yard (Machine.clearLinkFlags ps s.links).yard → BuffersKept s
        (s.setLinks (Machine.clearLinkFlags ps s.links)) := fun _ h => of_ports h.1 h.2
  cases x with
  | plant => exact both [.plant] ⟨.clearFlags .., .refl ..⟩
  | yard => exact both [.yard] ⟨.refl .., .clearFlags ..⟩
  | both => exact both [.plant, .yard] ⟨.clearFlags .., .clearFlags ..⟩

/-- R186, R199: a change of mode out of RUN holds its event, whatever becomes of the ports. -/
theorem changeMode_held (m : Mode) (s : State) (hm : m ≠ .run) (h : HeldBounded s) :
    HeldBounded (changeMode m s) := by
  have held (e : Stamped) : HeldBounded (Machine.holdEvent e (putMode m s)) := (holdEvent e _).held h
  unfold changeMode raise
  cases m with
  | run => exact absurd rfl hm
  | retain => exact held _
  | restored => exact held _

theorem elapse (n : Nat) (s : State) : BuffersKept s (elapse n s) := by
  unfold Machine.elapse
  split <;> exact of_eq rfl rfl rfl

theorem clearAllHolds (s : State) : BuffersKept s (clearAllHolds s) := by
  unfold Machine.clearAllHolds
  obtain ⟨c, hc⟩ := clearCounter_eq (selectedCounter .all) (clearPlacement (selectedPlacement .all) s)
  obtain ⟨p, hp⟩ := clearPlacement_eq (selectedPlacement .all) s
  rw [hc, hp]
  exact of_eq rfl rfl rfl

/-- R186, R206: a part whose ports are as they come up, in RUN, with no held event. -/
theorem of_cold {s t : State} {a b : Bool} (hl : t.links.plant = .cold a) (hl' : t.links.yard = .cold b)
    (hh : t.ret.held = []) (hm : t.ret.mode = .run) : BuffersKept s t where
  queues _ := by simp [QueuesBounded, hl, hl', PortState.cold]
  held _ := by simp [HeldBounded, hh]
  ports _ := by
    rw [PortsFollowLinks, hl, hl', hm]
    exact ⟨.cold a, .cold b⟩

/-- R205: with a port UP the part was not in RETAIN, so its ports follow their links in RUN too. -/
theorem coldRun (s : State) (h : ∃ p, (s.links.port p).up = true) :
    BuffersKept s (putMode .run (coldBlocks s)) where
  queues := id
  held _ := Nat.zero_le _
  ports := fun ⟨hp, hy⟩ => by
    have hm : s.ret.mode ≠ .retain := by
      intro hr
      obtain ⟨p, hu⟩ := h
      rw [hr] at hp hy
      cases p with
      | plant => exact absurd (hp.1.symm.trans hu) (by simp)
      | yard => exact absurd (hy.1.symm.trans hu) (by simp)
    have hb : (s.ret.mode != .retain) = true := by simp [hm]
    rw [PortFollowsLink, hb] at hp hy
    exact ⟨hp, hy⟩

end BuffersKept

theorem buffersKept_plain : PlainClosed BuffersKept where
  refl _ := .of_eq rfl rfl rfl
  trans h k := ⟨k.queues ∘ h.queues, k.held ∘ h.held, k.ports ∘ h.ports⟩
  sendOwn := BuffersKept.sendOwn
  holdEvent := BuffersKept.holdEvent
  setGrid _ _ := .of_eq rfl rfl rfl
  setTracker _ _ := .of_eq rfl rfl rfl
  setArb _ _ := .of_eq rfl rfl rfl
  setSeqs _ _ := .of_eq rfl rfl rfl
  setPlace _ _ := .of_eq rfl rfl rfl
  setWindows _ _ := .of_eq rfl rfl rfl
  setDue _ _ := .of_eq rfl rfl rfl
  forwardTo p x s := .of_port p (.forward ..)
  setMgmt _ _ := .of_eq rfl rfl rfl
  setMaps _ _ := .of_eq rfl rfl rfl
  setCounters _ _ := .of_eq rfl rfl rfl
  setSensors _ _ := .of_eq rfl rfl rfl
  clearFlags := BuffersKept.clearLinkFlags
  editSchedule _ _ _ _ _ := .of_eq rfl rfl rfl
  setEntryState _ _ _ := .of_eq rfl rfl rfl
  filterSchedule _ _ := .of_eq rfl rfl rfl
  revertAll _ := .of_eq rfl rfl rfl
  clearHeldList _ := ⟨id, fun _ => Nat.zero_le _, id⟩
  retained s _ := {
    queues := fun _ => by simp [QueuesBounded, changePorts, PortState.retained]
    held := BuffersKept.changeMode_held .retain s (by decide)
    ports := fun _ => by
      rw [PortsFollowLinks, show (changePorts PortState.retained (changeMode .retain s)).ret.mode = .retain from
        raise_mode ..]
      exact ⟨.retained _, .retained _⟩ }
  restored s _ := {
    queues := fun _ => by simp [QueuesBounded, changePorts, PortState.restored]
    held := BuffersKept.changeMode_held .restored (putStart .restored s) (by decide)
    ports := fun _ => by
      rw [PortsFollowLinks, show (changePorts PortState.restored
        (changeMode .restored (putStart .restored s))).ret.mode = .restored from raise_mode ..]
      exact ⟨.restored _, .restored _⟩ }
  resumed s h := {
    queues := id
    held := id
    ports := fun ⟨hp, hy⟩ => by
      rw [h] at hp hy
      exact ⟨hp, hy⟩ }
  coldRun := BuffersKept.coldRun

theorem buffersKept_outer : OuterClosed BuffersKept where
  toSendClosed := buffersKept_plain.event.toSendClosed
  clearAllHolds := BuffersKept.clearAllHolds
  linkDown p _ := .of_port p (.down ..)
  linkUp p _ := .of_port p (.linkUp ..)
  frameSent p _ := .of_port p (.sent ..)
  setOverrun p _ := .of_port p (.of_queue rfl rfl le_rfl)
  clock _ := .of_eq rfl rfl rfl
  putBackup _ _ := .of_eq rfl rfl rfl
  elapse := BuffersKept.elapse
  reload _ _ _ _ := .of_eq rfl rfl rfl
  reloadWindows _ _ _ := .of_eq rfl rfl rfl
  counterSetup _ _ _ _ := .of_eq rfl rfl rfl
  powerOff _ := .of_cold rfl rfl rfl rfl
  cold _ _ := .of_cold rfl rfl rfl rfl

/-- Settles O5: a frame takes a place only where one of the 24 is free, an event only where one of the 16 is, and a
port changes with its link or with the mode. -/
theorem buffersBoundedEveryStep : Obligations.BuffersBoundedEveryStep := by
  unfold Obligations.BuffersBoundedEveryStep
  have kept {s t : State} (ht : step s = .next t) : BuffersKept s t :=
    (StepClosed.of_event buffersKept_outer buffersKept_plain.event).step (fun _ _ => .of_eq rfl rfl rfl)
      (fun _ => trivial) trivial ht
  exact ⟨fun s t h ht => (kept ht).queues h, fun s t h ht => (kept ht).held h, fun s t h ht => (kept ht).ports h⟩

end Sys2Proof.Machine
end

section
/-! The levels of the lines (R153, R159). The serving of an event ends with the refresh of the lines, so what the
event did does not matter; every other update leaves alone what the levels depend on. -/

namespace Sys2Proof.Machine

/-! ### What the levels depend on -/

/-- What a line's level depends on is the same for furnace k. -/
structure LevelInputsKept (k : Furnace) (s t : State) : Prop where
  mode : t.ret.mode = s.ret.mode
  state : (t.seqs.get k).state = (s.seqs.get k).state
  set : (t.seqs.get k).windowSet = (s.seqs.get k).windowSet
  target : (t.seqs.get k).target = (s.seqs.get k).target
  homed : (t.counters.get (carriage k)).homed = (s.counters.get (carriage k)).homed
  acc : (t.counters.get (carriage k)).acc = (s.counters.get (carriage k)).acc
  speed : (t.counters.get (carriage k)).speed = (s.counters.get (carriage k)).speed
  stopped : (t.windows.get k).stopped = (s.windows.get k).stopped
  tables : s.cfg.SameWindows t.cfg

theorem State.windowResult_congr {k : Furnace} {s t : State} (h : LevelInputsKept k s t) (j : Nat) :
    t.windowResult k j = s.windowResult k j := by
  unfold State.windowResult State.lineWindows State.depth State.counter State.seq
  rw [h.tables.pool, h.tables.sets, h.tables.lineSettings, h.state, h.set, h.target, h.acc, h.speed]

theorem State.lineLevels_congr {k : Furnace} {s t : State} (h : LevelInputsKept k s t) :
    t.lineLevels k = s.lineLevels k := by
  refine List.map_congr_left fun j _ => ?_
  unfold State.lineLevel State.homed State.counter
  rw [State.windowResult_congr h, h.mode, h.homed, h.stopped]
  unfold State.seq
  rw [h.state]

/-- R153: the lines of an OFFLINE furnace are OFF. -/
theorem State.lineLevels_offline {k : Furnace} {s : State} (h : (s.seqs.get k).state = .offline) :
    s.lineLevels k = List.replicate 8 false := by
  have off (j : Nat) : s.lineLevel k j = false := by
    unfold State.lineLevel State.seq
    rw [if_pos h, ite_self]
  exact List.eq_replicate_of_mem fun b hb => by
    obtain ⟨j, -, rfl⟩ := List.mem_map.1 hb
    exact off j

/-- The refresh of the lines changes no level. -/
theorem linesFollow_refreshLines (s : State) : LinesFollow (refreshLines s) := by
  have kept (k : Furnace) : LevelInputsKept k s (refreshLines s) :=
    ⟨rfl, rfl, rfl, rfl, rfl, rfl, rfl, by cases k <;> rfl, ⟨rfl, rfl, rfl⟩⟩
  exact ⟨(State.lineLevels_congr (kept .f1)).symm, (State.lineLevels_congr (kept .f2)).symm⟩

/-! ### What leaves the levels alone -/

/-- The lines go on standing at their levels. -/
def LinesKept (s t : State) : Prop := LinesFollow s → LinesFollow t

theorem LinesKept.of_levels {s t : State} (hw : t.windows = s.windows)
    (hl : ∀ k, t.lineLevels k = s.lineLevels k) : LinesKept s t := by
  rintro ⟨h1, h2⟩
  rw [LinesFollow, hw, hl, hl]
  exact ⟨h1, h2⟩

theorem LinesKept.of_inputs {s t : State} (hw : t.windows = s.windows) (h : ∀ k, LevelInputsKept k s t) :
    LinesKept s t := .of_levels hw fun k => State.lineLevels_congr (h k)

/-- An update that leaves the sequencers, the counters, the window states and the mode. -/
theorem LinesKept.of_same {s t : State} (hm : t.ret.mode = s.ret.mode) (hq : t.seqs = s.seqs)
    (hc : t.counters = s.counters) (hw : t.windows = s.windows) (ht : s.cfg.SameWindows t.cfg) : LinesKept s t :=
  .of_inputs hw fun k => ⟨hm, by rw [hq], by rw [hq], by rw [hq], by rw [hc], by rw [hc], by rw [hc], by rw [hw], ht⟩

theorem Tables.SameWindows.refl (a : Tables) : a.SameWindows a := ⟨rfl, rfl, rfl⟩

/-- R153, R206: a part with both furnaces OFFLINE and every line OFF. -/
theorem linesFollow_of_offline {s : State} (hq : ∀ k, (s.seqs.get k).state = .offline)
    (h1 : s.windows.f1.lines = List.replicate 8 false) (h2 : s.windows.f2.lines = List.replicate 8 false) :
    LinesFollow s :=
  ⟨h1.trans (State.lineLevels_offline (hq .f1)).symm, h2.trans (State.lineLevels_offline (hq .f2)).symm⟩

/-- R53, R158: a timer that runs down changes neither a sequencer's set nor its target. -/
theorem Sequencer.elapse_windowSet (n : Nat) (q : Sequencer) : (q.elapse n).windowSet = q.windowSet := by
  unfold Sequencer.elapse Sequencer.windowSet
  cases q.cycle <;> rfl

theorem Sequencer.elapse_target (n : Nat) (q : Sequencer) : (q.elapse n).target = q.target := by
  unfold Sequencer.elapse Sequencer.target
  cases q.cycle <;> rfl

theorem linesKept_elapse (n : Nat) (s : State) : LinesKept s (elapse n s) := by
  unfold elapse
  split
  · exact .of_inputs rfl fun k => by
      cases k <;> exact ⟨rfl, rfl, rfl, rfl, rfl, rfl, rfl, rfl, .refl _⟩
  · exact .of_inputs rfl fun k => by
      cases k <;> exact ⟨rfl, rfl, Sequencer.elapse_windowSet .., Sequencer.elapse_target .., rfl, rfl, rfl, rfl, .refl _⟩

/-- R45, R149: a counter with both holds clear. -/
def Counter.unheld (x : Counter) : Counter := { x with encoderError := false, homeDeviation := false }

/-- R45, R149: clearing every hold changes the placement holds and the counters' two flags. -/
theorem clearAllHolds_eq (s : State) : clearAllHolds s = { s with
    place := ⟨{ s.place.f1 with holds := .clear }, { s.place.f2 with holds := .clear }⟩
    counters := ⟨s.counters.t.unheld, s.counters.c1.unheld, s.counters.c2.unheld⟩ } := by
  simp only [clearAllHolds, clearCounter, clearPlacement, selectedCounter, selectedPlacement, placementHoldNames,
    counterHoldNames, List.map_cons, List.map_nil, List.cons_append, List.nil_append, List.foldl_cons,
    List.foldl_nil, State.putHold, State.placeOf, State.setPlaceOf, State.setPlace, State.counter, State.setCounter,
    State.setCounters, PerFurnace.get, PerFurnace.set, PerCounter.get, PerCounter.set, PlacementHolds.put,
    Counter.clearHold, PlacementHolds.clear, Counter.unheld]

/-- R145: the setup of a counter changes no level: the furnace of a carriage counter is OFFLINE, and counter T has
none. -/
theorem linesKept_counterSetup (x : CounterId) (v : CounterSetup) (s : State)
    (h : ∀ k, furnaceOf x = some k → s.armed k = false) : LinesKept s (putCounterSetup x v s) := by
  refine .of_levels rfl fun k => ?_
  by_cases hk : furnaceOf x = some k
  · have off : (s.seqs.get k).state = .offline := by
      have := h k hk
      simpa [State.armed, State.seq] using this
    rw [State.lineLevels_offline off]
    exact State.lineLevels_offline off
  · have other : (putCounterSetup x v s).counters.get (carriage k) = s.counters.get (carriage k) :=
      PerCounter.get_set_of_ne _ (fun e => hk (by subst e; cases k <;> rfl)) _
    exact State.lineLevels_congr
      ⟨rfl, rfl, rfl, rfl, by rw [other], by rw [other], by rw [other], rfl, ⟨rfl, rfl, rfl⟩⟩

theorem linesKept_outer : OuterClosed LinesKept where
  refl _ := id
  trans h k := k ∘ h
  sendOwn _ _ _ _ _ := .of_same (by rw [sendOwn_ret]) (sendOwn_seqs ..) (sendOwn_counters ..)
    (sendOwn_windows ..) (by rw [sendOwn_cfg]; exact .refl _)
  holdEvent _ _ := .of_same (holdEvent_mode ..) (holdEvent_seqs ..) (holdEvent_counters ..)
    (holdEvent_windows ..) (by rw [holdEvent_cfg]; exact .refl _)
  forwardTo _ _ _ := .of_same rfl rfl rfl rfl (.refl _)
  setMgmt _ _ := .of_same rfl rfl rfl rfl (.refl _)
  setWatch _ _ _ := .of_same rfl rfl rfl rfl (.refl _)
  clearAllHolds s := by
    rw [clearAllHolds_eq]
    exact .of_inputs rfl fun k => by cases k <;> exact ⟨rfl, rfl, rfl, rfl, rfl, rfl, rfl, rfl, .refl _⟩
  linkDown _ _ := .of_same rfl rfl rfl rfl (.refl _)
  linkUp _ _ := .of_same rfl rfl rfl rfl (.refl _)
  frameSent _ _ := .of_same rfl rfl rfl rfl (.refl _)
  setOverrun _ _ := .of_same rfl rfl rfl rfl (.refl _)
  clock _ := .of_same rfl rfl rfl rfl (.refl _)
  putBackup _ _ := .of_same rfl rfl rfl rfl (.refl _)
  elapse := linesKept_elapse
  reload _ _ _ h := .of_same rfl rfl rfl rfl h
  reloadWindows _ _ _ := fun _ => linesFollow_refreshLines _
  counterSetup := linesKept_counterSetup
  powerOff _ := fun _ => linesFollow_of_offline (fun k => by cases k <;> rfl) rfl rfl
  cold _ _ := fun _ => linesFollow_of_offline (fun k => by cases k <;> rfl) rfl rfl

/-- Nothing is asked of the effects of an event. -/
theorem anything_plain : PlainClosed fun _ _ => True where
  refl _ := trivial
  trans _ _ := trivial
  sendOwn _ _ _ _ _ := trivial
  holdEvent _ _ := trivial
  setGrid _ _ := trivial
  setTracker _ _ := trivial
  setArb _ _ := trivial
  setSeqs _ _ := trivial
  setPlace _ _ := trivial
  setWindows _ _ := trivial
  setDue _ _ := trivial
  forwardTo _ _ _ := trivial
  setMgmt _ _ := trivial
  setMaps _ _ := trivial
  setCounters _ _ := trivial
  setSensors _ _ := trivial
  clearFlags _ _ := trivial
  editSchedule _ _ _ _ _ := trivial
  setEntryState _ _ _ := trivial
  filterSchedule _ _ := trivial
  revertAll _ := trivial
  clearHeldList _ := trivial
  retained _ _ := trivial
  restored _ _ := trivial
  resumed _ _ := trivial
  coldRun _ _ := trivial

theorem linesKept_steps : StepClosed (fun _ => True) (fun _ => True) (fun _ _ => True) LinesKept where
  outer := linesKept_outer
  event := anything_plain.event
  lift _ := trivial
  finish _ _ := linesFollow_refreshLines _

/-- Settles O4: an event ends with the refresh of the lines, and no other update touches a level. -/
theorem linesFollowEveryStep : Obligations.LinesFollowEveryStep := by
  unfold Obligations.LinesFollowEveryStep
  intro s t hs ht
  exact linesKept_steps.step (fun _ _ => .of_same rfl rfl rfl rfl (.refl _)) (fun _ => trivial) trivial ht hs

end Sys2Proof.Machine
end

section
/-! Statements on one part of the state: the motion and the holds of the table, the table list, the account. The
updates outside that part are free; those of the arbiter, the grant and the list carry the condition under which
the model makes them. -/

namespace Sys2Proof.Machine

theorem eq_otherFurnace {j k : Furnace} (h : j ≠ k) : j = otherFurnace k := by
  cases j with
  | f1 => cases k with
    | f1 => exact absurd rfl h
    | f2 => rfl
  | f2 => cases k with
    | f1 => rfl
    | f2 => exact absurd rfl h

/-- The slabs in flight are the same. -/
def SameInFlight (a b : PerFurnace Sequencer) : Prop :=
  ∀ k, (b.get k).inflight.map (·.record) = (a.get k).inflight.map (·.record)

/-- A relation that the elementary updates of the table arbiter, the grant, the table list and the sequencers stay
within, and every update of the parts that no statement here speaks of. -/
structure CoreClosed (D : State → Prop) (R : State → State → Prop) : Prop where
  refl : ∀ s, R s s
  trans : ∀ {a b c}, R a b → R b c → R a c
  setRet : ∀ s v, R s (State.setRet s v)
  setLinks : ∀ s v, R s (State.setLinks s v)
  setMgmt : ∀ s v, R s (State.setMgmt s v)
  setSchedule : ∀ s v, R s (State.setSchedule s v)
  setPlace : ∀ s v, R s (State.setPlace s v)
  setWindows : ∀ s v, R s (State.setWindows s v)
  setDue : ∀ s v, R s (State.setDue s v)
  setCounters : ∀ s v, R s (State.setCounters s v)
  setSensors : ∀ s v, R s (State.setSensors s v)
  setSeqs : ∀ s v, SameInFlight s.seqs v → R s (State.setSeqs s v)
  setQueue : ∀ s q n, R s (State.setGrid s { s.grid with queue := q, nextRank := n })
  overdue : ∀ s g, s.grid.grant = some g →
    R s (State.setGrid s { s.grid with grant := some { g with phase := .overdue } })
  grantMade : ∀ s g q, s.grid.grant = none → s.grantConditions.all = true →
    R s ((State.setArb s { s.arb with gridHold := some g.crane }).setGrid
      { s.grid with queue := q, grant := some g })
  grantEnded : ∀ s, R s ((State.setGrid s { s.grid with grant := none }).setArb
    { s.arb with gridHold := none })
  setRequests : ∀ s v, R s (State.setArb s { s.arb with requests := v })
  dropHold : ∀ s k, R s (State.setArb s { s.arb with holds := s.arb.holds.set k false })
  unwanted : ∀ s, R s (State.setArb s { s.arb with motion := s.arb.motion.unwanted })
  becomeStill : ∀ s, R s (State.setArb s { s.arb with motion := .still })
  takeHold : ∀ s k, s.arb.motion = .still →
    R s (State.setArb s { s.arb with holds := s.arb.holds.set k true })
  startMove : ∀ s m n, s.arb.motion.moving = true ∨ s.chargerHold = false ∧ s.arb.gridHold = none →
    R s (State.setArb s { s.arb with motion := m, nextMove := n })
  dropMotion : ∀ s, R s ((State.setGrid s { s.grid with grant := none, queue := [] }).setArb
    { Arbiter.cold with nextMove := s.arb.nextMove })
  setWatch : ∀ s m u, R s (State.setTracker s { s.tracker with measuring := m, unidentified := u })
  editRecord : ∀ s tag f, (∀ r, TableRecord.SameSlab r (f r)) → R s (updateRecord tag f s)
  moveHead : ∀ s i r x travel, D s → r ∈ s.tracker.table →
    neighboursAllow r.tag x travel none s.tracker.table = true →
    R s (updateRecord r.tag (fun y => { y.mark i with anchor := x - travel }) s)
  rejectSlab : ∀ s tag, R s (updateRecord tag (fun x => { x with state := .reject, dest := none }) s)
  acceptSlab : ∀ s r w len th g d, D s → s.findTag r.tag = some r →
    R s (updateRecord r.tag (fun _ => r.accepted w len th g d) s)
  dropRecord : ∀ s tag, R s (State.setTracker s { s.tracker with
    table := s.tracker.table.filter fun x => x.tag != tag
    measuring := dropMeasurement tag s.tracker.measuring })

namespace CoreClosed

variable {D : State → Prop} {R : State → State → Prop} (c : CoreClosed D R)
include c

theorem send : SendClosed R where
  refl := c.refl
  trans := c.trans
  sendOwn p d r b s := by
    obtain ⟨l, h, -⟩ := sendOwn_eq_links p d r b s
    rw [h]
    exact c.setLinks s l
  holdEvent e s := by
    unfold Machine.holdEvent
    split <;> exact c.setRet ..
  forwardTo _ _ _ := c.setLinks ..
  setMgmt := c.setMgmt
  setWatch := c.setWatch

/-! ### Sequencers, requests, holds -/

theorem markGrid (s : State) : R s (Machine.markGrid s) := c.setDue ..

theorem markList (s : State) : R s (Machine.markList s) := c.trans (c.setDue ..) (c.setDue ..)

theorem markReady (b : Bool) (s : State) : R s (Machine.markReady b s) := by
  unfold Machine.markReady
  split
  · exact c.setDue ..
  · exact c.refl s

/-- A sequencer changes in anything but the slab in flight. -/
theorem setSeq (k : Furnace) (q : Sequencer) (s : State)
    (h : q.inflight.map (·.record) = (s.seqs.get k).inflight.map (·.record)) : R s (s.setSeq k q) := by
  refine c.setSeqs s _ fun j => ?_
  by_cases e : j = k
  · subst e
    rwa [PerFurnace.get_set]
  · rw [eq_otherFurnace e, PerFurnace.get_set_other]

theorem updateCycle (k : Furnace) (f : CycleRecord → CycleRecord) (s : State) :
    R s (Machine.updateCycle k f s) := c.setSeq _ _ _ rfl

theorem putSeqState (k : Furnace) (st : SeqState) (w : Waiting) (s : State) :
    R s (Machine.putSeqState k st w s) := c.setSeq _ _ _ rfl

theorem showWaiting (k : Furnace) (w : Waiting) (s : State) : R s (Machine.showWaiting k w s) :=
  c.setSeq _ _ _ rfl

theorem startTimer (k : Furnace) (x : TimeoutKind) (s : State) : R s (Machine.startTimer k x s) :=
  c.updateCycle ..

theorem stopTimer (k : Furnace) (s : State) : R s (Machine.stopTimer k s) := c.updateCycle ..

theorem putRequest (k : Furnace) (q : Option PosRequest) (s : State) : R s (Machine.putRequest k q s) :=
  c.setRequests ..

theorem dropRequest (k : Furnace) (s : State) : R s (Machine.dropRequest k s) :=
  c.trans (c.putRequest ..) (c.markList _)

theorem withdrawWaiting (k : Furnace) (s : State) : R s (Machine.withdrawWaiting k s) := by
  unfold Machine.withdrawWaiting
  split
  · exact c.dropRequest ..
  · exact c.refl s

theorem haltOwnMove (k : Furnace) (x : HaltReason) (s : State) : R s (Machine.haltOwnMove k x s) := by
  unfold Machine.haltOwnMove
  split
  · exact c.trans (c.send.sendHalt ..) (c.unwanted _)
  · exact c.refl s

theorem abandonMove (k : Furnace) (x : HaltReason) (s : State) : R s (Machine.abandonMove k x s) := by
  unfold Machine.abandonMove
  dsimp only
  split
  · exact c.haltOwnMove ..
  · exact c.trans (c.haltOwnMove ..) (c.dropRequest ..)

theorem releaseHold (k : Furnace) (s : State) : R s (Machine.releaseHold k s) := by
  unfold Machine.releaseHold
  split
  · exact c.trans (c.dropHold ..) (c.markList _)
  · exact c.refl s

theorem putStopped (k : Furnace) (v : Option (List Bool)) (s : State) : R s (Machine.putStopped k v s) :=
  c.setWindows ..

theorem enterHeld (k : Furnace) (x : HeldCause) (f : Option Nat) (s : State) :
    R s (Machine.enterHeld k x f s) := by
  have held : R s (s.setSeq k ((s.seq k).held x)) := c.setSeq _ _ _ (by
    unfold Sequencer.held State.seq
    cases (s.seqs.get k).inflight <;> rfl)
  exact c.trans held (c.trans (c.putStopped ..) (c.trans (c.releaseHold ..) (c.trans (c.withdrawWaiting ..)
    (c.send.raise ..))))

/-- R49, R56: a sequencer with no cycle and no cause, and the slab in flight that it had. -/
theorem setEmpty (k : Furnace) (st : SeqState) (s : State) :
    R s (s.setSeq k { s.seq k with state := st, cause := none, waiting := .none, cycle := none }) :=
  c.setSeq _ _ _ rfl

theorem enterIdle (k : Furnace) (s : State) : R s (Machine.enterIdle k s) :=
  c.trans (c.setEmpty k .idle s) (c.trans (c.putStopped ..) (c.trans (c.releaseHold ..) (c.setDue ..)))

theorem enterOffline (k : Furnace) (s : State) : R s (Machine.enterOffline k s) :=
  c.trans (c.setEmpty k .offline s) (c.trans (c.putStopped ..) (c.releaseHold ..))

theorem sendChargerStop (k : Furnace) (x : StopReason) (s : State) : R s (Machine.sendChargerStop k x s) :=
  c.send.sendChargerStop ..

theorem disarm (k : Furnace) (s : State) : R s (Machine.disarm k s) := by
  unfold Machine.disarm
  split
  · exact c.refl s
  · exact c.trans (c.abandonMove ..) (c.enterOffline ..)
  · exact c.enterOffline ..

/-! ### Records of the table list -/

theorem placeHold (x : SlabCause) (r : TableRecord) (s : State) : R s (Machine.placeHold x r s) := by
  unfold Machine.placeHold
  split
  · exact c.refl s
  · exact c.trans (c.editRecord s r.tag (fun y => { y with state := .held x }) fun _ =>
      ⟨rfl, rfl, rfl, rfl, rfl, rfl⟩) (c.trans (c.send.raise ..) (c.trans (c.markList _) (c.markReady ..)))

theorem holdTag (x : SlabCause) (tag : Nat) (s : State) : R s (Machine.holdTag x tag s) := by
  unfold Machine.holdTag
  split
  · exact c.refl s
  · exact c.placeHold ..

theorem deleteRecord (r : TableRecord) (s : State) : R s (Machine.deleteRecord r s) :=
  c.trans (c.dropRecord ..) (c.trans (c.markList _) (c.markReady ..))

theorem revertLink (l : Option Nat) (s : State) : R s (Machine.revertLink l s) := by
  cases l with
  | none => exact c.refl s
  | some q => exact c.setSchedule ..

theorem removeLink (l : Option Nat) (s : State) : R s (Machine.removeLink l s) := by
  cases l with
  | none => exact c.refl s
  | some q => exact c.setSchedule ..

theorem handRemoval (k : Furnace) (tag : Nat) (s : State) : R s (Machine.handRemoval k tag s) := by
  unfold Machine.handRemoval
  split
  · unfold takeRemovedSlab
    split
    · exact c.trans (c.abandonMove ..) (c.enterHeld ..)
    · exact c.enterHeld ..
    · exact c.trans (c.sendChargerStop ..) (c.enterHeld ..)
    · exact c.refl s
  · exact c.refl s

theorem endGrant (s : State) : R s (Machine.endGrant s) :=
  c.trans (c.grantEnded s) (c.trans (c.send.evalPresence _) (c.markList _))

/-- The creation of a record, where the table list is free. -/
theorem createRecord (tracker : ∀ s v, R s (State.setTracker s v)) (id : Identity) (w th m : Int) (s : State) :
    R s (Machine.createRecord id w th m s) :=
  c.trans (tracker ..) (c.trans (c.setSchedule ..) (c.trans (tracker ..) (c.trans (c.send.raise ..)
    (c.trans (c.send.evalPresence _) (c.trans (c.markList _) (c.markReady ..))))))

theorem acceptDeposit (h : Hdr) (id : Identity) (w th m : Int) (x : Crane) (s : State)
    (created : R s (Machine.createRecord id w th m s)) : R s (Machine.acceptDeposit h id w th m x s) :=
  c.trans created (c.trans (c.endGrant _) (c.send.sendField ..))

theorem takeRemoval (id : Identity) (s : State) : R s (Machine.takeRemoval id s) := by
  unfold Machine.takeRemoval
  split
  · exact c.refl s
  · exact c.trans (c.deleteRecord ..) (c.trans (c.revertLink ..) (c.trans (c.handRemoval ..)
      (c.trans (c.handRemoval ..) (c.send.evalPresence _))))

/-! ### Computations and moves -/

theorem setHoldOnce (n : HoldName) (k : Furnace) (tag : Nat) (d : Option Int) (s : State) :
    R s (Machine.setHoldOnce n k tag d s) := by
  unfold Machine.setHoldOnce
  split
  · exact c.refl s
  · exact c.trans (c.setPlace ..) (c.send.raise ..)

theorem placementMarks (i : PlaceInput) (p : PlacementRecord) (s : State) :
    R s (Machine.placementMarks i p s) := by
  unfold Machine.placementMarks
  refine c.trans (c.editRecord s i.record.tag (fun r => { r with substituted := i.substitutes })
    fun _ => ⟨rfl, rfl, rfl, rfl, rfl, rfl⟩) ?_
  split <;> split
  · exact c.trans (c.setHoldOnce ..) (c.setHoldOnce ..)
  · exact c.setHoldOnce ..
  · exact c.setHoldOnce ..
  · exact c.refl _

theorem holdAndIdle (k : Furnace) (x : SlabCause) (tag : Nat) (s : State) :
    R s (Machine.holdAndIdle k x tag s) := c.trans (c.holdTag ..) (c.enterIdle ..)

theorem orderCharge (k : Furnace) (x : Int) (s : State) : R s (Machine.orderCharge k x s) := by
  unfold Machine.orderCharge
  split
  · exact c.trans (c.send.sendField ..) (c.trans (c.putSeqState ..) (c.startTimer ..))
  · exact c.refl s

theorem requestStrokes (k : Furnace) (n d : Int) (s : State) : R s (Machine.requestStrokes k n d s) := by
  unfold Machine.requestStrokes
  split
  · exact c.refl s
  · exact c.trans (c.send.sendField ..) (c.trans (c.updateCycle ..) (c.trans (c.putSeqState ..)
      (c.startTimer ..)))

theorem waitInRoom (k : Furnace) (w : Waiting) (s : State) : R s (Machine.waitInRoom k w s) :=
  c.trans (c.putSeqState ..) (c.stopTimer ..)

theorem decideFinal (k : Furnace) (tag : Nat) (p : PlacementRecord) (s : State) :
    R s (Machine.decideFinal k tag p s) := by
  unfold Machine.decideFinal
  split
  · exact c.orderCharge ..
  · exact c.orderCharge ..
  · exact c.requestStrokes ..
  · exact c.waitInRoom ..
  · exact c.waitInRoom ..
  · exact c.holdAndIdle ..
  · exact c.holdAndIdle ..

theorem runFinal (k : Furnace) (s : State) : R s (Machine.runFinal k s) := by
  unfold Machine.runFinal
  split
  · exact c.refl s
  · split
    · exact c.refl s
    · exact c.trans (c.placementMarks ..) (c.trans (c.updateCycle ..) (c.decideFinal ..))

theorem beginCycle (k : Furnace) (r : TableRecord) (p : PlacementRecord) (s : State) :
    R s (Machine.beginCycle k r p s) := by
  unfold Machine.beginCycle
  split
  · exact c.refl s
  · have begun : R s (s.setSeq k
        { s.seq k with state := .positioning, waiting := .grant, cycle := some (newCycle r p) }) :=
      c.setSeq _ _ _ rfl
    exact c.trans begun (c.trans (c.putRequest ..) (c.markList _))

theorem orderMove (k : Furnace) (d : Int) (s : State)
    (h : s.arb.motion.moving = true ∨ s.chargerHold = false ∧ s.arb.gridHold = none) :
    R s (Machine.orderMove k d s) := by
  refine c.trans (c.send.sendField ..) (c.trans (c.startMove _ _ _ ?_) (c.markGrid _))
  rwa [State.chargerHold, sendField_arb]

theorem still (s : State) : R s (Machine.becomeStill s) := c.trans (c.becomeStill s) (c.markList _)

/-- R101: the hold of a success is recorded in a part that is STILL. -/
theorem moveSuccess (k : Furnace) (s : State) : R s (Machine.moveSuccess k s) :=
  c.trans (c.still s) (c.trans (c.dropRequest ..) (c.trans (c.takeHold _ k rfl) (c.trans (c.markGrid _)
    (c.trans (c.stopTimer ..) (c.runFinal ..)))))

theorem lastMiss (k : Furnace) (tag : Nat) (s : State) : R s (Machine.lastMiss k tag s) :=
  c.trans (c.still s) (c.trans (c.dropRequest ..) (c.holdAndIdle ..))

theorem moveEnded (k : Furnace) (s : State) (h : s.arb.motion.moving = true) :
    R s (Machine.moveEnded k s) := by
  unfold Machine.moveEnded
  split
  · split
    · exact c.moveSuccess ..
    · split
      · unfold correctMove
        dsimp only
        split
        · exact c.trans (c.updateCycle ..) (c.orderMove _ _ _ (.inl h))
        · exact c.trans (c.updateCycle ..) (c.lastMiss ..)
      · exact c.lastMiss ..
  · exact c.refl s

theorem moveFailed (k : Furnace) (s : State) : R s (Machine.moveFailed k s) :=
  c.trans (c.still s) (c.trans (c.dropRequest ..) (c.enterHeld ..))

theorem grantMove (k : Furnace) (s : State) (h : s.chargerHold = false) (hg : s.arb.gridHold = none) :
    R s (Machine.grantMove k s) := by
  unfold Machine.grantMove
  split
  · rename_i q g _ _
    split
    · exact c.refl s
    · dsimp only
      refine c.trans (c.putRequest k (some { q with status := .granted }) s)
        (c.trans (c.showWaiting k .move _) (c.trans (c.startTimer k .positioning _) ?_))
      split
      · exact c.moveSuccess ..
      · exact c.orderMove _ _ _ (.inr ⟨h, hg⟩)
  · exact c.refl s

/-! ### The modes -/

theorem changeMode (m : Mode) (s : State) : R s (Machine.changeMode m s) := c.trans (c.setRet ..) (c.send.raise ..)

theorem darken (k : Furnace) (s : State) : R s (Machine.darken k s) := by
  unfold Machine.darken
  split
  · exact c.putStopped ..
  · exact c.refl s

theorem enterRetain (s : State) : R s (Machine.enterRetain s) := by
  have dropped (s : State) : R s (Machine.dropMotion s) := by
    unfold Machine.dropMotion
    dsimp only
    split
    · exact c.trans (c.dropMotion s) (c.send.evalPresence _)
    · exact c.dropMotion s
  exact c.trans (c.changeMode ..) (c.trans (c.setLinks ..) (c.trans (c.setMgmt ..) (c.trans (dropped _)
    (c.trans (c.darken ..) (c.darken ..)))))

theorem restoreSequencer (k : Furnace) (s : State) : R s (Machine.restoreSequencer k s) := by
  unfold Machine.restoreSequencer
  split
  · exact c.refl s
  · exact c.refl s
  · exact c.refl s
  · exact c.enterIdle ..
  · exact c.enterIdle ..
  · exact c.enterHeld ..
  · exact c.enterHeld ..
  · exact c.enterHeld ..
  · split
    · exact c.enterIdle ..
    · exact c.enterHeld ..

theorem restoreHold (tag : Option Nat) (s : State) : R s (Machine.restoreHold tag s) := by
  unfold Machine.restoreHold
  split
  · exact c.refl s
  · exact c.trans (c.editRecord s _ (fun x => { x with state := .held .tracking }) fun _ =>
      ⟨rfl, rfl, rfl, rfl, rfl, rfl⟩) (c.send.raise ..)

theorem loseSupervision (s : State) : R s (Machine.loseSupervision s) := by
  unfold Machine.loseSupervision
  split
  · exact c.refl s
  · exact c.send.takeSupervisionExpiry ..

theorem enterRestored (s : State) : R s (Machine.enterRestored s) :=
  c.trans (c.setRet ..) (c.trans (c.changeMode ..) (c.trans (c.setLinks ..) (c.trans (c.restoreSequencer ..)
    (c.trans (c.restoreSequencer ..) (c.trans (c.restoreHold ..) (c.trans (c.restoreHold ..)
      (c.loseSupervision _)))))))

end CoreClosed

/-! ### The whole of an event -/

/-- What is asked beside the elementary updates: those by which a slab comes into the account, leaves it or goes
from one place in it to another. -/
structure PartClosed (C D : State → Prop) (R : State → State → Prop) : Prop extends CoreClosed D R where
  stableC : ∀ {s t}, SameAccount s t → C s → C t
  stableD : ∀ {s t}, SameAccount s t → D s → D t
  shiftMap : ∀ s k len rows, (rows = shiftRows len (s.map k).rows
      ∨ ∃ lEff, rows = flagOverruns lEff (shiftRows len (s.map k).rows)) →
    R s (State.setMap s k { s.map k with rows })
  removeSlab : ∀ s k l i, R s (State.setMap s k { s.map k with rows := removeAt l i (s.map k).rows })
  moveRow : ∀ s k i r front o, (s.map k).rows[i]? = some r →
    R s (State.setMap s k { s.map k with rows := (s.map k).rows.set i (r.moved front o) })
  insertSlab : ∀ s k front id w len th g m clock o, D s → s.idHeld id = false →
    R s (State.setMap (takeTag s.freshTag s) k { s.map k with
      rows := insertRows front o (insertedSlab s.freshTag id w len th g m clock) (s.map k).rows })
  createRecord : ∀ s id w th m, C s → s.idHeld id = false → s.grid.grant = none →
    s.tracker.table.length < 8 → R s (createRecord id w th m s)
  acceptDeposit : ∀ s h id w th m c, C s → depositCheck c id s = none →
    R s (acceptDeposit h id w th m c s)
  resolveLanded : ∀ s k f front, (s.seqs.get k).unresolved = some f →
    R s (afterResolution k (resolutionInsert k f (s.finalOperands k) front s))
  resolveRemoved : ∀ s k, R s (afterResolution k s)
  takeLifted : ∀ s k, R s (takeLifted k s)
  takeLowered : ∀ s k, R s (takeLowered k s)
  clearTracking : ∀ s, R s (clearTracking s)
  coldRun : ∀ s, R s (putMode .run (coldBlocks s))

theorem PartClosed.event {C D : State → Prop} {R : State → State → Prop} (c : PartClosed C D R) :
    EventClosed C D R where
  toSendClosed := c.send
  stableC := c.stableC
  stableD := c.stableD
  setPlace := c.setPlace
  setWindows := c.setWindows
  setDue := c.setDue
  setCounters := c.setCounters
  setSensors := c.setSensors
  clearFlags _ _ := c.setLinks ..
  setQueue := c.setQueue
  overdue := c.overdue
  grantMade := c.grantMade
  grantEnded := c.grantEnded
  revertLink := c.revertLink
  editSchedule _ _ _ _ _ := c.setSchedule ..
  shiftMap := c.shiftMap
  removeSlab := c.removeSlab
  moveRow s k i r front o h _ := c.moveRow s k i r front o h
  insertSlab s k front id w len th g m clock o hD hid _ _ := c.insertSlab s k front id w len th g m clock o hD hid
  removePlanned _ _ := c.setSchedule ..
  editRecord := c.editRecord
  moveHead := c.moveHead
  rejectSlab s tag _ := c.rejectSlab s tag
  acceptSlab s r w len th g d hD h _ _ := c.acceptSlab s r w len th g d hD h
  createRecord := c.createRecord
  acceptDeposit := c.acceptDeposit
  deleteRecord _ _ _ := c.deleteRecord ..
  takeRemoval _ _ := c.takeRemoval ..
  showWaiting := c.showWaiting
  beginCycle _ _ _ _ _ _ _ _ := c.beginCycle ..
  checkedRequest _ _ _ _ _ _ _ := c.putRequest ..
  grantMove s k _ _ h hg _ _ := c.grantMove k s h hg
  becomeStill := c.becomeStill
  moveEnded s k n h := c.moveEnded k s (by rw [h]; rfl)
  moveFailed _ _ _ _ := c.moveFailed ..
  startManual s h := by
    have allowed : s.chargerHold = false ∧ s.arb.gridHold = none := by
      simp only [State.manualAllowed, Bool.and_eq_true, Bool.not_eq_true', Option.isNone_iff_eq_none] at h
      exact ⟨h.1.2, h.2⟩
    exact c.startMove s .manual s.arb.nextMove (.inr allowed)
  enterHeld _ _ _ _ _ := c.enterHeld ..
  timedOut _ _ _ _ _ _ := c.enterHeld ..
  abandonHeld _ _ _ _ _ := c.trans (c.abandonMove ..) (c.enterHeld ..)
  abandonIdle _ _ _ _ := c.trans (c.abandonMove ..) (c.enterIdle ..)
  toIdle _ _ _ := c.enterIdle ..
  arm _ _ _ _ _ := c.enterIdle ..
  release _ _ _ _ := c.enterIdle ..
  disarm _ _ _ := c.disarm ..
  resolveLanded s k f front h _ _ := c.resolveLanded s k f front h
  resolveRemoved s k _ := c.resolveRemoved s k
  takeLifted s k _ := c.takeLifted s k
  takeAtDepth _ _ _ := c.trans (c.putSeqState ..) (c.startTimer ..)
  takeLowered s k _ := c.takeLowered s k
  runFinal _ _ _ := c.runFinal ..
  countStroke _ _ _ _ := c.updateCycle ..
  stopTimer _ _ := c.stopTimer ..
  strokeTimer _ _ _ := c.startTimer ..
  enterRetain _ _ := c.enterRetain ..
  enterRestored _ _ := c.enterRestored ..
  clearHeldList _ := c.setRet ..
  resumeMode _ _ := c.setRet ..
  revertAll _ := c.setSchedule ..
  clearTracking := c.clearTracking
  coldRun s _ := c.coldRun s

/-! ### Where the slabs of the account do not matter -/

namespace CoreClosed

variable {D : State → Prop} {R : State → State → Prop} (c : CoreClosed D R)
include c

theorem afterResolution (seqs : ∀ s v, R s (State.setSeqs s v)) (k : Furnace) (s : State) : R s (Machine.afterResolution k s) := by
  unfold Machine.afterResolution
  dsimp only
  split
  · exact c.trans (seqs ..) (c.trans (c.markGrid _) (c.enterIdle ..))
  · exact c.trans (seqs ..) (c.markGrid _)

theorem resolutionInsert (maps : ∀ s v, R s (State.setMaps s v)) (k : Furnace) (f : InFlight)
    (o : Option Operands) (front : Int) (s : State) :
    R s (Machine.resolutionInsert k f o front s) := by
  have row (x : FurnaceSlab) : R s (Machine.insertSlabRow k front x s) := by
    unfold Machine.insertSlabRow
    dsimp only
    split
    · exact c.trans (maps ..) (c.send.raise ..)
    · exact maps ..
  exact c.trans (row _) (c.trans (maps ..) (c.trans (c.removeLink ..) (c.send.raise ..)))

theorem takeLifted (seqs : ∀ s v, R s (State.setSeqs s v)) (k : Furnace) (s : State) : R s (Machine.takeLifted k s) := by
  unfold Machine.takeLifted
  split
  · exact c.refl s
  · split
    · exact c.refl s
    · exact c.trans (seqs ..) (c.trans (c.deleteRecord ..) (c.trans (c.releaseHold ..)
        (c.trans (c.putSeqState ..) (c.trans (c.startTimer ..) (c.send.evalPresence _)))))

theorem completeLanding (maps : ∀ s v, R s (State.setMaps s v)) (k : Furnace) (f : InFlight)
    (x : FurnaceSlab) (v : Int) (d : Landing) (s : State) :
    R s (Machine.completeLanding k f x v d s) := by
  have hold (s : State) : R s (landingHold k x.tag v s) := by
    unfold landingHold
    split
    · exact c.refl s
    · split
      · exact c.trans (c.setPlace ..) (c.send.raise ..)
      · exact c.refl s
  exact c.trans (maps ..) (c.trans (hold _) (c.trans (c.removeLink ..) (c.send.raise ..)))

theorem takeLowered (maps : ∀ s v, R s (State.setMaps s v))
    (seqs : ∀ s v, R s (State.setSeqs s v)) (k : Furnace) (s : State) : R s (Machine.takeLowered k s) := by
  unfold Machine.takeLowered
  split
  · dsimp only
    split
    · exact c.trans (c.updateCycle ..) (c.enterHeld ..)
    · rename_i h
      obtain ⟨d, -, rfl⟩ := Option.map_eq_some_iff.1 h
      exact c.trans (c.updateCycle ..) (c.trans (c.completeLanding maps ..) (c.trans (seqs ..)
        (c.trans (c.putSeqState ..) (c.startTimer ..))))
  · exact c.refl s

/-- The statements on the table arbiter and the table list: every update of the maps and the sequencers is free. -/
theorem part {C : State → Prop} (maps : ∀ s v, R s (State.setMaps s v))
    (seqs : ∀ s v, R s (State.setSeqs s v)) (stableC : ∀ {s t}, SameAccount s t → C s → C t)
    (stableD : ∀ {s t}, SameAccount s t → D s → D t)
    (take : ∀ s tag, R s (takeTag tag s))
    (create : ∀ s id w th m, C s → s.idHeld id = false → s.grid.grant = none →
      s.tracker.table.length < 8 → R s (Machine.createRecord id w th m s))
    (accept : ∀ s h id w th m c, C s → depositCheck c id s = none → R s (Machine.acceptDeposit h id w th m c s))
    (clear : ∀ s, R s (Machine.clearTracking s)) (cold : ∀ s, R s (putMode .run (coldBlocks s))) :
    PartClosed C D R where
  toCoreClosed := c
  stableC := stableC
  stableD := stableD
  shiftMap _ _ _ _ _ := maps ..
  removeSlab _ _ _ _ := maps ..
  moveRow _ _ _ _ _ _ _ := maps ..
  insertSlab _ _ _ _ _ _ _ _ _ _ _ _ _ := c.trans (take ..) (maps ..)
  createRecord := create
  acceptDeposit := accept
  resolveLanded _ _ _ _ _ := c.trans (c.resolutionInsert maps ..) (c.afterResolution seqs ..)
  resolveRemoved _ _ := c.afterResolution seqs ..
  takeLifted _ _ := c.takeLifted seqs ..
  takeLowered _ _ := c.takeLowered maps seqs ..
  clearTracking := clear
  coldRun := cold

end CoreClosed

end Sys2Proof.Machine
end

section
/-! The motion of the table, the charger holds and the grid hold (R93, R101, R121). -/

namespace Sys2Proof.Machine

/-- R93, R101, R121: the condition of the statement. -/
def TableExclusive (s : State) : Prop := MotionExcludesHolds s ∧ GridHoldIsGrant s

def KeepsExclusion (s t : State) : Prop := TableExclusive s → TableExclusive t

/-- An update that sets no charger hold and starts no motion, and leaves the grid hold and the grant. -/
theorem KeepsExclusion.of_eased {s t : State} (hm : t.arb.motion.moving = true → s.arb.motion.moving = true)
    (hh : s.chargerHold = false → t.chargerHold = false) (hg : t.arb.gridHold = s.arb.gridHold)
    (hc : t.grid.grant.map (·.crane) = s.grid.grant.map (·.crane)) : KeepsExclusion s t := by
  rintro ⟨excl, grant⟩
  have excluded : MotionExcludesHolds t := fun mt => ⟨hh (excl (hm mt)).1, hg.trans (excl (hm mt)).2⟩
  exact ⟨excluded, hg.trans (grant.trans hc.symm)⟩

theorem KeepsExclusion.of_eq {s t : State} (ha : t.arb = s.arb)
    (hc : t.grid.grant.map (·.crane) = s.grid.grant.map (·.crane)) : KeepsExclusion s t :=
  .of_eased (by rw [ha]; exact id) (by rw [State.chargerHold, State.chargerHold, ha]; exact id) (by rw [ha]) hc

/-- A part whose table stands still with no hold and no grant. -/
theorem tableExclusive_of_still {s : State} (hm : s.arb.motion = .still) (hg : s.arb.gridHold = none)
    (hc : s.grid.grant = none) : TableExclusive s :=
  ⟨fun h => by rw [hm] at h; exact absurd h (by decide), by rw [GridHoldIsGrant, hg, hc]; rfl⟩

theorem Motion.unwanted_moving (m : Motion) : m.unwanted.moving = m.moving := by cases m <;> rfl

theorem GrantConditions.permission_of_all {x : GrantConditions} (h : x.all = true) : x.permission = true :=
  (Bool.and_eq_true_iff.1 h).2

theorem keepsExclusion_core : CoreClosed (fun _ => True) KeepsExclusion where
  refl _ := id
  trans h k := k ∘ h
  setRet _ _ := .of_eq rfl rfl
  setLinks _ _ := .of_eq rfl rfl
  setMgmt _ _ := .of_eq rfl rfl
  setSchedule _ _ := .of_eq rfl rfl
  setPlace _ _ := .of_eq rfl rfl
  setWindows _ _ := .of_eq rfl rfl
  setDue _ _ := .of_eq rfl rfl
  setCounters _ _ := .of_eq rfl rfl
  setSensors _ _ := .of_eq rfl rfl
  setSeqs _ _ _ := .of_eq rfl rfl
  setQueue _ _ _ := .of_eq rfl rfl
  overdue _ _ h := .of_eq rfl (by rw [h]; rfl)
  grantMade s g q _ h := fun _ => by
    have still : s.arb.motion.moving = false := by
      have permitted : s.permitsGrid = true := GrantConditions.permission_of_all h
      simp only [State.permitsGrid, Bool.and_eq_true, Bool.not_eq_true'] at permitted
      exact permitted.1
    exact ⟨fun m => absurd (still.symm.trans m) (by decide), rfl⟩
  grantEnded _ := fun ⟨h, _⟩ => ⟨fun m => ⟨(h m).1, rfl⟩, rfl⟩
  setRequests _ _ := .of_eased id id rfl rfl
  dropHold s k := .of_eased id (fun h => by
    simp only [State.chargerHold, Bool.or_eq_false_iff] at h ⊢
    cases k with
    | f1 => exact ⟨rfl, h.2⟩
    | f2 => exact ⟨h.1, rfl⟩) rfl rfl
  unwanted s := .of_eased (fun h => (Motion.unwanted_moving _).symm.trans h) id rfl rfl
  becomeStill _ := .of_eased (fun h => by cases h) id rfl rfl
  takeHold s k h := fun ⟨_, g⟩ => by
    have still : MotionExcludesHolds (s.setArb { s.arb with holds := s.arb.holds.set k true }) := fun m => by
      rw [State.setArb_arb, h] at m
      cases m
    exact ⟨still, g⟩
  startMove s m n h := fun ⟨e, g⟩ => ⟨fun _ => h.elim e id, g⟩
  dropMotion _ := fun _ => tableExclusive_of_still rfl rfl rfl
  setWatch _ _ _ := .of_eq rfl rfl
  editRecord _ _ _ _ := .of_eq rfl rfl
  moveHead _ _ _ _ _ _ _ _ := .of_eq rfl rfl
  rejectSlab _ _ := .of_eq rfl rfl
  acceptSlab _ _ _ _ _ _ _ _ _ := .of_eq rfl rfl
  dropRecord _ _ := .of_eq rfl rfl

theorem keepsExclusion_outer : OuterClosed KeepsExclusion where
  toSendClosed := keepsExclusion_core.send
  clearAllHolds s := by
    rw [clearAllHolds_eq]
    exact .of_eq rfl rfl
  linkDown _ _ := .of_eq rfl rfl
  linkUp _ _ := .of_eq rfl rfl
  frameSent _ _ := .of_eq rfl rfl
  setOverrun _ _ := .of_eq rfl rfl
  clock _ := .of_eq rfl rfl
  putBackup _ _ := .of_eq rfl rfl
  elapse n s := by
    unfold elapse
    split
    · exact .of_eq rfl rfl
    · exact .of_eq rfl (by cases h : s.grid.grant <;> simp [elapseBackup, elapseMain, h])
  reload _ _ _ _ := .of_eq rfl rfl
  reloadWindows _ _ _ := .of_eq rfl rfl
  counterSetup _ _ _ _ := .of_eq rfl rfl
  powerOff _ := fun _ => tableExclusive_of_still rfl rfl rfl
  cold _ _ := fun _ => tableExclusive_of_still rfl rfl rfl

theorem keepsExclusion_created (s : State) (id : Identity) (w th m : Int) :
    KeepsExclusion s (createRecord id w th m s) :=
  keepsExclusion_core.createRecord (fun _ _ => .of_eq rfl rfl) id w th m s

theorem keepsExclusion_part : PartClosed (fun _ => True) (fun _ => True) KeepsExclusion :=
  keepsExclusion_core.part (fun _ _ => .of_eq rfl rfl) (fun _ _ => .of_eq rfl rfl) (fun _ _ => trivial)
    (fun _ _ => trivial) (fun _ _ => .of_eq rfl rfl)
    (fun s id w th m _ _ _ _ => keepsExclusion_created s id w th m)
    (fun s h id w th m x _ _ => keepsExclusion_core.acceptDeposit h id w th m x s
      (keepsExclusion_created s id w th m))
    (fun _ _ => tableExclusive_of_still rfl rfl rfl) (fun _ _ => tableExclusive_of_still rfl rfl rfl)

/-- Settles O8: a move is ordered where no hold stands or within a move, a charger hold is recorded STILL, and a
grant is made STILL, with its crane's hold. -/
theorem motionExcludesHoldsEveryStep : Obligations.MotionExcludesHoldsEveryStep := by
  unfold Obligations.MotionExcludesHoldsEveryStep
  intro s t hs ht
  exact (StepClosed.of_event keepsExclusion_outer keepsExclusion_part.event).step (fun _ _ => .of_eq rfl rfl)
    (fun _ => trivial) trivial ht hs

end Sys2Proof.Machine
end

section
/-! The table list (R83, R87, R90, R125): its length and the order of its heads. -/

namespace Sys2Proof.Machine

/-! ### What sending and watching leave alone -/

/-- What sending, holding an event, the management items and the grid watch leave as it is. -/
structure Untouched (s t : State) : Prop where
  power : t.power = s.power
  cfg : t.cfg = s.cfg
  schedule : t.schedule = s.schedule
  grid : t.grid = s.grid
  table : t.tracker.table = s.tracker.table
  nextTag : t.tracker.nextTag = s.tracker.nextTag
  arb : t.arb = s.arb
  seqs : t.seqs = s.seqs
  place : t.place = s.place
  maps : t.maps = s.maps
  counters : t.counters = s.counters
  sensors : t.sensors = s.sensors
  windows : t.windows = s.windows
  due : t.due = s.due
  mode : t.ret.mode = s.ret.mode
  clock : t.ret.clock = s.ret.clock

theorem Untouched.refl (s : State) : Untouched s s :=
  by constructor <;> rfl

theorem Untouched.trans {a b c : State} (h : Untouched a b) (k : Untouched b c) : Untouched a c :=
  ⟨k.power.trans h.power, k.cfg.trans h.cfg, k.schedule.trans h.schedule, k.grid.trans h.grid,
    k.table.trans h.table, k.nextTag.trans h.nextTag, k.arb.trans h.arb, k.seqs.trans h.seqs, k.place.trans h.place,
    k.maps.trans h.maps, k.counters.trans h.counters, k.sensors.trans h.sensors, k.windows.trans h.windows,
    k.due.trans h.due, k.mode.trans h.mode, k.clock.trans h.clock⟩

theorem untouched_send : SendClosed Untouched where
  refl := .refl
  trans := .trans
  sendOwn p d r b s := by
    obtain ⟨l, h, -⟩ := sendOwn_eq_links p d r b s
    rw [h]
    constructor <;> rfl
  holdEvent e s := by
    unfold holdEvent
    split <;> constructor <;> rfl
  forwardTo _ _ s := by constructor <;> rfl
  setMgmt s _ := by constructor <;> rfl
  setWatch s _ _ := by constructor <;> rfl

/-! ### A created record (R88, R118 to R120) -/

/-- R118: a match leaves the tag, the identity, the head and the width of a record. -/
theorem matchRecord_kept (s : State) (r : TableRecord) : (matchRecord s r).tag = r.tag
    ∧ (matchRecord s r).id = r.id ∧ (matchRecord s r).anchor = r.anchor ∧ (matchRecord s r).width = r.width := by
  unfold matchRecord
  split <;> exact ⟨rfl, rfl, rfl, rfl⟩

theorem State.depositRecord_tag (s : State) (id : Identity) (w th m : Int) :
    (s.depositRecord id w th m).tag = s.freshTag := (matchRecord_kept ..).1

theorem State.depositRecord_id (s : State) (id : Identity) (w th m : Int) :
    (s.depositRecord id w th m).id = id := (matchRecord_kept ..).2.1

theorem State.depositRecord_anchor (s : State) (id : Identity) (w th m : Int) {g : TableGeometry}
    (hg : s.cfg.tableGeometry = some g) : (s.depositRecord id w th m).anchor = g.xG - s.travel := by
  rw [State.depositRecord, (matchRecord_kept ..).2.2.1, newRecord, hg]

/-- R88: a created record enters the list as the last; the schedule takes its match, and the occasions stand. -/
structure Created (r : TableRecord) (s t : State) : Prop where
  table : t.tracker.table = s.tracker.table ++ [r]
  schedule : t.schedule = matchSchedule r s.schedule
  cfg : t.cfg = s.cfg
  grid : t.grid = s.grid
  arb : t.arb = s.arb
  seqs : t.seqs = s.seqs
  maps : t.maps = s.maps
  counters : t.counters = s.counters
  mode : t.ret.mode = s.ret.mode

/-- The state in which the event of a created record is raised. -/
def State.withRecord (s : State) (r : TableRecord) : State :=
  ((takeTag r.tag s).setSchedule (matchSchedule r s.schedule)).setTracker
    { (takeTag r.tag s).tracker with table := s.tracker.table ++ [r] }

theorem createRecord_eq (id : Identity) (w th m : Int) (s : State) : createRecord id w th m s =
    markReady (s.depositRecord id w th m).ready (markList (evalPresence
      (raise (creationEvent (s.depositRecord id w th m) (s.withRecord (s.depositRecord id w th m)).travel)
        (s.withRecord (s.depositRecord id w th m))))) := rfl

theorem created_of_withRecord (r : TableRecord) (x : Int) (s : State) : Created r s
    (markReady r.ready (markList (evalPresence (raise (creationEvent r x) (s.withRecord r))))) := by
  have k : Untouched (s.withRecord r) (evalPresence (raise (creationEvent r x) (s.withRecord r))) :=
    untouched_send.trans (untouched_send.raise ..) (untouched_send.evalPresence _)
  generalize evalPresence (raise (creationEvent r x) (s.withRecord r)) = u at k ⊢
  unfold markReady
  split <;>
    exact ⟨k.table, k.schedule, k.cfg, k.grid, k.arb, k.seqs, k.maps, k.counters, k.mode⟩

theorem createRecord_created (id : Identity) (w th m : Int) (s : State) :
    Created (s.depositRecord id w th m) s (createRecord id w th m s) := by
  rw [createRecord_eq]
  exact created_of_withRecord ..

/-! ### At most eight records -/

/-- The list keeps its bound and the place kept free for a deposit. -/
def KeepsBound (s t : State) : Prop := TableBounded s → TableBounded t

theorem KeepsBound.of_le {s t : State} (hl : t.tracker.table.length ≤ s.tracker.table.length)
    (hg : t.grid.grant.isSome = true → s.grid.grant.isSome = true) : KeepsBound s t :=
  fun ⟨h, hf⟩ => ⟨hl.trans h, fun ht => lt_of_le_of_lt hl (hf (hg ht))⟩

theorem KeepsBound.of_eq {s t : State} (hl : t.tracker.table = s.tracker.table)
    (hg : t.grid.grant = s.grid.grant) : KeepsBound s t :=
  .of_le (by rw [hl]) (by rw [hg]; exact id)

theorem tableBounded_nil {s : State} (h : s.tracker.table = []) : TableBounded s := by
  simp [TableBounded, h]

theorem updateRecord_length (tag : Nat) (f : TableRecord → TableRecord) (s : State) :
    (updateRecord tag f s).tracker.table.length = s.tracker.table.length := List.length_map _

theorem GrantConditions.room_of_all {x : GrantConditions} (h : x.all = true) : x.roomInList = true := by
  simp only [GrantConditions.all, Bool.and_eq_true] at h
  exact h.1.2

theorem keepsBound_core (D : State → Prop) : CoreClosed D KeepsBound where
  refl _ := id
  trans h k := k ∘ h
  setRet _ _ := .of_eq rfl rfl
  setLinks _ _ := .of_eq rfl rfl
  setMgmt _ _ := .of_eq rfl rfl
  setSchedule _ _ := .of_eq rfl rfl
  setPlace _ _ := .of_eq rfl rfl
  setWindows _ _ := .of_eq rfl rfl
  setDue _ _ := .of_eq rfl rfl
  setCounters _ _ := .of_eq rfl rfl
  setSensors _ _ := .of_eq rfl rfl
  setSeqs _ _ _ := .of_eq rfl rfl
  setQueue _ _ _ := .of_eq rfl rfl
  overdue _ _ h := .of_le le_rfl fun _ => by rw [h]; rfl
  grantMade s g q _ h := fun ⟨hl, _⟩ => ⟨hl, fun _ => of_decide_eq_true (GrantConditions.room_of_all h)⟩
  grantEnded _ := .of_le le_rfl fun h => by cases h
  setRequests _ _ := .of_eq rfl rfl
  dropHold _ _ := .of_eq rfl rfl
  unwanted _ := .of_eq rfl rfl
  becomeStill _ := .of_eq rfl rfl
  takeHold _ _ _ := .of_eq rfl rfl
  startMove _ _ _ _ := .of_eq rfl rfl
  dropMotion _ := .of_le le_rfl fun h => by cases h
  setWatch _ _ _ := .of_eq rfl rfl
  editRecord _ _ _ _ := .of_le (updateRecord_length ..).le id
  moveHead _ _ _ _ _ _ _ _ := .of_le (updateRecord_length ..).le id
  rejectSlab _ _ := .of_le (updateRecord_length ..).le id
  acceptSlab _ _ _ _ _ _ _ _ _ := .of_le (updateRecord_length ..).le id
  dropRecord _ _ := .of_le (List.length_filter_le ..) id

/-- R125, R127: a deposit that is accepted is that of the crane with the grant. -/
theorem grant_of_depositCheck {x : Crane} {id : Identity} {s : State} (h : depositCheck x id s = none) :
    s.grid.grant.isSome = true := by
  unfold depositCheck at h
  split at h
  · cases h
  · rename_i hh
    simp only [Bool.not_eq_true', Bool.not_eq_false] at hh
    unfold State.holds at hh
    split at hh
    · cases hh
    · rename_i g hg
      rw [hg]
      rfl

theorem idHeld_of_depositCheck {x : Crane} {id : Identity} {s : State} (h : depositCheck x id s = none) :
    s.idHeld id = false := by
  unfold depositCheck at h
  split at h
  · cases h
  · split at h
    · cases h
    · split at h
      · cases h
      · rename_i hid
        exact Bool.eq_false_of_not_eq_true hid

/-- R129: what the end of a grant leaves. -/
structure GrantClosed (s t : State) : Prop where
  table : t.tracker.table = s.tracker.table
  schedule : t.schedule = s.schedule
  cfg : t.cfg = s.cfg
  grid : t.grid = { s.grid with grant := none }
  arb : t.arb = { s.arb with gridHold := none }
  seqs : t.seqs = s.seqs
  maps : t.maps = s.maps
  counters : t.counters = s.counters
  mode : t.ret.mode = s.ret.mode

theorem endGrant_closed (s : State) : GrantClosed s (endGrant s) := by
  have k := untouched_send.evalPresence ((s.setGrid { s.grid with grant := none }).setArb { s.arb with gridHold := none })
  change GrantClosed s (markList (evalPresence ((s.setGrid { s.grid with grant := none }).setArb
    { s.arb with gridHold := none })))
  generalize evalPresence _ = t at k ⊢
  exact ⟨k.table, k.schedule, k.cfg, k.grid, k.arb, k.seqs, k.maps, k.counters, k.mode⟩

/-- R129: what an accepted deposit leaves: its record created, and no grant. -/
structure Deposited (r : TableRecord) (s t : State) : Prop where
  table : t.tracker.table = s.tracker.table ++ [r]
  schedule : t.schedule = matchSchedule r s.schedule
  cfg : t.cfg = s.cfg
  grant : t.grid.grant = none
  arb : t.arb = { s.arb with gridHold := none }
  seqs : t.seqs = s.seqs
  maps : t.maps = s.maps
  counters : t.counters = s.counters
  mode : t.ret.mode = s.ret.mode

theorem Created.deposited {r : TableRecord} {s u : State} (made : Created r s u) (x : Crane) (n : Nat) (b : OwnBody) :
    Deposited r s (sendField (.crane x) n b (endGrant u)) := by
  have ended := endGrant_closed u
  generalize endGrant u = v at ended ⊢
  have sent := untouched_send.sendField (.crane x) n b v
  exact ⟨sent.table.trans (ended.table.trans made.table), sent.schedule.trans (ended.schedule.trans made.schedule),
    sent.cfg.trans (ended.cfg.trans made.cfg), by rw [sent.grid, ended.grid],
    by rw [sent.arb, ended.arb, made.arb], sent.seqs.trans (ended.seqs.trans made.seqs),
    sent.maps.trans (ended.maps.trans made.maps), sent.counters.trans (ended.counters.trans made.counters),
    sent.mode.trans (ended.mode.trans made.mode)⟩

theorem acceptDeposit_deposited (h : Hdr) (id : Identity) (w th m : Int) (x : Crane) (s : State) :
    Deposited (s.depositRecord id w th m) s (acceptDeposit h id w th m x s) :=
  (createRecord_created id w th m s).deposited ..

theorem keepsBound_created (s : State) (id : Identity) (w th m : Int) (hg : s.grid.grant = none)
    (hl : s.tracker.table.length < 8) : KeepsBound s (createRecord id w th m s) := by
  have k := createRecord_created id w th m s
  refine fun _ => ⟨?_, fun h => ?_⟩
  · rw [k.table, List.length_append, List.length_singleton]
    omega
  · rw [k.grid, hg] at h
    cases h

theorem keepsBound_deposited (s : State) (h : Hdr) (id : Identity) (w th m : Int) (x : Crane)
    (hc : depositCheck x id s = none) : KeepsBound s (acceptDeposit h id w th m x s) := by
  have k := acceptDeposit_deposited h id w th m x s
  rintro ⟨-, room⟩
  have free := room (grant_of_depositCheck hc)
  refine ⟨?_, fun hg => ?_⟩
  · rw [k.table, List.length_append, List.length_singleton]
    omega
  · rw [k.grant] at hg
    cases hg

theorem keepsBound_part : PartClosed (fun _ => True) (fun _ => True) KeepsBound :=
  (keepsBound_core _).part (fun _ _ => .of_eq rfl rfl) (fun _ _ => .of_eq rfl rfl) (fun _ _ => trivial)
    (fun _ _ => trivial) (fun _ _ => .of_eq rfl rfl)
    (fun s id w th m _ _ hg hl => keepsBound_created s id w th m hg hl)
    (fun s h id w th m x _ hc => keepsBound_deposited s h id w th m x hc)
    (fun _ _ => tableBounded_nil rfl) (fun _ _ => tableBounded_nil rfl)

theorem keepsBound_outer : OuterClosed KeepsBound where
  toSendClosed := (keepsBound_core fun _ => True).send
  clearAllHolds s := by
    rw [clearAllHolds_eq]
    exact .of_eq rfl rfl
  linkDown _ _ := .of_eq rfl rfl
  linkUp _ _ := .of_eq rfl rfl
  frameSent _ _ := .of_eq rfl rfl
  setOverrun _ _ := .of_eq rfl rfl
  clock _ := .of_eq rfl rfl
  putBackup _ _ := .of_eq rfl rfl
  elapse n s := by
    unfold elapse
    split
    · exact .of_eq rfl rfl
    · exact .of_le le_rfl (by simp [elapseBackup, elapseMain])
  reload _ _ _ _ := .of_eq rfl rfl
  reloadWindows _ _ _ := .of_eq rfl rfl
  counterSetup _ _ _ _ := .of_eq rfl rfl
  powerOff _ := fun _ => tableBounded_nil rfl
  cold _ _ := fun _ => tableBounded_nil rfl

theorem tableBounded_step {s t : State} (hs : TableBounded s) (ht : step s = .next t) : TableBounded t :=
  (StepClosed.of_event keepsBound_outer keepsBound_part.event).step (fun _ _ => .of_eq rfl rfl) (fun _ => trivial)
    trivial ht hs

/-! ### The order of the heads -/

/-- No tag stands twice in the table list. -/
def TableTagsDiffer (s : State) : Prop := (s.tracker.table.map (·.tag)).Nodup

/-- R87, R88: X_G lies upstream of every head. -/
def GridUpstream (s : State) : Prop :=
  ∃ g, s.cfg.tableGeometry = some g ∧ ∀ r ∈ s.tracker.table, g.xG < r.anchor + s.travel

/-- The heads keep their order. -/
def KeepsHeads (s t : State) : Prop := TableInOrder s → TableInOrder t

theorem KeepsHeads.of_table {s t : State} (h : t.tracker.table = s.tracker.table) : KeepsHeads s t := fun hs => by
  rw [TableInOrder, h]
  exact hs

theorem KeepsHeads.of_update {s : State} (tag : Nat) (f : TableRecord → TableRecord)
    (h : ∀ r ∈ s.tracker.table, r.tag = tag → (f r).anchor = r.anchor) : KeepsHeads s (updateRecord tag f s) := by
  intro hs
  have same (r : TableRecord) (hr : r ∈ s.tracker.table) : (if r.tag = tag then f r else r).anchor = r.anchor := by
    split
    · exact h r hr ‹_›
    · rfl
  refine List.pairwise_map.2 (hs.imp_of_mem fun {a b} ha hb hab => ?_)
  rwa [same a ha, same b hb]

theorem tableInOrder_nil {s : State} (h : s.tracker.table = []) : TableInOrder s := by simp [TableInOrder, h]

/-- R90: a head that the neighbours allow keeps its place in the order: between the heads before and behind it. -/
theorem neighboursAllow_ordered {tag : Nat} {x travel : Int} {f : TableRecord → TableRecord}
    (hf : ∀ r, (f r).anchor = x - travel) : ∀ {ahead : Option Int} {l : List TableRecord},
    (∀ h, ahead = some h → ∀ r ∈ l, r.anchor + travel < h) → l.Pairwise (fun a b => b.anchor < a.anchor) →
    (l.map (·.tag)).Nodup → neighboursAllow tag x travel ahead l = true →
    (l.map fun r => if r.tag = tag then f r else r).Pairwise (fun a b => b.anchor < a.anchor)
      ∧ ∀ h, ahead = some h → ∀ r ∈ l, (if r.tag = tag then f r else r).anchor + travel < h := by
  intro ahead l
  induction l generalizing ahead with
  | nil => intro _ _ _ h; cases h
  | cons a l ih =>
    intro hahead hord hnd hok
    obtain ⟨ha, hl⟩ := List.pairwise_cons.1 hord
    obtain ⟨hna, hnl⟩ := List.nodup_cons.1 hnd
    unfold neighboursAllow at hok
    by_cases e : a.tag = tag
    · rw [if_pos e, Bool.and_eq_true] at hok
      obtain ⟨before, behind⟩ := hok
      have others : ∀ r ∈ l, (if r.tag = tag then f r else r) = r := fun r hr => if_neg fun h =>
        hna (List.mem_map.2 ⟨r, hr, h.trans e.symm⟩)
      have rest : (l.map fun r => if r.tag = tag then f r else r) = l := by
        rw [List.map_congr_left others, List.map_id']
      refine ⟨?_, fun h hh r hr => ?_⟩
      · rw [List.map_cons, rest, if_pos e, List.pairwise_cons]
        refine ⟨fun b hb => ?_, hl⟩
        rw [hf]
        cases l with
        | nil => cases hb
        | cons b' l =>
          have first : b'.anchor + travel < x := of_decide_eq_true behind
          rcases List.mem_cons.1 hb with rfl | hb
          · omega
          · have := (List.pairwise_cons.1 hl).1 b hb
            omega
      · subst hh
        rcases List.mem_cons.1 hr with rfl | hr
        · rw [if_pos e, hf]
          have : x < h := by simpa using before
          omega
        · rw [others r hr]
          exact hahead h rfl r (List.mem_cons_of_mem a hr)
    · rw [if_neg e] at hok
      have ahead' : ∀ h, some (a.head travel) = some h → ∀ r ∈ l, r.anchor + travel < h := by
        intro h hh r hr
        obtain rfl := Option.some.inj hh
        have := ha r hr
        simp only [TableRecord.head]
        omega
      obtain ⟨hp, hbelow⟩ := ih ahead' hl hnl hok
      refine ⟨?_, fun h hh r hr => ?_⟩
      · rw [List.map_cons, if_neg e, List.pairwise_cons]
        refine ⟨fun b hb => ?_, hp⟩
        obtain ⟨r, hr, rfl⟩ := List.mem_map.1 hb
        have := hbelow _ rfl r hr
        simp only [TableRecord.head] at this
        omega
      · rcases List.mem_cons.1 hr with rfl | hr
        · rw [if_neg e]
          exact hahead h hh r List.mem_cons_self
        · have low := hbelow _ rfl r hr
          have := hahead h hh a List.mem_cons_self
          simp only [TableRecord.head] at low
          omega

theorem keepsHeads_core : CoreClosed TableTagsDiffer KeepsHeads where
  refl _ := id
  trans h k := k ∘ h
  setRet _ _ := .of_table rfl
  setLinks _ _ := .of_table rfl
  setMgmt _ _ := .of_table rfl
  setSchedule _ _ := .of_table rfl
  setPlace _ _ := .of_table rfl
  setWindows _ _ := .of_table rfl
  setDue _ _ := .of_table rfl
  setCounters _ _ := .of_table rfl
  setSensors _ _ := .of_table rfl
  setSeqs _ _ _ := .of_table rfl
  setQueue _ _ _ := .of_table rfl
  overdue _ _ _ := .of_table rfl
  grantMade _ _ _ _ _ := .of_table rfl
  grantEnded _ := .of_table rfl
  setRequests _ _ := .of_table rfl
  dropHold _ _ := .of_table rfl
  unwanted _ := .of_table rfl
  becomeStill _ := .of_table rfl
  takeHold _ _ _ := .of_table rfl
  startMove _ _ _ _ := .of_table rfl
  dropMotion _ := .of_table rfl
  setWatch _ _ _ := .of_table rfl
  editRecord _ _ _ h := .of_update _ _ fun r _ _ => (h r).anchor
  moveHead s i r x travel hD _ hok := fun hs =>
    (neighboursAllow_ordered (f := fun y => { y.mark i with anchor := x - travel }) (fun _ => rfl)
      (fun _ h => by cases h) hs hD hok).1
  rejectSlab _ _ := .of_update _ _ fun _ _ _ => rfl
  acceptSlab s r w len th g d hD hr := .of_update _ _ fun y hy ht => by
    have := List.inj_on_of_nodup_map hD hy (State.findTag_some hr).1 ht
    rw [this]
    rfl
  dropRecord _ _ := fun hs => hs.filter _

/-- R88: a record created with its head at X_G stands behind the others. -/
theorem keepsHeads_append {s t : State} (id : Identity) (w th m : Int) (hC : GridUpstream s)
    (ht : t.tracker.table = s.tracker.table ++ [s.depositRecord id w th m]) : KeepsHeads s t := by
  obtain ⟨g, hg, up⟩ := hC
  intro hs
  rw [TableInOrder, ht]
  refine List.pairwise_append.2 ⟨hs, List.pairwise_singleton .., fun a ha b hb => ?_⟩
  obtain rfl := List.mem_singleton.1 hb
  rw [State.depositRecord_anchor s id w th m hg]
  have := up a ha
  omega

theorem GridUpstream.stable {s t : State} (h : SameAccount s t) : GridUpstream s → GridUpstream t := by
  rintro ⟨g, hg, up⟩
  refine ⟨g, h.tableGeometry.trans hg, fun r hr => ?_⟩
  have := up r (h.tracker ▸ hr)
  rwa [State.travel, h.travel]

theorem keepsHeads_part : PartClosed GridUpstream TableTagsDiffer KeepsHeads :=
  keepsHeads_core.part (fun _ _ => .of_table rfl) (fun _ _ => .of_table rfl) GridUpstream.stable
    (fun h hD => by rw [TableTagsDiffer, h.tracker]; exact hD) (fun _ _ => .of_table rfl)
    (fun s id w th m hC _ _ _ => keepsHeads_append id w th m hC (createRecord_created id w th m s).table)
    (fun s h id w th m x hC _ => keepsHeads_append id w th m hC (acceptDeposit_deposited h id w th m x s).table)
    (fun _ _ => tableInOrder_nil rfl) (fun _ _ => tableInOrder_nil rfl)

theorem keepsHeads_outer : OuterClosed KeepsHeads where
  toSendClosed := keepsHeads_core.send
  clearAllHolds s := by
    rw [clearAllHolds_eq]
    exact .of_table rfl
  linkDown _ _ := .of_table rfl
  linkUp _ _ := .of_table rfl
  frameSent _ _ := .of_table rfl
  setOverrun _ _ := .of_table rfl
  clock _ := .of_table rfl
  putBackup _ _ := .of_table rfl
  elapse n s := .of_table (by rw [elapse_tracker])
  reload _ _ _ _ := .of_table rfl
  reloadWindows _ _ _ := .of_table rfl
  counterSetup _ _ _ _ := .of_table rfl
  powerOff _ := fun _ => tableInOrder_nil rfl
  cold _ _ := fun _ => tableInOrder_nil rfl

/-- R87: where every tail lies downstream of X_GE, every head lies downstream of X_G. -/
theorem gridUpstream_of_tailsClear {s : State} {g : TableGeometry} (hg : s.cfg.tableGeometry = some g)
    (hx : g.xG ≤ g.xGE) (clear : s.tailsClear = true) (hlen : ∀ r ∈ s.tracker.table, 0 ≤ r.assumed) :
    ∀ r ∈ s.tracker.table, g.xG < r.anchor + s.travel := by
  intro r hr
  unfold State.tailsClear at clear
  rw [hg] at clear
  have tail : g.xGE < r.tail s.travel := of_decide_eq_true (List.all_eq_true.1 clear r hr)
  have := hlen r hr
  simp only [TableRecord.tail, TableRecord.head] at tail
  omega

/-- Settles O9: a record comes in by a deposit, which the grant keeps a place for, or by ENTER_SLAB, which asks for
one; it takes the last place, and a head changes only between its neighbours. -/
theorem tableBoundedEveryStep : Obligations.TableBoundedEveryStep := by
  unfold Obligations.TableBoundedEveryStep
  refine ⟨fun s t hs ht => tableBounded_step hs ht, fun s t hs hD hC ht => ?_, fun s g hg hx hc hl =>
    gridUpstream_of_tailsClear hg hx hc hl⟩
  exact (StepClosed.of_event keepsHeads_outer keepsHeads_part.event).step (fun _ _ => .of_table rfl) hC hD ht hs

end Sys2Proof.Machine
end

section
/-! The slabs in the part's account (R6, R84): each with its tag and its identity, and the fresh tag. -/

namespace Sys2Proof.Machine

/-! ### The account -/

/-- The tag and the identity of a slab. -/
abbrev SlabKey := Nat × Identity

def TableRecord.key (r : TableRecord) : SlabKey := (r.tag, r.id)

def FurnaceSlab.key (x : FurnaceSlab) : SlabKey := (x.tag, x.id)

/-- The keys of a list of rows. -/
def rowKeys (rows : List Row) : Multiset SlabKey := ↑((rows.flatMap Row.slabs).map FurnaceSlab.key)

/-- The key of the slab in flight of a sequencer. -/
def Sequencer.keys (q : Sequencer) : Multiset SlabKey := ↑((q.inflight.map (·.record)).toList.map TableRecord.key)

/-- The keys of the table list. -/
def tableKeys (l : List TableRecord) : Multiset SlabKey := ↑(l.map TableRecord.key)

/-- The keys of every slab in the account. -/
def State.keys (s : State) : Multiset SlabKey :=
  tableKeys s.tracker.table + (s.seqs.f1.keys + s.seqs.f2.keys) + (rowKeys s.maps.f1.rows + rowKeys s.maps.f2.rows)

/-- A figure of the account, by the keys. -/
theorem State.account_eq_keys {α : Type} (h : SlabKey → α) (s : State) :
    (↑(s.account (fun r => h r.key) (fun x => h x.key)) : Multiset α) = s.keys.map h := by
  unfold State.account State.keys tableKeys Sequencer.keys rowKeys FurnaceMap.slabs
  simp only [Multiset.map_coe, Multiset.coe_add, List.map_append, List.map_map,
    Function.comp_def, List.append_assoc]

theorem State.mem_account_iff {α : Type} (h : SlabKey → α) (s : State) (a : α) :
    a ∈ s.account (fun r => h r.key) (fun x => h x.key) ↔ a ∈ s.keys.map h := by
  rw [← State.account_eq_keys, Multiset.mem_coe]

/-- R6: no tag and no identity stands twice among the keys. -/
theorem heldOnce_iff (s : State) :
    HeldOnce s ↔ (s.keys.map Prod.fst).Nodup ∧ (s.keys.map Prod.snd).Nodup := by
  rw [← State.account_eq_keys, ← State.account_eq_keys, Multiset.coe_nodup, Multiset.coe_nodup]
  rfl

/-- Whether a test of the keys passes for a slab of the account. -/
theorem State.any_keys (s : State) (p : SlabKey → Bool) :
    (s.tracker.table.any (fun r => p r.key)
      || s.seqs.f1.inflightAny (fun r => p r.key) || s.seqs.f2.inflightAny (fun r => p r.key)
      || s.maps.f1.slabs.any (fun x => p x.key) || s.maps.f2.slabs.any (fun x => p x.key)) = true ↔
    ∃ x ∈ s.keys, p x = true := by
  have flight (q : Sequencer) : q.inflightAny (fun r => p r.key) = true ↔ ∃ x ∈ q.keys, p x = true := by
    unfold Sequencer.inflightAny Sequencer.keys
    cases q.inflight <;> simp
  have rows (m : FurnaceMap) : m.slabs.any (fun x => p x.key) = true ↔ ∃ x ∈ rowKeys m.rows, p x = true := by
    unfold rowKeys FurnaceMap.slabs
    generalize m.rows.flatMap Row.slabs = l
    simp
  have table : s.tracker.table.any (fun r => p r.key) = true ↔ ∃ x ∈ tableKeys s.tracker.table, p x = true := by
    unfold tableKeys
    simp
  simp only [Bool.or_eq_true, table, flight, rows, State.keys, Multiset.mem_add, or_and_right, exists_or, or_assoc]

theorem State.tagHeld_iff (s : State) (t : Nat) : s.tagHeld t = true ↔ t ∈ s.keys.map Prod.fst := by
  refine (State.any_keys s fun x => x.1 == t).trans ?_
  simp [Multiset.mem_map]

theorem State.idHeld_iff (s : State) (id : Identity) : s.idHeld id = true ↔ id ∈ s.keys.map Prod.snd := by
  refine (State.any_keys s fun x => x.2 == id).trans ?_
  simp [Multiset.mem_map]

/-! ### The size of the account -/

theorem Occupancy.slabs_length_le (o : Occupancy) : o.slabs.length ≤ 2 := by cases o <;> simp [Occupancy.slabs]

theorem rowKeys_card_le (rows : List Row) : Multiset.card (rowKeys rows) ≤ 2 * rows.length := by
  unfold rowKeys
  rw [Multiset.coe_card, List.length_map]
  induction rows with
  | nil => simp
  | cons r rows ih =>
    have := r.occ.slabs_length_le
    simp only [List.flatMap_cons, List.length_append, Row.slabs, List.length_map, List.length_cons] at *
    omega

theorem Sequencer.keys_card_le (q : Sequencer) : Multiset.card q.keys ≤ 1 := by
  unfold Sequencer.keys
  cases q.inflight <;> simp

theorem FurnaceMap.rows_length_of_wf {m : FurnaceMap} (h : m.wf = true) : m.rows.length ≤ 64 := by
  simp only [FurnaceMap.wf, Bool.and_eq_true, decide_eq_true_eq] at h
  exact h.1.1

/-- R3, R6, R83: the account holds 266 slabs at most. -/
theorem State.keys_card_le {s : State} (hb : TableBounded s) (hm : MapsInOrder s) :
    Multiset.card s.keys ≤ 266 := by
  have table : Multiset.card (tableKeys s.tracker.table) ≤ 8 := by
    rw [tableKeys, Multiset.coe_card, List.length_map]
    exact hb.1
  have f1 := s.seqs.f1.keys_card_le
  have f2 := s.seqs.f2.keys_card_le
  have m1 := rowKeys_card_le s.maps.f1.rows
  have m2 := rowKeys_card_le s.maps.f2.rows
  have r1 := FurnaceMap.rows_length_of_wf hm.1
  have r2 := FurnaceMap.rows_length_of_wf hm.2
  rw [State.keys, Multiset.card_add, Multiset.card_add, Multiset.card_add, Multiset.card_add]
  omega

/-! ### The fresh tag (R84) -/

/-- R84: the search ends at a tag that is not held, or every tag that it looked at is. -/
theorem freshTagFrom_free_or (s : State) (n t : Nat) :
    s.tagHeld (freshTagFrom s n t) = false ∨ ∀ i < n, s.tagHeld (nextTagAfter^[i] t) = true := by
  induction n generalizing t with
  | zero => exact .inr fun i hi => absurd hi (Nat.not_lt_zero i)
  | succ n ih =>
    unfold freshTagFrom
    by_cases h : s.tagHeld t = true
    · rw [if_pos h]
      refine (ih (nextTagAfter t)).imp_right fun all i hi => ?_
      cases i with
      | zero => exact h
      | succ i => exact all i (by omega)
    · rw [if_neg h]
      exact .inl (Bool.eq_false_of_not_eq_true h)

/-- R84: the tags go round from 1 to 65,535. -/
theorem nextTagAfter_iterate (t i : Nat) :
    nextTagAfter^[i] (nextTagAfter t) = (nextTagAfter t - 1 + i) % 65535 + 1 := by
  have range : 1 ≤ nextTagAfter t ∧ nextTagAfter t ≤ 65535 := by
    unfold nextTagAfter
    split <;> omega
  generalize nextTagAfter t = u at range ⊢
  induction i with
  | zero =>
    rw [Function.iterate_zero, id, Nat.add_zero, Nat.mod_eq_of_lt (by omega)]
    omega
  | succ i ih =>
    rw [Function.iterate_succ_apply', ih]
    unfold nextTagAfter
    split <;> omega

/-- R84: in an account of at most 266 slabs the search finds a tag that is not held. -/
theorem freshTagFrom_free {s : State} (hc : Multiset.card s.keys ≤ 266) {n : Nat} (hn : 300 ≤ n) (t : Nat) :
    s.tagHeld (freshTagFrom s n t) = false := by
  refine (freshTagFrom_free_or s n t).resolve_right fun all => ?_
  have held : ∀ i ∈ Finset.range 299, nextTagAfter^[i] (nextTagAfter t) ∈ (s.keys.map Prod.fst).toFinset := by
    intro i hi
    rw [Multiset.mem_toFinset, ← State.tagHeld_iff]
    have := Finset.mem_range.1 hi
    exact all (i + 1) (by omega)
  have apart : Set.InjOn (fun i => nextTagAfter^[i] (nextTagAfter t)) (Finset.range 299) := by
    intro i hi j hj hij
    have := Finset.mem_range.1 hi
    have := Finset.mem_range.1 hj
    simp only [nextTagAfter_iterate] at hij
    omega
  have count := Finset.card_le_card_of_injOn _ held apart
  have size := (s.keys.map Prod.fst).toFinset_card_le
  rw [Multiset.card_map] at size
  rw [Finset.card_range] at count
  omega

/-- R84: the fresh tag is not held. -/
theorem State.freshTag_free {s : State} (hb : TableBounded s) (hm : MapsInOrder s) :
    s.tagHeld s.freshTag = false := freshTagFrom_free (State.keys_card_le hb hm) (by norm_num) _

/-- The fresh tag is held by no slab of the account. -/
def FreshTagFree (s : State) : Prop := s.tagHeld s.freshTag = false

/-- The fresh tag and whether it is held depend on the account alone. -/
theorem FreshTagFree.stable {s t : State} (h : SameAccount s t) : FreshTagFree s → FreshTagFree t := by
  have held : s.tagHeld = t.tagHeld := by
    funext x
    simp only [State.tagHeld, Sequencer.inflightAny]
    rw [h.tracker, h.maps, show t.seqs.f1.inflight = _ from h.inflight .f1,
      show t.seqs.f2.inflight = _ from h.inflight .f2]
    rfl
  unfold FreshTagFree State.freshTag
  rw [← freshTagFrom_congr held, ← held, h.tracker]
  exact id

end Sys2Proof.Machine
end

section
/-! The slabs of a map through its operations (R7, R8, R11, R13, R17, R21 to R23). -/

namespace Sys2Proof.Machine

def Row.keys (r : Row) : Multiset SlabKey := ↑(r.slabs.map FurnaceSlab.key)

@[simp] theorem rowKeys_nil : rowKeys [] = 0 := rfl

@[simp] theorem rowKeys_cons (r : Row) (rows : List Row) : rowKeys (r :: rows) = r.keys + rowKeys rows := by
  simp only [rowKeys, Row.keys, List.flatMap_cons, List.map_append, Multiset.coe_add]

@[simp] theorem rowKeys_append (a b : List Row) : rowKeys (a ++ b) = rowKeys a + rowKeys b := by
  simp only [rowKeys, List.flatMap_append, List.map_append, Multiset.coe_add]

theorem Row.keys_of_occ {r r' : Row} (h : r'.occ = r.occ) : r'.keys = r.keys := by
  rw [Row.keys, Row.keys, Row.slabs, Row.slabs, h]

theorem Row.keys_single (front extent : Int) (l : Lane) (x : FurnaceSlab) (p o : Bool) :
    Row.keys ⟨front, extent, .single l x, p, o⟩ = {x.key} := by cases l <;> rfl

/-- A change of edges and flags leaves the slabs. -/
theorem rowKeys_map (f : Row → Row) (h : ∀ r, (f r).occ = r.occ) (rows : List Row) :
    rowKeys (rows.map f) = rowKeys rows := by
  induction rows with
  | nil => rfl
  | cons r rows ih => rw [List.map_cons, rowKeys_cons, rowKeys_cons, ih, Row.keys_of_occ (h r)]

@[simp] theorem rowKeys_closeLast (rows : List Row) : rowKeys (closeLast rows) = rowKeys rows := by
  induction rows with
  | nil => rfl
  | cons r rows ih =>
    cases rows with
    | nil => rfl
    | cons r' rows => rw [closeLast, rowKeys_cons, rowKeys_cons, ih]; exact List.cons_ne_nil _ _

@[simp] theorem rowKeys_shiftRows (len : Int) (rows : List Row) : rowKeys (shiftRows len rows) = rowKeys rows := by
  rw [shiftRows, rowKeys_closeLast]
  exact rowKeys_map (fun r => { r with front := r.front + len }) (fun _ => rfl) rows

@[simp] theorem rowKeys_flagOverruns (lEff : Int) (rows : List Row) :
    rowKeys (flagOverruns lEff rows) = rowKeys rows := rowKeys_map _ (fun r => by split <;> rfl) rows

/-- R17, R21: what is left of a row has slabs of that row. -/
theorem Row.keys_without {l : Lane} {r r' : Row} (h : r.without l = some r') : r'.keys ≤ r.keys := by
  obtain ⟨o, ho, rfl⟩ := Option.map_eq_some_iff.1 h
  unfold Occupancy.without at ho
  split at ho
  · rename_i x y hocc
    have both : r.keys = {x.key} + {y.key} := by rw [Row.keys, Row.slabs, hocc]; rfl
    rw [both]
    split at ho <;> obtain rfl := Option.some.inj ho
    · exact Multiset.le_add_left {y.key} {x.key}
    · exact Multiset.le_add_right {x.key} {y.key}
    · exact le_rfl
  · cases ho

theorem rowKeys_removeAt_le (l : Lane) (i : Nat) (rows : List Row) :
    rowKeys (removeAt l i rows) ≤ rowKeys rows := by
  induction rows generalizing i with
  | nil => cases i <;> exact le_rfl
  | cons r rows ih =>
    cases i with
    | zero =>
      unfold removeAt
      split
      · rw [rowKeys_cons]
        exact Multiset.le_add_left ..
      · rename_i r' h
        rw [rowKeys_cons, rowKeys_cons]
        exact add_le_add_left (Row.keys_without h) _
    | succ i =>
      rw [removeAt, rowKeys_cons, rowKeys_cons]
      exact add_le_add_right (ih i) _

/-- R22: a row that takes a front edge keeps its slabs. -/
theorem rowKeys_set {i : Nat} {r v : Row} {rows : List Row} (hr : rows[i]? = some r) (hv : v.occ = r.occ) :
    rowKeys (rows.set i v) = rowKeys rows := by
  induction rows generalizing i with
  | nil => rfl
  | cons r' rows ih =>
    cases i with
    | zero =>
      obtain rfl := Option.some.inj hr
      rw [List.set_cons_zero, rowKeys_cons, rowKeys_cons, Row.keys_of_occ hv]
    | succ i => rw [List.set_cons_succ, rowKeys_cons, rowKeys_cons, ih (by simpa using hr)]

/-- R11, R23: an inserted row brings its slab. -/
theorem rowKeys_insertRows (front : Int) (o : Bool) (x : FurnaceSlab) (rows : List Row) :
    rowKeys (insertRows front o x rows) = {x.key} + rowKeys rows := by
  have single : Row.keys { front, extent := x.width, occ := .c x, pairOpen := false, overrun := o } = {x.key} := rfl
  unfold insertRows insertRowAt
  split
  · rw [rowKeys_append, rowKeys_closeLast, rowKeys_cons, rowKeys_nil, single, add_zero, add_comm]
  · rw [rowKeys_append, rowKeys_cons, single, add_left_comm, ← rowKeys_append, List.take_append_drop]

/-- R8: a last row that is replaced gives its slabs for those of the new one. -/
theorem rowKeys_setLast {r v : Row} {rows : List Row} (h : rows.getLast? = some r) :
    rowKeys (setLast v rows) + r.keys = rowKeys rows + v.keys := by
  induction rows with
  | nil => cases h
  | cons r' rows ih =>
    cases rows with
    | nil =>
      obtain rfl := Option.some.inj h
      simp [setLast, add_comm]
    | cons r'' rows =>
      rw [List.getLast?_cons_cons] at h
      rw [setLast, rowKeys_cons, rowKeys_cons r', add_assoc, ih h, add_assoc]
      exact List.cons_ne_nil _ _

theorem FurnaceMap.openSlab_eq {m : FurnaceMap} {r : Row} {x : FurnaceSlab} (h : m.openSlab = some (r, x)) :
    m.rows.getLast? = some r ∧ r.occ = .a x ∧ r.pairOpen = true := by
  unfold FurnaceMap.openSlab at h
  split at h
  · rename_i r' hl
    split at h
    · rename_i y hocc hopen
      cases h
      exact ⟨hl, hocc, hopen⟩
    · cases h
  · cases h

/-- R7, R8: a landing that a map takes brings its slab into it. -/
theorem FurnaceMap.land_keys {m : FurnaceMap} {pair : Bool} {lane : Lane} {front : Int} {x : FurnaceSlab}
    {d : Landing} (h : m.land pair lane front x = some d) : rowKeys d.map.rows = {x.key} + rowKeys m.rows := by
  have new (l : Lane) : rowKeys (m.landNew l front x).map.rows = {x.key} + rowKeys m.rows := by
    rw [FurnaceMap.landNew, rowKeys_append, rowKeys_closeLast, rowKeys_cons, rowKeys_nil, Row.keys_single,
      add_zero, add_comm]
  unfold FurnaceMap.land at h
  split at h
  · rename_i r y ho
    obtain rfl := Option.some.inj h
    obtain ⟨hl, hocc, -⟩ := FurnaceMap.openSlab_eq ho
    have last : r.keys = {y.key} := by rw [Row.keys, Row.slabs, hocc]; rfl
    have joined := rowKeys_setLast
      (v := { r with occ := .ab y x, extent := max y.width x.width, pairOpen := false }) hl
    have pair : Row.keys { r with occ := .ab y x, extent := max y.width x.width, pairOpen := false }
        = {x.key} + {y.key} := by
      rw [add_comm]
      rfl
    rw [last, pair, ← add_assoc, add_comm (rowKeys m.rows)] at joined
    exact add_right_cancel joined
  · split at h
    · obtain rfl := Option.some.inj h
      exact new .b
    · cases h
  · split at h
    · obtain rfl := Option.some.inj h
      exact new lane
    · cases h

end Sys2Proof.Machine
end

section
/-! No tag and no identity is held twice (R6, R84): a slab goes from one place of the account to another, leaves
it, or comes in with the fresh tag and an identity that is not held. -/

namespace Sys2Proof.Machine

/-! ### The keys after a change of one place -/

theorem State.keys_of_eq {s t : State} (ht : t.tracker.table = s.tracker.table) (hq : t.seqs = s.seqs)
    (hm : t.maps = s.maps) : t.keys = s.keys := by rw [State.keys, State.keys, ht, hq, hm]

theorem State.keys_of_table {s t : State} (hq : t.seqs = s.seqs) (hm : t.maps = s.maps) :
    t.keys + tableKeys s.tracker.table = s.keys + tableKeys t.tracker.table := by
  rw [State.keys, State.keys, hq, hm]
  abel

/-- The keys of furnace k's map and slab in flight, and those of the rest of the account. -/
def State.keysBeside (s : State) (k : Furnace) : Multiset SlabKey :=
  (s.seqs.get (otherFurnace k)).keys + rowKeys (s.maps.get (otherFurnace k)).rows

theorem State.keys_split (s : State) (k : Furnace) : s.keys =
    tableKeys s.tracker.table + (s.seqs.get k).keys + rowKeys (s.map k).rows + s.keysBeside k := by
  cases k with
  | f1 =>
    change tableKeys _ + (s.seqs.f1.keys + s.seqs.f2.keys) + (rowKeys s.maps.f1.rows + rowKeys s.maps.f2.rows) =
      tableKeys _ + s.seqs.f1.keys + rowKeys s.maps.f1.rows + (s.seqs.f2.keys + rowKeys s.maps.f2.rows)
    abel
  | f2 =>
    change tableKeys _ + (s.seqs.f1.keys + s.seqs.f2.keys) + (rowKeys s.maps.f1.rows + rowKeys s.maps.f2.rows) =
      tableKeys _ + s.seqs.f2.keys + rowKeys s.maps.f2.rows + (s.seqs.f1.keys + rowKeys s.maps.f1.rows)
    abel

/-- The keys after a change of the table list, of furnace k's sequencer and of its map. -/
theorem State.keys_of_set {s t : State} {k : Furnace} {q : Sequencer} {m : FurnaceMap}
    (hq : t.seqs = s.seqs.set k q) (hm : t.maps = s.maps.set k m) : t.keys =
    tableKeys t.tracker.table + q.keys + rowKeys m.rows + s.keysBeside k := by
  rw [t.keys_split k, State.keysBeside, State.keysBeside, State.map, hq, hm, PerFurnace.get_set, PerFurnace.get_set,
    PerFurnace.get_set_other, PerFurnace.get_set_other]

theorem Sequencer.keys_none {q : Sequencer} (h : q.inflight = none) : q.keys = 0 := by
  rw [Sequencer.keys, h]
  rfl

theorem Sequencer.keys_some {q : Sequencer} {f : InFlight} (h : q.inflight = some f) : q.keys = {f.record.key} := by
  rw [Sequencer.keys, h]
  rfl

theorem Sequencer.keys_of_record {q q' : Sequencer}
    (h : q'.inflight.map (·.record) = q.inflight.map (·.record)) : q'.keys = q.keys := by
  rw [Sequencer.keys, Sequencer.keys, h]

theorem tableKeys_update {tag : Nat} {f : TableRecord → TableRecord} {s : State}
    (h : ∀ r ∈ s.tracker.table, r.tag = tag → (f r).key = r.key) :
    tableKeys (updateRecord tag f s).tracker.table = tableKeys s.tracker.table := by
  refine congrArg (fun l : List SlabKey => (l : Multiset SlabKey))
    ((List.map_map ..).trans (List.map_congr_left fun r hr => ?_))
  rw [Function.comp]
  split
  · exact h r hr ‹_›
  · rfl

theorem tableKeys_filter_le (p : TableRecord → Bool) (l : List TableRecord) :
    tableKeys (l.filter p) ≤ tableKeys l :=
  Multiset.coe_le.2 (List.filter_sublist.map _).subperm

/-- R67: a record that leaves the list makes room for its key. -/
theorem tableKeys_drop_le {r : TableRecord} {l : List TableRecord} (h : r ∈ l) :
    tableKeys (l.filter fun x => x.tag != r.tag) + {r.key} ≤ tableKeys l := by
  have sub : r ::ₘ ↑(l.filter fun x => x.tag != r.tag) ≤ (↑l : Multiset TableRecord) :=
    (Multiset.cons_le_of_notMem (by simp)).2
      ⟨by simp [h], Multiset.coe_le.2 List.filter_sublist.subperm⟩
  have keys := Multiset.map_le_map (f := TableRecord.key) sub
  rw [Multiset.map_cons, ← Multiset.singleton_add, add_comm] at keys
  exact keys

/-! ### The relation -/

/-- No tag and no identity comes to be held twice. -/
def KeepsOnce (s t : State) : Prop := HeldOnce s → HeldOnce t

theorem KeepsOnce.of_le {s t : State} (h : t.keys ≤ s.keys) : KeepsOnce s t := by
  rw [KeepsOnce, heldOnce_iff, heldOnce_iff]
  exact fun ⟨tags, ids⟩ => ⟨Multiset.nodup_of_le (Multiset.map_le_map h) tags,
    Multiset.nodup_of_le (Multiset.map_le_map h) ids⟩

theorem KeepsOnce.of_keys {s t : State} (h : t.keys = s.keys) : KeepsOnce s t := .of_le h.le

/-- R6, R84: a slab comes in with a tag and an identity that are not held. -/
theorem KeepsOnce.of_new {s t : State} {tag : Nat} {id : Identity} (ht : s.tagHeld tag = false)
    (hi : s.idHeld id = false) (h : t.keys = {(tag, id)} + s.keys) : KeepsOnce s t := by
  rw [KeepsOnce, heldOnce_iff, heldOnce_iff, h, Multiset.singleton_add, Multiset.map_cons, Multiset.map_cons,
    Multiset.nodup_cons, Multiset.nodup_cons, ← State.tagHeld_iff, ← State.idHeld_iff, ht, hi]
  exact fun ⟨tags, ids⟩ => ⟨⟨by decide, tags⟩, ⟨by decide, ids⟩⟩

/-- A part that holds no slab. -/
theorem heldOnce_of_empty {s : State} (ht : s.tracker.table = []) (hq : s.seqs = ⟨.offline, .offline⟩)
    (hm : s.maps = ⟨.empty, .empty⟩) : HeldOnce s := by
  have none : s.keys = 0 := by
    rw [State.keys, ht, hq, hm]
    rfl
  rw [heldOnce_iff, none]
  exact ⟨Multiset.nodup_zero, Multiset.nodup_zero⟩

theorem State.keys_setSeqs {s : State} {v : PerFurnace Sequencer} (h : SameInFlight s.seqs v) :
    (s.setSeqs v).keys = s.keys := by
  have f1 : v.f1.keys = s.seqs.f1.keys := Sequencer.keys_of_record (h .f1)
  have f2 : v.f2.keys = s.seqs.f2.keys := Sequencer.keys_of_record (h .f2)
  rw [State.keys, State.keys, State.setSeqs_seqs, f1, f2]
  rfl

theorem KeepsOnce.of_update {s : State} {tag : Nat} {f : TableRecord → TableRecord}
    (h : ∀ r ∈ s.tracker.table, r.tag = tag → (f r).key = r.key) : KeepsOnce s (updateRecord tag f s) := by
  have table := State.keys_of_table (s := s) (t := updateRecord tag f s) rfl rfl
  rw [tableKeys_update h] at table
  exact .of_keys (add_right_cancel table)

theorem KeepsOnce.of_table_le {s t : State} (hq : t.seqs = s.seqs) (hm : t.maps = s.maps)
    (h : tableKeys t.tracker.table ≤ tableKeys s.tracker.table) : KeepsOnce s t := by
  refine .of_le ?_
  rw [State.keys, State.keys, hq, hm]
  exact add_le_add_left (add_le_add_left h _) _

theorem HeldOnce.table_tags {s : State} (h : HeldOnce s) : (s.tracker.table.map (·.tag)).Nodup := by
  have tags := h.1
  unfold State.account at tags
  rw [List.nodup_append] at tags
  have table := tags.1
  rw [List.map_append, List.map_append, List.nodup_append, List.nodup_append] at table
  exact table.1.1

theorem keepsOnce_core : CoreClosed FreshTagFree KeepsOnce where
  refl _ := id
  trans h k := k ∘ h
  setRet _ _ := .of_keys rfl
  setLinks _ _ := .of_keys rfl
  setMgmt _ _ := .of_keys rfl
  setSchedule _ _ := .of_keys rfl
  setPlace _ _ := .of_keys rfl
  setWindows _ _ := .of_keys rfl
  setDue _ _ := .of_keys rfl
  setCounters _ _ := .of_keys rfl
  setSensors _ _ := .of_keys rfl
  setSeqs _ _ h := .of_keys (State.keys_setSeqs h)
  setQueue _ _ _ := .of_keys rfl
  overdue _ _ _ := .of_keys rfl
  grantMade _ _ _ _ _ := .of_keys rfl
  grantEnded _ := .of_keys rfl
  setRequests _ _ := .of_keys rfl
  dropHold _ _ := .of_keys rfl
  unwanted _ := .of_keys rfl
  becomeStill _ := .of_keys rfl
  takeHold _ _ _ := .of_keys rfl
  startMove _ _ _ _ := .of_keys rfl
  dropMotion _ := .of_keys rfl
  setWatch _ _ _ := .of_keys rfl
  editRecord _ _ _ h := .of_update fun r _ _ => by rw [TableRecord.key, (h r).tag, (h r).id]; rfl
  moveHead _ i _ _ _ _ _ _ := .of_update fun _ _ _ => by cases i <;> rfl
  rejectSlab _ _ := .of_update fun _ _ _ => rfl
  acceptSlab s r w len th g d _ hr := fun hs => KeepsOnce.of_update (fun y hy ht => by
    have := List.inj_on_of_nodup_map hs.table_tags hy (State.findTag_some hr).1 ht
    rw [this]
    rfl) hs
  dropRecord _ _ := .of_table_le rfl rfl (tableKeys_filter_le ..)

/-! ### Slabs that change their place -/

theorem KeepsOnce.of_rows {s : State} (k : Furnace) {m : FurnaceMap} (h : rowKeys m.rows ≤ rowKeys (s.map k).rows) :
    KeepsOnce s (s.setMap k m) := by
  refine .of_le ?_
  rw [State.keys_of_set (s := s) (t := s.setMap k m) (PerFurnace.set_get ..).symm rfl, s.keys_split k]
  exact add_le_add_left (add_le_add_right h _) _

theorem keepsOnce_insertSlab (s : State) (k : Furnace) (front : Int) (id : Identity) (w len th : Int) (g : Nat)
    (m : Int) (clock : Word32) (o : Bool) (hD : FreshTagFree s) (hid : s.idHeld id = false) :
    KeepsOnce s (State.setMap (takeTag s.freshTag s) k { s.map k with
      rows := insertRows front o (insertedSlab s.freshTag id w len th g m clock) (s.map k).rows }) := by
  unfold FreshTagFree at hD
  generalize s.freshTag = tag at hD ⊢
  refine .of_new hD hid ?_
  rw [State.keys_of_set (s := s) (t := State.setMap (takeTag tag s) k { s.map k with
    rows := insertRows front o (insertedSlab tag id w len th g m clock) (s.map k).rows })
    (PerFurnace.set_get ..).symm rfl, rowKeys_insertRows, s.keys_split k]
  change tableKeys s.tracker.table + (s.seqs.get k).keys + ({(tag, id)} + _) + _ = _
  abel

theorem keepsOnce_append {s t : State} (id : Identity) (w th m : Int) (hC : FreshTagFree s)
    (hid : s.idHeld id = false) (ht : t.tracker.table = s.tracker.table ++ [s.depositRecord id w th m])
    (hq : t.seqs = s.seqs) (hm : t.maps = s.maps) : KeepsOnce s t := by
  refine .of_new hC hid ?_
  have key : (s.depositRecord id w th m).key = (s.freshTag, id) := by
    rw [TableRecord.key, State.depositRecord_tag, State.depositRecord_id]
  have table : tableKeys t.tracker.table = tableKeys s.tracker.table + {(s.freshTag, id)} := by
    rw [ht, tableKeys, List.map_append, ← Multiset.coe_add, List.map_singleton, key]
    rfl
  rw [State.keys, table, hq, hm, State.keys]
  abel

theorem keepsOnce_afterResolution (k : Furnace) (s : State) : KeepsOnce s (afterResolution k s) := by
  have removed : KeepsOnce s (putInFlight k none s) := by
    refine .of_le ?_
    rw [State.keys_of_set (s := s) (t := putInFlight k none s) (k := k) (q := { s.seq k with inflight := none })
      (m := s.map k) rfl (PerFurnace.set_get ..).symm, Sequencer.keys_none rfl, s.keys_split k]
    exact add_le_add_left (add_le_add_left (add_le_add_right (Multiset.zero_le _) _) _) _
  unfold afterResolution
  dsimp only
  split
  · exact keepsOnce_core.trans removed (keepsOnce_core.trans (keepsOnce_core.markGrid _)
      (keepsOnce_core.enterIdle _ _))
  · exact keepsOnce_core.trans removed (keepsOnce_core.markGrid _)

/-- R9 to R11: what a slab that comes into map k leaves: the map with it, and the schedule without its entry. -/
structure IntoMap (k : Furnace) (link : Option Nat) (m : FurnaceMap) (s t : State) : Prop where
  table : t.tracker.table = s.tracker.table
  seqs : t.seqs = s.seqs
  maps : t.maps = s.maps.set k m
  schedule : t.schedule = (removeLink link s).schedule
  cfg : t.cfg = s.cfg
  grid : t.grid = s.grid
  arb : t.arb = s.arb
  counters : t.counters = s.counters
  mode : t.ret.mode = s.ret.mode

theorem IntoMap.of_untouched {k : Furnace} {link : Option Nat} {m : FurnaceMap} {s u t : State}
    (h : IntoMap k link m s u) (sent : Untouched u t) : IntoMap k link m s t :=
  ⟨sent.table.trans h.table, sent.seqs.trans h.seqs, sent.maps.trans h.maps, sent.schedule.trans h.schedule,
    sent.cfg.trans h.cfg, sent.grid.trans h.grid, sent.arb.trans h.arb, sent.counters.trans h.counters,
    sent.mode.trans h.mode⟩

theorem intoMap_setMap (k : Furnace) (m : FurnaceMap) (s : State) : IntoMap k none m s (s.setMap k m) :=
  ⟨rfl, rfl, rfl, rfl, rfl, rfl, rfl, rfl, rfl⟩

/-- The removal of the slab's entry. -/
theorem IntoMap.removeLink {k : Furnace} {m : FurnaceMap} {s u : State} (h : IntoMap k none m s u)
    (link : Option Nat) : IntoMap k link m s (Machine.removeLink link u) := by
  cases link with
  | none => exact h
  | some q =>
    have schedule : (u.schedule.filter fun e => e.seq != q) = s.schedule.filter fun e => e.seq != q :=
      congrArg (List.filter fun e : ScheduleEntry => e.seq != q) h.schedule
    exact ⟨h.table, h.seqs, h.maps, schedule, h.cfg, h.grid, h.arb, h.counters, h.mode⟩

theorem completeLanding_intoMap (k : Furnace) (f : InFlight) (x : FurnaceSlab) (v : Int) (d : Landing) (s : State) :
    IntoMap k f.record.link d.map s (completeLanding k f x v d s) := by
  have held (u : State) (h : IntoMap k none d.map s u) : IntoMap k none d.map s (landingHold k x.tag v u) := by
    have marked (p : PerFurnace PlacementState) : IntoMap k none d.map s (u.setPlace p) :=
      ⟨h.table, h.seqs, h.maps, h.schedule, h.cfg, h.grid, h.arb, h.counters, h.mode⟩
    unfold landingHold
    split
    · exact h
    · split
      · exact (marked _).of_untouched (untouched_send.raise ..)
      · exact h
  exact ((held _ (intoMap_setMap k d.map s)).removeLink _).of_untouched (untouched_send.raise ..)

theorem PerFurnace.set_set {α : Type} (p : PerFurnace α) (k : Furnace) (v w : α) :
    (p.set k v).set k w = p.set k w := by cases k <;> rfl

theorem resolutionInsert_intoMap (k : Furnace) (f : InFlight) (o : Option Operands) (front : Int) (s : State) :
    IntoMap k f.record.link
      ⟨insertRows front (s.beyond k front) (slabFrom f o none s.ret.clock) (s.map k).rows, front⟩ s
      (resolutionInsert k f o front s) := by
  unfold resolutionInsert
  dsimp only
  generalize slabFrom f o none s.ret.clock = x
  have row : IntoMap k none { s.map k with rows := insertRows front (s.beyond k front) x (s.map k).rows } s
      (insertSlabRow k front x s) := by
    unfold insertSlabRow
    dsimp only
    split
    · exact (intoMap_setMap k _ s).of_untouched (untouched_send.raise ..)
    · exact intoMap_setMap k _ s
  generalize insertSlabRow k front x s = u at row ⊢
  have landed : IntoMap k none ⟨insertRows front (s.beyond k front) x (s.map k).rows, front⟩ s
      (u.setMap k { u.map k with lastLanding := front }) := by
    refine ⟨row.table, row.seqs, ?_, row.schedule, row.cfg, row.grid, row.arb, row.counters, row.mode⟩
    rw [State.setMap, State.setMaps_maps, State.map, row.maps, PerFurnace.get_set, PerFurnace.set_set]
  exact (landed.removeLink _).of_untouched (untouched_send.raise ..)

theorem slabFrom_key (f : InFlight) (o : Option Operands) (v : Option Int) (c : Word32) :
    (slabFrom f o v c).key = f.record.key := rfl

/-- R70, R75: the slab in flight comes into the map, and its in-flight record is deleted. -/
theorem IntoMap.keepsOnce {k : Furnace} {link : Option Nat} {m : FurnaceMap} {s t : State} {f : InFlight}
    (h : IntoMap k link m s t) (hf : (s.seqs.get k).inflight = some f)
    (hm : rowKeys m.rows = {f.record.key} + rowKeys (s.map k).rows) : KeepsOnce s (putInFlight k none t) := by
  refine .of_keys ?_
  have seqs : (putInFlight k none t).seqs = s.seqs.set k { s.seq k with inflight := none } := by
    rw [putInFlight, State.setSeq, State.setSeqs_seqs, State.seq, State.seq, h.seqs]
  rw [State.keys_of_set seqs h.maps, s.keys_split k, Sequencer.keys_none rfl, Sequencer.keys_some hf, hm]
  change tableKeys t.tracker.table + _ + _ + _ = _
  rw [h.table]
  abel

theorem keepsOnce_resolveLanded (s : State) (k : Furnace) (f : InFlight) (front : Int)
    (hf : (s.seqs.get k).unresolved = some f) :
    KeepsOnce s (afterResolution k (resolutionInsert k f (s.finalOperands k) front s)) := by
  have inflight : (s.seqs.get k).inflight = some f := by
    unfold Sequencer.unresolved at hf
    split at hf
    · exact hf
    · cases hf
  have moved := (resolutionInsert_intoMap k f (s.finalOperands k) front s).keepsOnce inflight
    (rowKeys_insertRows ..)
  generalize resolutionInsert k f (s.finalOperands k) front s = u at moved ⊢
  unfold afterResolution
  dsimp only
  split
  · exact keepsOnce_core.trans moved (keepsOnce_core.trans (keepsOnce_core.markGrid _)
      (keepsOnce_core.enterIdle _ _))
  · exact keepsOnce_core.trans moved (keepsOnce_core.markGrid _)

theorem keepsOnce_takeLowered (s : State) (k : Furnace) : KeepsOnce s (takeLowered k s) := by
  unfold takeLowered
  split
  · rename_i c f hc hf
    dsimp only
    have counted := keepsOnce_core.updateCycle k (fun c => { c with measured := some (s.landingFront k) }) s
    have inflight : ((updateCycle k (fun c => { c with measured := some (s.landingFront k) }) s).seqs.get k).inflight
        = some f := by
      rw [updateCycle, State.setSeq, State.setSeqs_seqs, PerFurnace.get_set]
      exact hf
    generalize updateCycle k (fun c => { c with measured := some (s.landingFront k) }) s = t at counted inflight ⊢
    split
    · exact keepsOnce_core.trans counted (keepsOnce_core.enterHeld _ _ _ _)
    · rename_i h
      obtain ⟨d, hd, rfl⟩ := Option.map_eq_some_iff.1 h
      have moved := (completeLanding_intoMap k f
        (slabFrom f c.operands (some (landingDeviation c (s.landingFront k))) t.ret.clock)
        (landingDeviation c (s.landingFront k)) d t).keepsOnce inflight (FurnaceMap.land_keys hd)
      exact keepsOnce_core.trans counted (keepsOnce_core.trans moved (keepsOnce_core.trans
        (keepsOnce_core.putSeqState _ _ _ _) (keepsOnce_core.startTimer _ _ _)))
  · exact keepsOnce_core.refl s

theorem keepsOnce_takeLifted (s : State) (k : Furnace) : KeepsOnce s (takeLifted k s) := by
  unfold takeLifted
  split
  · exact keepsOnce_core.refl s
  · rename_i c _
    split
    · exact keepsOnce_core.refl s
    · rename_i r hr
      have lifted : KeepsOnce s ((putInFlight k (some (makeInFlight r c)) s).setTracker { s.tracker with
          table := s.tracker.table.filter fun x => x.tag != r.tag
          measuring := dropMeasurement r.tag s.tracker.measuring }) := by
        refine .of_le ?_
        rw [State.keys_of_set (s := s) (t := State.setTracker (putInFlight k (some (makeInFlight r c)) s) _)
          (k := k) (q := { s.seq k with inflight := some (makeInFlight r c) }) rfl
          (PerFurnace.set_get ..).symm, s.keys_split k, Sequencer.keys_some rfl]
        have left := tableKeys_drop_le (State.findTag_some hr).1
        exact add_le_add_left (add_le_add_left (left.trans (Multiset.le_add_right ..)) _) _
      exact keepsOnce_core.trans lifted (keepsOnce_core.trans (keepsOnce_core.markList _)
        (keepsOnce_core.trans (keepsOnce_core.markReady _ _) (keepsOnce_core.trans (keepsOnce_core.releaseHold _ _)
        (keepsOnce_core.trans (keepsOnce_core.putSeqState _ _ _ _) (keepsOnce_core.trans
        (keepsOnce_core.startTimer _ _ _) (keepsOnce_core.send.evalPresence _))))))

theorem keepsOnce_part : PartClosed FreshTagFree FreshTagFree KeepsOnce where
  toCoreClosed := keepsOnce_core
  stableC := FreshTagFree.stable
  stableD := FreshTagFree.stable
  shiftMap s k len rows h := .of_rows k (by
    rcases h with rfl | ⟨lEff, rfl⟩
    · exact (rowKeys_shiftRows ..).le
    · exact ((rowKeys_flagOverruns ..).trans (rowKeys_shiftRows ..)).le)
  removeSlab _ k _ _ := .of_rows k (rowKeys_removeAt_le ..)
  moveRow s k i r front o hr := .of_rows k (rowKeys_set (v := r.moved front o) hr rfl).le
  insertSlab := keepsOnce_insertSlab
  createRecord s id w th m hC hid _ _ := by
    have made := createRecord_created id w th m s
    exact keepsOnce_append id w th m hC hid made.table made.seqs made.maps
  acceptDeposit s h id w th m x hC hc := by
    have made := acceptDeposit_deposited h id w th m x s
    exact keepsOnce_append id w th m hC (idHeld_of_depositCheck hc) made.table made.seqs made.maps
  resolveLanded := keepsOnce_resolveLanded
  resolveRemoved s k := keepsOnce_afterResolution k s
  takeLifted := keepsOnce_takeLifted
  takeLowered := keepsOnce_takeLowered
  clearTracking _ := fun _ => heldOnce_of_empty rfl rfl rfl
  coldRun _ := fun _ => heldOnce_of_empty rfl rfl rfl

theorem keys_elapse (n : Nat) (s : State) : (elapse n s).keys = s.keys := by
  unfold elapse
  split <;> rfl

theorem keepsOnce_outer : OuterClosed KeepsOnce where
  toSendClosed := keepsOnce_core.send
  clearAllHolds s := by
    rw [clearAllHolds_eq]
    exact .of_keys rfl
  linkDown _ _ := .of_keys rfl
  linkUp _ _ := .of_keys rfl
  frameSent _ _ := .of_keys rfl
  setOverrun _ _ := .of_keys rfl
  clock _ := .of_keys rfl
  putBackup _ _ := .of_keys rfl
  elapse n s := .of_keys (keys_elapse n s)
  reload _ _ _ _ := .of_keys rfl
  reloadWindows _ _ _ := .of_keys rfl
  counterSetup _ _ _ _ := .of_keys rfl
  powerOff _ := fun _ => heldOnce_of_empty rfl rfl rfl
  cold _ _ := fun _ => heldOnce_of_empty rfl rfl rfl

/-- R6, R84: every step leaves no tag and no identity held twice. -/
theorem heldOnce_step {s t : State} (hs : HeldOnce s) (hb : TableBounded s) (hm : MapsInOrder s)
    (ht : step s = .next t) : HeldOnce t :=
  (StepClosed.of_event keepsOnce_outer keepsOnce_part.event).step (fun _ _ => .of_keys rfl)
    (fun _ => State.freshTag_free hb hm) (State.freshTag_free hb hm) ht hs

end Sys2Proof.Machine
end

section
/-! What an operation of one sequencer does, told from that sequencer, its request, its hold on the table and the
table list; and what the outcomes of a computation are. The statements on the sequencers turn on these. -/

namespace Sys2Proof.Machine

/-! ### The table list under operations of a sequencer -/

/-- What the sequencers rely on in a record: its tag, its widths and its destination. -/
structure TableRecord.Alike (r r' : TableRecord) : Prop where
  tag : r'.tag = r.tag
  width : r'.width = r.width
  nominals : r'.nominals = r.nominals
  dest : r'.dest = r.dest

/-- The records are those that they were but for head, length, state and flags. -/
def SameSlabs (l l' : List TableRecord) : Prop := ∃ f, (∀ r, TableRecord.Alike r (f r)) ∧ l' = l.map f

theorem TableRecord.Alike.refl (r : TableRecord) : r.Alike r := ⟨rfl, rfl, rfl, rfl⟩

theorem TableRecord.Alike.trans {a b c : TableRecord} (h : a.Alike b) (k : b.Alike c) : a.Alike c :=
  ⟨k.tag.trans h.tag, k.width.trans h.width, k.nominals.trans h.nominals, k.dest.trans h.dest⟩

theorem TableRecord.SameSlab.alike {r r' : TableRecord} (h : r.SameSlab r') : r.Alike r' :=
  ⟨h.tag, h.width, h.nominals, h.dest⟩

theorem SameSlabs.refl (l : List TableRecord) : SameSlabs l l :=
  ⟨id, fun r => .refl r, (List.map_id l).symm⟩

theorem SameSlabs.of_eq {l l' : List TableRecord} (h : l' = l) : SameSlabs l l' := h ▸ .refl l

theorem SameSlabs.trans {a b c : List TableRecord} (h : SameSlabs a b) (k : SameSlabs b c) : SameSlabs a c := by
  obtain ⟨f, hf, rfl⟩ := h
  obtain ⟨g, hg, rfl⟩ := k
  exact ⟨g ∘ f, fun r => (hf r).trans (hg (f r)), List.map_map ..⟩

theorem sameSlabs_updateRecord (tag : Nat) {f : TableRecord → TableRecord} (hf : ∀ r, TableRecord.Alike r (f r))
    (s : State) : SameSlabs s.tracker.table (updateRecord tag f s).tracker.table :=
  ⟨fun r => if r.tag = tag then f r else r, fun r => by
    dsimp only
    split
    · exact hf r
    · exact .refl r, rfl⟩

/-- The destination of the record with a tag. -/
def destOf (l : List TableRecord) (tag : Nat) : Option Furnace := (l.find? fun r => r.tag == tag).bind (·.dest)

theorem SameSlabs.destOf {l l' : List TableRecord} (h : SameSlabs l l') : destOf l' = destOf l := by
  obtain ⟨f, hf, rfl⟩ := h
  funext tag
  have test : ((fun r : TableRecord => r.tag == tag) ∘ f) = fun r => r.tag == tag := by
    funext r
    simp [(hf r).tag]
  unfold Machine.destOf
  rw [List.find?_map, test]
  cases l.find? fun r => r.tag == tag with
  | none => rfl
  | some r => exact (hf r).dest

theorem SameSlabs.tags {l l' : List TableRecord} (h : SameSlabs l l') : l'.map (·.tag) = l.map (·.tag) := by
  obtain ⟨f, hf, rfl⟩ := h
  rw [List.map_map]
  exact List.map_congr_left fun r _ => (hf r).tag

theorem SameSlabs.widths {l l' : List TableRecord} (h : SameSlabs l l') (hw : ∀ r ∈ l, r.widthOk = true) :
    ∀ r ∈ l', r.widthOk = true := by
  obtain ⟨f, hf, rfl⟩ := h
  intro r' hr'
  obtain ⟨r, hr, rfl⟩ := List.mem_map.1 hr'
  rw [TableRecord.widthOk, (hf r).width, (hf r).nominals]
  exact hw r hr

/-! ### One sequencer -/

/-- What an operation of sequencer k leaves: the sequencer, its request and its hold as given, the others and the
maps, the loaded tables, the schedule and the mode as they were. -/
structure SeqStep (k : Furnace) (q : Sequencer) (req : Option PosRequest) (hold : Bool) (s t : State) : Prop where
  seqs : t.seqs = s.seqs.set k q
  requests : t.arb.requests = s.arb.requests.set k req
  holds : t.arb.holds = s.arb.holds.set k hold
  motion : ∀ j n, t.arb.motion = .positioning j n true → s.arb.motion = .positioning j n true
  table : SameSlabs s.tracker.table t.tracker.table
  cfg : t.cfg = s.cfg
  maps : t.maps = s.maps
  schedule : t.schedule = s.schedule
  mode : t.ret.mode = s.ret.mode

/-- Updates that leave every sequencer, request and hold. -/
structure Quiet (s t : State) : Prop where
  seqs : t.seqs = s.seqs
  requests : t.arb.requests = s.arb.requests
  holds : t.arb.holds = s.arb.holds
  motion : ∀ j n, t.arb.motion = .positioning j n true → s.arb.motion = .positioning j n true
  table : SameSlabs s.tracker.table t.tracker.table
  cfg : t.cfg = s.cfg
  maps : t.maps = s.maps
  schedule : t.schedule = s.schedule
  mode : t.ret.mode = s.ret.mode

theorem Untouched.quiet {s t : State} (h : Untouched s t) : Quiet s t :=
  ⟨h.seqs, by rw [h.arb], by rw [h.arb], by rw [h.arb]; exact fun _ _ => id, .of_eq h.table, h.cfg, h.maps,
    h.schedule, h.mode⟩

theorem Quiet.refl (s : State) : Quiet s s := (Untouched.refl s).quiet

theorem Quiet.setDue (s : State) (v : Due) : Quiet s (s.setDue v) :=
  ⟨rfl, rfl, rfl, fun _ _ => id, .refl _, rfl, rfl, rfl, rfl⟩

theorem Quiet.setWindows (s : State) (v : PerFurnace WindowState) : Quiet s (s.setWindows v) :=
  ⟨rfl, rfl, rfl, fun _ _ => id, .refl _, rfl, rfl, rfl, rfl⟩

theorem Quiet.setPlace (s : State) (v : PerFurnace PlacementState) : Quiet s (s.setPlace v) :=
  ⟨rfl, rfl, rfl, fun _ _ => id, .refl _, rfl, rfl, rfl, rfl⟩

theorem Quiet.becomeStill (s : State) : Quiet s (becomeStill s) :=
  ⟨rfl, rfl, rfl, fun _ _ h => (by cases h), .refl _, rfl, rfl, rfl, rfl⟩

theorem Quiet.updateRecord (tag : Nat) {f : TableRecord → TableRecord} (hf : ∀ r, TableRecord.Alike r (f r))
    (s : State) : Quiet s (updateRecord tag f s) :=
  ⟨rfl, rfl, rfl, fun _ _ => id, sameSlabs_updateRecord tag hf s, rfl, rfl, rfl, rfl⟩

theorem Quiet.trans {a b c : State} (h : Quiet a b) (k : Quiet b c) : Quiet a c :=
  ⟨k.seqs.trans h.seqs, k.requests.trans h.requests, k.holds.trans h.holds,
    fun j n hm => h.motion j n (k.motion j n hm), h.table.trans k.table, k.cfg.trans h.cfg, k.maps.trans h.maps,
    k.schedule.trans h.schedule, k.mode.trans h.mode⟩

theorem Quiet.markReady (b : Bool) (s : State) : Quiet s (markReady b s) := by
  unfold Machine.markReady
  split
  · exact .setDue ..
  · exact .refl s

theorem Quiet.placeHold (x : SlabCause) (r : TableRecord) (s : State) : Quiet s (placeHold x r s) := by
  unfold Machine.placeHold
  split
  · exact .refl s
  · exact (Quiet.updateRecord r.tag (f := fun y => { y with state := .held x })
      (fun _ => ⟨rfl, rfl, rfl, rfl⟩) s).trans ((untouched_send.raise _ _).quiet.trans
      ((Quiet.setDue _ _).trans ((Quiet.setDue _ _).trans (.markReady _ _))))

theorem Quiet.holdTag (x : SlabCause) (tag : Nat) (s : State) : Quiet s (holdTag x tag s) := by
  unfold Machine.holdTag
  split
  · exact .refl s
  · exact .placeHold ..

theorem Quiet.setHoldOnce (n : HoldName) (k : Furnace) (tag : Nat) (d : Option Int) (s : State) :
    Quiet s (setHoldOnce n k tag d s) := by
  unfold Machine.setHoldOnce
  split
  · exact .refl s
  · exact (Quiet.setPlace _ _).trans (untouched_send.raise _ _).quiet

theorem Quiet.placementMarks (i : PlaceInput) (p : PlacementRecord) (s : State) :
    Quiet s (placementMarks i p s) := by
  unfold Machine.placementMarks
  refine (Quiet.updateRecord i.record.tag (f := fun r => { r with substituted := i.substitutes })
    (fun _ => ⟨rfl, rfl, rfl, rfl⟩) s).trans ?_
  split <;> split
  · exact (Quiet.setHoldOnce ..).trans (.setHoldOnce ..)
  · exact .setHoldOnce ..
  · exact .setHoldOnce ..
  · exact .refl _

namespace SeqStep

variable {k : Furnace} {q q' : Sequencer} {req req' : Option PosRequest} {hold hold' : Bool} {s t u : State}

theorem of_quiet (k : Furnace) (h : Quiet s t) :
    SeqStep k (s.seqs.get k) (s.arb.requests.get k) (s.arb.holds.get k) s t :=
  ⟨by rw [PerFurnace.set_get, h.seqs], by rw [PerFurnace.set_get, h.requests], by rw [PerFurnace.set_get, h.holds],
    h.motion, h.table, h.cfg, h.maps, h.schedule, h.mode⟩

theorem trans (h : SeqStep k q req hold s t) (g : SeqStep k q' req' hold' t u) :
    SeqStep k q' req' hold' s u :=
  ⟨by rw [g.seqs, h.seqs, PerFurnace.set_set], by rw [g.requests, h.requests, PerFurnace.set_set],
    by rw [g.holds, h.holds, PerFurnace.set_set], fun j n hm => h.motion j n (g.motion j n hm),
    h.table.trans g.table, g.cfg.trans h.cfg, g.maps.trans h.maps, g.schedule.trans h.schedule, g.mode.trans h.mode⟩

theorem quiet (h : SeqStep k q req hold s t) (g : Quiet t u) : SeqStep k q req hold s u :=
  ⟨g.seqs.trans h.seqs, g.requests.trans h.requests, g.holds.trans h.holds,
    fun j n hm => h.motion j n (g.motion j n hm), h.table.trans g.table, g.cfg.trans h.cfg, g.maps.trans h.maps,
    g.schedule.trans h.schedule, g.mode.trans h.mode⟩

theorem seq_eq (h : SeqStep k q req hold s t) : t.seqs.get k = q := by rw [h.seqs, PerFurnace.get_set]

theorem request_eq (h : SeqStep k q req hold s t) : t.arb.requests.get k = req := by
  rw [h.requests, PerFurnace.get_set]

theorem hold_eq (h : SeqStep k q req hold s t) : t.arb.holds.get k = hold := by rw [h.holds, PerFurnace.get_set]

/-- A change of the sequencer alone. -/
theorem setSeq (h : SeqStep k q req hold s t) (q' : Sequencer) : SeqStep k q' req hold s (t.setSeq k q') :=
  ⟨by rw [State.setSeq, State.setSeqs_seqs, h.seqs, PerFurnace.set_set], h.requests, h.holds, h.motion, h.table,
    h.cfg, h.maps, h.schedule, h.mode⟩

theorem setRequest (h : SeqStep k q req hold s t) (r : Option PosRequest) :
    SeqStep k q r hold s (putRequest k r t) :=
  ⟨h.seqs, (congrArg (·.set k r) h.requests).trans (PerFurnace.set_set ..), h.holds, h.motion, h.table, h.cfg, h.maps,
    h.schedule, h.mode⟩

theorem setHold (h : SeqStep k q req hold s t) (b : Bool) :
    SeqStep k q req b s (t.setArb { t.arb with holds := t.arb.holds.set k b }) :=
  ⟨h.seqs, h.requests, (congrArg (·.set k b) h.holds).trans (PerFurnace.set_set ..), h.motion, h.table, h.cfg, h.maps,
    h.schedule, h.mode⟩

theorem updateCycle (h : SeqStep k q req hold s t) (f : CycleRecord → CycleRecord) :
    SeqStep k { q with cycle := q.cycle.map f } req hold s (updateCycle k f t) := by
  unfold Machine.updateCycle State.seq
  rw [h.seq_eq]
  exact h.setSeq _

theorem putSeqState (h : SeqStep k q req hold s t) (st : SeqState) (w : Waiting) :
    SeqStep k { q with state := st, waiting := w } req hold s (putSeqState k st w t) := by
  unfold Machine.putSeqState State.seq
  rw [h.seq_eq]
  exact h.setSeq _

theorem showWaiting (h : SeqStep k q req hold s t) (w : Waiting) :
    SeqStep k { q with waiting := w } req hold s (showWaiting k w t) := by
  unfold Machine.showWaiting State.seq
  rw [h.seq_eq]
  exact h.setSeq _

theorem putInFlight (h : SeqStep k q req hold s t) (f : Option InFlight) :
    SeqStep k { q with inflight := f } req hold s (putInFlight k f t) := by
  unfold Machine.putInFlight State.seq
  rw [h.seq_eq]
  exact h.setSeq _

end SeqStep

/-- A start of the state timer. -/
def CycleRecord.timed (t : Timer) (c : CycleRecord) : CycleRecord := { c with timer := some t }

theorem SeqStep.startTimer {k : Furnace} {q : Sequencer} {req : Option PosRequest} {hold : Bool} {s t : State}
    (h : SeqStep k q req hold s t) (x : TimeoutKind) :
    ∃ n, SeqStep k { q with cycle := q.cycle.map (CycleRecord.timed ⟨x, n⟩) } req hold s (startTimer k x t) :=
  ⟨_, h.updateCycle _⟩

theorem SeqStep.releaseHold {k : Furnace} {q : Sequencer} {req : Option PosRequest} {hold : Bool} {s t : State}
    (h : SeqStep k q req hold s t) : SeqStep k q req false s (releaseHold k t) := by
  obtain ⟨d, e⟩ := releaseHold_eq k t
  rw [e]
  exact (h.setHold false).quiet (Quiet.setDue _ d)

/-- R51: the entry into HELD; a request that waits is withdrawn. -/
theorem SeqStep.enterHeld {k : Furnace} {q : Sequencer} {req : Option PosRequest} {hold : Bool} {s t : State}
    (h : SeqStep k q req hold s t) (x : HeldCause) (f : Option Nat) :
    ∃ r, SeqStep k (q.held x) r false s (enterHeld k x f t) ∧ (r.isSome = true → req.isSome = true) := by
  obtain ⟨d, w, e⟩ := enterHeld_eq k x f t
  rw [e]
  have held : SeqStep k (q.held x) (if t.requestWaits k = true then none else req) false s
      { t with
        seqs := t.seqs.set k ((t.seqs.get k).held x)
        arb := { t.arb with
          holds := t.arb.holds.set k false
          requests := if t.requestWaits k = true then t.arb.requests.set k none else t.arb.requests }
        due := d
        windows := w } := by
    refine ⟨?_, ?_, ?_, h.motion, h.table, h.cfg, h.maps, h.schedule, h.mode⟩
    · rw [h.seq_eq]
      exact (congrArg (·.set k (q.held x)) h.seqs).trans (PerFurnace.set_set ..)
    · dsimp only
      rw [h.requests]
      split
      · exact PerFurnace.set_set ..
      · rfl
    · exact (congrArg (·.set k false) h.holds).trans (PerFurnace.set_set ..)
  refine ⟨_, held.quiet (untouched_send.raise _ _).quiet, fun hr => ?_⟩
  split at hr
  · cases hr
  · exact hr

/-- R49, R57: the sequencer as an entry into IDLE leaves it. -/
def Sequencer.emptied (st : SeqState) (q : Sequencer) : Sequencer :=
  { q with state := st, cause := none, waiting := .none, cycle := none }

theorem SeqStep.empty {k : Furnace} {q : Sequencer} {req : Option PosRequest} {hold : Bool} {s t : State}
    (h : SeqStep k q req hold s t) (st : SeqState) :
    SeqStep k (q.emptied st) req false s (Machine.releaseHold k (putStopped k none (t.setSeq k
      { t.seq k with state := st, cause := none, waiting := .none, cycle := none }))) := by
  unfold State.seq
  rw [h.seq_eq]
  exact ((h.setSeq (q.emptied st)).quiet (Quiet.setWindows _ _)).releaseHold

theorem SeqStep.enterIdle {k : Furnace} {q : Sequencer} {req : Option PosRequest} {hold : Bool} {s t : State}
    (h : SeqStep k q req hold s t) : SeqStep k (q.emptied .idle) req false s (enterIdle k t) :=
  (h.empty .idle).quiet (Quiet.setDue _ _)

theorem SeqStep.enterOffline {k : Furnace} {q : Sequencer} {req : Option PosRequest} {hold : Bool} {s t : State}
    (h : SeqStep k q req hold s t) : SeqStep k (q.emptied .offline) req false s (enterOffline k t) :=
  h.empty .offline

theorem SeqStep.dropRequest {k : Furnace} {q : Sequencer} {req : Option PosRequest} {hold : Bool} {s t : State}
    (h : SeqStep k q req hold s t) : SeqStep k q none hold s (dropRequest k t) :=
  (h.setRequest none).quiet ((Quiet.setDue _ _).trans (Quiet.setDue _ _))

theorem Quiet.haltOwnMove (k : Furnace) (x : HaltReason) (s : State) : Quiet s (haltOwnMove k x s) := by
  unfold Machine.haltOwnMove
  split
  · have sent := untouched_send.sendHalt x s
    refine ⟨sent.seqs, by rw [← sent.arb]; rfl, by rw [← sent.arb]; rfl, fun j n hm => ?_, .of_eq sent.table,
      sent.cfg, sent.maps, sent.schedule, sent.mode⟩
    exfalso
    revert hm
    change (sendHalt x s).arb.motion.unwanted = _ → False
    cases (sendHalt x s).arb.motion <;> simp [Motion.unwanted]
  · exact .refl s

/-- R56, R62: what an abandoned move leaves: none of the charger's requests. -/
theorem SeqStep.abandonMove {k : Furnace} {q : Sequencer} {req : Option PosRequest} {hold : Bool} {s t : State}
    (h : SeqStep k q req hold s t) (x : HaltReason) : SeqStep k q none hold s (abandonMove k x t) := by
  have halted := h.quiet (Quiet.haltOwnMove k x t)
  unfold Machine.abandonMove
  dsimp only
  split
  · rename_i hr
    rw [halted.request_eq] at hr
    rwa [← hr]
  · exact halted.dropRequest

/-! ### The outcomes of a computation (R33 to R43) -/

theorem PlaceInput.roomStages_kept (i : PlaceInput) (o : Operands) (n : Nat) (x y : Int) (last : Row)
    (p : PlacementRecord) : (i.roomStages o n x y last p).operands = p.operands := by
  unfold PlaceInput.roomStages
  dsimp only
  split
  · rfl
  · split <;> rfl

theorem PlaceInput.rowStages_kept (i : PlaceInput) (o : Operands) (n : Nat) (p : PlacementRecord) :
    (i.rowStages o n p).operands = p.operands := by
  unfold PlaceInput.rowStages
  dsimp only
  split
  · rfl
  · split
    · split
      · rfl
      · exact PlaceInput.roomStages_kept ..
    · rfl

/-- R35, R43: the record carries the operands where there are operands; without them the result is UNMEASURED. -/
theorem PlaceInput.compute_operands (i : PlaceInput) :
    (∃ o, i.operands = .ok o ∧ i.compute.operands = some o)
      ∨ (i.compute.operands = none ∧ i.compute.result = .unmeasured) := by
  unfold PlaceInput.compute
  split
  · exact .inr ⟨rfl, rfl⟩
  · rename_i o ho
    refine .inl ⟨o, ho, ?_⟩
    dsimp only
    split
    · rfl
    · exact PlaceInput.rowStages_kept ..

/-- R35: the operand width is the measured or the nominal width of the record. -/
theorem PlaceInput.operands_width {i : PlaceInput} {o : Operands} (h : i.operands = .ok o)
    (hw : i.record.widthOk = true) : inRange 800 2800 o.width.value = true := by
  simp only [TableRecord.widthOk, Bool.and_eq_true, Option.all_eq_true] at hw
  obtain ⟨measured, nominal⟩ := hw
  unfold PlaceInput.operands at h
  split at h
  · cases h
  · rename_i w hwidth
    have value : o.width = w := by
      split at h
      · cases h
      · split at h
        · cases h
        · split at h
          · cases h
          · obtain rfl := Except.ok.inj h
            rfl
    rw [value]
    unfold operandOf at hwidth
    split at hwidth
    · rename_i x hx
      obtain rfl := Option.some.inj hwidth
      exact measured x hx
    · split at hwidth
      · obtain ⟨x, hx, rfl⟩ := Option.map_eq_some_iff.1 hwidth
        exact nominal x hx
      · cases hwidth

end Sys2Proof.Machine
end

section
/-! The order of a furnace map (R1, R3, R4) through its operations (R7, R8, R11, R13, R17, R21 to R23). -/

namespace Sys2Proof.Machine

/-! ### Order as a relation of rows -/

/-- R3, R4: row `a` stands before row `b`: nearer discharge, in front of all of it, and not pair-open. -/
structure RowBefore (a b : Row) : Prop where
  front : b.front < a.front
  clear : b.front ≤ a.trailing
  closed : a.pairOpen = false

theorem RowBefore.trans {a b c : Row} (h : RowBefore a b) (k : RowBefore b c) : RowBefore a c :=
  ⟨k.front.trans h.front, k.front.le.trans h.clear, h.closed⟩

theorem RowBefore.of_front {a b b' : Row} (h : RowBefore a b) (hf : b'.front = b.front) : RowBefore a b' :=
  ⟨hf ▸ h.front, hf ▸ h.clear, h.closed⟩

/-- A row whose front edge stays, whose trailing edge comes no nearer the charge end, and that is not pair-open. -/
theorem RowBefore.of_shorter {a a' b : Row} (h : RowBefore a b) (hf : a'.front = a.front)
    (ht : a.trailing ≤ a'.trailing) (hp : a'.pairOpen = false) : RowBefore a' b :=
  ⟨hf ▸ h.front, h.clear.trans ht, hp⟩

theorem rowsOrdered_iff (rows : List Row) : rowsOrdered rows = true ↔ rows.Pairwise RowBefore := by
  induction rows with
  | nil => simp [rowsOrdered]
  | cons a l ih =>
    cases l with
    | nil => simp [rowsOrdered]
    | cons b l =>
      rw [rowsOrdered, Bool.and_eq_true, ih, Bool.and_eq_true, Bool.and_eq_true, decide_eq_true_iff,
        decide_eq_true_iff, Bool.not_eq_true', List.pairwise_cons (a := a)]
      constructor
      · rintro ⟨⟨⟨hf, hc⟩, hp⟩, hl⟩
        have first : RowBefore a b := ⟨hf, hc, hp⟩
        refine ⟨fun x hx => ?_, hl⟩
        rcases List.mem_cons.1 hx with rfl | hx
        · exact first
        · exact first.trans ((List.pairwise_cons.1 hl).1 x hx)
      · rintro ⟨ha, hl⟩
        obtain ⟨hf, hc, hp⟩ := ha b List.mem_cons_self
        exact ⟨⟨⟨hf, hc⟩, hp⟩, hl⟩

/-- R1, R2, R4: the condition of one row. -/
structure Row.Fair (r : Row) : Prop where
  extent : r.extent = r.occ.extent
  widths : ∀ x ∈ r.slabs, inRange 800 2800 x.width = true
  single : r.pairOpen = true → ∃ x, r.occ = .a x

theorem Row.wf_iff (r : Row) : r.wf = true ↔ r.Fair := by
  unfold Row.wf
  rw [Bool.and_eq_true, Bool.and_eq_true, decide_eq_true_iff, List.all_eq_true]
  constructor
  · rintro ⟨⟨he, hw⟩, hp⟩
    refine ⟨he, hw, fun h => ?_⟩
    rw [h] at hp
    split at hp
    · exact ⟨_, ‹_›⟩
    · cases hp
  · rintro ⟨he, hw, hp⟩
    refine ⟨⟨he, hw⟩, ?_⟩
    cases h : r.pairOpen with
    | false => rfl
    | true =>
      obtain ⟨x, hx⟩ := hp h
      rw [hx]
      rfl

/-- R3, R4: the condition of a list of rows. -/
structure RowsFair (rows : List Row) : Prop where
  order : rows.Pairwise RowBefore
  each : ∀ r ∈ rows, r.Fair

theorem FurnaceMap.wf_iff (m : FurnaceMap) : m.wf = true ↔ m.rows.length ≤ 64 ∧ RowsFair m.rows := by
  unfold FurnaceMap.wf
  rw [Bool.and_eq_true, Bool.and_eq_true, decide_eq_true_iff, rowsOrdered_iff, List.all_eq_true]
  constructor
  · rintro ⟨⟨hl, ho⟩, he⟩
    exact ⟨hl, ho, fun r hr => (Row.wf_iff r).1 (he r hr)⟩
  · rintro ⟨hl, ho, he⟩
    exact ⟨⟨hl, ho⟩, fun r hr => (Row.wf_iff r).2 (he r hr)⟩

/-- R2: a row takes a depth. -/
theorem Row.Fair.extent_pos {r : Row} (h : r.Fair) : 0 < r.extent := by
  have wide (x : FurnaceSlab) (hx : x ∈ r.slabs) : 0 < x.width := by
    have := h.widths x hx
    simp only [inRange, Bool.and_eq_true, decide_eq_true_eq] at this
    omega
  rw [h.extent]
  unfold Row.slabs at wide
  cases hocc : r.occ with
  | c x => exact wide x (by simp [hocc, Occupancy.slabs])
  | a x => exact wide x (by simp [hocc, Occupancy.slabs])
  | b x => exact wide x (by simp [hocc, Occupancy.slabs])
  | ab x y => exact lt_of_lt_of_le (wide x (by simp [hocc, Occupancy.slabs])) (le_max_left ..)

theorem Row.Fair.trailing_lt {r : Row} (h : r.Fair) : r.trailing < r.front := by
  have := h.extent_pos
  unfold Row.trailing
  omega

/-- A row with the same slabs and extent that is not newly pair-open. -/
theorem Row.Fair.of_occ {r r' : Row} (h : r.Fair) (ho : r'.occ = r.occ) (he : r'.extent = r.extent)
    (hp : r'.pairOpen = true → r.pairOpen = true) : r'.Fair where
  extent := by rw [he, ho]; exact h.extent
  widths x hx := h.widths x (by rwa [Row.slabs, ho] at hx)
  single hp' := by rw [ho]; exact h.single (hp hp')

/-- A row of one slab in a lane. -/
theorem Row.fair_single (front : Int) (l : Lane) (x : FurnaceSlab) (p o : Bool)
    (hw : inRange 800 2800 x.width = true) (hp : p = true → l = .a) :
    Row.Fair ⟨front, x.width, .single l x, p, o⟩ where
  extent := by cases l <;> rfl
  widths y hy := by
    obtain rfl : y = x := by cases l <;> simpa [Row.slabs, Occupancy.single, Occupancy.slabs] using hy
    exact hw
  single h := by
    rw [hp h]
    exact ⟨x, rfl⟩

/-! ### The last row closed (R4, R13) -/

theorem closeLast_length (rows : List Row) : (closeLast rows).length = rows.length := by
  induction rows with
  | nil => rfl
  | cons r rows ih =>
    cases rows with
    | nil => rfl
    | cons r' rows => rw [closeLast, List.length_cons, List.length_cons, ih]; exact List.cons_ne_nil _ _

/-- A row of the closed list is a row of the list, closed where it was the last. -/
theorem mem_closeLast {b : Row} {rows : List Row} (h : b ∈ closeLast rows) :
    b ∈ rows ∨ ∃ r ∈ rows, b = { r with pairOpen := false } := by
  induction rows with
  | nil => cases h
  | cons r rows ih =>
    cases rows with
    | nil => exact .inr ⟨r, List.mem_cons_self, List.mem_singleton.1 h⟩
    | cons r' rows =>
      rw [closeLast] at h
      · rcases List.mem_cons.1 h with rfl | h
        · exact .inl List.mem_cons_self
        · rcases ih h with h | ⟨c, hc, rfl⟩
          · exact .inl (List.mem_cons_of_mem _ h)
          · exact .inr ⟨c, List.mem_cons_of_mem _ hc, rfl⟩
      · exact List.cons_ne_nil _ _

theorem Row.Fair.closed {r : Row} (h : r.Fair) : Row.Fair { r with pairOpen := false } :=
  h.of_occ rfl rfl (fun hp => by cases hp)

/-- R4: the list with its last row closed: in order, and with no row pair-open. -/
theorem RowsFair.closeLast {rows : List Row} (h : RowsFair rows) :
    RowsFair (closeLast rows) ∧ ∀ r ∈ closeLast rows, r.pairOpen = false := by
  have each : ∀ r ∈ Machine.closeLast rows, r.Fair := fun b hb => by
    rcases mem_closeLast hb with hb | ⟨r, hr, rfl⟩
    · exact h.each b hb
    · exact (h.each r hr).closed
  suffices hs : (Machine.closeLast rows).Pairwise RowBefore ∧ ∀ r ∈ Machine.closeLast rows, r.pairOpen = false from
    ⟨⟨hs.1, each⟩, hs.2⟩
  replace h := h.order
  clear each
  induction rows with
  | nil => exact ⟨.nil, fun r hr => by cases hr⟩
  | cons r rows ih =>
    cases rows with
    | nil => exact ⟨List.pairwise_singleton .., fun b hb => by rw [List.mem_singleton.1 hb]⟩
    | cons r' rows =>
      obtain ⟨hr, hrows⟩ := List.pairwise_cons.1 h
      obtain ⟨order, closed⟩ := ih hrows
      rw [Machine.closeLast]
      · refine ⟨List.pairwise_cons.2 ⟨fun b hb => ?_, order⟩, fun b hb => ?_⟩
        · rcases mem_closeLast hb with hb | ⟨c, hc, rfl⟩
          · exact hr b hb
          · exact (hr c hc).of_front rfl
        · rcases List.mem_cons.1 hb with rfl | hb
          · exact (hr r' List.mem_cons_self).closed
          · exact closed b hb
      · exact List.cons_ne_nil _ _

/-- R13: a shift of every row. -/
theorem RowsFair.shift {rows : List Row} (h : RowsFair rows) (len : Int) : RowsFair (shiftRows len rows) := by
  refine (RowsFair.closeLast ⟨?_, fun b hb => ?_⟩).1
  · refine List.pairwise_map.2 (h.order.imp fun {a b} hab => ⟨?_, ?_, hab.closed⟩)
    · exact Int.add_lt_add_right hab.front len
    · have := hab.clear
      simp only [Row.trailing] at this ⊢
      omega
  · obtain ⟨r, hr, rfl⟩ := List.mem_map.1 hb
    exact (h.each r hr).of_occ rfl rfl id

/-- R5: the overrun flags play no part in the order. -/
theorem RowsFair.flag {rows : List Row} (h : RowsFair rows) (lEff : Int) : RowsFair (flagOverruns lEff rows) := by
  have same (r : Row) : ∃ o, (if r.newlyOver lEff then { r with overrun := true } else r) = { r with overrun := o } := by
    split
    · exact ⟨true, rfl⟩
    · exact ⟨r.overrun, rfl⟩
  refine ⟨List.pairwise_map.2 (h.order.imp fun {a b} hab => ?_), fun c hc => ?_⟩
  · obtain ⟨o, ha⟩ := same a
    obtain ⟨o', hb⟩ := same b
    rw [ha, hb]
    exact ⟨hab.front, hab.clear, hab.closed⟩
  · obtain ⟨r, hr, rfl⟩ := List.mem_map.1 hc
    obtain ⟨o, e⟩ := same r
    rw [e]
    exact (h.each r hr).of_occ rfl rfl id

/-! ### Removals (R17, R21) -/

/-- What is left of a row: its front edge, no greater extent, none of its slabs new, and not pair-open. -/
theorem Row.without_fair {l : Lane} {r r' : Row} (h : r.Fair) (hw : r.without l = some r') :
    r'.Fair ∧ r'.front = r.front ∧ r.trailing ≤ r'.trailing ∧ r'.pairOpen = false := by
  obtain ⟨o, ho, rfl⟩ := Option.map_eq_some_iff.1 hw
  have part : o.extent ≤ r.occ.extent ∧ ∀ x ∈ o.slabs.map (·.2), x ∈ r.slabs := by
    unfold Occupancy.without at ho
    split at ho
    · rename_i x y hocc
      rw [Row.slabs, hocc]
      split at ho <;> obtain rfl := Option.some.inj ho
      · exact ⟨le_max_right .., by simp [Occupancy.slabs]⟩
      · exact ⟨le_max_left .., by simp [Occupancy.slabs]⟩
      · exact ⟨le_rfl, fun _ hz => hz⟩
    · cases ho
  refine ⟨⟨rfl, fun x hx => h.widths x (part.2 x hx), fun hp => by cases hp⟩, rfl, ?_, rfl⟩
  have := h.extent
  simp only [Row.trailing]
  omega

theorem mem_removeAt_front {l : Lane} {i : Nat} {b : Row} {rows : List Row} (h : RowsFair rows)
    (hb : b ∈ removeAt l i rows) : b.Fair ∧ ∃ c ∈ rows, b.front = c.front := by
  induction rows generalizing i with
  | nil => cases i <;> cases hb
  | cons r rows ih =>
    have tail : RowsFair rows := ⟨(List.pairwise_cons.1 h.order).2, fun c hc => h.each c (List.mem_cons_of_mem r hc)⟩
    have stays (c : Row) (hc : c ∈ rows) : c.Fair ∧ ∃ d ∈ r :: rows, c.front = d.front :=
      ⟨tail.each c hc, c, List.mem_cons_of_mem r hc, rfl⟩
    cases i with
    | zero =>
      unfold removeAt at hb
      split at hb
      · exact stays b hb
      · rename_i r' hw
        rcases List.mem_cons.1 hb with rfl | hb
        · obtain ⟨fair, front, -⟩ := Row.without_fair (h.each r List.mem_cons_self) hw
          exact ⟨fair, r, List.mem_cons_self, front⟩
        · exact stays b hb
    | succ i =>
      rcases List.mem_cons.1 hb with rfl | hb
      · exact ⟨h.each b List.mem_cons_self, b, List.mem_cons_self, rfl⟩
      · obtain ⟨fair, c, hc, front⟩ := ih tail hb
        exact ⟨fair, c, List.mem_cons_of_mem r hc, front⟩

theorem RowsFair.remove {rows : List Row} (h : RowsFair rows) (l : Lane) (i : Nat) :
    RowsFair (removeAt l i rows) := by
  refine ⟨?_, fun b hb => (mem_removeAt_front h hb).1⟩
  induction rows generalizing i with
  | nil => cases i <;> exact .nil
  | cons r rows ih =>
    obtain ⟨hr, hrows⟩ := List.pairwise_cons.1 h.order
    have tail : RowsFair rows := ⟨hrows, fun c hc => h.each c (List.mem_cons_of_mem r hc)⟩
    cases i with
    | zero =>
      unfold removeAt
      split
      · exact hrows
      · rename_i r' hw
        obtain ⟨-, front, trailing, closed⟩ := Row.without_fair (h.each r List.mem_cons_self) hw
        exact List.pairwise_cons.2 ⟨fun b hb => (hr b hb).of_shorter front trailing closed, hrows⟩
    | succ i =>
      refine List.pairwise_cons.2 ⟨fun b hb => ?_, ih tail i⟩
      obtain ⟨-, c, hc, front⟩ := mem_removeAt_front tail hb
      exact (hr c hc).of_front front

theorem removeAt_length_le (l : Lane) (i : Nat) (rows : List Row) : (removeAt l i rows).length ≤ rows.length := by
  induction rows generalizing i with
  | nil => cases i <;> exact le_rfl
  | cons r rows ih =>
    cases i with
    | zero =>
      unfold removeAt
      split
      · exact Nat.le_succ _
      · exact le_rfl
    | succ i => exact Nat.succ_le_succ (ih i)

/-! ### A row that takes a front edge (R22) -/

theorem RowsFair.move {rows : List Row} (h : RowsFair rows) {i : Nat} {r : Row} (hr : rows[i]? = some r) (front : Int)
    (o : Bool) (fits : frontFits rows i front r.extent = true) : RowsFair (rows.set i (r.moved front o)) := by
  obtain ⟨hi, rfl⟩ := List.getElem?_eq_some_iff.1 hr
  have fair := h.each _ (List.getElem_mem hi)
  have order := List.pairwise_iff_getElem.1 h.order
  have ahead (j : Nat) (hj : j < i) : front ≤ rows[j].trailing := by
    simp only [frontFits, Bool.and_eq_true, Bool.or_eq_true, beq_iff_eq] at fits
    have before := fits.1.resolve_left (by omega)
    rw [List.getElem?_eq_getElem (show i - 1 < rows.length by omega)] at before
    have last : front ≤ rows[i - 1].trailing := of_decide_eq_true before
    by_cases e : j = i - 1
    · subst e
      exact last
    · have far := order j (i - 1) (by omega) (by omega) (by omega)
      have := (h.each _ (List.getElem_mem (show i - 1 < rows.length by omega))).trailing_lt
      have := far.clear
      omega
  have behind (j : Nat) (hij : i < j) (hj : j < rows.length) : rows[j].front ≤ front - rows[i].extent := by
    simp only [frontFits, Bool.and_eq_true] at fits
    have after := fits.2
    rw [List.getElem?_eq_getElem (show i + 1 < rows.length by omega)] at after
    have next : rows[i + 1].front ≤ front - rows[i].extent := of_decide_eq_true after
    by_cases e : j = i + 1
    · subst e
      exact next
    · have := (order (i + 1) j (by omega) (by omega) (by omega)).front
      omega
  refine ⟨List.pairwise_iff_getElem.2 fun a b ha hb hab => ?_, fun c hc => ?_⟩
  · rw [List.length_set] at ha hb
    rw [List.getElem_set, List.getElem_set]
    by_cases ea : i = a
    · subst ea
      rw [if_pos rfl, if_neg (by omega)]
      have clear := behind b hab hb
      have := fair.extent_pos
      exact ⟨show rows[b].front < front by omega, clear, rfl⟩
    · rw [if_neg ea]
      by_cases eb : i = b
      · subst eb
        rw [if_pos rfl]
        exact ⟨lt_of_le_of_lt (ahead a hab) (h.each _ (List.getElem_mem ha)).trailing_lt, ahead a hab,
          (order a i ha hi hab).closed⟩
      · rw [if_neg eb]
        exact order a b ha hb hab
  · rcases List.mem_or_eq_of_mem_set hc with hc | rfl
    · exact h.each c hc
    · exact fair.of_occ rfl rfl (fun hp => by cases hp)

/-! ### A row that comes in (R7, R8, R11, R23) -/

/-- A row behind the rest. -/
theorem RowsFair.snoc {rows : List Row} {r : Row} (h : RowsFair rows) (hr : r.Fair)
    (ho : ∀ a ∈ rows, a.pairOpen = false ∧ r.front ≤ a.trailing) : RowsFair (rows ++ [r]) := by
  refine ⟨List.pairwise_append.2 ⟨h.order, List.pairwise_singleton .., fun a ha b hb => ?_⟩, fun b hb => ?_⟩
  · obtain rfl := List.mem_singleton.1 hb
    obtain ⟨closed, clear⟩ := ho a ha
    exact ⟨lt_of_le_of_lt clear (h.each a ha).trailing_lt, clear, closed⟩
  · rcases List.mem_append.1 hb with hb | hb
    · exact h.each b hb
    · obtain rfl := List.mem_singleton.1 hb
      exact hr

/-- R4, R7: a row behind the rest closes the last one. -/
theorem RowsFair.behind {rows : List Row} {r : Row} (h : RowsFair rows) (hr : r.Fair)
    (ho : ∀ a ∈ rows, r.front ≤ a.trailing) : RowsFair (Machine.closeLast rows ++ [r]) := by
  refine h.closeLast.1.snoc hr fun a ha => ⟨h.closeLast.2 a ha, ?_⟩
  rcases mem_closeLast ha with ha | ⟨b, hb, rfl⟩
  · exact ho a ha
  · exact ho b hb

/-- R3, R11: where the span shares no depth, the rows before its place stand in front of it and the others behind. -/
theorem insertIndex_spec {rows : List Row} {front width : Int} (h : RowsFair rows) (hw : 0 < width)
    (hc : spanConflict front width rows = false) :
    (∀ a ∈ rows.take (insertIndex front rows), front ≤ a.trailing)
      ∧ ∀ b ∈ rows.drop (insertIndex front rows), b.front ≤ front - width := by
  have apart (r : Row) (hr : r ∈ rows) : r.front ≤ front - width ∨ front ≤ r.trailing := by
    have := List.any_eq_false.1 hc r hr
    simp only [Bool.and_eq_true, decide_eq_true_eq] at this
    omega
  have ahead : rows.take (insertIndex front rows) = rows.takeWhile fun r => decide (front ≤ r.front) :=
    (List.prefix_iff_eq_take.1 (List.takeWhile_prefix _)).symm
  have rest : rows.drop (insertIndex front rows) = rows.dropWhile fun r => decide (front ≤ r.front) := by
    have drop := List.drop_left (l₁ := rows.takeWhile fun r => decide (front ≤ r.front))
      (l₂ := rows.dropWhile fun r => decide (front ≤ r.front))
    rwa [List.takeWhile_append_dropWhile] at drop
  refine ⟨fun a ha => ?_, fun b hb => ?_⟩
  · have inRows := List.mem_of_mem_take ha
    rw [ahead] at ha
    have := of_decide_eq_true (List.mem_takeWhile_imp (p := fun r : Row => decide (front ≤ r.front)) ha)
    rcases apart a inRows with hfar | hclear
    · omega
    · exact hclear
  · have inRows := List.mem_of_mem_drop hb
    have behind : b.front < front := by
      rw [rest] at hb
      have order := h.order
      rw [← List.takeWhile_append_dropWhile (p := fun r : Row => decide (front ≤ r.front)) (l := rows)] at order
      replace order := (List.pairwise_append.1 order).2.1
      have head := List.head?_dropWhile_not (fun r : Row => decide (front ≤ r.front)) rows
      cases hd : rows.dropWhile fun r => decide (front ≤ r.front) with
      | nil => rw [hd] at hb; cases hb
      | cons c l =>
        rw [hd] at hb order head
        have first : c.front < front := by simpa using head
        rcases List.mem_cons.1 hb with rfl | hb
        · exact first
        · exact ((List.pairwise_cons.1 order).1 b hb).front.trans first
    rcases apart b inRows with hfar | hclear
    · exact hfar
    · have := (h.each b inRows).trailing_lt
      omega

/-- R11, R23: an inserted row. -/
theorem RowsFair.insert {rows : List Row} (h : RowsFair rows) {front : Int} {x : FurnaceSlab} (o : Bool)
    (hw : inRange 800 2800 x.width = true) (hc : spanConflict front x.width rows = false) :
    RowsFair (insertRows front o x rows) := by
  have fair : Row.Fair { front, extent := x.width, occ := .c x, pairOpen := false, overrun := o } :=
    Row.fair_single front .c x false o hw (fun hp => by cases hp)
  obtain ⟨ahead, behind⟩ := insertIndex_spec h fair.extent_pos hc
  unfold insertRows insertRowAt
  split
  · rename_i e
    rw [e, List.take_length] at ahead
    exact h.behind fair ahead
  · rename_i e
    have split := List.take_append_drop (insertIndex front rows) rows
    have short : insertIndex front rows < rows.length :=
      lt_of_le_of_ne ((List.takeWhile_prefix _).length_le) e
    have last : rows.drop (insertIndex front rows) ≠ [] := by
      simpa using short
    have order := h.order
    rw [← split, List.pairwise_append] at order
    obtain ⟨before, after, across⟩ := order
    obtain ⟨c, hc⟩ := List.exists_mem_of_ne_nil _ last
    refine ⟨List.pairwise_append.2 ⟨before, List.pairwise_cons.2 ⟨fun b hb => ?_, after⟩, fun a ha b hb => ?_⟩,
      fun b hb => ?_⟩
    · exact ⟨lt_of_le_of_lt (behind b hb) fair.trailing_lt, behind b hb, rfl⟩
    · rcases List.mem_cons.1 hb with rfl | hb
      · exact ⟨lt_of_le_of_lt (ahead a ha) (h.each a (List.mem_of_mem_take ha)).trailing_lt, ahead a ha,
          (across a ha c hc).closed⟩
      · exact across a ha b hb
    · rcases List.mem_append.1 hb with hb | hb
      · exact h.each b (List.mem_of_mem_take hb)
      · rcases List.mem_cons.1 hb with rfl | hb
        · exact fair
        · exact h.each b (List.mem_of_mem_drop hb)

theorem insertRows_length (front : Int) (o : Bool) (x : FurnaceSlab) (rows : List Row) :
    (insertRows front o x rows).length = rows.length + 1 := by
  unfold insertRows insertRowAt
  split
  · rw [List.length_append, closeLast_length, List.length_singleton]
  · rw [List.length_append, List.length_cons, ← Nat.add_assoc, ← List.length_append, List.take_append_drop]

/-- R8: the last row replaced. -/
theorem setLast_eq (v : Row) {rows : List Row} (h : rows ≠ []) : setLast v rows = rows.dropLast ++ [v] := by
  induction rows with
  | nil => exact absurd rfl h
  | cons r rows ih =>
    cases rows with
    | nil => rfl
    | cons r' rows => rw [setLast, ih (List.cons_ne_nil _ _)]; rfl; exact List.cons_ne_nil _ _

/-! ### The maps -/

theorem FurnaceMap.wf_of_rows {m m' : FurnaceMap} (h : m.wf = true) (hr : RowsFair m.rows → RowsFair m'.rows)
    (hl : m'.rows.length ≤ m.rows.length) : m'.wf = true := by
  rw [FurnaceMap.wf_iff] at h ⊢
  exact ⟨hl.trans h.1, hr h.2⟩

/-- R11, R23: a map that an insert leaves. -/
theorem FurnaceMap.wf_insert {m m' : FurnaceMap} (h : m.wf = true) {front : Int} {x : FurnaceSlab} {o : Bool}
    (hw : inRange 800 2800 x.width = true) (hc : insertChecks front x.width m = .ok ())
    (hm : m'.rows = insertRows front o x m.rows) : m'.wf = true := by
  rw [FurnaceMap.wf_iff] at h ⊢
  unfold insertChecks at hc
  split at hc
  · cases hc
  · split at hc
    · cases hc
    · rw [hm, insertRows_length]
      exact ⟨by omega, h.2.insert o hw (Bool.eq_false_iff.2 ‹_›)⟩

/-- R7: a new row's front edge lies behind every row. -/
theorem touchClamp_le {m : FurnaceMap} (h : RowsFair m.rows) (front : Int) :
    ∀ a ∈ m.rows, touchClamp m front ≤ a.trailing := by
  intro a ha
  unfold touchClamp FurnaceMap.last
  split
  · rename_i e
    rw [List.getLast?_eq_none_iff.1 e] at ha
    cases ha
  · rename_i r hr
    have order := h.order
    rw [← List.dropLast_append_getLast? r hr] at ha order
    have last := min_le_right front r.trailing
    rcases List.mem_append.1 ha with ha | ha
    · have far := (List.pairwise_append.1 order).2.2 a ha r (List.mem_singleton.2 rfl)
      have := (h.each r (List.mem_of_getLast? hr)).trailing_lt
      have := far.clear
      omega
    · rwa [List.mem_singleton.1 ha]

theorem FurnaceMap.wf_landNew {m : FurnaceMap} (h : m.wf = true) {lane : Lane} {front : Int} {x : FurnaceSlab}
    (hw : inRange 800 2800 x.width = true) (hl : m.rows.length < 64) : (m.landNew lane front x).map.wf = true := by
  have fair := ((FurnaceMap.wf_iff m).1 h).2
  rw [FurnaceMap.wf_iff, FurnaceMap.landNew]
  refine ⟨?_, fair.behind (Row.fair_single _ lane x _ false hw of_decide_eq_true) (touchClamp_le fair front)⟩
  rw [List.length_append, closeLast_length]
  exact hl

/-- R8: the slab of lane B joins the last row, which becomes no shorter than the wider of the two. -/
theorem FurnaceMap.wf_landJoin {m : FurnaceMap} (h : m.wf = true) {r : Row} {y x : FurnaceSlab}
    (ho : m.openSlab = some (r, y)) (hw : inRange 800 2800 x.width = true) : (m.landJoin r y x).map.wf = true := by
  obtain ⟨length, order, each⟩ := (FurnaceMap.wf_iff m).1 h
  obtain ⟨hr, hocc, -⟩ := FurnaceMap.openSlab_eq ho
  have some : m.rows ≠ [] := fun e => by rw [e] at hr; cases hr
  have split := List.dropLast_append_getLast? r hr
  have wide : inRange 800 2800 y.width = true :=
    (each r (List.mem_of_getLast? hr)).widths y (by rw [Row.slabs, hocc]; exact List.mem_singleton.2 rfl)
  have fair : Row.Fair { r with occ := .ab y x, extent := max y.width x.width, pairOpen := false } :=
    ⟨rfl, fun z hz => by
      rcases List.mem_cons.1 hz with rfl | hz
      · exact wide
      · rwa [List.mem_singleton.1 hz], fun hp => by cases hp⟩
  rw [← split] at order
  obtain ⟨before, -, across⟩ := List.pairwise_append.1 order
  rw [FurnaceMap.wf_iff, FurnaceMap.landJoin, setLast_eq _ some]
  refine ⟨?_, List.pairwise_append.2 ⟨before, List.pairwise_singleton .., fun a ha b hb => ?_⟩, fun b hb => ?_⟩
  · rw [← split, List.length_append] at length
    rwa [List.length_append]
  · obtain rfl := List.mem_singleton.1 hb
    exact (across a ha r (List.mem_singleton.2 rfl)).of_front rfl
  · rcases List.mem_append.1 hb with hb | hb
    · exact each b (List.mem_of_mem_dropLast hb)
    · rwa [List.mem_singleton.1 hb]

/-- R7, R8: a map that a landing leaves. -/
theorem FurnaceMap.wf_land {m : FurnaceMap} (h : m.wf = true) {pair : Bool} {lane : Lane} {front : Int}
    {x : FurnaceSlab} {d : Landing} (hd : m.land pair lane front x = some d)
    (hw : inRange 800 2800 x.width = true) : d.map.wf = true := by
  unfold FurnaceMap.land at hd
  split at hd
  · obtain rfl := Option.some.inj hd
    exact m.wf_landJoin h ‹_› hw
  · split at hd
    · obtain rfl := Option.some.inj hd
      exact m.wf_landNew h hw ‹_›
    · cases hd
  · split at hd
    · obtain rfl := Option.some.inj hd
      exact m.wf_landNew h hw ‹_›
    · cases hd

theorem FurnaceMap.wf_shift {m m' : FurnaceMap} (h : m.wf = true) {len : Int}
    (hm : m'.rows = shiftRows len m.rows ∨ ∃ lEff, m'.rows = flagOverruns lEff (shiftRows len m.rows)) :
    m'.wf = true := by
  have length : (shiftRows len m.rows).length = m.rows.length := by rw [shiftRows, closeLast_length, List.length_map]
  rcases hm with hm | ⟨lEff, hm⟩
  · exact FurnaceMap.wf_of_rows h (fun hr => hm ▸ hr.shift len) (hm ▸ length.le)
  · exact FurnaceMap.wf_of_rows h (fun hr => hm ▸ (hr.shift len).flag lEff)
      (by rw [hm, flagOverruns, List.length_map, length])

theorem FurnaceMap.wf_remove {m m' : FurnaceMap} (h : m.wf = true) {l : Lane} {i : Nat}
    (hm : m'.rows = removeAt l i m.rows) : m'.wf = true :=
  FurnaceMap.wf_of_rows h (fun hr => hm ▸ hr.remove l i) (hm ▸ removeAt_length_le ..)

theorem FurnaceMap.wf_move {m m' : FurnaceMap} (h : m.wf = true) {i : Nat} {r : Row} {front : Int} {o : Bool}
    (hr : m.rows[i]? = some r) (fits : frontFits m.rows i front r.extent = true)
    (hm : m'.rows = m.rows.set i (r.moved front o)) : m'.wf = true :=
  FurnaceMap.wf_of_rows h (fun fair => hm ▸ fair.move hr front o fits) (by rw [hm, List.length_set])

/-- Both maps in order, of which one changes. -/
theorem mapsInOrder_set {s t : State} {k : Furnace} {m : FurnaceMap} (h : MapsInOrder s)
    (ht : t.maps = s.maps.set k m) (hm : (s.map k).wf = true → m.wf = true) : MapsInOrder t := by
  obtain ⟨f1, f2⟩ := h
  rw [MapsInOrder, ht]
  cases k with
  | f1 => exact ⟨hm f1, f2⟩
  | f2 => exact ⟨f1, hm f2⟩

end Sys2Proof.Machine
end

section
/-! What serving the occasions of an event leaves alone (R34, R57, R95, R125, R159). -/

namespace Sys2Proof.Machine

/-! ### The updates that serving the occasions is made of -/

/-- A relation between states that the updates of a final computation stay within: of a sequencer everything but the
in-flight record is replaced, of the placement state nothing but a hold that is set, of the table arbiter nothing but
the chargers' holds. -/
structure FinalClosed (R : State → State → Prop) : Prop where
  refl : ∀ s, R s s
  trans : ∀ {a b c}, R a b → R b c → R a c
  sendOwn : ∀ p d r b s, R s (sendOwn p d r b s)
  holdEvent : ∀ e s, R s (holdEvent e s)
  setTracker : ∀ s v, R s (State.setTracker s v)
  setHolds : ∀ s v, R s (State.setArb s { s.arb with holds := v })
  setWindows : ∀ s v, R s (State.setWindows s v)
  setDue : ∀ s v, R s (State.setDue s v)
  setSeq : ∀ s k {q : Sequencer}, q.inflight = (s.seq k).inflight → R s (s.setSeq k q)
  setHold : ∀ s k n, R s (State.putHold s k n true)

/-- A relation between states that the updates made in serving the occasions stay within. -/
structure ServeClosed (R : State → State → Prop) : Prop extends FinalClosed R where
  setGrid : ∀ s v, R s (State.setGrid s v)
  setArb : ∀ s v, R s (State.setArb s v)

namespace FinalClosed

variable {R : State → State → Prop} (c : FinalClosed R)
include c

theorem sendField (r : Role) (n : Nat) (b : OwnBody) (s : State) : R s (Machine.sendField r n b s) := by
  unfold Machine.sendField
  split
  · exact c.refl s
  · exact c.sendOwn ..

theorem raise (e : Event) (s : State) : R s (Machine.raise e s) := by
  unfold Machine.raise
  split
  · exact c.sendOwn ..
  · exact c.holdEvent ..
  · exact c.holdEvent ..

theorem markList (s : State) : R s (Machine.markList s) := c.trans (c.setDue ..) (c.setDue ..)

theorem setHoldOnce (n : HoldName) (k : Furnace) (tag : Nat) (d : Option Int) (s : State) :
    R s (Machine.setHoldOnce n k tag d s) := by
  unfold Machine.setHoldOnce
  split
  · exact c.refl s
  · exact c.trans (c.setHold ..) (c.raise ..)

theorem placementMarks (i : PlaceInput) (p : PlacementRecord) (s : State) : R s (Machine.placementMarks i p s) := by
  have flagged : R s (Machine.updateRecord i.record.tag (fun r => { r with substituted := i.substitutes }) s) :=
    c.setTracker ..
  have basis (t : State) : R t
      (if p.fallback = some true then Machine.setHoldOnce .strokeBasis i.furnace i.record.tag p.divisor t else t) := by
    split
    · exact c.setHoldOnce ..
    · exact c.refl t
  unfold Machine.placementMarks
  refine c.trans flagged ?_
  dsimp only
  by_cases substituted : i.substitutes
  · rw [if_pos substituted]
    exact c.trans (c.setHoldOnce ..) (basis _)
  · rw [if_neg substituted]
    exact basis _

theorem holdTag (x : SlabCause) (tag : Nat) (s : State) : R s (Machine.holdTag x tag s) := by
  have marked (b : Bool) (t : State) : R t (Machine.markReady b t) := by
    unfold Machine.markReady
    split
    · exact c.setDue ..
    · exact c.refl t
  unfold Machine.holdTag Machine.placeHold
  split
  · exact c.refl s
  · split
    · exact c.refl s
    · exact c.trans (c.setTracker ..) (c.trans (c.raise ..) (c.trans (c.markList _) (marked ..)))

theorem updateCycle (k : Furnace) (f : CycleRecord → CycleRecord) (s : State) : R s (Machine.updateCycle k f s) :=
  c.setSeq s k rfl

theorem putSeqState (k : Furnace) (st : SeqState) (w : Waiting) (s : State) : R s (Machine.putSeqState k st w s) :=
  c.setSeq s k rfl

theorem showWaiting (k : Furnace) (w : Waiting) (s : State) : R s (Machine.showWaiting k w s) := c.setSeq s k rfl

theorem startTimer (k : Furnace) (x : TimeoutKind) (s : State) : R s (Machine.startTimer k x s) := c.updateCycle ..

theorem enterIdle (k : Furnace) (s : State) : R s (Machine.enterIdle k s) := by
  have released (t : State) : R t (Machine.releaseHold k t) := by
    unfold Machine.releaseHold
    split
    · exact c.trans (c.setHolds ..) (c.markList _)
    · exact c.refl t
  exact c.trans (c.setSeq s k (by rfl)) (c.trans (c.setWindows ..) (c.trans (released _) (c.setDue ..)))

theorem holdAndIdle (k : Furnace) (x : SlabCause) (tag : Nat) (s : State) : R s (Machine.holdAndIdle k x tag s) :=
  c.trans (c.holdTag ..) (c.enterIdle ..)

theorem orderCharge (k : Furnace) (x : Int) (s : State) : R s (Machine.orderCharge k x s) := by
  unfold Machine.orderCharge
  split
  · exact c.trans (c.sendField ..) (c.trans (c.putSeqState ..) (c.startTimer ..))
  · exact c.refl s

theorem requestStrokes (k : Furnace) (n d : Int) (s : State) : R s (Machine.requestStrokes k n d s) := by
  unfold Machine.requestStrokes
  split
  · exact c.refl s
  · exact c.trans (c.sendField ..) (c.trans (c.updateCycle ..) (c.trans (c.putSeqState ..) (c.startTimer ..)))

theorem waitInRoom (k : Furnace) (w : Waiting) (s : State) : R s (Machine.waitInRoom k w s) :=
  c.trans (c.putSeqState ..) (c.updateCycle ..)

theorem decideFinal (k : Furnace) (tag : Nat) (p : PlacementRecord) (s : State) :
    R s (Machine.decideFinal k tag p s) := by
  unfold Machine.decideFinal
  split
  · exact c.orderCharge ..
  · exact c.orderCharge ..
  · exact c.requestStrokes ..
  · exact c.waitInRoom ..
  · exact c.waitInRoom ..
  · exact c.holdAndIdle ..
  · exact c.holdAndIdle ..

theorem runFinal (k : Furnace) (s : State) : R s (Machine.runFinal k s) := by
  unfold Machine.runFinal
  split
  · exact c.refl s
  · split
    · exact c.refl s
    · exact c.trans (c.placementMarks ..) (c.trans (c.updateCycle ..) (c.decideFinal ..))

end FinalClosed

namespace ServeClosed

variable {R : State → State → Prop} (c : ServeClosed R)
include c

theorem dropRequest (k : Furnace) (s : State) : R s (Machine.dropRequest k s) := c.trans (c.setArb ..) (c.markList _)

theorem moveSuccess (k : Furnace) (s : State) : R s (Machine.moveSuccess k s) :=
  c.trans (c.setArb ..) (c.trans (c.markList _) (c.trans (c.dropRequest k _) (c.trans (c.setArb ..)
    (c.trans (c.setDue ..) (c.trans (c.updateCycle ..) (c.runFinal ..))))))

theorem beginCycle (k : Furnace) (r : TableRecord) (p : PlacementRecord) (s : State) :
    R s (Machine.beginCycle k r p s) := by
  unfold Machine.beginCycle
  split
  · exact c.refl s
  · exact c.trans (c.setSeq s k (by rfl)) (c.trans (c.setArb ..) (c.markList _))

theorem startLoop (k : Furnace) (n : Nat) (s : State) : R s (Machine.startLoop k n s) := by
  induction n generalizing s with
  | zero => exact c.refl s
  | succ n ih =>
    unfold Machine.startLoop
    split
    · exact c.showWaiting ..
    · split
      · exact c.refl s
      · rename_i i _
        have marked (p : PlacementRecord) : R s (Machine.placementMarks i p s) := c.placementMarks ..
        dsimp only
        split
        · exact c.trans (marked _) (c.beginCycle ..)
        · exact c.trans (marked _) (c.beginCycle ..)
        · exact c.trans (marked _) (c.beginCycle ..)
        · exact c.trans (marked _) (c.trans (c.holdTag ..) (ih _))
        · exact c.trans (marked _) (c.trans (c.holdTag ..) (ih _))
        · exact c.trans (marked _) (c.showWaiting ..)
        · exact c.trans (marked _) (c.showWaiting ..)

theorem startEval (k : Furnace) (s : State) : R s (Machine.startEval k s) := by
  unfold Machine.startEval
  split
  · exact c.refl s
  · split
    · exact c.showWaiting ..
    · exact c.startLoop ..

theorem checkRequest (k : Furnace) (s : State) : R s (Machine.checkRequest k s) := by
  have shown (q : Option PosRequest) (w : Waiting) :
      R s (Machine.showWaiting k w (Machine.putRequest k q s)) := c.trans (c.setArb ..) (c.showWaiting ..)
  unfold Machine.checkRequest
  split
  · exact c.refl s
  · split
    · exact c.refl s
    · split
      · exact shown ..
      · exact shown ..

theorem grantMove (k : Furnace) (s : State) : R s (Machine.grantMove k s) := by
  unfold Machine.grantMove
  split
  · rename_i q _ _ _
    split
    · exact c.refl s
    · have granted : R s (Machine.startTimer k .positioning (Machine.showWaiting k .move
          (Machine.putRequest k (some { q with status := .granted }) s))) :=
        c.trans (c.setArb ..) (c.trans (c.showWaiting ..) (c.startTimer ..))
      dsimp only
      split
      · exact c.trans granted (c.moveSuccess ..)
      · exact c.trans granted (c.trans (c.sendField ..) (c.trans (c.setArb ..) (c.setDue ..)))
  · exact c.refl s

theorem tableRule (s : State) : R s (Machine.tableRule s) := by
  have checked : R s (Machine.markGrid (Machine.checkRequest .f2 (Machine.checkRequest .f1 s))) :=
    c.trans (c.checkRequest ..) (c.trans (c.checkRequest ..) (c.setDue ..))
  unfold Machine.tableRule
  split
  · exact c.refl s
  · dsimp only
    split
    · exact checked
    · exact c.trans checked (c.grantMove ..)

theorem gridEval (s : State) : R s (Machine.gridEval s) := by
  have answered (l : List GridRequest) : ∀ t : State, R t (l.foldl
      (fun t q => Machine.answerCrane q.crane (some q.id) q.reference .withdrawnDuplicate t) t) := by
    induction l with
    | nil => exact c.refl
    | cons q l ih => exact fun t => c.trans (c.sendField ..) (ih _)
  have dropped : R s (Machine.dropHeld s) := c.trans (c.setGrid ..) (answered ..)
  unfold Machine.gridEval
  dsimp only
  split
  · split
    · exact dropped
    · exact c.trans dropped (c.trans (c.setArb ..) (c.trans (c.setGrid ..) (c.sendField ..)))
  · exact dropped

theorem settle (n : Nat) (s : State) : R s (Machine.settle n s) := by
  induction n generalizing s with
  | zero => exact c.refl s
  | succ n ih =>
    have due (v : Due) (f : State → State) (hf : ∀ t, R t (f t)) : R s (Machine.settle n (f (s.setDue v))) :=
      c.trans (c.setDue s v) (c.trans (hf _) (ih _))
    unfold Machine.settle
    split
    · exact due _ _ (c.startEval .f1)
    · split
      · exact due _ _ (c.startEval .f2)
      · split
        · exact due _ _ c.tableRule
        · split
          · exact due _ _ c.gridEval
          · exact c.refl s

theorem showBar (k : Furnace) (s : State) : R s (Machine.showBar k s) := by
  unfold Machine.showBar
  split
  · split
    · exact c.refl s
    · exact c.showWaiting ..
  · exact c.refl s

theorem finish (s : State) : R s (Machine.finish s) := by
  have served : R s (serve s) := by
    unfold Machine.serve
    split
    · exact c.setDue ..
    · exact c.trans (c.settle ..) (c.trans (c.showBar ..) (c.showBar ..))
  exact c.trans served (c.setWindows ..)

end ServeClosed

/-! ### The slabs in flight -/

/-- Each sequencer has the in-flight record that it had. -/
structure KeepsInFlight (s t : State) : Prop where
  inflight : ∀ k, (t.seqs.get k).inflight = (s.seqs.get k).inflight

theorem KeepsInFlight.of_seqs {s t : State} (h : t.seqs = s.seqs) : KeepsInFlight s t := ⟨fun k => by rw [h]⟩

theorem keepsInFlight_serveClosed : ServeClosed KeepsInFlight where
  refl _ := .of_seqs rfl
  trans h k := ⟨fun j => (k.inflight j).trans (h.inflight j)⟩
  sendOwn p d r b s := .of_seqs (untouched_send.sendOwn p d r b s).seqs
  holdEvent e s := .of_seqs (untouched_send.holdEvent e s).seqs
  setGrid _ _ := .of_seqs rfl
  setTracker _ _ := .of_seqs rfl
  setArb _ _ := .of_seqs rfl
  setHolds _ _ := .of_seqs rfl
  setWindows _ _ := .of_seqs rfl
  setDue _ _ := .of_seqs rfl
  setSeq s k q h := by
    refine ⟨fun j => ?_⟩
    by_cases e : j = k
    · subst e
      rwa [State.setSeq, State.setSeqs_seqs, PerFurnace.get_set]
    · rw [eq_otherFurnace e, State.setSeq, State.setSeqs_seqs, PerFurnace.get_set_other]
  setHold _ _ _ := .of_seqs rfl

/-! ### The rest -/

/-- What the blocks leave beside the records: the clock, the backup supply, the commands to come and the power. -/
structure KeepsSupply (s t : State) : Prop where
  pending : t.pending = s.pending
  power : t.power = s.power
  clock : t.ret.clock = s.ret.clock
  backup : t.ret.backup = s.ret.backup

theorem keepsSupply_blockClosed : BlockClosed KeepsSupply where
  refl _ := ⟨rfl, rfl, rfl, rfl⟩
  trans h k := ⟨k.pending.trans h.pending, k.power.trans h.power, k.clock.trans h.clock, k.backup.trans h.backup⟩
  sendOwn p d r b s := by
    obtain ⟨l, h, -⟩ := sendOwn_eq_links p d r b s
    rw [h]
    exact ⟨rfl, rfl, rfl, rfl⟩
  holdEvent e s := by
    unfold holdEvent
    split <;> exact ⟨rfl, rfl, rfl, rfl⟩
  setGrid _ _ := ⟨rfl, rfl, rfl, rfl⟩
  setTracker _ _ := ⟨rfl, rfl, rfl, rfl⟩
  setArb _ _ := ⟨rfl, rfl, rfl, rfl⟩
  setSeqs _ _ := ⟨rfl, rfl, rfl, rfl⟩
  setPlace _ _ := ⟨rfl, rfl, rfl, rfl⟩
  setWindows _ _ := ⟨rfl, rfl, rfl, rfl⟩
  setDue _ _ := ⟨rfl, rfl, rfl, rfl⟩

/-- Settles O11: no elementary update of the blocks touches the records, the counters or the supplies, and no
operation that serves an occasion touches a slab in flight. -/
theorem servingKeeps : Obligations.ServingKeeps := by
  intro s
  have records := finish_keepsCounters s
  have supply := keepsSupply_blockClosed.finish s
  exact ⟨supply.pending, supply.power, records.cfg, records.schedule, records.maps, records.counters,
    records.sensors, records.mgmt, records.mode, supply.clock, supply.backup, (keepsInFlight_serveClosed.finish s).inflight⟩

end Sys2Proof.Machine
end

section
/-! The maps stay in order under every report and edit of the map unit (R3, R4, R13, R17, R21 to R23). -/

namespace Sys2Proof.Machine

/-- The maps stay in order. -/
def KeepsMapOrder (s t : State) : Prop := MapsInOrder s → MapsInOrder t

theorem KeepsMapOrder.of_maps {s t : State} (h : t.maps = s.maps) : KeepsMapOrder s t := by
  rw [KeepsMapOrder, MapsInOrder, MapsInOrder, h]
  exact id

theorem KeepsMapOrder.of_map {s t : State} {k : Furnace} {m : FurnaceMap} (ht : t.maps = s.maps.set k m)
    (hm : (s.map k).wf = true → m.wf = true) : KeepsMapOrder s t := fun h => mapsInOrder_set h ht hm

theorem keepsMapOrder_send : SendClosed KeepsMapOrder where
  refl _ := id
  trans h k := k ∘ h
  sendOwn _ _ _ _ _ := .of_maps (untouched_send.sendOwn ..).maps
  holdEvent _ _ := .of_maps (untouched_send.holdEvent ..).maps
  forwardTo _ _ _ := .of_maps rfl
  setMgmt _ _ := .of_maps rfl
  setWatch _ _ _ := .of_maps rfl

/-- R2, R23: the width of an insert lies in its range. -/
theorem insertRangesOk_width {front w len th m : Int} {g : Nat} (h : insertRangesOk front w len th g m = true) :
    inRange 800 2800 w = true := by
  simp only [insertRangesOk, Bool.and_eq_true] at h
  obtain ⟨⟨⟨⟨⟨width, -⟩, -⟩, -⟩, -⟩, -⟩ := h
  exact width

theorem keepsMapOrder_map : MapClosed (fun _ => True) KeepsMapOrder where
  toSendClosed := keepsMapOrder_send
  stableD _ := id
  setPlace _ _ := .of_maps rfl
  setDue _ _ := .of_maps rfl
  shiftMap s k len rows h := .of_map (m := { s.map k with rows }) rfl fun hm => FurnaceMap.wf_shift hm h
  removeSlab s k l i := .of_map (m := { s.map k with rows := removeAt l i (s.map k).rows }) rfl
    fun hm => FurnaceMap.wf_remove hm rfl
  moveRow s k i r front o hr hf := .of_map (m := { s.map k with rows := (s.map k).rows.set i (r.moved front o) }) rfl
    fun hm => FurnaceMap.wf_move hm hr hf rfl
  insertSlab s k front id w len th g m clock o _ _ hr hc := by
    generalize s.freshTag = tag
    generalize hrows : insertRows front o (insertedSlab tag id w len th g m clock) (s.map k).rows = rows
    have set : (State.setMap (takeTag tag s) k { s.map k with rows }).maps = s.maps.set k { s.map k with rows } := rfl
    exact .of_map set fun hm => FurnaceMap.wf_insert (x := insertedSlab tag id w len th g m clock) hm
      (insertRangesOk_width hr) hc hrows.symm
  removePlanned _ _ := .of_maps rfl

theorem keepsMapOrder_finish (s : State) : KeepsMapOrder s (finish s) := .of_maps (finish_keepsCounters s).maps

theorem keepsMapOrder_pass : PassClosed KeepsMapOrder where
  toSendClosed := keepsMapOrder_send
  overrun _ _ := .of_maps rfl
  manual p x s _ := .of_maps (finish_keepsCounters (startManual (forwardTo p x s))).maps

theorem keepsMapOrder_mapEdit {x : Instr} {h : Hdr} {op : MapOpCode} {own : State → EditResult} {s t : State}
    (ho : ∀ d f l, own s = .ok (d, f) → KeepsMapOrder { s with links := l } (f { s with links := l }))
    (ht : powered (manage x Kind.mapEdit h (takeMapEdit h op own)) s = .next t) : KeepsMapOrder s t :=
  keepsMapOrder_pass.mapEdit (fun d f l hok => keepsMapOrder_finish _ ∘ ho d f l hok) ht

/-- R12, R16, R20: the five events of the map unit. -/
theorem mapsInOrder_mapEvent {s t : State} (hs : MapsInOrder s)
    (ht : (∃ h x, exec (.strokeReport h x) s = .next t)
      ∨ (∃ h n a b, exec (.dischargeReport h n a b) s = .next t)
      ∨ (∃ h tag, exec (.deleteSlab h tag) s = .next t)
      ∨ (∃ h sel row x, exec (.setRowFront h sel row x) s = .next t)
      ∨ (∃ h sel x id w l th g m, exec (.insertSlab h sel x id w l th g m) s = .next t)) : MapsInOrder t := by
  obtain ⟨h, x, ht⟩ | ⟨h, n, a, b, ht⟩ | ⟨h, tag, ht⟩ | ⟨h, sel, row, x, ht⟩ | ⟨h, sel, x, id, w, l, th, g, m, ht⟩ := ht
  · refine keepsMapOrder_pass.powered ht (keepsMapOrder_pass.field fun r u _ => ?_) hs
    unfold fromBeam
    split
    · exact keepsMapOrder_finish _ ∘ (KeepsMapOrder.of_maps (keepsCounters_blockClosed.strokeHandedOn ..).maps) ∘
        keepsMapOrder_map.mapStroke _ x u
    · exact id
  · refine keepsMapOrder_pass.powered ht (keepsMapOrder_pass.field fun r u _ => ?_) hs
    unfold fromDischarge
    split
    · exact keepsMapOrder_finish _ ∘ (KeepsMapOrder.of_maps (keepsCounters_blockClosed.dischargeHandedOn ..).maps) ∘
        keepsMapOrder_map.mapDischarge _ n a b u
    · exact id
  · exact keepsMapOrder_mapEdit (fun d f l => keepsMapOrder_map.ownDeleteSlab l) ht hs
  · exact keepsMapOrder_mapEdit (fun d f l => keepsMapOrder_map.ownSetRowFront l) ht hs
  · exact keepsMapOrder_mapEdit (fun d f l => keepsMapOrder_map.ownInsertSlab l trivial) ht hs

end Sys2Proof.Machine
end

section
/-! The condition that every event keeps on the sequencers, the table list and the maps (R48, R50, R53, R55, R57,
R58, R61, R101, R109, and R2, R82, R110 for the widths). The statements on the sequencers and on the widths are
parts of it; `Marks` says which parts are asked for. -/

namespace Sys2Proof.Machine

/-- What is asked of the condition beside what a sequencer's own records are to each other: a request in POSITIONING
alone and none in RETAIN; with that, the slabs of the cycles and the holds; or the widths and the maps. -/
inductive Marks where
  | requests
  | slabs
  | widths

def Marks.strict : Marks → Bool
  | .widths => false
  | _ => true

def Marks.deep : Marks → Bool
  | .slabs => true
  | _ => false

def Marks.wide : Marks → Bool
  | .widths => true
  | _ => false

theorem Marks.strict_of_deep {m : Marks} (h : m.deep = true) : m.strict = true := by
  cases m with
  | requests => rfl
  | slabs => rfl
  | widths => cases h

/-- A state in which the slab of the cycle is in the table list (R57, R67). -/
def SeqState.listed : SeqState → Bool
  | .positioning => true
  | .room => true
  | .pick => true
  | _ => false

/-- A state in which the final computation has been made (R65, R67, R69). -/
def SeqState.computed : SeqState → Bool
  | .pick => true
  | .carry => true
  | .lower => true
  | _ => false

/-- R48, R50, R53: what sequencer k, its request and its hold on the table are to each other, in a mode and with a
table list. The slab with the tag `gone` may have left the list. -/
structure SeqFit (m : Marks) (k : Furnace) (retain : Bool) (l : List TableRecord) (gone : Option Nat)
    (q : Sequencer) (req : Option PosRequest) (hold : Bool) : Prop where
  carried : q.inflight.isSome = true → q.state = .carry ∨ q.state = .lower ∨ q.state = .held
  carrying : q.state = .carry ∨ q.state = .lower → q.inflight.isSome = true
  empty : q.state = .idle ∨ q.state = .offline → q.cycle = none
  running : q.state ≠ .idle → q.state ≠ .offline → q.state ≠ .held → q.cycle.isSome = true
  cause : q.cause.isSome = true ↔ q.state = .held
  request : req.isSome = true → q.state = .positioning ∨ m.strict = false ∧ q.cycle = none
  timer : ∀ w ∈ (q.cycle.bind (·.timer)).map (·.which), q.state = timerState w
  slab : m.deep = true → q.state.listed = true → ∀ c, q.cycle = some c →
    destOf l c.tag = some k ∨ gone = some c.tag
  holds : m.deep = true → (hold = true ↔ retain = false ∧ (q.state = .room ∨ q.state = .pick))
  record : m.wide = true → ∀ f ∈ q.inflight, f.record.widthOk = true
  operands : m.wide = true → ∀ o ∈ q.cycle.bind CycleRecord.operands, inRange 800 2800 o.width.value = true
  computed : m.wide = true → q.state.computed = true ∨ q.inflight.isSome = true →
    (q.cycle.bind CycleRecord.operands).isSome = true

/-- The mode is RETAIN. -/
def State.retains (s : State) : Bool := decide (s.ret.mode = .retain)

/-- R2, R82, R110: the widths of the table list and the schedule lie in their range, and the maps are in order. -/
structure WidthsFair (s : State) : Prop where
  table : ∀ r ∈ s.tracker.table, r.widthOk = true
  schedule : ∀ e ∈ s.schedule, inRange 800 2800 e.width = true
  maps : MapsInOrder s

/-- The geometry records that sequencer k works with have values. -/
structure Geared (s : State) (k : Furnace) : Prop where
  furnace : (s.cfg.geometry.get k).isSome = true
  table : s.cfg.tableGeometry.isSome = true

/-- The condition, in RETAIN or not, save that the slab with the tag `gone k` may have left the list under sequencer
k. -/
structure FitBut (m : Marks) (b : Bool) (gone : Furnace → Option Nat) (s : State) : Prop where
  seq : ∀ k, SeqFit m k b s.tracker.table (gone k) (s.seqs.get k) (s.arb.requests.get k) (s.arb.holds.get k)
  retain : m.strict = true → b = true → ∀ k, s.arb.requests.get k = none
  armed : m.deep = true → ∀ k, (s.seqs.get k).state ≠ .offline ∨ (∃ n, s.arb.motion = .positioning k n true) →
    Geared s k
  tags : m.deep = true → (s.tracker.table.map (·.tag)).Nodup
  widths : m.wide = true → WidthsFair s

/-- The condition, in RETAIN or not. -/
abbrev FitIn (m : Marks) (b : Bool) (s : State) : Prop := FitBut m b (fun _ => none) s

/-- The condition. -/
abbrev Fit (m : Marks) (s : State) : Prop := FitIn m s.retains s

/-! ### Updates beside the sequencers -/

/-- Updates that leave the sequencers, their requests and their holds. -/
structure Calm (s t : State) : Prop where
  seqs : t.seqs = s.seqs
  requests : t.arb.requests = s.arb.requests
  holds : t.arb.holds = s.arb.holds
  motion : ∀ j n, t.arb.motion = .positioning j n true → s.arb.motion = .positioning j n true
  table : SameSlabs s.tracker.table t.tracker.table
  geared : ∀ k, Geared s k → Geared t k
  maps : MapsInOrder s → MapsInOrder t
  schedule : (∀ e ∈ s.schedule, inRange 800 2800 e.width = true) → ∀ e ∈ t.schedule, inRange 800 2800 e.width = true
  mode : t.ret.mode = s.ret.mode

theorem Geared.of_cfg {s t : State} {k : Furnace} (h : Geared s k) (hc : t.cfg = s.cfg) : Geared t k :=
  ⟨by rw [hc]; exact h.furnace, by rw [hc]; exact h.table⟩

theorem Quiet.calm {s t : State} (h : Quiet s t) : Calm s t :=
  ⟨h.seqs, h.requests, h.holds, h.motion, h.table, fun _ g => g.of_cfg h.cfg, fun hm => by rw [MapsInOrder, h.maps]; exact hm,
    by rw [h.schedule]; exact id, h.mode⟩

theorem Calm.refl (s : State) : Calm s s := (Quiet.refl s).calm

theorem Calm.trans {a b c : State} (h : Calm a b) (g : Calm b c) : Calm a c :=
  ⟨g.seqs.trans h.seqs, g.requests.trans h.requests, g.holds.trans h.holds,
    fun j n hm => h.motion j n (g.motion j n hm), h.table.trans g.table, fun k hk => g.geared k (h.geared k hk),
    g.maps ∘ h.maps, g.schedule ∘ h.schedule, g.mode.trans h.mode⟩

theorem SeqFit.of_slabs {m : Marks} {k : Furnace} {b : Bool} {l l' : List TableRecord} {gone : Option Nat}
    {q : Sequencer} {req : Option PosRequest} {hold : Bool} (h : SeqFit m k b l gone q req hold)
    (hl : SameSlabs l l') : SeqFit m k b l' gone q req hold :=
  { h with slab := by rw [hl.destOf]; exact h.slab }

theorem WidthsFair.calm {s t : State} (h : WidthsFair s) (c : Calm s t) : WidthsFair t :=
  ⟨c.table.widths h.table, c.schedule h.schedule, c.maps h.maps⟩

theorem FitBut.calm {m : Marks} {b : Bool} {gone : Furnace → Option Nat} {s t : State} (h : FitBut m b gone s) (c : Calm s t) :
    FitBut m b gone t where
  seq k := by
    rw [c.seqs, c.requests, c.holds]
    exact (h.seq k).of_slabs c.table
  retain hs hr k := by
    rw [c.requests]
    exact h.retain hs hr k
  armed hd k hk := by
    rw [c.seqs] at hk
    exact c.geared k (h.armed hd k (hk.imp_right fun ⟨n, hn⟩ => ⟨n, c.motion k n hn⟩))
  tags hd := by
    rw [c.table.tags]
    exact h.tags hd
  widths hw := (h.widths hw).calm c

theorem State.retains_of_mode {s t : State} (h : t.ret.mode = s.ret.mode) : t.retains = s.retains := by
  rw [State.retains, State.retains, h]

theorem FitBut.fit {m : Marks} {s t : State} (h : FitIn m s.retains t) (hm : t.ret.mode = s.ret.mode) : Fit m t := by
  rw [Fit, State.retains_of_mode hm]
  exact h

theorem Fit.calm {m : Marks} {s t : State} (h : Fit m s) (c : Calm s t) : Fit m t := (FitBut.calm h c).fit c.mode

/-! ### An operation of one sequencer -/

/-- The tag exempt under sequencer k is replaced. -/
def exempt (gone : Furnace → Option Nat) (k : Furnace) (v : Option Nat) (j : Furnace) : Option Nat :=
  if j = k then v else gone j

/-- An operation of sequencer k keeps the condition, if it leaves that sequencer fit. -/
theorem FitBut.step {m : Marks} {b : Bool} {gone : Furnace → Option Nat} {k : Furnace} {q : Sequencer}
    {req : Option PosRequest} {hold : Bool} {s t : State} {v : Option Nat} (h : FitBut m b gone s)
    (c : SeqStep k q req hold s t) (fit : SeqFit m k b s.tracker.table v q req hold)
    (armed : m.deep = true → q.state ≠ .offline → (s.seqs.get k).state ≠ .offline ∨ Geared s k)
    (retain : m.strict = true → b = true → req = none) : FitBut m b (exempt gone k v) t where
  seq j := by
    rw [c.seqs, c.requests, c.holds, exempt]
    by_cases e : j = k
    · subst e
      rw [if_pos rfl, PerFurnace.get_set, PerFurnace.get_set, PerFurnace.get_set]
      exact fit.of_slabs c.table
    · rw [if_neg e, eq_otherFurnace e, PerFurnace.get_set_other, PerFurnace.get_set_other, PerFurnace.get_set_other]
      exact (h.seq _).of_slabs c.table
  retain hs hr j := by
    rw [c.requests]
    by_cases e : j = k
    · subst e
      rw [PerFurnace.get_set]
      exact retain hs hr
    · rw [eq_otherFurnace e, PerFurnace.get_set_other]
      exact h.retain hs hr _
  armed hd j hj := by
    refine Geared.of_cfg ?_ c.cfg
    rw [c.seqs] at hj
    by_cases e : j = k
    · subst e
      rw [PerFurnace.get_set] at hj
      rcases hj with hj | ⟨n, hn⟩
      · exact (armed hd hj).elim (fun ho => h.armed hd j (.inl ho)) id
      · exact h.armed hd j (.inr ⟨n, c.motion j n hn⟩)
    · rw [eq_otherFurnace e, PerFurnace.get_set_other, ← eq_otherFurnace e] at hj
      exact h.armed hd j (hj.imp_right fun ⟨n, hn⟩ => ⟨n, c.motion j n hn⟩)
  tags hd := by
    rw [c.table.tags]
    exact h.tags hd
  widths hw := by
    obtain ⟨table, schedule, maps⟩ := h.widths hw
    exact ⟨c.table.widths table, by rw [c.schedule]; exact schedule, by rw [MapsInOrder, c.maps]; exact maps⟩

theorem exempt_exempt (gone : Furnace → Option Nat) (k : Furnace) (v w : Option Nat) :
    exempt (exempt gone k v) k w = exempt gone k w := by
  funext j
  rw [exempt, exempt, exempt]
  split <;> rfl

theorem exempt_self (k : Furnace) : exempt (fun _ => none) k none = fun _ => none := by
  funext j
  rw [exempt]
  split <;> rfl

/-- The same where no slab has left the list. -/
theorem FitBut.plainStep {m : Marks} {b : Bool} {k : Furnace} {q : Sequencer} {req : Option PosRequest} {hold : Bool}
    {s t : State} (h : FitIn m b s) (c : SeqStep k q req hold s t)
    (fit : SeqFit m k b s.tracker.table none q req hold)
    (armed : m.deep = true → q.state ≠ .offline → (s.seqs.get k).state ≠ .offline ∨ Geared s k)
    (retain : m.strict = true → b = true → req = none) : FitIn m b t := by
  have := h.step c fit armed retain
  rwa [exempt_self] at this

/-! ### Records that leave the list -/

theorem destOf_filter {l : List TableRecord} {tag tag' : Nat} (h : tag ≠ tag') :
    destOf (l.filter fun x => x.tag != tag') tag = destOf l tag := by
  rw [destOf, destOf, List.find?_filter]
  congr 1
  congr 1
  funext r
  by_cases e : r.tag = tag
  · simp [e, h]
  · simp [e]

theorem deleteRecord_due (r : TableRecord) (s : State) : ∃ d, deleteRecord r s = { s with
    tracker := { s.tracker with
      table := s.tracker.table.filter fun x => x.tag != r.tag
      measuring := dropMeasurement r.tag s.tracker.measuring }
    due := d } := by
  unfold deleteRecord markReady
  split <;> exact ⟨_, rfl⟩

/-- A record leaves the list under the sequencers that may lose it. -/
theorem FitBut.delete {m : Marks} {b : Bool} {gone : Furnace → Option Nat} {s : State} (h : FitBut m b gone s) (r : TableRecord)
    (gone' : Furnace → Option Nat)
    (left : m.deep = true → ∀ j c, (s.seqs.get j).state.listed = true → (s.seqs.get j).cycle = some c →
      (c.tag = r.tag → destOf s.tracker.table c.tag = some j → gone' j = some c.tag)
        ∧ (gone j = some c.tag → gone' j = some c.tag)) :
    FitBut m b gone' (deleteRecord r s) := by
  obtain ⟨d, e⟩ := deleteRecord_due r s
  rw [e]
  have sub : (s.tracker.table.filter fun x => x.tag != r.tag).Sublist s.tracker.table := List.filter_sublist
  refine ⟨fun j => { h.seq j with slab := fun hd hl c hc => ?_ }, h.retain, fun hd k hk => (h.armed hd k hk).of_cfg rfl,
    fun hd => (h.tags hd).sublist (sub.map _), fun hw => ⟨fun x hx => (h.widths hw).table x (sub.subset hx),
      (h.widths hw).schedule, (h.widths hw).maps⟩⟩
  obtain ⟨taken, before⟩ := left hd j c hl hc
  rcases (h.seq j).slab hd hl c hc with hdest | hgone
  · by_cases e : c.tag = r.tag
    · exact .inr (taken e hdest)
    · exact .inl ((destOf_filter e).trans hdest)
  · exact .inr (before hgone)

end Sys2Proof.Machine
end

section
/-! The sequencers' operations keep the condition (R48 to R51, R53, R56, R61 to R65, R67, R69 to R71, R101). -/

namespace Sys2Proof.Machine

/-! ### A sequencer by itself -/

namespace SeqFit

variable {m : Marks} {k : Furnace} {b : Bool} {l : List TableRecord} {gone : Option Nat} {q : Sequencer}
  {req : Option PosRequest} {hold : Bool}

theorem inflight_none (h : SeqFit m k b l gone q req hold) (hc : q.state ≠ .carry) (hl : q.state ≠ .lower)
    (hh : q.state ≠ .held) : q.inflight = none := by
  cases hi : q.inflight with
  | none => rfl
  | some f => exact absurd (h.carried (by rw [hi]; rfl)) (by simp [hc, hl, hh])

theorem cause_none (h : SeqFit m k b l gone q req hold) (hh : q.state ≠ .held) : q.cause = none := by
  cases hc : q.cause with
  | none => rfl
  | some x => exact absurd (h.cause.1 (by rw [hc]; rfl)) hh

/-- A request of a sequencer that is not in POSITIONING stands where no cycle does, if at all. -/
theorem request_none (h : SeqFit m k b l gone q req hold) (hp : q.state ≠ .positioning)
    (hc : m.strict = true ∨ q.cycle.isSome = true) : req = none := by
  cases hr : req with
  | none => rfl
  | some r =>
    rcases h.request (by rw [hr]; rfl) with hs | ⟨hs, hq⟩
    · exact absurd hs hp
    · rcases hc with hc | hc
      · rw [hs] at hc
        cases hc
      · rw [hq] at hc
        cases hc

/-- A shown reason plays no part. -/
theorem showing (h : SeqFit m k b l gone q req hold) (w : Waiting) :
    SeqFit m k b l gone { q with waiting := w } req hold :=
  ⟨h.carried, h.carrying, h.empty, h.running, h.cause, h.request, h.timer, h.slab, h.holds, h.record, h.operands,
    h.computed⟩

theorem withRequest (h : SeqFit m k b l gone q req hold) {r : Option PosRequest}
    (hr : r.isSome = true → req.isSome = true) : SeqFit m k b l gone q r hold :=
  { h with request := fun x => h.request (hr x) }

/-- R51: the entry into HELD. -/
theorem held (h : SeqFit m k b l gone q req hold) (x : HeldCause) {r : Option PosRequest} (v : Option Nat)
    (free : q.state ≠ .positioning ∨ req = none) (hr : r.isSome = true → req.isSome = true) :
    SeqFit m k b l v (q.held x) r false where
  carried _ := .inr (.inr rfl)
  carrying hs := by rcases hs with hs | hs <;> cases hs
  empty hs := by rcases hs with hs | hs <;> cases hs
  running _ _ hs := absurd rfl hs
  cause := ⟨fun _ => rfl, fun _ => rfl⟩
  request hs := by
    have some := hr hs
    rcases free with free | rfl
    · rcases h.request some with hp | ⟨hm, hc⟩
      · exact absurd hp free
      · exact .inr ⟨hm, by rw [Sequencer.held, hc]; rfl⟩
    · cases some
  timer w hw := by
    rw [Sequencer.held] at hw
    cases hc : q.cycle with
    | none => rw [hc] at hw; cases hw
    | some c => rw [hc] at hw; cases hw
  slab _ hl := by cases hl
  holds _ := by simp [Sequencer.held]
  record hw f hf := by
    obtain ⟨f', hf', rfl⟩ := Option.map_eq_some_iff.1 hf
    exact h.record hw f' hf'
  operands hw o ho := by
    refine h.operands hw o ?_
    rw [Sequencer.held] at ho
    cases hc : q.cycle with
    | none => rw [hc] at ho; cases ho
    | some c => rw [hc] at ho; exact ho
  computed hw hs := by
    have carried : q.inflight.isSome = true := by
      rcases hs with hs | hs
      · cases hs
      · rwa [Sequencer.held, Option.isSome_map] at hs
    have made := h.computed hw (.inr carried)
    rw [Sequencer.held]
    cases hc : q.cycle with
    | none => rw [hc] at made; cases made
    | some c => rw [hc] at made; exact made

/-- R49, R56, R57: the entry into IDLE and into OFFLINE. -/
theorem emptied (h : SeqFit m k b l gone q req hold) {st : SeqState} (hst : st = .idle ∨ st = .offline)
    (hi : q.inflight = none) (v : Option Nat) (free : q.state ≠ .positioning ∨ req = none ∨ m.strict = false) :
    SeqFit m k b l v (q.emptied st) req false where
  carried hs := by
    rw [Sequencer.emptied, hi] at hs
    cases hs
  carrying hs := by rcases hst with rfl | rfl <;> rcases hs with hs | hs <;> cases hs
  empty _ := rfl
  running h1 h2 := by
    rcases hst with rfl | rfl
    · exact absurd rfl h1
    · exact absurd rfl h2
  cause := ⟨fun hs => (by cases hs), fun hs => (by rcases hst with rfl | rfl <;> cases hs)⟩
  request hs := by
    rcases free with free | rfl | free
    · rcases h.request hs with hp | ⟨hm, -⟩
      · exact absurd hp free
      · exact .inr ⟨hm, rfl⟩
    · cases hs
    · exact .inr ⟨free, rfl⟩
  timer w hw := by cases hw
  slab _ _ c hc := by cases hc
  holds _ := by rcases hst with rfl | rfl <;> simp [Sequencer.emptied]
  record _ f hf := by
    rw [Sequencer.emptied, hi] at hf
    cases hf
  operands _ o ho := by cases ho
  computed _ hs := by
    rw [Sequencer.emptied, hi] at hs
    rcases hst with rfl | rfl <;> rcases hs with hs | hs <;> cases hs

/-- A change of a cycle record in what no condition speaks of, and of its timer within the state. -/
theorem mapCycle (h : SeqFit m k b l gone q req hold) (f : CycleRecord → CycleRecord)
    (ht : ∀ c, (f c).tag = c.tag) (hf : ∀ c, (f c).final = c.final)
    (hw : ∀ c, q.cycle = some c → ∀ w ∈ (f c).timer.map (·.which),
      w ∈ c.timer.map (·.which) ∨ q.state = timerState w) :
    SeqFit m k b l gone { q with cycle := q.cycle.map f } req hold where
  carried := h.carried
  carrying := h.carrying
  empty hs := by rw [h.empty hs]; rfl
  running h1 h2 h3 := by
    rw [Option.isSome_map]
    exact h.running h1 h2 h3
  cause := h.cause
  request hs := (h.request hs).imp_right fun ⟨hm, hc⟩ => ⟨hm, by rw [hc]; rfl⟩
  timer w hx := by
    have old := h.timer w
    cases hc : q.cycle with
    | none => rw [hc] at hx; cases hx
    | some c =>
      rw [hc] at hx old
      exact (hw c hc w hx).elim (old ·) id
  slab hd hl c' hc' := by
    obtain ⟨c, hc, rfl⟩ := Option.map_eq_some_iff.1 hc'
    rw [ht]
    exact h.slab hd hl c hc
  holds := h.holds
  record := h.record
  operands hx o ho := by
    refine h.operands hx o ?_
    cases hc : q.cycle with
    | none => rw [hc] at ho; cases ho
    | some c =>
      rw [hc] at ho
      rwa [Option.map_some, Option.bind_some, CycleRecord.operands, hf] at ho
  computed hx hs := by
    have made := h.computed hx hs
    cases hc : q.cycle with
    | none => rw [hc] at made; cases made
    | some c =>
      rw [hc] at made
      rwa [Option.map_some, Option.bind_some, CycleRecord.operands, hf]

/-- The cycle of a sequencer that waits at the door, or charges from it: ROOM or PICK after a final computation. -/
theorem atDoor (h : SeqFit m k b l gone q req hold) (hq : q.state = .positioning ∨ q.state = .room)
    {c c' : CycleRecord} (hc : q.cycle = some c) (ht : c'.tag = c.tag) {st : SeqState} (hst : st = .room ∨ st = .pick)
    (w : Waiting) (hw : ∀ x ∈ c'.timer.map (·.which), st = timerState x)
    (ho : m.wide = true → ∀ o ∈ c'.operands, inRange 800 2800 o.width.value = true)
    (hp : st = .pick → c'.operands.isSome = true) {hold' : Bool} (hh : m.deep = true → (hold' = true ↔ b = false)) :
    SeqFit m k b l gone { q with state := st, waiting := w, cycle := some c' } none hold' where
  carried hs := by
    rw [h.inflight_none (by rcases hq with hq | hq <;> simp [hq]) (by rcases hq with hq | hq <;> simp [hq])
      (by rcases hq with hq | hq <;> simp [hq])] at hs
    cases hs
  carrying hs := by rcases hst with rfl | rfl <;> rcases hs with hs | hs <;> cases hs
  empty hs := by rcases hst with rfl | rfl <;> rcases hs with hs | hs <;> cases hs
  running _ _ _ := rfl
  cause := by
    rw [h.cause_none (by rcases hq with hq | hq <;> simp [hq])]
    exact ⟨fun hs => (by cases hs), fun hs => (by rcases hst with rfl | rfl <;> cases hs)⟩
  request hs := by cases hs
  timer := hw
  slab hd _ c'' hc'' := by
    obtain rfl := Option.some.inj hc''
    rw [ht]
    exact h.slab hd (by rcases hq with hq | hq <;> rw [hq] <;> rfl) c hc
  holds hd := by
    rw [hh hd]
    exact ⟨fun hb => ⟨hb, hst⟩, fun hb => hb.1⟩
  record := h.record
  operands := ho
  computed hx hs := by
    refine hp ?_
    rcases hs with hs | hs
    · rcases hst with rfl | rfl
      · cases hs
      · rfl
    · rw [h.inflight_none (by rcases hq with hq | hq <;> simp [hq]) (by rcases hq with hq | hq <;> simp [hq])
        (by rcases hq with hq | hq <;> simp [hq])] at hs
      cases hs

end SeqFit

/-! ### A final computation (R61, R63, R64, R65) -/

/-- What a final computation for sequencer k in state s leaves of the sequencer and its hold. -/
inductive FinalOutcome (k : Furnace) (s : State) (q : Sequencer) (hold : Bool) : Sequencer → Bool → Prop where
  | none (h : ¬ (Geared s k ∧ ∃ c, q.cycle = some c ∧ (destOf s.tracker.table c.tag).isSome = true)) :
    FinalOutcome k s q hold q hold
  | door (c c' : CycleRecord) (st : SeqState) (w : Waiting) (hc : q.cycle = some c) (ht : c'.tag = c.tag)
      (hst : st = .room ∨ st = .pick) (hw : ∀ x ∈ c'.timer.map (·.which), st = timerState x)
      (ho : (∀ r ∈ s.tracker.table, r.widthOk = true) → ∀ o ∈ c'.operands, inRange 800 2800 o.width.value = true)
      (hp : st = .pick → c'.operands.isSome = true) :
    FinalOutcome k s q hold { q with state := st, waiting := w, cycle := some c' } hold
  | idle (hc : q.cycle.isSome = true) : FinalOutcome k s q hold (q.emptied .idle) false

theorem SeqFit.final {m : Marks} {k : Furnace} {b : Bool} {s : State} {q q' : Sequencer} {req : Option PosRequest}
    {hold hold' hold'' : Bool} (h : SeqFit m k b s.tracker.table none q req hold)
    (hq : q.state = .positioning ∨ q.state = .room) (hh : m.deep = true → (hold' = true ↔ b = false))
    (hg : m.deep = true → Geared s k) (hw : m.wide = true → ∀ r ∈ s.tracker.table, r.widthOk = true)
    (o : FinalOutcome k s q hold' q' hold'') : SeqFit m k b s.tracker.table none q' none hold'' := by
  have bare := h.withRequest (r := .none) (fun hr => by cases hr)
  cases o with
  | none stays =>
    refine { bare with holds := fun hd => absurd ⟨hg hd, ?_⟩ stays }
    obtain ⟨c, hc⟩ := Option.isSome_iff_exists.1 (h.running (by rcases hq with hq | hq <;> simp [hq])
      (by rcases hq with hq | hq <;> simp [hq]) (by rcases hq with hq | hq <;> simp [hq]))
    have dest := (h.slab hd (by rcases hq with hq | hq <;> rw [hq] <;> rfl) c hc).resolve_right (by simp)
    exact ⟨c, hc, by rw [dest]; rfl⟩
  | door c c' st w hc ht hst hx ho hp => exact h.atDoor hq hc ht hst w hx (fun hm => ho (hw hm)) hp hh
  | idle _ =>
    exact bare.emptied (.inl rfl) (h.inflight_none (by rcases hq with hq | hq <;> simp [hq])
      (by rcases hq with hq | hq <;> simp [hq]) (by rcases hq with hq | hq <;> simp [hq])) none (.inr (.inl rfl))

/-- A final record written into the cycle record. -/
theorem CycleRecord.withFinal_operands (p : PlacementRecord) (c : CycleRecord) :
    (c.withFinal p).operands = p.operands := rfl

/-- R61, R64: the outcome of a computation whose record has been written into the cycle. -/
theorem SeqStep.decideFinal {k : Furnace} {q : Sequencer} {c : CycleRecord} {req : Option PosRequest} {hold : Bool}
    {s t : State} {tag : Nat} {p : PlacementRecord} (hq : q.cycle = some c) (hg : (s.cfg.geometry.get k).isSome = true)
    (h : SeqStep k { q with cycle := some (c.withFinal p) } req hold s t)
    (widths : (∀ r ∈ s.tracker.table, r.widthOk = true) → ∀ o ∈ p.operands, inRange 800 2800 o.width.value = true)
    (measured : p.result ≠ .unmeasured → p.operands.isSome = true) :
    ∃ q' hold', SeqStep k q' req hold' s (decideFinal k tag p t) ∧ FinalOutcome k s q hold q' hold' := by
  have cycle (u : State) (hu : SeqStep k { q with cycle := some (c.withFinal p) } req hold s u) :
      u.cycle k = some (c.withFinal p) := by rw [State.cycle, State.seq, hu.seq_eq]
  have order (x : Int) (hp : p.result ≠ .unmeasured) : ∃ q' hold', SeqStep k q' req hold' s (orderCharge k x t)
      ∧ FinalOutcome k s q hold q' hold' := by
    obtain ⟨g, hg⟩ := Option.isSome_iff_exists.1 hg
    have geometry : t.geometry k = some g := by rw [State.geometry, h.cfg, hg]
    unfold orderCharge
    rw [cycle t h, geometry]
    dsimp only
    obtain ⟨n, picked⟩ := ((h.quiet (untouched_send.sendField (.charger k) 0 (.chargeOrder (c.withFinal p).tag
      (c.withFinal p).id (c.withFinal p).lane x (x - g.armOffset) (c.withFinal p).cls) t).quiet).putSeqState
      .pick .none).startTimer .pick
    exact ⟨_, _, picked, .door c ((c.withFinal p).timed ⟨.pick, n⟩) .pick .none hq rfl (.inr rfl)
      (fun x hx => by obtain rfl := Option.some.inj hx; rfl) widths (fun _ => measured hp)⟩
  have wait (w : Waiting) : ∃ q' hold', SeqStep k q' req hold' s (waitInRoom k w t)
      ∧ FinalOutcome k s q hold q' hold' :=
    ⟨_, _, (h.putSeqState .room w).updateCycle _, .door c { c.withFinal p with timer := none } .room w hq rfl
      (.inl rfl) (fun x hx => by cases hx) widths (fun hs => by cases hs)⟩
  have idle (x : SlabCause) : ∃ q' hold', SeqStep k q' req hold' s (holdAndIdle k x tag t)
      ∧ FinalOutcome k s q hold q' hold' := ⟨_, _, (h.quiet (Quiet.holdTag x tag t)).enterIdle, .idle (by rw [hq]; rfl)⟩
  unfold Machine.decideFinal
  split
  · exact order _ (by rw [‹p.result = _›]; decide)
  · exact order _ (by rw [‹p.result = _›]; decide)
  · unfold requestStrokes
    rw [cycle t h]
    dsimp only
    obtain ⟨n, asked⟩ := (((h.quiet (untouched_send.sendField (.beam k) 0 (.strokeRequest (c.withFinal p).tag
      (strokeBatch p.strokeCount) (p.divisor.getD 0)) t).quiet).updateCycle
      (fun c => { c with outstanding := strokeBatch p.strokeCount })).putSeqState .room .strokes).startTimer .stroke
    exact ⟨_, _, asked, .door c ({ c.withFinal p with outstanding := strokeBatch p.strokeCount }.timed ⟨.stroke, n⟩)
      .room .strokes hq rfl (.inl rfl) (fun x hx => by obtain rfl := Option.some.inj hx; rfl) widths
      (fun hs => by cases hs)⟩
  · exact wait _
  · exact wait _
  · exact idle _
  · exact idle _

/-- What a final computation does to its sequencer. -/
theorem SeqStep.runFinal {k : Furnace} {q : Sequencer} {req : Option PosRequest} {hold : Bool} {s t : State}
    (h : SeqStep k q req hold s t) : ∃ q' hold', SeqStep k q' req hold' s (runFinal k t)
      ∧ FinalOutcome k s q hold q' hold' := by
  have cycle : t.cycle k = q.cycle := by rw [State.cycle, State.seq, h.seq_eq]
  unfold Machine.runFinal
  rw [cycle]
  split
  · rename_i hc
    exact ⟨q, hold, h, .none fun ⟨_, c, hs, _⟩ => by rw [hc] at hs; cases hs⟩
  · rename_i c hc
    split
    · rename_i hi
      refine ⟨q, hold, h, .none ?_⟩
      rintro ⟨⟨geared, -⟩, c', hs, dest⟩
      rw [hc] at hs
      obtain rfl := Option.some.inj hs
      obtain ⟨g, hg⟩ := Option.isSome_iff_exists.1 geared
      rw [← h.table.destOf, destOf] at dest
      cases hf : t.tracker.table.find? fun r => r.tag == c.tag with
      | none => rw [hf] at dest; cases dest
      | some r =>
        have found : t.findTag c.tag = some r := hf
        have geometry : t.geometry k = some g := by rw [State.geometry, h.cfg, hg]
        rw [found, Option.bind_some, State.placeInput, geometry] at hi
        cases hi
    · rename_i i hi
      obtain ⟨r, hr, hi⟩ := Option.bind_eq_some_iff.1 hi
      obtain ⟨g, hg, hin⟩ := Option.map_eq_some_iff.1 hi
      have hg' : (s.cfg.geometry.get k).isSome = true := by
        rw [State.geometry, h.cfg] at hg
        rw [hg]
        rfl
      have record : i.record = r := by rw [← hin]
      have widths (hw : ∀ r ∈ s.tracker.table, r.widthOk = true) :
          ∀ o ∈ i.compute.operands, inRange 800 2800 o.width.value = true := by
        intro o ho
        rcases i.compute_operands with ⟨o', hok, hop⟩ | ⟨hop, -⟩
        · rw [hop] at ho
          obtain rfl := Option.some.inj ho
          refine PlaceInput.operands_width hok ?_
          rw [record]
          exact h.table.widths hw r (List.mem_of_find?_eq_some hr)
        · rw [hop] at ho
          cases ho
      have measured : i.compute.result ≠ .unmeasured → i.compute.operands.isSome = true := by
        intro hu
        rcases i.compute_operands with ⟨o', -, hop⟩ | ⟨-, hx⟩
        · rw [hop]
          rfl
        · exact absurd hx hu
      have marked := (h.quiet (Quiet.placementMarks i i.compute t)).updateCycle (CycleRecord.withFinal i.compute)
      rw [hc] at marked
      exact marked.decideFinal hc hg' widths measured

end Sys2Proof.Machine
end

section
/-! The operations on a sequencer within an event keep the condition on the sequencers (R51, R53, R56, R58 to R65,
R67, R69 to R77, R93 to R98, R101). -/

namespace Sys2Proof.Machine

variable {m : Marks} {b : Bool} {k : Furnace} {s : State}

/-- In POSITIONING a sequencer has nothing in flight. -/
theorem FitBut.inflight_none {gone : Furnace → Option Nat} (h : FitBut m b gone s)
    (hs : (s.seqs.get k).state ≠ .carry) (hl : (s.seqs.get k).state ≠ .lower) (hh : (s.seqs.get k).state ≠ .held) :
    (s.seqs.get k).inflight = none := (h.seq k).inflight_none hs hl hh

/-- A sequencer's own start, before its operation. -/
theorem SeqStep.start (k : Furnace) (s : State) :
    SeqStep k (s.seqs.get k) (s.arb.requests.get k) (s.arb.holds.get k) s s := .of_quiet k (.refl s)

/-- R48: the entry into HELD, once no request stands. -/
theorem FitBut.enterHeld {gone : Furnace → Option Nat} {t : State} {req : Option PosRequest} {hold : Bool}
    (h : FitBut m b gone s) (c : SeqStep k (s.seqs.get k) req hold s t) (x : HeldCause) (f : Option Nat)
    (v : Option Nat) (free : (s.seqs.get k).state ≠ .positioning ∨ req = none)
    (hr : req.isSome = true → (s.arb.requests.get k).isSome = true)
    (armed : m.deep = true → (s.seqs.get k).state ≠ .offline ∨ Geared s k) :
    FitBut m b (exempt gone k v) (Machine.enterHeld k x f t) := by
  obtain ⟨r, held, hsome⟩ := c.enterHeld x f
  refine h.step held (((h.seq k).withRequest hr).held x v free hsome) (fun hd _ => armed hd) fun hs hb => ?_
  cases hreq : r with
  | none => rfl
  | some r' =>
    have := hr (hsome (by rw [hreq]; rfl))
    rw [h.retain hs hb k] at this
    cases this

/-- R49, R57: the entry into IDLE, once no request stands. -/
theorem FitBut.enterIdle {t : State} {req : Option PosRequest} {hold : Bool} (h : FitIn m b s)
    (c : SeqStep k (s.seqs.get k) req hold s t) (hi : (s.seqs.get k).inflight = none)
    (free : (s.seqs.get k).state ≠ .positioning ∨ req = none ∨ m.strict = false)
    (hr : req.isSome = true → (s.arb.requests.get k).isSome = true)
    (armed : m.deep = true → (s.seqs.get k).state ≠ .offline ∨ Geared s k) : FitIn m b (Machine.enterIdle k t) := by
  refine h.plainStep c.enterIdle (((h.seq k).withRequest hr).emptied (.inl rfl) hi none free)
    (fun hd _ => armed hd) fun hs hb => ?_
  cases hreq : req with
  | none => rfl
  | some r' =>
    have := hr (by rw [hreq]; rfl)
    rw [h.retain hs hb k] at this
    cases this

theorem Quiet.markGrid (s : State) : Quiet s (Machine.markGrid s) := .setDue ..

/-! ### Moves (R59, R60, R95, R97, R98) -/

/-- R97: a move is ordered. -/
theorem FitBut.orderMove (h : FitIn m b s) (d : Int) (hg : m.deep = true → Geared s k) :
    FitIn m b (Machine.orderMove k d s) := by
  have sent := untouched_send.sendField .tableDrive 0 (.tableMove s.arb.nextMove d) s
  have hs := h.calm sent.quiet.calm
  unfold Machine.orderMove
  dsimp only
  generalize sendField .tableDrive 0 (.tableMove s.arb.nextMove d) s = t at sent hs ⊢
  refine ⟨hs.seq, hs.retain, fun hd j hj => ?_, hs.tags, fun hw => ⟨(hs.widths hw).table, (hs.widths hw).schedule,
    (hs.widths hw).maps⟩⟩
  refine Geared.of_cfg (s := t) ?_ rfl
  rcases hj with hj | ⟨n, hn⟩
  · exact hs.armed hd j (.inl hj)
  · obtain rfl : k = j := by injection hn
    exact (hg hd).of_cfg sent.cfg

theorem SeqStep.still {q : Sequencer} {req : Option PosRequest} {hold : Bool} {t : State}
    (c : SeqStep k q req hold s t) : SeqStep k q none hold s (Machine.dropRequest k (Machine.becomeStill t)) :=
  ((c.quiet (Quiet.becomeStill t)).quiet ((Quiet.setDue _ _).trans (Quiet.setDue _ _))).dropRequest

/-- A request of sequencer k: it is in POSITIONING with a geometry, or, where requests are not asked for, has no
cycle. -/
theorem FitBut.requested {gone : Furnace → Option Nat} (h : FitBut m b gone s)
    (hr : (s.arb.requests.get k).isSome = true) :
    ((s.seqs.get k).state = .positioning ∧ (m.deep = true → Geared s k ∧ b = false))
      ∨ m.deep = false ∧ (s.seqs.get k).cycle = none := by
  rcases (h.seq k).request hr with hp | ⟨hm, hc⟩
  · refine .inl ⟨hp, fun hd => ⟨h.armed hd k (.inl (by rw [hp]; decide)), ?_⟩⟩
    cases b with
    | false => rfl
    | true =>
      rw [h.retain (Marks.strict_of_deep hd) rfl k] at hr
      cases hr
  · refine .inr ⟨?_, hc⟩
    cases hd : m.deep with
    | false => rfl
    | true =>
      rw [Marks.strict_of_deep hd] at hm
      cases hm

/-- R59, R101: the success of a move. -/
theorem FitBut.moveSuccess (h : FitIn m b s) (hr : (s.arb.requests.get k).isSome = true) :
    FitIn m b (Machine.moveSuccess k s) := by
  have arrived := (((SeqStep.start k s).still.setHold true).quiet (Quiet.markGrid _)).updateCycle
    (fun c => { c with timer := none })
  obtain ⟨q', hold', step, outcome⟩ := arrived.runFinal
  have fit := (h.seq k).mapCycle (fun c => { c with timer := none }) (fun _ => rfl) (fun _ => rfl)
    (fun _ _ x hx => by cases hx)
  rcases h.requested hr with ⟨hp, hd⟩ | ⟨hd, hc⟩
  · exact h.plainStep step (fit.final (.inl hp) (fun hm => by rw [(hd hm).2]; decide) (fun hm => (hd hm).1)
      (fun hw => (h.widths hw).table) outcome) (fun _ _ => .inl (by rw [hp]; decide)) (fun _ _ => rfl)
  · have none : ({ s.seqs.get k with
        cycle := (s.seqs.get k).cycle.map fun c => { c with timer := none } } : Sequencer).cycle = none := by
      rw [hc]
      rfl
    have vacuous {p : Prop} (hm : m.deep = true) : p := by
      rw [hd] at hm
      cases hm
    cases outcome with
    | none _ =>
      exact h.plainStep step { fit.withRequest (r := .none) (fun hr => by cases hr) with holds := vacuous }
        vacuous (fun _ _ => rfl)
    | door c c' st w hcycle =>
      rw [none] at hcycle
      cases hcycle
    | idle hcycle =>
      rw [none] at hcycle
      cases hcycle

/-- R60: the third miss. -/
theorem FitBut.lastMiss (h : FitIn m b s) (tag : Nat) (hp : (s.seqs.get k).state = .positioning) :
    FitIn m b (Machine.lastMiss k tag s) :=
  h.enterIdle ((SeqStep.start k s).still.quiet (Quiet.holdTag .position tag _))
    (h.inflight_none (by rw [hp]; decide) (by rw [hp]; decide) (by rw [hp]; decide)) (.inr (.inl rfl))
    (fun hr => by cases hr) (fun _ => .inl (by rw [hp]; decide))

/-- R59, R60: the end of a move. -/
theorem FitBut.moveEnded (h : FitIn m b s) : FitIn m b (Machine.moveEnded k s) := by
  unfold Machine.moveEnded
  split
  · rename_i c g d hc _ hd
    have hr : (s.arb.requests.get k).isSome = true := by
      obtain ⟨q, hq, -⟩ := Option.bind_eq_some_iff.1 hd
      rw [hq]
      rfl
    have hp : (s.seqs.get k).state = .positioning :=
      ((h.seq k).request hr).resolve_right fun hx => by rw [State.cycle, State.seq, hx.2] at hc; cases hc
    have geared (hm : m.deep = true) : Geared s k := h.armed hm k (.inl (by rw [hp]; decide))
    split
    · exact h.moveSuccess hr
    · split
      · have counted := (SeqStep.start k s).updateCycle (fun c => { c with corrective := c.corrective + 1 })
        have fit := h.plainStep counted ((h.seq k).mapCycle (fun c => { c with corrective := c.corrective + 1 })
          (fun _ => rfl) (fun _ => rfl) (fun _ _ x hx => .inl hx)) (fun _ _ => .inl (by rw [hp]; decide))
          (fun hs hb => h.retain hs hb k)
        unfold correctMove
        dsimp only
        split
        · exact fit.orderMove d fun hm => (geared hm).of_cfg counted.cfg
        · exact fit.lastMiss c.tag (by rw [counted.seq_eq]; exact hp)
      · exact h.lastMiss _ hp
  · exact h

/-- R95, R97: a request is granted. -/
theorem FitBut.grantMove (h : FitIn m b s) : FitIn m b (Machine.grantMove k s) := by
  unfold Machine.grantMove
  split
  · rename_i r g hr _
    have some : (s.arb.requests.get k).isSome = true := by rw [hr]; rfl
    split
    · exact h
    · obtain ⟨n, granted⟩ := (((SeqStep.start k s).setRequest (Option.some { r with status := .granted })).showWaiting
        .move).startTimer .positioning
      have timed := h.requested some
      have fit := h.plainStep granted ((((h.seq k).withRequest (r := Option.some { r with status := .granted })
        (fun _ => some)).showing .move).mapCycle (CycleRecord.timed ⟨.positioning, n⟩) (fun _ => rfl) (fun _ => rfl)
        (fun c hc x hx => by
          obtain rfl := Option.some.inj hx
          rcases timed with ⟨hp, -⟩ | ⟨-, hn⟩
          · exact .inr hp
          · rw [show (s.seqs.get k).cycle = Option.some c from hc] at hn
            cases hn))
        (fun hm _ => by
          rcases timed with ⟨hp, -⟩ | ⟨hd, -⟩
          · exact .inl (by rw [hp]; decide)
          · rw [hd] at hm
            cases hm)
        (fun hs hb => by rw [h.retain hs hb k] at hr; cases hr)
      dsimp only
      split
      · exact fit.moveSuccess (by rw [granted.request_eq]; rfl)
      · refine fit.orderMove _ fun hm => ?_
        rcases timed with ⟨-, hg⟩ | ⟨hd, -⟩
        · exact (hg hm).1.of_cfg granted.cfg
        · rw [hd] at hm
          cases hm
  · exact h

/-- R62, R98: a move ends without its success. -/
theorem FitBut.moveFailed (h : FitIn m b s) {n : Nat} (hm : s.arb.motion = .positioning k n true) :
    FitIn m b (Machine.moveFailed k s) := by
  have held := h.enterHeld (SeqStep.start k s).still .tableFault none none (.inr rfl) (fun hr => by cases hr)
    (fun hd => .inr (h.armed hd k (.inr ⟨n, hm⟩)))
  rwa [exempt_self] at held

end Sys2Proof.Machine
end

section
/-! The events of a sequencer keep the condition (R51, R53, R56 to R58, R61 to R64, R67, R69 to R77). -/

namespace Sys2Proof.Machine

variable {m : Marks} {k : Furnace} {s : State}

/-- The condition on the sequencers is kept. -/
structure KeepsFit (m : Marks) (s t : State) : Prop where
  fit : Fit m s → Fit m t

namespace KeepsFit

theorem refl (m : Marks) (s : State) : KeepsFit m s s := ⟨id⟩

theorem trans {a b c : State} (h : KeepsFit m a b) (g : KeepsFit m b c) : KeepsFit m a c := ⟨g.fit ∘ h.fit⟩

theorem calm {t : State} (h : Calm s t) : KeepsFit m s t := ⟨fun f => Fit.calm f h⟩

theorem quiet {t : State} (h : Quiet s t) : KeepsFit m s t := calm h.calm

/-- An operation of the blocks, in the mode that it leaves. -/
theorem of_block {t : State} (h : KeepsRecords s t) (f : Fit m s → FitIn m s.retains t) : KeepsFit m s t :=
  ⟨fun hs => (f hs).fit h.mode⟩

end KeepsFit

/-- An operation of sequencer k. -/
theorem SeqStep.keepsFit {q : Sequencer} {req : Option PosRequest} {hold : Bool} {t : State}
    (c : SeqStep k q req hold s t)
    (fit : Fit m s → SeqFit m k s.retains s.tracker.table none q req hold)
    (armed : Fit m s → m.deep = true → q.state ≠ .offline → (s.seqs.get k).state ≠ .offline ∨ Geared s k)
    (retain : Fit m s → m.strict = true → s.retains = true → req = none) : KeepsFit m s t :=
  ⟨fun h => (h.plainStep c (fit h) (armed h) (retain h)).fit c.mode⟩

/-- An operation of sequencer k that leaves its state and its request. -/
theorem SeqStep.keepsFit_same {q : Sequencer} {t : State}
    (c : SeqStep k q (s.arb.requests.get k) (s.arb.holds.get k) s t)
    (fit : Fit m s → SeqFit m k s.retains s.tracker.table none q (s.arb.requests.get k) (s.arb.holds.get k))
    (hq : q.state ≠ .offline → (s.seqs.get k).state ≠ .offline) : KeepsFit m s t :=
  c.keepsFit fit (fun _ _ ho => .inl (hq ho)) (fun h hs hb => h.retain hs hb k)

/-! ### Reasons, timers, counts -/

theorem keepsFit_showWaiting (k : Furnace) (w : Waiting) (s : State) : KeepsFit m s (showWaiting k w s) :=
  ((SeqStep.start k s).showWaiting w).keepsFit_same (fun h => (h.seq k).showing w) id

/-- A change of the cycle record within the state. -/
theorem keepsFit_updateCycle (f : CycleRecord → CycleRecord) (ht : ∀ c, (f c).tag = c.tag)
    (hf : ∀ c, (f c).final = c.final) (hw : ∀ c, ∀ w ∈ (f c).timer.map (·.which),
      w ∈ c.timer.map (·.which) ∨ (s.seqs.get k).state = timerState w) : KeepsFit m s (updateCycle k f s) :=
  ((SeqStep.start k s).updateCycle f).keepsFit_same (fun h => (h.seq k).mapCycle f ht hf fun c _ => hw c) id

theorem keepsFit_stopTimer (k : Furnace) (s : State) : KeepsFit m s (stopTimer k s) :=
  keepsFit_updateCycle _ (fun _ => rfl) (fun _ => rfl) (fun _ _ hw => by cases hw)

theorem keepsFit_startTimer (x : TimeoutKind) (hs : (s.seqs.get k).state = timerState x) :
    KeepsFit m s (startTimer k x s) :=
  keepsFit_updateCycle _ (fun _ => rfl) (fun _ => rfl) (fun _ w hw => .inr (by
    obtain rfl := Option.some.inj hw
    exact hs))

theorem keepsFit_countStroke (n : Nat) : KeepsFit m s (updateCycle k (fun c => { c with outstanding := n }) s) :=
  keepsFit_updateCycle _ (fun _ => rfl) (fun _ => rfl) (fun _ _ hw => .inl hw)

theorem keepsFit_checkedRequest {q : PosRequest} (st : RequestStatus) (hq : s.arb.requests.get k = some q) :
    KeepsFit m s (putRequest k (some { q with status := st }) s) :=
  ((SeqStep.start k s).setRequest (some { q with status := st })).keepsFit
    (fun h => (h.seq k).withRequest (fun _ => by rw [hq]; rfl)) (fun _ _ ho => .inl ho)
    (fun h hs hb => by rw [h.retain hs hb k] at hq; cases hq)

/-! ### HELD, IDLE and OFFLINE -/

theorem keepsFit_enterHeld (k : Furnace) (x : HeldCause) (f : Option Nat)
    (hs : (s.seqs.get k).state ≠ .positioning ∧ (s.seqs.get k).state ≠ .offline) :
    KeepsFit m s (enterHeld k x f s) :=
  .of_block (keepsCounters_blockClosed.enterHeld k x f s).toKeepsRecords fun h => by
    have held := h.enterHeld (SeqStep.start k s) x f none (.inl hs.1) id (fun _ => .inl hs.2)
    rwa [exempt_self] at held

/-- R53: the state of a sequencer whose timer runs. -/
theorem FitBut.timerState {b : Bool} {gone : Furnace → Option Nat} (h : FitBut m b gone s) {w : TimeoutKind}
    (hw : ((s.seqs.get k).cycle.bind (·.timer)).map (·.which) = some w) :
    (s.seqs.get k).state = Machine.timerState w := (h.seq k).timer w hw

theorem keepsFit_timedOut (k : Furnace) (w : TimeoutKind) (x : HeldCause)
    (hw : ((s.seqs.get k).cycle.bind (·.timer)).map (·.which) = some w) (hp : w ≠ .positioning) :
    KeepsFit m s (enterHeld k x none s) :=
  ⟨fun h => (keepsFit_enterHeld k x none (by
    rw [h.timerState hw]
    cases w with
    | positioning => exact absurd rfl hp
    | _ => decide)).fit h⟩

theorem keepsFit_abandonHeld (k : Furnace) (x : HeldCause) (reason : HaltReason)
    (hs : (s.seqs.get k).state = .positioning
      ∨ ((s.seqs.get k).cycle.bind (·.timer)).map (·.which) = some .positioning) :
    KeepsFit m s (enterHeld k x none (abandonMove k reason s)) :=
  .of_block (keepsCounters_blockClosed.trans (keepsCounters_blockClosed.abandonMove k reason s)
    (keepsCounters_blockClosed.enterHeld k x none _)).toKeepsRecords fun h => by
      have hp : (s.seqs.get k).state = .positioning := hs.elim id h.timerState
      have held := h.enterHeld ((SeqStep.start k s).abandonMove reason) x none none (.inr rfl)
        (fun hr => by cases hr) (fun _ => .inl (by rw [hp]; decide))
      rwa [exempt_self] at held

theorem keepsFit_abandonIdle (k : Furnace) (reason : HaltReason) (hs : (s.seqs.get k).state = .positioning) :
    KeepsFit m s (enterIdle k (abandonMove k reason s)) :=
  .of_block (keepsCounters_blockClosed.trans (keepsCounters_blockClosed.abandonMove k reason s)
    (keepsCounters_blockClosed.enterIdle k _)).toKeepsRecords fun h =>
      h.enterIdle ((SeqStep.start k s).abandonMove reason)
        (h.inflight_none (by rw [hs]; decide) (by rw [hs]; decide) (by rw [hs]; decide)) (.inr (.inl rfl))
        (fun hr => by cases hr) (fun _ => .inl (by rw [hs]; decide))

theorem keepsFit_enterIdle (k : Furnace) (hi : Fit m s → (s.seqs.get k).inflight = none)
    (hp : (s.seqs.get k).state ≠ .positioning) (armed : (s.seqs.get k).state ≠ .offline ∨ Geared s k) :
    KeepsFit m s (enterIdle k s) :=
  .of_block (keepsCounters_blockClosed.enterIdle k s).toKeepsRecords fun h =>
    h.enterIdle (SeqStep.start k s) (hi h) (.inl hp) id (fun _ => armed)

theorem keepsFit_toIdle (k : Furnace) (hs : (s.seqs.get k).state = .room ∨ (s.seqs.get k).state = .retract) :
    KeepsFit m s (enterIdle k s) :=
  keepsFit_enterIdle k
    (fun h => h.inflight_none (by rcases hs with hs | hs <;> rw [hs] <;> decide)
      (by rcases hs with hs | hs <;> rw [hs] <;> decide) (by rcases hs with hs | hs <;> rw [hs] <;> decide))
    (by rcases hs with hs | hs <;> rw [hs] <;> decide) (.inl (by rcases hs with hs | hs <;> rw [hs] <;> decide))

theorem SeqStep.keepsFit_offline {req : Option PosRequest} {hold : Bool} {t : State}
    (c : SeqStep k (s.seqs.get k) req hold s t) (hi : Fit m s → (s.seqs.get k).inflight = none)
    (free : (s.seqs.get k).state ≠ .positioning ∨ req = none ∨ m.strict = false)
    (hr : req.isSome = true → (s.arb.requests.get k).isSome = true) : KeepsFit m s (Machine.enterOffline k t) :=
  c.enterOffline.keepsFit (fun h => ((h.seq k).withRequest hr).emptied (.inr rfl) (hi h) none free)
    (fun _ _ ho => absurd rfl ho) (fun h hs hb => by
      cases hreq : req with
      | none => rfl
      | some r =>
        have := hr (by rw [hreq]; rfl)
        rw [h.retain hs hb k] at this
        cases this)

theorem keepsFit_disarm (k : Furnace) (hs : disarmRefused (s.seqs.get k) = false) : KeepsFit m s (disarm k s) := by
  have empty (h : Fit m s) : (s.seqs.get k).inflight = none := by
    cases hi : (s.seqs.get k).inflight with
    | none => rfl
    | some f =>
      unfold disarmRefused at hs
      rcases (h.seq k).carried (by rw [hi]; rfl) with hc | hc | hc
      · rw [hc] at hs
        cases hs
      · rw [hc] at hs
        cases hs
      · rw [hc, hi] at hs
        cases hs
  unfold disarm
  split
  · exact .refl m s
  · exact ((SeqStep.start k s).abandonMove .disarmed).keepsFit_offline empty (.inr (.inl rfl)) (fun hr => by cases hr)
  · rename_i hp
    exact (SeqStep.start k s).keepsFit_offline empty (.inl fun h => by
      rw [State.seq] at hp
      exact hp h) id

/-! ### The start of a cycle (R57, R58) -/

theorem destOf_of_mem {l : List TableRecord} {r : TableRecord} (hl : (l.map (·.tag)).Nodup) (hr : r ∈ l) :
    destOf l r.tag = r.dest := by
  rw [destOf]
  cases hf : l.find? fun x => x.tag == r.tag with
  | none => exact absurd (List.find?_eq_none.1 hf r hr) (by simp)
  | some x =>
    have same := List.find?_some hf
    rw [beq_iff_eq] at same
    rw [List.inj_on_of_nodup_map hl (List.mem_of_find?_eq_some hf) hr same]
    rfl

theorem keepsFit_beginCycle (k : Furnace) (r : TableRecord) (p : PlacementRecord)
    (hs : (s.seqs.get k).state = .idle) (hm : s.ret.mode = .run)
    (hr : ∃ r' ∈ s.tracker.table, r'.tag = r.tag ∧ r'.dest = some k) : KeepsFit m s (beginCycle k r p s) := by
  unfold beginCycle
  split
  · exact .refl m s
  · rename_i g _
    have running : s.retains = false := by
      rw [State.retains, hm]
      rfl
    have begun : SeqStep k { s.seqs.get k with state := .positioning, waiting := .grant, cycle := some (newCycle r p) }
        (some { tag := r.tag, target := g.chargePosition k (p.lane.getD .c), status := .waiting })
        (s.arb.holds.get k) s (markList (putRequest k
          (some { tag := r.tag, target := g.chargePosition k (p.lane.getD .c), status := .waiting })
          (s.setSeq k { s.seqs.get k with
            state := .positioning, waiting := .grant, cycle := some (newCycle r p) }))) :=
      (((SeqStep.start k s).setSeq _).setRequest _).quiet ((Quiet.setDue _ _).trans (Quiet.setDue _ _))
    refine begun.keepsFit (fun h => ?_) (fun _ _ _ => .inl (by rw [hs]; decide))
      (fun _ _ hb => by rw [running] at hb; cases hb)
    have empty := h.inflight_none (k := k) (by rw [hs]; decide) (by rw [hs]; decide) (by rw [hs]; decide)
    have free := (h.seq k).cause_none (by rw [hs]; decide)
    have off (hd : m.deep = true) : s.arb.holds.get k = false := by
      cases ho : s.arb.holds.get k with
      | false => rfl
      | true =>
        have := ((h.seq k).holds hd).1 ho
        rw [hs] at this
        simp at this
    refine ⟨fun hi => ?_, fun hi => (by rcases hi with hi | hi <;> cases hi), fun hi => (by rcases hi with hi | hi <;> cases hi),
      fun _ _ _ => rfl, ?_, fun _ => .inl rfl, fun w hw => (by cases hw), fun hd _ c hc => ?_, fun hd => ?_,
      fun _ f hf => ?_, fun _ o ho => (by cases ho), fun _ hx => ?_⟩
    · rw [empty] at hi
      cases hi
    · rw [free]
      exact ⟨fun hx => (by cases hx), fun hx => (by cases hx)⟩
    · obtain rfl := Option.some.inj hc
      obtain ⟨r', hr', ht, hd'⟩ := hr
      refine .inl ?_
      rw [show (newCycle r p).tag = r'.tag from ht.symm, destOf_of_mem (h.tags hd) hr', hd']
    · rw [off hd]
      simp
    · rw [empty] at hf
      cases hf
    · rw [empty] at hx
      rcases hx with hx | hx <;> cases hx

/-! ### Phases of a charge (R61, R63, R64, R67, R69 to R71) -/

theorem keepsFit_runFinal (k : Furnace) (hs : (s.seqs.get k).state = .room) : KeepsFit m s (runFinal k s) := by
  refine .of_block (keepsCounters_blockClosed.runFinal k s).toKeepsRecords fun h => ?_
  obtain ⟨q', hold', step, outcome⟩ := (SeqStep.start k s).runFinal
  have none : s.arb.requests.get k = none := (h.seq k).request_none (by rw [hs]; decide)
    (.inr ((h.seq k).running (by rw [hs]; decide) (by rw [hs]; decide) (by rw [hs]; decide)))
  rw [none] at step
  refine h.plainStep step ((h.seq k).final (.inr hs) (fun hd => ?_) (fun hd => h.armed hd k (.inl (by rw [hs]; decide)))
    (fun hw => (h.widths hw).table) outcome) (fun _ _ => .inl (by rw [hs]; decide)) (fun _ _ => rfl)
  rw [(h.seq k).holds hd, hs]
  simp

theorem keepsFit_takeAtDepth (k : Furnace) (hs : (s.seqs.get k).state = .carry) : KeepsFit m s (takeAtDepth k s) := by
  obtain ⟨n, lower⟩ := ((SeqStep.start k s).putSeqState .lower .none).startTimer .lower
  refine SeqStep.keepsFit lower (fun h => ?_) (fun _ _ _ => .inl (by rw [hs]; decide)) (fun h hs hb => h.retain hs hb k)
  have f := h.seq k
  refine ⟨fun _ => .inr (.inl rfl), fun _ => f.carrying (.inl hs), fun hx => (by rcases hx with hx | hx <;> cases hx),
    fun _ _ _ => ?_, ?_, fun hr => ?_, fun w hw => ?_, fun _ hl => (by cases hl), fun hd => ?_, f.record,
    fun hw o ho => f.operands hw o ?_, fun hw hx => ?_⟩
  · rw [Option.isSome_map]
    exact f.running (by rw [hs]; decide) (by rw [hs]; decide) (by rw [hs]; decide)
  · rw [f.cause, hs]
    exact ⟨fun hx => (by cases hx), fun hx => (by cases hx)⟩
  · have none := f.request_none (by rw [hs]; decide)
      (.inr (f.running (by rw [hs]; decide) (by rw [hs]; decide) (by rw [hs]; decide)))
    rw [none] at hr
    cases hr
  · dsimp only at hw
    cases hc : (s.seqs.get k).cycle with
    | none => rw [hc] at hw; cases hw
    | some c =>
      rw [hc] at hw
      obtain rfl := Option.some.inj hw
      rfl
  · rw [f.holds hd, hs]
    simp
  · dsimp only at ho
    cases hc : (s.seqs.get k).cycle with
    | none => rw [hc] at ho; cases ho
    | some c => rw [hc] at ho; exact ho
  · have made := f.computed hw (.inl (by rw [hs]; rfl))
    dsimp only
    cases hc : (s.seqs.get k).cycle with
    | none => rw [hc] at made; cases made
    | some c => rw [hc] at made; exact made

end Sys2Proof.Machine
end

section
/-! Slabs that come into the list, leave it, go in flight and land, and the modes, keep the condition (R9 to R11, R67,
R70, R75, R76, R83, R88, R103, R104, R106, R109, R134). -/

namespace Sys2Proof.Machine

variable {m : Marks} {b : Bool} {gone : Furnace → Option Nat} {k : Furnace} {s t : State}

/-! ### Records of the list -/

/-- A tag that is not positioned is that of no cycle whose slab is in the list. -/
theorem tag_ne_of_not_positioned {tag : Nat} (hp : s.positioned tag = false) {c : CycleRecord}
    (hs : (s.seqs.get k).state.listed = true) (hc : (s.seqs.get k).cycle = some c) : c.tag ≠ tag := by
  rintro rfl
  have free : s.positionedFor k c.tag = false := by
    rw [State.positioned, Bool.or_eq_false_iff] at hp
    cases k with
    | f1 => exact hp.1
    | f2 => exact hp.2
  unfold State.positionedFor State.cycle State.seq at free
  rw [hc] at free
  revert hs free
  cases (s.seqs.get k).state <;> simp [SeqState.listed]

theorem destOf_map {l : List TableRecord} {tag tag' : Nat} {f : TableRecord → TableRecord} (h : tag ≠ tag')
    (hf : ∀ r, r.tag = tag' → (f r).tag = tag') :
    destOf (l.map fun r => if r.tag = tag' then f r else r) tag = destOf l tag := by
  induction l with
  | nil => rfl
  | cons r l ih =>
    rw [destOf, destOf] at ih ⊢
    rw [List.map_cons]
    by_cases e : r.tag = tag'
    · rw [if_pos e, List.find?_cons_of_neg (by rw [hf r e]; simpa using fun h' => h h'.symm),
        List.find?_cons_of_neg (by rw [e]; simpa using fun h' => h h'.symm)]
      exact ih
    · rw [if_neg e]
      by_cases e' : r.tag = tag
      · rw [List.find?_cons_of_pos (by simpa using e'), List.find?_cons_of_pos (by simpa using e')]
      · rw [List.find?_cons_of_neg (by simpa using e'), List.find?_cons_of_neg (by simpa using e')]
        exact ih

/-- A record that is not positioned changes. -/
theorem keepsFit_updateRecord {tag : Nat} {f : TableRecord → TableRecord} (hp : s.positioned tag = false)
    (hf : ∀ r, r.tag = tag → (f r).tag = tag)
    (hw : (∀ r ∈ s.tracker.table, r.widthOk = true) → ∀ r ∈ s.tracker.table, (f r).widthOk = true) :
    KeepsFit m s (updateRecord tag f s) := by
  refine ⟨fun h => ⟨fun j => { h.seq j with slab := fun hd hl c hc => ?_ }, h.retain,
    fun hd j hj => (h.armed hd j hj).of_cfg rfl, fun hd => ?_,
    fun hm => ⟨fun r hr => ?_, (h.widths hm).schedule, (h.widths hm).maps⟩⟩⟩
  · exact ((h.seq j).slab hd hl c hc).imp_left fun dest =>
      (destOf_map (tag_ne_of_not_positioned hp hl hc) hf).trans dest
  · have tags : (updateRecord tag f s).tracker.table.map (·.tag) = s.tracker.table.map (·.tag) := by
      refine (List.map_map ..).trans (List.map_congr_left fun r _ => ?_)
      rw [Function.comp]
      split
      · exact (hf r ‹_›).trans (‹r.tag = tag›).symm
      · rfl
    rw [tags]
    exact h.tags hd
  · obtain ⟨r', hr', rfl⟩ := List.mem_map.1 hr
    split
    · exact hw (h.widths hm).table r' hr'
    · exact (h.widths hm).table r' hr'

/-- R103: the record found by the tag takes the fields given. -/
theorem keepsFit_acceptSlab {r : TableRecord} {w len th : Option Int} {g : Option Nat} {d : Option Furnace}
    (hr : s.findTag r.tag = some r) (hp : s.positioned r.tag = false)
    (ok : figuresInRange g w len th = true) :
    KeepsFit m s (updateRecord r.tag (fun _ => r.accepted w len th g d) s) := by
  refine keepsFit_updateRecord hp (fun _ _ => rfl) fun hw _ _ => ?_
  have before := hw r (State.findTag_some hr).1
  have width : rangeWhereGiven 800 2800 w = true := by
    simp only [figuresInRange, Bool.and_eq_true] at ok
    exact ok.1.1.2
  rw [TableRecord.widthOk, Bool.and_eq_true] at before ⊢
  refine ⟨?_, before.2⟩
  cases w with
  | none => exact before.1
  | some x => exact width

/-- R67, R104: a record that is not positioned leaves the list. -/
theorem keepsFit_deleteRecord {r : TableRecord} (hp : s.positioned r.tag = false) :
    KeepsFit m s (deleteRecord r s) := by
  obtain ⟨d, e⟩ := deleteRecord_due r s
  refine ⟨fun h => FitBut.fit (h.delete r _ fun _ j c hl hc => ⟨fun ht _ => ?_, id⟩) (by rw [e])⟩
  exact absurd ht (tag_ne_of_not_positioned hp hl hc)

/-- R88: a record with a fresh tag enters the list as the last. -/
theorem FitBut.append {r : TableRecord} (h : FitIn m b s) (free : m.deep = true → ∀ x ∈ s.tracker.table, x.tag ≠ r.tag)
    (ht : t.tracker.table = s.tracker.table ++ [r]) (hq : t.seqs = s.seqs) (hr : t.arb.requests = s.arb.requests)
    (hh : t.arb.holds = s.arb.holds) (hm : t.arb.motion = s.arb.motion) (hc : t.cfg = s.cfg) (hmap : t.maps = s.maps)
    (hs : (∀ e ∈ s.schedule, inRange 800 2800 e.width = true) → ∀ e ∈ t.schedule, inRange 800 2800 e.width = true)
    (hw : (∀ e ∈ s.schedule, inRange 800 2800 e.width = true) → r.widthOk = true) : FitIn m b t := by
  refine ⟨fun j => ?_, fun hx hb j => ?_, fun hd j hj => ?_, fun hd => ?_, fun hx => ⟨fun x hxt => ?_,
    hs (h.widths hx).schedule, ?_⟩⟩
  · rw [hq, hr, hh, ht]
    refine { h.seq j with slab := fun hd hl c hcy => ((h.seq j).slab hd hl c hcy).imp_left fun dest => ?_ }
    rw [destOf] at dest ⊢
    cases hf : s.tracker.table.find? fun x => x.tag == c.tag with
    | none => rw [hf] at dest; cases dest
    | some x =>
      rw [List.find?_append, hf]
      rwa [hf] at dest
  · rw [hr]
    exact h.retain hx hb j
  · rw [hq, hm] at hj
    exact (h.armed hd j hj).of_cfg hc
  · rw [ht, List.map_append, List.nodup_append]
    refine ⟨h.tags hd, List.nodup_singleton _, fun x hx y hy => ?_⟩
    obtain ⟨z, hz, rfl⟩ := List.mem_map.1 hx
    rw [List.map_singleton, List.mem_singleton] at hy
    rw [hy]
    exact free hd z hz
  · rw [ht] at hxt
    rcases List.mem_append.1 hxt with hxt | hxt
    · exact (h.widths hx).table x hxt
    · rw [List.mem_singleton.1 hxt]
      exact hw (h.widths hx).schedule
  · rw [MapsInOrder, hmap]
    exact (h.widths hx).maps

/-- R112: entries that take another state keep their widths. -/
theorem widths_map_state {l : List ScheduleEntry} (f : ScheduleEntry → ScheduleEntry) (hf : ∀ e, (f e).width = e.width)
    (h : ∀ e ∈ l, inRange 800 2800 e.width = true) : ∀ e ∈ l.map f, inRange 800 2800 e.width = true := by
  intro e he
  obtain ⟨e', he', rfl⟩ := List.mem_map.1 he
  rw [hf]
  exact h e' he'

theorem widths_setEntryState {l : List ScheduleEntry} (n : Nat) (st : EntryState)
    (h : ∀ e ∈ l, inRange 800 2800 e.width = true) : ∀ e ∈ setEntryState n st l, inRange 800 2800 e.width = true :=
  widths_map_state _ (fun e => by split <;> rfl) h

theorem widths_matchSchedule {l : List ScheduleEntry} (r : TableRecord) (h : ∀ e ∈ l, inRange 800 2800 e.width = true) :
    ∀ e ∈ matchSchedule r l, inRange 800 2800 e.width = true := by
  unfold matchSchedule
  split
  · exact h
  · exact widths_setEntryState _ _ h

/-- R88, R110: the widths of a created record. -/
theorem State.depositRecord_widthOk (id : Identity) (w th x : Int)
    (h : ∀ e ∈ s.schedule, inRange 800 2800 e.width = true) : (s.depositRecord id w th x).widthOk = true := by
  have measured : (figureInRange 800 2800 w).all (inRange 800 2800) = true := by
    unfold figureInRange
    split
    · exact ‹_›
    · rfl
  unfold State.depositRecord
  generalize s.freshTag = tag
  unfold matchRecord
  split
  · rw [TableRecord.widthOk, Bool.and_eq_true]
    exact ⟨measured, rfl⟩
  · rename_i e he
    rw [TableRecord.widthOk, Bool.and_eq_true]
    exact ⟨measured, h e (List.mem_of_find?_eq_some he)⟩

/-- The fresh tag is no record's. -/
theorem FreshTagFree.table (h : FreshTagFree s) : ∀ x ∈ s.tracker.table, x.tag ≠ s.freshTag := by
  intro x hx e
  have held : (s.tracker.table.any fun r => r.tag == s.freshTag) = true := List.any_eq_true.2 ⟨x, hx, by simpa using e⟩
  rw [FreshTagFree, State.tagHeld, held] at h
  cases h

theorem keepsFit_createRecord (id : Identity) (w th x : Int) (free : m.deep = true → FreshTagFree s) :
    KeepsFit m s (createRecord id w th x s) := by
  have made := createRecord_created id w th x s
  refine ⟨fun h => FitBut.fit (h.append (fun hd => ?_) made.table made.seqs (by rw [made.arb]) (by rw [made.arb])
    (by rw [made.arb]) made.cfg made.maps (by rw [made.schedule]; exact widths_matchSchedule _)
    (State.depositRecord_widthOk id w th x)) made.mode⟩
  rw [State.depositRecord_tag]
  exact (free hd).table

theorem keepsFit_acceptDeposit (h : Hdr) (id : Identity) (w th x : Int) (c : Crane)
    (free : m.deep = true → FreshTagFree s) : KeepsFit m s (acceptDeposit h id w th x c s) := by
  have made := acceptDeposit_deposited h id w th x c s
  refine ⟨fun f => FitBut.fit (f.append (fun hd => ?_) made.table made.seqs (by rw [made.arb]) (by rw [made.arb])
    (by rw [made.arb]) made.cfg made.maps (by rw [made.schedule]; exact widths_matchSchedule _)
    (State.depositRecord_widthOk id w th x)) made.mode⟩
  rw [State.depositRecord_tag]
  exact (free hd).table

/-! ### In flight (R67) -/

theorem deleteRecord_putInFlight (r : TableRecord) (k : Furnace) (f : Option InFlight) (s : State) :
    deleteRecord r (putInFlight k f s) = putInFlight k f (deleteRecord r s) := by
  unfold deleteRecord markReady
  split <;> rfl

theorem keepsFit_takeLifted (hs : (s.seqs.get k).state = .pick) : KeepsFit m s (takeLifted k s) := by
  unfold takeLifted
  split
  · exact .refl m s
  · rename_i c hc
    replace hc : (s.seqs.get k).cycle = some c := hc
    split
    · exact .refl m s
    · rename_i r hr
      obtain ⟨hmem, htag⟩ := State.findTag_some hr
      obtain ⟨d, hdelete⟩ := deleteRecord_due r s
      have seqs : (deleteRecord r s).seqs = s.seqs := by rw [hdelete]
      have same : (deleteRecord r s).seqs.get k = s.seqs.get k := by rw [seqs]
      dsimp only
      rw [deleteRecord_putInFlight]
      obtain ⟨n, lifted⟩ := (((SeqStep.start k (deleteRecord r s)).putInFlight
        (some (makeInFlight r c))).releaseHold.putSeqState .carry .none).startTimer .carry
      have step := lifted.quiet (untouched_send.evalPresence _).quiet
      rw [same, hc, Option.map_some] at step
      refine ⟨fun h => ?_⟩
      have left := h.delete r (exempt (fun _ => none) k (some c.tag)) fun hd j c' hl hc' => ⟨fun ht hdest => ?_,
        fun hn => by cases hn⟩
      · have fit : SeqFit m k s.retains (deleteRecord r s).tracker.table none
            { s.seqs.get k with
              state := .carry, waiting := .none, inflight := some (makeInFlight r c)
              cycle := some (c.timed ⟨.carry, n⟩) }
            ((deleteRecord r s).arb.requests.get k) false := by
          have f := h.seq k
          have free : (deleteRecord r s).arb.requests.get k = none := by
            rw [hdelete]
            exact f.request_none (by rw [hs]; decide) (.inr (by rw [hc]; rfl))
          have made (hw : m.wide = true) := f.computed hw (.inl (by rw [hs]; rfl))
          have ok := f.operands
          rw [hc, Option.bind_some] at made ok
          refine ⟨fun _ => .inl rfl, fun _ => rfl, fun hx => (by rcases hx with hx | hx <;> cases hx), fun _ _ _ => rfl,
            ?_, fun hx => (by rw [free] at hx; cases hx), fun w hw => ?_, fun _ hl => (by cases hl), fun _ => ?_,
            fun hw x hx => ?_, ok, fun hw _ => made hw⟩
          · rw [f.cause_none (by rw [hs]; decide)]
            exact ⟨fun hx => (by cases hx), fun hx => (by cases hx)⟩
          · obtain rfl := Option.some.inj hw
            rfl
          · simp
          · obtain rfl := Option.some.inj hx
            exact (h.widths hw).table r hmem
        have done := left.step step fit (fun _ _ => .inl (by rw [same, hs]; decide))
          (fun hst hb => left.retain hst hb k)
        rw [exempt_exempt, exempt_self] at done
        exact done.fit (step.mode.trans (by rw [hdelete]))
      · by_cases e : j = k
        · subst e
          rw [hc] at hc'
          obtain rfl := Option.some.inj hc'
          rw [exempt, if_pos rfl]
        · have own := ((h.seq k).slab hd (by rw [hs]; rfl) c hc).resolve_right (by simp)
          rw [ht, htag, own] at hdest
          exact absurd (Option.some.inj hdest).symm e

/-! ### Into the map (R9 to R11, R70, R75) -/

theorem FitBut.intoMap {link : Option Nat} {map : FurnaceMap} (h : FitIn m b s) (into : IntoMap k link map s t)
    (hm : m.wide = true → (s.map k).wf = true → map.wf = true) : FitIn m b t where
  seq j := by
    rw [into.table, into.seqs, into.arb]
    exact h.seq j
  retain hs hb j := by
    rw [into.arb]
    exact h.retain hs hb j
  armed hd j hj := by
    rw [into.seqs, into.arb] at hj
    exact (h.armed hd j hj).of_cfg into.cfg
  tags hd := by
    rw [into.table]
    exact h.tags hd
  widths hw := by
    refine ⟨by rw [into.table]; exact (h.widths hw).table, ?_, mapsInOrder_set (h.widths hw).maps into.maps (hm hw)⟩
    rw [into.schedule]
    cases link with
    | none => exact (h.widths hw).schedule
    | some n => exact fun e he => (h.widths hw).schedule e (List.mem_of_mem_filter he)

/-- A sequencer of LOWER that has handed its slab over: RETRACT. -/
theorem SeqFit.retract {l : List TableRecord} {v : Option Nat} {q : Sequencer} {req : Option PosRequest}
    {hold : Bool} (h : SeqFit m k b l v q req hold) (hs : q.state = .lower) (n : Nat) :
    SeqFit m k b l none { q with
      state := .retract, waiting := .none, inflight := none, cycle := q.cycle.map (CycleRecord.timed ⟨.retract, n⟩) }
      req hold where
  carried hx := by cases hx
  carrying hx := by rcases hx with hx | hx <;> cases hx
  empty hx := by rcases hx with hx | hx <;> cases hx
  running _ _ _ := by
    rw [Option.isSome_map]
    exact h.running (by rw [hs]; decide) (by rw [hs]; decide) (by rw [hs]; decide)
  cause := by
    rw [h.cause, hs]
    exact ⟨fun hx => (by cases hx), fun hx => (by cases hx)⟩
  request hx := by
    rw [h.request_none (by rw [hs]; decide)
      (.inr (h.running (by rw [hs]; decide) (by rw [hs]; decide) (by rw [hs]; decide)))] at hx
    cases hx
  timer w hw := by
    dsimp only at hw
    cases hc : q.cycle with
    | none => rw [hc] at hw; cases hw
    | some c =>
      rw [hc] at hw
      obtain rfl := Option.some.inj hw
      rfl
  slab _ hl := by cases hl
  holds hd := by
    rw [h.holds hd, hs]
    simp
  record _ f hf := by cases hf
  operands hw o ho := by
    refine h.operands hw o ?_
    dsimp only at ho
    cases hc : q.cycle with
    | none => rw [hc] at ho; cases ho
    | some c => rw [hc] at ho; exact ho
  computed _ hx := by rcases hx with hx | hx <;> cases hx

theorem keepsFit_takeLowered (hs : (s.seqs.get k).state = .lower) : KeepsFit m s (takeLowered k s) := by
  unfold takeLowered
  split
  · rename_i c f hc hf
    dsimp only
    have counted := (SeqStep.start k s).updateCycle (fun c => { c with measured := some (s.landingFront k) })
    have fit : KeepsFit m s (updateCycle k (fun c => { c with measured := some (s.landingFront k) }) s) :=
      keepsFit_updateCycle _ (fun _ => rfl) (fun _ => rfl) (fun _ _ hw => .inl hw)
    generalize updateCycle k (fun c => { c with measured := some (s.landingFront k) }) s = t at counted fit ⊢
    have state : (t.seqs.get k).state = .lower := by rw [counted.seq_eq]; exact hs
    split
    · exact fit.trans (keepsFit_enterHeld k _ _ ⟨by rw [state]; decide, by rw [state]; decide⟩)
    · rename_i u h
      refine fit.trans ⟨fun ht => ?_⟩
      obtain ⟨d, hd, rfl⟩ := Option.map_eq_some_iff.1 h
      have into := completeLanding_intoMap k f
        (slabFrom f c.operands (some (landingDeviation c (s.landingFront k))) t.ret.clock)
        (landingDeviation c (s.landingFront k)) d t
      have landed := ht.intoMap into fun hw hm => by
        refine FurnaceMap.wf_land hm hd ?_
        have operands : (t.seqs.get k).cycle.bind CycleRecord.operands = c.operands := by
          have hc : (s.seqs.get k).cycle = some c := hc
          rw [counted.seq_eq]
          dsimp only
          rw [hc]
          rfl
        obtain ⟨o, ho⟩ := Option.isSome_iff_exists.1 ((ht.seq k).computed hw (.inl (by rw [state]; rfl)))
        have ok := (ht.seq k).operands hw o ho
        rw [operands] at ho
        rw [slabFrom, ho]
        exact ok
      generalize completeLanding k f _ _ d t = v at into landed ⊢
      obtain ⟨n, retract⟩ := (((SeqStep.start k v).putInFlight none).putSeqState .retract .none).startTimer .retract
      have state : (v.seqs.get k).state = .lower := by rw [into.seqs]; exact state
      exact (landed.plainStep retract ((landed.seq k).retract state n) (fun _ _ => .inl (by rw [state]; decide))
        (fun hst hb => landed.retain hst hb k)).fit (retract.mode.trans into.mode)
  · exact .refl m s

/-- R75: the sequencer after a resolution. -/
theorem keepsFit_afterResolution (hs : (s.seqs.get k).state = .held) : KeepsFit m s (afterResolution k s) := by
  have gone := ((SeqStep.start k s).putInFlight none).quiet (Quiet.markGrid _)
  have fit : KeepsFit m s (markGrid (putInFlight k none s)) := by
    refine gone.keepsFit_same (fun h => ?_) id
    have f := h.seq k
    exact ⟨fun hx => (by cases hx), fun hx => (by rcases hx with hx | hx <;> rw [hs] at hx <;> cases hx), f.empty, f.running,
      f.cause, f.request, f.timer, f.slab, f.holds, fun _ x hx => (by cases hx), f.operands,
      fun _ hx => (by rw [hs] at hx; rcases hx with hx | hx <;> cases hx)⟩
  have state : ((markGrid (putInFlight k none s)).seqs.get k).state = .held := by rw [gone.seq_eq]; exact hs
  unfold afterResolution
  dsimp only
  split
  · exact fit.trans (keepsFit_enterIdle k (fun _ => by rw [gone.seq_eq]) (by rw [state]; decide)
      (.inl (by rw [state]; decide)))
  · exact fit

theorem keepsFit_resolveLanded {f : InFlight} (front : Int) (hf : (s.seqs.get k).unresolved = some f)
    (hc : insertChecks front (resolutionWidth f (s.finalOperands k)) (s.map k) = .ok ()) :
    KeepsFit m s (afterResolution k (resolutionInsert k f (s.finalOperands k) front s)) := by
  have held : (s.seqs.get k).state = .held ∧ (s.seqs.get k).inflight = some f := by
    unfold Sequencer.unresolved at hf
    split at hf
    · exact ⟨‹_›, hf⟩
    · cases hf
  have into := resolutionInsert_intoMap k f (s.finalOperands k) front s
  refine KeepsFit.trans (b := resolutionInsert k f (s.finalOperands k) front s) ⟨fun h => ?_⟩
    (keepsFit_afterResolution (by rw [into.seqs]; exact held.1))
  refine (h.intoMap into fun hw hm => ?_).fit into.mode
  refine FurnaceMap.wf_insert (x := slabFrom f (s.finalOperands k) none s.ret.clock) hm ?_ hc rfl
  obtain ⟨o, ho⟩ := Option.isSome_iff_exists.1 ((h.seq k).computed hw (.inr (by rw [held.2]; rfl)))
  have ok := (h.seq k).operands hw o ho
  have final : s.finalOperands k = some o := ho
  rw [slabFrom, final]
  exact ok

end Sys2Proof.Machine
end

section
/-! Every event and every step keep the condition on the sequencers, the table list and the maps. -/

namespace Sys2Proof.Machine

variable {m : Marks} {b : Bool} {gone : Furnace → Option Nat} {k : Furnace} {s t : State}

/-! ### A slab that is taken away (R76, R106) -/

/-- The exemption of a slab that is not the cycle's falls away. -/
theorem FitBut.notPositioned {tag : Nat} (h : FitBut m b gone s) (hg : gone k = some tag)
    (hp : s.positionedFor k tag = false) : FitBut m b (exempt gone k none) s := by
  refine h.step (SeqStep.start k s) { h.seq k with slab := fun hd hl c hc => ?_ } (fun _ ho => .inl ho)
    (fun hs hb => h.retain hs hb k)
  refine .inl (((h.seq k).slab hd hl c hc).resolve_right fun e => ?_)
  rw [hg] at e
  obtain rfl := Option.some.inj e
  unfold State.positionedFor State.cycle State.seq at hp
  rw [hc] at hp
  revert hl hp
  cases (s.seqs.get k).state <;> simp [SeqState.listed]

theorem FitBut.takeRemovedSlab (h : FitBut m b gone s) (hl : (s.seqs.get k).state.listed = true) :
    FitBut m b (exempt gone k none) (takeRemovedSlab k s) ∧ (takeRemovedSlab k s).ret.mode = s.ret.mode := by
  have on (hs : (s.seqs.get k).state ≠ .offline) (_ : m.deep = true) : (s.seqs.get k).state ≠ .offline ∨ Geared s k :=
    .inl hs
  unfold Machine.takeRemovedSlab
  split
  · rename_i hs
    replace hs : (s.seqs.get k).state = .positioning := hs
    exact ⟨h.enterHeld ((SeqStep.start k s).abandonMove .slabRemoved) _ none none (.inr rfl) (fun hr => by cases hr)
      (on (by rw [hs]; decide)), (keepsCounters_blockClosed.trans
        (keepsCounters_blockClosed.abandonMove k .slabRemoved s) (keepsCounters_blockClosed.enterHeld k _ none _)).mode⟩
  · rename_i hs
    replace hs : (s.seqs.get k).state = .room := hs
    exact ⟨h.enterHeld (SeqStep.start k s) _ none none (.inl (by rw [hs]; decide)) id (on (by rw [hs]; decide)),
      (keepsCounters_blockClosed.enterHeld k _ none s).mode⟩
  · rename_i hs
    replace hs : (s.seqs.get k).state = .pick := hs
    exact ⟨h.enterHeld ((SeqStep.start k s).quiet (untouched_send.sendChargerStop k .slabRemoved s).quiet) _ none none
      (.inl (by rw [hs]; decide)) id (on (by rw [hs]; decide)), (keepsCounters_blockClosed.trans
        (keepsCounters_blockClosed.sendChargerStop k .slabRemoved s)
        (keepsCounters_blockClosed.enterHeld k _ none _)).mode⟩
  · rename_i h1 h2 h3
    rw [State.seq] at h1 h2 h3
    revert hl h1 h2 h3
    cases (s.seqs.get k).state <;> simp [SeqState.listed]

theorem FitBut.handRemoval {tag : Nat} (h : FitBut m b gone s) (hg : gone k = some tag) :
    FitBut m b (exempt gone k none) (handRemoval k tag s) ∧ (handRemoval k tag s).ret.mode = s.ret.mode := by
  unfold Machine.handRemoval
  split
  · rename_i hp
    refine h.takeRemovedSlab ?_
    unfold State.positionedFor State.seq at hp
    revert hp
    cases (s.seqs.get k).state <;> simp [SeqState.listed]
  · exact ⟨h.notPositioned hg (Bool.eq_false_iff.2 ‹_›), rfl⟩

theorem Calm.setSchedule {l : List ScheduleEntry} (h : (∀ e ∈ s.schedule, inRange 800 2800 e.width = true) →
    ∀ e ∈ l, inRange 800 2800 e.width = true) : Calm s (s.setSchedule l) :=
  ⟨rfl, rfl, rfl, fun _ _ => id, .refl _, fun _ g => g.of_cfg rfl, id, h, rfl⟩

theorem Calm.revertLink (l : Option Nat) (s : State) : Calm s (revertLink l s) := by
  cases l with
  | none => exact .refl s
  | some n => exact .setSchedule (widths_setEntryState n .planned)

theorem keepsFit_takeRemoval (id : Identity) (s : State) : KeepsFit m s (takeRemoval id s) := by
  unfold takeRemoval
  split
  · exact .refl m s
  · rename_i r _
    refine ⟨fun h => ?_⟩
    obtain ⟨d, e⟩ := deleteRecord_due r s
    have left : FitBut m s.retains (fun _ => some r.tag) (deleteRecord r s) :=
      h.delete r _ fun _ _ _ _ _ => ⟨fun ht _ => by rw [ht], fun hn => by cases hn⟩
    have mode : (deleteRecord r s).ret.mode = s.ret.mode := by rw [e]
    have reverted := Calm.revertLink r.link (deleteRecord r s)
    have first := (left.calm reverted).handRemoval (k := .f1) rfl
    have second := first.1.handRemoval (k := .f2) (tag := r.tag) rfl
    have none : exempt (exempt (fun _ => some r.tag) .f1 none) .f2 none = fun _ => Option.none := by
      funext j
      cases j <;> rfl
    rw [none] at second
    have seen := untouched_send.evalPresence (handRemoval .f2 r.tag (handRemoval .f1 r.tag
      (revertLink r.link (deleteRecord r s))))
    exact (second.1.calm seen.quiet.calm).fit
      (seen.mode.trans (second.2.trans (first.2.trans (reverted.mode.trans mode))))

/-! ### The modes (R109, R199, R202, R204, R205) -/

/-- Sequencers OFFLINE, an empty list, empty maps and a table that is STILL. -/
theorem fit_of_empty (hq : t.seqs = ⟨.offline, .offline⟩) (ht : t.tracker.table = []) (hm : t.maps = ⟨.empty, .empty⟩)
    (hr : t.arb.requests = ⟨none, none⟩) (hh : t.arb.holds = ⟨false, false⟩) (hs : t.arb.motion = .still)
    (hl : m.wide = true → ∀ e ∈ t.schedule, inRange 800 2800 e.width = true) : Fit m t := by
  refine ⟨fun k => ?_, fun _ _ k => by rw [hr]; cases k <;> rfl, fun _ k hk => ?_, fun _ => by rw [ht]; exact .nil,
    fun hw => ⟨fun r hx => (by rw [ht] at hx; cases hx), hl hw, by rw [MapsInOrder, hm]; decide⟩⟩
  · have seq : t.seqs.get k = .offline := by rw [hq]; cases k <;> rfl
    have request : t.arb.requests.get k = none := by rw [hr]; cases k <;> rfl
    have hold : t.arb.holds.get k = false := by rw [hh]; cases k <;> rfl
    rw [seq, request, hold]
    refine ⟨fun h => (by cases h), fun h => (by rcases h with h | h <;> cases h), fun _ => rfl,
      fun _ h => absurd rfl h, ⟨fun h => (by cases h), fun h => (by cases h)⟩, fun h => (by cases h),
      fun w h => (by cases h), fun _ h => (by cases h), fun _ => ⟨fun h => (by cases h), fun h => ?_⟩,
      fun _ f h => (by cases h), fun _ o h => (by cases h), fun _ h => (by rcases h with h | h <;> cases h)⟩
    rcases h.2 with h | h <;> cases h
  · rw [hs] at hk
    rcases hk with hk | ⟨n, hn⟩
    · have offline : t.seqs.get k = .offline := by rw [hq]; cases k <;> rfl
      rw [offline] at hk
      exact absurd rfl hk
    · cases hn

/-- R109: in RETAIN the table is STILL, with no holds and no requests. -/
theorem FitBut.retained (h : FitIn m b s) (ht : t.tracker.table = s.tracker.table) (hq : t.seqs = s.seqs)
    (ha : t.arb = { Arbiter.cold with nextMove := s.arb.nextMove }) (hc : t.cfg = s.cfg) (hm : t.maps = s.maps)
    (hs : t.schedule = s.schedule) : FitIn m true t := by
  refine ⟨fun j => ?_, fun _ _ j => by rw [ha]; cases j <;> rfl, fun hd j hj => ?_, fun hd => by rw [ht]; exact h.tags hd,
    fun hw => ⟨by rw [ht]; exact (h.widths hw).table, by rw [hs]; exact (h.widths hw).schedule,
      by rw [MapsInOrder, hm]; exact (h.widths hw).maps⟩⟩
  · have request : t.arb.requests.get j = none := by rw [ha]; cases j <;> rfl
    have hold : t.arb.holds.get j = false := by rw [ha]; cases j <;> rfl
    rw [ht, hq, request, hold]
    exact { h.seq j with request := fun hr => (by cases hr), holds := fun _ => by simp }
  · rw [hq, ha] at hj
    refine (h.armed hd j (.inl ?_)).of_cfg hc
    rcases hj with hj | ⟨n, hn⟩
    · exact hj
    · cases hn

theorem Quiet.darken (k : Furnace) (s : State) : Quiet s (darken k s) := by
  unfold Machine.darken
  split
  · exact .setWindows ..
  · exact .refl s

theorem keepsFit_enterRetain (s : State) : KeepsFit m s (enterRetain s) := by
  refine ⟨fun h => ?_⟩
  have sent := untouched_send.raise (.modeChanged s.ret.mode .retain s.ret.startKind) (putMode .retain s)
  have dropped (v : State) : ∃ w : State, Untouched w (dropMotion v) ∧ w.tracker = v.tracker ∧ w.seqs = v.seqs
      ∧ w.arb = { Arbiter.cold with nextMove := v.arb.nextMove } ∧ w.cfg = v.cfg ∧ w.maps = v.maps
      ∧ w.schedule = v.schedule ∧ w.ret = v.ret := by
    refine ⟨(v.setGrid { v.grid with grant := none, queue := [] }).setArb
      { Arbiter.cold with nextMove := v.arb.nextMove }, ?_, rfl, rfl, rfl, rfl, rfl, rfl, rfl⟩
    unfold dropMotion
    dsimp only
    split
    · exact untouched_send.evalPresence _
    · exact .refl _
  unfold enterRetain changeMode changePorts
  generalize raise (.modeChanged s.ret.mode .retain s.ret.startKind) (putMode .retain s) = u at sent ⊢
  obtain ⟨w, seen, hx, hq, ha, hc, hm, hs, hret⟩ := dropped (stopStatusTimer (u.setLinks { u.links with
    plant := u.links.plant.retained, yard := u.links.yard.retained }))
  have fit : FitIn m true w := h.retained ((congrArg Tracker.table hx).trans sent.table) (hq.trans sent.seqs)
    (ha.trans (congrArg (fun a : Arbiter => { Arbiter.cold with nextMove := a.nextMove }) sent.arb))
    (hc.trans sent.cfg) (hm.trans sent.maps) (hs.trans sent.schedule)
  have mode : w.ret.mode = .retain := (congrArg Retention.mode hret).trans sent.mode
  have rest := seen.quiet.trans ((Quiet.darken .f1 _).trans (Quiet.darken .f2 _))
  have done := fit.calm rest.calm
  have retains : State.retains (darken .f2 (darken .f1 (dropMotion (stopStatusTimer (u.setLinks { u.links with
      plant := u.links.plant.retained, yard := u.links.yard.retained }))))) = true := by
    rw [State.retains, rest.mode, mode]
    rfl
  rw [Fit, retains]
  exact done

/-- R202: a sequencer as the return of main supply leaves it: not in POSITIONING, ROOM or PICK. -/
theorem FitBut.restoreSequencer (h : FitIn m true s) (k : Furnace) :
    FitIn m true (restoreSequencer k s) ∧ (restoreSequencer k s).ret.mode = s.ret.mode
      ∧ ((restoreSequencer k s).seqs.get k).state.listed = false
      ∧ (restoreSequencer k s).seqs.get (otherFurnace k) = s.seqs.get (otherFurnace k) := by
  have other (q : Sequencer) (req : Option PosRequest) (hold : Bool) (t : State) (c : SeqStep k q req hold s t) :
      t.seqs.get (otherFurnace k) = s.seqs.get (otherFurnace k) := by rw [c.seqs, PerFurnace.get_set_other]
  have same (hs : (s.seqs.get k).state.listed = false) : FitIn m true s ∧ s.ret.mode = s.ret.mode
      ∧ (s.seqs.get k).state.listed = false ∧ s.seqs.get (otherFurnace k) = s.seqs.get (otherFurnace k) :=
    ⟨h, rfl, hs, rfl⟩
  have idle (hs : (s.seqs.get k).state = .positioning ∨ (s.seqs.get k).state = .room
      ∨ (s.seqs.get k).state = .retract) : FitIn m true (Machine.enterIdle k s)
        ∧ (Machine.enterIdle k s).ret.mode = s.ret.mode
        ∧ ((Machine.enterIdle k s).seqs.get k).state.listed = false
        ∧ (Machine.enterIdle k s).seqs.get (otherFurnace k) = s.seqs.get (otherFurnace k) := by
    have step := (SeqStep.start k s).enterIdle
    refine ⟨h.enterIdle (SeqStep.start k s) (h.inflight_none ?_ ?_ ?_) ?_ id fun _ => .inl ?_, step.mode,
      by rw [step.seq_eq]; rfl, other _ _ _ _ step⟩
    · rcases hs with hs | hs | hs <;> rw [hs] <;> decide
    · rcases hs with hs | hs | hs <;> rw [hs] <;> decide
    · rcases hs with hs | hs | hs <;> rw [hs] <;> decide
    · cases hm : m.strict with
      | false => exact .inr (.inr rfl)
      | true => exact .inr (.inl (h.retain hm rfl k))
    · rcases hs with hs | hs | hs <;> rw [hs] <;> decide
  have held (hs : (s.seqs.get k).state = .pick ∨ (s.seqs.get k).state = .carry ∨ (s.seqs.get k).state = .lower
      ∨ (s.seqs.get k).state = .retract) : FitIn m true (Machine.enterHeld k .restored none s)
        ∧ (Machine.enterHeld k .restored none s).ret.mode = s.ret.mode
        ∧ ((Machine.enterHeld k .restored none s).seqs.get k).state.listed = false
        ∧ (Machine.enterHeld k .restored none s).seqs.get (otherFurnace k) = s.seqs.get (otherFurnace k) := by
    obtain ⟨r, step, -⟩ := (SeqStep.start k s).enterHeld .restored none
    have fit := h.enterHeld (SeqStep.start k s) .restored none none
      (.inl (by rcases hs with hs | hs | hs | hs <;> rw [hs] <;> decide)) id
      (fun _ => .inl (by rcases hs with hs | hs | hs | hs <;> rw [hs] <;> decide))
    rw [exempt_self] at fit
    exact ⟨fit, step.mode, by rw [step.seq_eq]; rfl, other _ _ _ _ step⟩
  unfold Machine.restoreSequencer State.seq
  split
  · exact same (by rw [‹(s.seqs.get k).state = _›]; rfl)
  · exact same (by rw [‹(s.seqs.get k).state = _›]; rfl)
  · exact same (by rw [‹(s.seqs.get k).state = _›]; rfl)
  · exact idle (.inl ‹_›)
  · exact idle (.inr (.inl ‹_›))
  · exact held (.inl ‹_›)
  · exact held (.inr (.inl ‹_›))
  · exact held (.inr (.inr (.inl ‹_›)))
  · split
    · exact idle (.inr (.inr ‹_›))
    · exact held (.inr (.inr (.inr ‹_›)))

/-- R109, R202: out of RETAIN, no charger hold stands yet. -/
theorem FitBut.leaveRetain (h : FitIn m true s) (hs : ∀ k, (s.seqs.get k).state.listed = false) : FitIn m false s := by
  refine ⟨fun k => { h.seq k with holds := fun hd => ?_ }, fun _ hb => (by cases hb), h.armed, h.tags, h.widths⟩
  have off := (h.seq k).holds hd
  have out := hs k
  rw [off]
  revert out
  cases (s.seqs.get k).state <;> simp [SeqState.listed]

theorem FitBut.setRet (h : FitBut m b gone s) (v : Retention) : FitBut m b gone (s.setRet v) :=
  ⟨h.seq, h.retain, fun hd k hk => (h.armed hd k hk).of_cfg rfl, h.tags,
    fun hw => ⟨(h.widths hw).table, (h.widths hw).schedule, (h.widths hw).maps⟩⟩

theorem Quiet.setLinks (s : State) (v : Links) : Quiet s (s.setLinks v) :=
  ⟨rfl, rfl, rfl, fun _ _ => id, .refl _, rfl, rfl, rfl, rfl⟩

theorem Quiet.restoreHold (tag : Option Nat) (s : State) : Quiet s (restoreHold tag s) := by
  unfold Machine.restoreHold
  split
  · exact .refl s
  · exact (Quiet.updateRecord _ (f := fun x => { x with state := .held .tracking })
      (fun _ => ⟨rfl, rfl, rfl, rfl⟩) s).trans (untouched_send.raise _ _).quiet

theorem Quiet.loseSupervision (s : State) : Quiet s (loseSupervision s) := by
  unfold Machine.loseSupervision
  split
  · exact .refl s
  · exact (untouched_send.takeSupervisionExpiry _ s).quiet

/-- R202: RESTORED, before the sequencers take their states. -/
theorem FitBut.restored (h : FitIn m true s) :
    FitIn m true (changePorts PortState.restored (changeMode .restored (putStart .restored s)))
      ∧ (changePorts PortState.restored (changeMode .restored (putStart .restored s))).ret.mode = .restored := by
  have fit : FitIn m true (putMode .restored (putStart .restored s)) := (h.setRet _).setRet _
  have sent := untouched_send.raise (.modeChanged (putStart .restored s).ret.mode .restored
    (putStart .restored s).ret.startKind) (putMode .restored (putStart .restored s))
  unfold changeMode changePorts
  generalize raise _ _ = u at sent ⊢
  have linked := sent.quiet.trans (Quiet.setLinks u { u.links with
    plant := u.links.plant.restored, yard := u.links.yard.restored })
  exact ⟨fit.calm linked.calm, linked.mode⟩

theorem keepsFit_enterRestored (hm : s.ret.mode = .retain) : KeepsFit m s (enterRestored s) := by
  refine ⟨fun h => ?_⟩
  have retains : s.retains = true := by
    rw [State.retains, hm]
    rfl
  rw [Fit, retains] at h
  obtain ⟨entry, mode⟩ := h.restored
  unfold enterRestored
  dsimp only
  generalize changePorts PortState.restored (changeMode .restored (putStart .restored s)) = u at entry mode ⊢
  obtain ⟨fit1, mode1, out1, -⟩ := entry.restoreSequencer .f1
  obtain ⟨fit2, mode2, out2, same2⟩ := fit1.restoreSequencer .f2
  have left := fit2.leaveRetain fun k => by
    cases k with
    | f1 =>
      have same : (restoreSequencer .f2 (restoreSequencer .f1 u)).seqs.get .f1 = _ := same2
      rw [same]
      exact out1
    | f2 => exact out2
  generalize restoreSequencer .f2 (restoreSequencer .f1 u) = v at left mode2 ⊢
  have rest := (Quiet.restoreHold (pickedTag s .f1) v).trans ((Quiet.restoreHold (pickedTag s .f2) _).trans
    (Quiet.loseSupervision _))
  have done := left.calm rest.calm
  have running : State.retains (loseSupervision (restoreHold (pickedTag s .f2) (restoreHold (pickedTag s .f1) v))) = false := by
    rw [State.retains, rest.mode, mode2, mode1, mode]
    rfl
  rw [Fit, running]
  exact done

/-! ### The schedule (R110, R114 to R117) -/

section
variable {l l' : List ScheduleEntry}

theorem addEntry_mem {held : Identity → Bool} {e x : ScheduleEntry} (ok : addEntry held e l = .ok l') (h : x ∈ l') :
    x = e ∨ x ∈ l := by
  unfold addEntry at ok
  split at ok
  · cases ok
  · split at ok
    · cases ok
    · split at ok
      · cases ok
      · obtain rfl := Except.ok.inj ok
        exact (mem_insertEntry ..).1 h

/-- R115: the width of a new entry lies in its range. -/
theorem newEntry_width {n : Nat} {id : Identity} {d : Option (Code SchedDest)} {g : Option Nat} {w len th : Option Int}
    {e : ScheduleEntry} (ok : newEntryFields n id d g w len th = .ok ()) (he : newEntry n id d g w len th = some e) :
    inRange 800 2800 e.width = true := by
  have ranges : figuresInRange g w len th = true := by
    unfold newEntryFields at ok
    split at ok
    · cases ok
    · split at ok
      · cases ok
      · split at ok
        · cases ok
        · split at ok
          · cases ok
          · simpa using ‹¬(!figuresInRange g w len th) = true›
  unfold newEntry at he
  split at he
  · obtain rfl := Option.some.inj he
    simp only [figuresInRange, Bool.and_eq_true] at ranges
    exact ranges.1.1.2
  · cases he

theorem scheduleOp_widths {held : Identity → Bool} {op : SchedOp}
    (h : ∀ e ∈ l, inRange 800 2800 e.width = true) (ok : scheduleOp held op l = .ok l') :
    ∀ e ∈ l', inRange 800 2800 e.width = true := by
  have added {e : ScheduleEntry} (he : inRange 800 2800 e.width = true) (ok : addEntry held e l = .ok l') :
      ∀ x ∈ l', inRange 800 2800 x.width = true := fun x hx => by
    rcases addEntry_mem ok hx with rfl | hx
    · exact he
    · exact h x hx
  unfold scheduleOp at ok
  split at ok
  · split at ok
    · cases ok
    · split at ok
      · cases ok
      · have width := newEntry_width ‹_› ‹_›
        unfold appendEntry at ok
        split at ok
        · exact added width ok
        · split at ok
          · exact added width ok
          · cases ok
  · split at ok
    · cases ok
    · split at ok
      · cases ok
      · have width := newEntry_width ‹_› ‹_›
        unfold insertNewEntry at ok
        split at ok
        · cases ok
        · exact added width ok
  · split at ok
    · cases ok
    · unfold deleteEntry at ok
      split at ok
      · cases ok
      · obtain rfl := Except.ok.inj ok
        exact fun e he => h e (List.mem_of_mem_filter he)
  · rename_i q d g w len th _
    split at ok
    · cases ok
    · split at ok
      · cases ok
      · split at ok
        · cases ok
        · rename_i ranges
          have width : rangeWhereGiven 800 2800 w = true := by
            rw [Bool.not_eq_true, Bool.not_eq_false'] at ranges
            simp only [figuresInRange, Bool.and_eq_true] at ranges
            exact ranges.1.1.2
          unfold modifyEntry at ok
          split at ok
          · cases ok
          · split at ok
            · cases ok
            · obtain rfl := Except.ok.inj ok
              intro e he
              obtain ⟨e', he', rfl⟩ := List.mem_map.1 he
              split
              · cases w with
                | none => exact h e' he'
                | some x => exact width
              · exact h e' he'
  · cases ok

theorem scheduleOps_widths {held : Identity → Bool} {ops : List SchedOp} {i : Nat}
    (h : ∀ e ∈ l, inRange 800 2800 e.width = true) (ok : scheduleOps held i ops l = .ok l') :
    ∀ e ∈ l', inRange 800 2800 e.width = true := by
  induction ops generalizing i l with
  | nil =>
    obtain rfl := Except.ok.inj ok
    exact h
  | cons op ops ih =>
    unfold scheduleOps at ok
    split at ok
    · cases ok
    · exact ih (scheduleOp_widths h ‹_›) ok

end

end Sys2Proof.Machine
end

section
/-! The condition over every step; the statements on the sequencers (R48, R50, R53, R55, R57, R58, R61, R101, R109) and
on the order of the maps (R3, R4, R6, R84). -/

namespace Sys2Proof.Machine

variable {m : Marks} {s t : State}

theorem Quiet.of_same (hq : t.seqs = s.seqs) (ha : t.arb = s.arb) (ht : t.tracker.table = s.tracker.table)
    (hc : t.cfg = s.cfg) (hm : t.maps = s.maps) (hs : t.schedule = s.schedule) (hr : t.ret.mode = s.ret.mode) :
    Quiet s t := ⟨hq, by rw [ha], by rw [ha], by rw [ha]; exact fun _ _ => id, .of_eq ht, hc, hm, hs, hr⟩

/-- An update of the arbiter that leaves the requests and the holds, and wants no move that was not wanted. -/
theorem keepsFit_setArb {a : Arbiter} (hr : a.requests = s.arb.requests) (hh : a.holds = s.arb.holds)
    (hm : ∀ j n, a.motion = .positioning j n true → s.arb.motion = .positioning j n true) :
    KeepsFit m s (s.setArb a) := .quiet ⟨rfl, hr, hh, hm, .refl _, rfl, rfl, rfl, rfl⟩

/-- A map that stays in order. -/
theorem keepsFit_setMap (k : Furnace) {map : FurnaceMap} (h : (s.map k).wf = true → map.wf = true) :
    KeepsFit m s (s.setMap k map) :=
  .calm ⟨rfl, rfl, rfl, fun _ _ => id, .refl _, fun _ g => g.of_cfg rfl, fun hm => mapsInOrder_set hm rfl h, id, rfl⟩

theorem keepsFit_send : SendClosed (KeepsFit m) where
  refl := .refl m
  trans := .trans
  sendOwn _ _ _ _ _ := .quiet (untouched_send.sendOwn ..).quiet
  holdEvent _ _ := .quiet (untouched_send.holdEvent ..).quiet
  forwardTo _ _ _ := .quiet (untouched_send.forwardTo ..).quiet
  setMgmt _ _ := .quiet (untouched_send.setMgmt ..).quiet
  setWatch _ _ _ := .quiet (untouched_send.setWatch ..).quiet

theorem keepsFit_setSchedule {l : List ScheduleEntry} (h : (∀ e ∈ s.schedule, inRange 800 2800 e.width = true) →
    ∀ e ∈ l, inRange 800 2800 e.width = true) : KeepsFit m s (s.setSchedule l) := .calm (.setSchedule h)

theorem keepsFit_map : MapClosed (fun _ => True) (KeepsFit m) where
  toSendClosed := keepsFit_send
  stableD _ := id
  setPlace _ _ := .quiet (.setPlace ..)
  setDue _ _ := .quiet (.setDue ..)
  shiftMap s k len rows h := keepsFit_setMap k fun hm => FurnaceMap.wf_shift hm h
  removeSlab s k l i := keepsFit_setMap k fun hm => FurnaceMap.wf_remove hm rfl
  moveRow s k i r front o hr hf := keepsFit_setMap k fun hm => FurnaceMap.wf_move hm hr hf rfl
  insertSlab s k front id w len th g x clock o _ _ hr hc := by
    generalize s.freshTag = tag
    have taken : KeepsFit m s (takeTag tag s) := .quiet (.of_same rfl rfl rfl rfl rfl rfl rfl)
    refine taken.trans (keepsFit_setMap k fun hm => ?_)
    exact FurnaceMap.wf_insert (x := insertedSlab tag id w len th g x clock) hm (insertRangesOk_width hr) hc rfl
  removePlanned _ _ := keepsFit_setSchedule fun h e he => h e (List.mem_of_mem_filter he)

/-- What a created record may rely on: where the slabs of the cycles are asked for, a fresh tag that is not held. -/
def TagFree (m : Marks) (s : State) : Prop := m.deep = true → FreshTagFree s

theorem keepsFit_event : EventClosed (TagFree m) (fun _ => True) (KeepsFit m) where
  toMapClosed := keepsFit_map
  stableC h free hd := (free hd).stable h
  setWindows _ _ := .quiet (.setWindows ..)
  setCounters _ _ := .quiet (.of_same rfl rfl rfl rfl rfl rfl rfl)
  setSensors _ _ := .quiet (.of_same rfl rfl rfl rfl rfl rfl rfl)
  clearFlags _ _ := .quiet (.of_same rfl rfl rfl rfl rfl rfl rfl)
  setQueue _ _ _ := .quiet (.of_same rfl rfl rfl rfl rfl rfl rfl)
  overdue _ _ _ := .quiet (.of_same rfl rfl rfl rfl rfl rfl rfl)
  grantMade s g q _ _ := .trans (b := s.setArb { s.arb with gridHold := some g.crane })
    (keepsFit_setArb rfl rfl fun _ _ => id) (.quiet (.of_same rfl rfl rfl rfl rfl rfl rfl))
  grantEnded s := .trans (b := s.setGrid { s.grid with grant := none })
    (.quiet (.of_same rfl rfl rfl rfl rfl rfl rfl)) (keepsFit_setArb rfl rfl fun _ _ => id)
  revertLink l s := .calm (.revertLink l s)
  editSchedule _ _ _ _ ok := keepsFit_setSchedule fun h => scheduleOps_widths h ok
  editRecord s tag f h := .quiet (.updateRecord tag (fun r => (h r).alike) s)
  moveHead s i r x travel _ _ _ := .quiet (.updateRecord r.tag (fun _ => by cases i <;> exact ⟨rfl, rfl, rfl, rfl⟩) s)
  rejectSlab s tag hp := keepsFit_updateRecord hp (fun _ h => h) fun hw r hr => hw r hr
  acceptSlab s r w len th g d _ hr hp ok := keepsFit_acceptSlab hr hp ok
  createRecord s id w th x hC _ _ _ := keepsFit_createRecord id w th x hC
  acceptDeposit s h id w th x c hC _ := keepsFit_acceptDeposit h id w th x c hC
  deleteRecord s r hp := keepsFit_deleteRecord hp
  takeRemoval s id := keepsFit_takeRemoval id s
  showWaiting := keepsFit_showWaiting
  beginCycle s k r p hs hm _ hr := keepsFit_beginCycle k r p hs hm hr
  checkedRequest s k q st hq _ _ := keepsFit_checkedRequest st hq
  grantMove s k _ _ _ _ _ _ := .of_block (keepsCounters_blockClosed.grantMove k s).toKeepsRecords FitBut.grantMove
  becomeStill _ := keepsFit_setArb rfl rfl fun _ _ h => by cases h
  moveEnded s k _ _ := .of_block (keepsCounters_blockClosed.moveEnded k s).toKeepsRecords FitBut.moveEnded
  moveFailed s k _ hm := .of_block (keepsCounters_blockClosed.moveFailed k s).toKeepsRecords fun h => h.moveFailed hm
  startManual _ _ := keepsFit_setArb rfl rfl fun _ _ h => by cases h
  enterHeld s k x f hs := keepsFit_enterHeld k x f hs
  timedOut s k w x hw hp := keepsFit_timedOut k w x hw hp
  abandonHeld s k x reason hs := keepsFit_abandonHeld k x reason hs
  abandonIdle s k reason hs := keepsFit_abandonIdle k reason hs
  toIdle s k hs := keepsFit_toIdle k hs
  arm s k hs hg ht := keepsFit_enterIdle k
    (fun h => h.inflight_none (by rw [hs]; decide) (by rw [hs]; decide) (by rw [hs]; decide))
    (by rw [hs]; decide) (.inr ⟨hg, ht⟩)
  release s k hs hi := keepsFit_enterIdle k (fun _ => hi) (by rw [hs]; decide) (.inl (by rw [hs]; decide))
  disarm s k hs := keepsFit_disarm k hs
  resolveLanded s k f front hf _ hc := keepsFit_resolveLanded front hf hc
  resolveRemoved s k hs := keepsFit_afterResolution hs
  takeLifted s k hs := keepsFit_takeLifted hs
  takeAtDepth s k hs := keepsFit_takeAtDepth k hs
  takeLowered s k hs := keepsFit_takeLowered hs
  runFinal s k hs := keepsFit_runFinal k hs
  countStroke s k n _ := keepsFit_countStroke n
  stopTimer s k := keepsFit_stopTimer k s
  strokeTimer s k hs := keepsFit_startTimer .stroke hs
  enterRetain s _ := keepsFit_enterRetain s
  enterRestored s hm := keepsFit_enterRestored hm
  clearHeldList _ := .quiet (.of_same rfl rfl rfl rfl rfl rfl rfl)
  resumeMode s hm := ⟨fun h => by
    have retains : s.retains = false := by
      rw [State.retains, hm]
      rfl
    rw [Fit, retains] at h
    exact FitBut.setRet h _⟩
  revertAll _ := keepsFit_setSchedule (widths_map_state _ fun _ => rfl)
  clearTracking _ := ⟨fun h => fit_of_empty rfl rfl rfl rfl rfl rfl fun hw => (h.widths hw).schedule⟩
  coldRun _ _ := ⟨fun _ => fit_of_empty rfl rfl rfl rfl rfl rfl fun _ e he => by cases he⟩

/-- R53: time that goes by leaves each timer its state. -/
theorem keepsFit_elapse (n : Nat) (s : State) : KeepsFit m s (elapse n s) := by
  unfold elapse
  split
  · exact .quiet (.of_same rfl rfl rfl rfl rfl rfl rfl)
  · have run (k : Furnace) : (elapseBackup n (elapseMain n s)).seqs.get k = { s.seqs.get k with
        cycle := (s.seqs.get k).cycle.map fun c => { c with timer := c.timer.map fun t => { t with left := t.left - n } } }
        := by cases k <;> rfl
    refine ⟨fun h => ⟨fun k => ?_, h.retain, fun hd k hk => ?_, h.tags,
      fun hw => ⟨(h.widths hw).table, (h.widths hw).schedule, (h.widths hw).maps⟩⟩⟩
    · rw [run]
      refine (h.seq k).mapCycle (fun c => { c with timer := c.timer.map fun t => { t with left := t.left - n } })
        (fun _ => rfl) (fun _ => rfl) fun c _ w hw => .inl ?_
      cases ht : c.timer with
      | none => rw [ht] at hw; cases hw
      | some t => rw [ht] at hw; exact hw
    · rw [run] at hk
      exact (h.armed hd k hk).of_cfg rfl

theorem keepsFit_reload {v : Tables} (h : s.cfg.Reloaded v) : KeepsFit m s (s.setCfg v) :=
  .calm ⟨rfl, rfl, rfl, fun _ _ => id, .refl _, fun k g => ⟨h.geometry k g.furnace, h.tableGeometry g.table⟩, id, id, rfl⟩

theorem keepsFit_outer : OuterClosed (KeepsFit m) where
  toSendClosed := keepsFit_send
  clearAllHolds s := by
    rw [clearAllHolds_eq]
    exact .quiet (.of_same rfl rfl rfl rfl rfl rfl rfl)
  linkDown _ _ := .quiet (.of_same rfl rfl rfl rfl rfl rfl rfl)
  linkUp _ _ := .quiet (.of_same rfl rfl rfl rfl rfl rfl rfl)
  frameSent _ _ := .quiet (.of_same rfl rfl rfl rfl rfl rfl rfl)
  setOverrun _ _ := .quiet (.of_same rfl rfl rfl rfl rfl rfl rfl)
  clock _ := .quiet (.of_same rfl rfl rfl rfl rfl rfl rfl)
  putBackup _ _ := .quiet (.of_same rfl rfl rfl rfl rfl rfl rfl)
  elapse := keepsFit_elapse
  reload _ _ h _ := keepsFit_reload h
  reloadWindows _ _ h := (keepsFit_reload h).trans (.quiet (.setWindows ..))
  counterSetup c x s _ := (keepsFit_reload (v := { s.cfg with counterSetup := s.cfg.counterSetup.set c x })
    ⟨id, fun _ => id, id⟩).trans (.quiet (.of_same rfl rfl rfl rfl rfl rfl rfl))
  powerOff _ := ⟨fun _ => fit_of_empty rfl rfl rfl rfl rfl rfl fun _ e he => by cases he⟩
  cold _ _ := ⟨fun _ => fit_of_empty rfl rfl rfl rfl rfl rfl fun _ e he => by cases he⟩

/-- Every step keeps the condition. -/
theorem fit_step (hC : TagFree m s) (h : Fit m s) (ht : step s = .next t) : Fit m t :=
  ((StepClosed.of_event keepsFit_outer keepsFit_event).step
    (fun _ _ => .quiet (.of_same rfl rfl rfl rfl rfl rfl rfl)) (fun _ => hC) trivial ht).fit h

/-! ### The condition and the statements -/

theorem forall_furnace {p : Furnace → Prop} : (∀ k, p k) ↔ p .f1 ∧ p .f2 :=
  ⟨fun h => ⟨h .f1, h .f2⟩, fun h k => by cases k with | f1 => exact h.1 | f2 => exact h.2⟩

theorem sequencersConsistent_iff (s : State) : SequencersConsistent s ↔ ∀ k, SequencerConsistent s k :=
  forall_furnace.symm

/-- What the condition says of a sequencer, from its consistency. -/
theorem SequencerConsistent.fit {k : Furnace} {b : Bool} {gone : Option Nat} (h : SequencerConsistent s k)
    (slab : m.deep = true → (s.seqs.get k).state.listed = true → ∀ c, (s.seqs.get k).cycle = some c →
      destOf s.tracker.table c.tag = some k)
    (holds : m.deep = true → (s.arb.holds.get k = true ↔
      b = false ∧ ((s.seqs.get k).state = .room ∨ (s.seqs.get k).state = .pick)))
    (widths : m.wide = true → SequencerWidths s k) :
    SeqFit m k b s.tracker.table gone (s.seqs.get k) (s.arb.requests.get k) (s.arb.holds.get k) := by
  obtain ⟨carried, carrying, empty, running, cause, request, timer⟩ := h
  exact ⟨carried, carrying, empty, running, cause, fun hr => .inl (request hr), timer,
    fun hd hl c hc => .inl (slab hd hl c hc), holds, fun hw => (widths hw).1, fun hw => (widths hw).2.1,
    fun hw hs => (widths hw).2.2 (by
      revert hs
      cases (s.seqs.get k).state <;> simp [SeqState.computed])⟩

theorem SeqFit.consistent {k : Furnace} {b : Bool} {l : List TableRecord} {gone : Option Nat}
    (h : SeqFit m k b l gone (s.seqs.get k) (s.arb.requests.get k) (s.arb.holds.get k)) (hm : m.strict = true) :
    SequencerConsistent s k :=
  ⟨h.carried, h.carrying, h.empty, h.running, h.cause,
    fun hr => (h.request hr).resolve_right fun hn => (by rw [hm] at hn; cases hn.1), h.timer⟩

theorem retains_iff (s : State) : s.retains = true ↔ s.ret.mode = .retain := decide_eq_true_iff

theorem retainRequests_iff (s : State) :
    RetainRequests s ↔ (s.retains = true → ∀ k, s.arb.requests.get k = none) := by
  rw [retains_iff, RetainRequests]
  refine imp_congr_right fun _ => ?_
  rw [forall_furnace]
  cases s.arb.requests
  simp [PerFurnace.get]

theorem fit_requests_iff (s : State) : Fit .requests s ↔ SequencersConsistent s ∧ RetainRequests s := by
  rw [sequencersConsistent_iff, retainRequests_iff]
  exact ⟨fun h => ⟨fun k => (h.seq k).consistent rfl, h.retain rfl⟩,
    fun ⟨hc, hr⟩ => ⟨fun k => (hc k).fit (fun hd => by cases hd) (fun hd => by cases hd) (fun hw => by cases hw),
      fun _ => hr, fun hd => (by cases hd), fun hd => (by cases hd), fun hw => (by cases hw)⟩⟩

theorem listed_iff (x : SeqState) : x.listed = true ↔ x = .positioning ∨ x = .room ∨ x = .pick := by
  cases x <;> simp [SeqState.listed]

/-- R55, R57, R58: the slab of a cycle, as the condition and the statement put it. -/
theorem cycleSlab_iff {k : Furnace} (h : (s.seqs.get k).state.listed = true → (s.seqs.get k).cycle.isSome = true) :
    CycleSlab s k ↔ ((s.seqs.get k).state ≠ .offline ∨ (∃ n, s.arb.motion = .positioning k n true) → Geared s k)
      ∧ ((s.seqs.get k).state.listed = true → ∀ c, (s.seqs.get k).cycle = some c →
        destOf s.tracker.table c.tag = some k) := by
  have dest : (((s.seqs.get k).cycle.bind fun c => s.tracker.table.find? fun r => r.tag == c.tag).bind (·.dest))
      = (s.seqs.get k).cycle.bind fun c => destOf s.tracker.table c.tag := by
    cases (s.seqs.get k).cycle <;> rfl
  rw [CycleSlab, dest, ← listed_iff]
  refine and_congr (imp_congr_right fun _ => ⟨fun ⟨a, b⟩ => ⟨a, b⟩, fun ⟨a, b⟩ => ⟨a, b⟩⟩) ?_
  refine forall_congr' fun hl => ?_
  obtain ⟨c, hc⟩ := Option.isSome_iff_exists.1 (h hl)
  rw [hc]
  simp

theorem holdFollows_iff (k : Furnace) : HoldFollows s k ↔ (s.arb.holds.get k = true ↔
    s.retains = false ∧ ((s.seqs.get k).state = .room ∨ (s.seqs.get k).state = .pick)) := by
  unfold HoldFollows
  by_cases hm : s.ret.mode = .retain
  · rw [State.retains]
    simp [hm]
  · rw [State.retains]
    simp [hm]

theorem fit_slabs_iff (s : State) : Fit .slabs s ↔ (SequencersConsistent s ∧ RetainRequests s)
    ∧ (CycleSlabs s ∧ HoldsFollow s) ∧ (s.tracker.table.map (·.tag)).Nodup := by
  have listed (hc : ∀ k, SequencerConsistent s k) (k : Furnace) (hl : (s.seqs.get k).state.listed = true) :
      (s.seqs.get k).cycle.isSome = true := by
    obtain ⟨-, -, -, running, -⟩ := hc k
    rcases (listed_iff _).1 hl with hs | hs | hs <;>
      exact running (by rw [hs]; decide) (by rw [hs]; decide) (by rw [hs]; decide)
  have slabs : CycleSlabs s ↔ ∀ k, CycleSlab s k := forall_furnace.symm
  have holds : HoldsFollow s ↔ ∀ k, HoldFollows s k := forall_furnace.symm
  rw [sequencersConsistent_iff, retainRequests_iff, slabs, holds]
  constructor
  · intro h
    have hc (k : Furnace) : SequencerConsistent s k := (h.seq k).consistent rfl
    exact ⟨⟨hc, h.retain rfl⟩, ⟨fun k => (cycleSlab_iff (listed hc k)).2 ⟨h.armed rfl k, fun hl c hcy =>
      ((h.seq k).slab rfl hl c hcy).resolve_right (by simp)⟩, fun k => (holdFollows_iff k).2 ((h.seq k).holds rfl)⟩,
      h.tags rfl⟩
  · rintro ⟨⟨hc, hr⟩, ⟨hs, hh⟩, ht⟩
    have hs' (k : Furnace) := (cycleSlab_iff (listed hc k)).1 (hs k)
    exact ⟨fun k => (hc k).fit (fun _ => (hs' k).2) (fun _ => (holdFollows_iff k).1 (hh k)) (fun hw => by cases hw),
      fun _ => hr, fun _ k => (hs' k).1, fun _ => ht, fun hw => (by cases hw)⟩

/-- Settles O10: the sequencers' own operations keep what their states say; the request is withdrawn before POSITIONING
is left, the hold is recorded with the final computation that leaves it, and a record that leaves the list is no
cycle's but in a removal or a lift. -/
theorem sequencersConsistentEveryStep : Obligations.SequencersConsistentEveryStep := by
  unfold Obligations.SequencersConsistentEveryStep
  refine ⟨fun s t h ht => ?_, fun s t h ⟨hs, hb, hm⟩ hc ht => ?_⟩
  · exact (fit_requests_iff t).1 (fit_step (fun hd => by cases hd) ((fit_requests_iff s).2 h) ht)
  · exact ((fit_slabs_iff t).1 (fit_step (fun _ => State.freshTag_free hb hm)
      ((fit_slabs_iff s).2 ⟨h, hc, hs.table_tags⟩) ht)).2.1

/-- R2, R82, R110: every width that may come into a map stays in its range, and the maps in order. -/
theorem mapsInOrder_step (hs : SequencersConsistent s) (hm : MapsInOrder s) (hw : WidthsInRange s)
    (ht : step s = .next t) : MapsInOrder t ∧ WidthsInRange t := by
  obtain ⟨table, schedule, widths1, widths2⟩ := hw
  have widths (k : Furnace) : SequencerWidths s k := by
    cases k with
    | f1 => exact widths1
    | f2 => exact widths2
  have fit : Fit .widths s := ⟨fun k => ((sequencersConsistent_iff s).1 hs k).fit (fun hd => by cases hd)
    (fun hd => by cases hd) (fun _ => widths k), fun h => (by cases h), fun h => (by cases h), fun h => (by cases h),
    fun _ => ⟨table, schedule, hm⟩⟩
  have after := fit_step (fun hd => by cases hd) fit ht
  have made (k : Furnace) : SequencerWidths t k :=
    ⟨(after.seq k).record rfl, (after.seq k).operands rfl, fun h => (after.seq k).computed rfl (by
      revert h
      cases (t.seqs.get k).state <;> simp [SeqState.computed])⟩
  exact ⟨(after.widths rfl).maps, (after.widths rfl).table, (after.widths rfl).schedule, made .f1, made .f2⟩

/-- Settles O22: the events of the map unit by the row operations; every step by the widths that come into a map, and by
the account of slabs. -/
theorem mapEventsKeepOrder : Obligations.MapEventsKeepOrder := by
  unfold Obligations.MapEventsKeepOrder
  exact ⟨fun s t hs ht => mapsInOrder_mapEvent hs ht, fun s t ⟨hs, hm, hw⟩ ht => mapsInOrder_step hs hm hw ht,
    fun s t ⟨hs, hb, hm⟩ ht => heldOnce_step hs hb hm ht⟩

end Sys2Proof.Machine
end

section
/-! Settles O1, O2 and O3: a step takes the front command whole and every command answers a next state; what
the part holds right after reset; the conditions of the statements hold there. -/

namespace Sys2Proof.Machine

theorem powered_runs (f : State → State) (s : State) : ∃ t, powered f s = .next t := ⟨_, powered_next f s⟩

/-- Every command answers a next state: each runs on a powered part, but the cold start, which always runs. -/
theorem exec_runs (c : Instr) (s : State) : ∃ t, exec c s = .next t := by
  cases c with
  | coldStart i => exact ⟨_, rfl⟩
  | frameCheckFailed | frameSent | grantTimeout | supervisionTimeout | statusTimerExpiry | gateEnd
  | secondsClockStep | filterTimeElapsed =>
    simp only [exec, execFrameCheckFailed, execFrameSent, execGrantTimeout, execSupervisionTimeout,
      execStatusTimerExpiry, execGateEnd, execSecondsClockStep, execFilterTimeElapsed, powered_runs]
  | encoderStep | markerEdge | rawTransition =>
    simp only [exec, execEncoderStep, execMarkerEdge, execRawTransition, event, powered_runs]
  | _ => exact powered_runs _ s

/-- Settles O1: a step is the front command on the queue's rest, and every command answers a next state. -/
theorem stepTakesFrontCommand : Obligations.StepTakesFrontCommand := by
  unfold Obligations.StepTakesFrontCommand
  refine ⟨fun c rest s h => ?_, fun s h => ?_, exec_runs⟩
  · unfold step; rw [h]; rfl
  · unfold step; rw [h]

/-- Settles O2: the reset state is written out, so each value is the one that its unit's cold value names. -/
theorem resetState : Obligations.ResetState := by
  unfold Obligations.ResetState
  refine ⟨?_, ?_, rfl, ?_, ?_, ?_, ?_, ?_, ?_, ?_, ?_, ?_, ?_, ?_, ?_⟩ <;> decide

/-- With every sequencer OFFLINE, no request and no in-flight slab, a sequencer holds what its state says. -/
theorem sequencerConsistent_reset (k : Furnace) : SequencerConsistent State.reset k := by
  cases k <;> decide

theorem cycleSlab_reset (k : Furnace) : CycleSlab State.reset k := by
  have offline : (State.reset.seqs.get k).state = .offline := by cases k <;> rfl
  constructor
  · rintro (armed | ⟨n, moving⟩)
    · exact absurd offline armed
    · cases moving
  · rintro (h | h | h) <;> cases offline.symm.trans h

/-- Settles O3: each condition is about empty lists, OFFLINE sequencers and default tables. -/
theorem conditionsAtReset : Obligations.ConditionsAtReset := by
  unfold Obligations.ConditionsAtReset
  refine ⟨by decide, by decide, by decide, by decide, by decide, by decide, rfl, by decide, by decide,
    ⟨sequencerConsistent_reset .f1, sequencerConsistent_reset .f2⟩, by decide, ?_, by decide, by decide,
    ?_, ⟨cycleSlab_reset .f1, cycleSlab_reset .f2⟩, by decide⟩
  · decide
  · decide

end Sys2Proof.Machine
end

section
/-! Settles O12: where an own telegram and a raised event go, and the bytes of what the part forms. -/

namespace Sys2Proof.Machine

/-! ### Queues and events -/

theorem sendOwn_at {p : Port} {d r st : Nat} {b : OwnBody} {s : State} (h : s.links.station = some st) :
    sendOwn p d r b s =
      s.setLinks (s.links.setPort p ((s.links.port p).sendOwn (ownTelegram p st d r b))) := by
  unfold sendOwn; rw [h]

theorem PortState.sendOwn_eq (p : PortState) (t : OwnTelegram) :
    p.sendOwn t = if p.up = true ∧ p.queue.length < 24 then { p with queue := p.queue ++ [.own t] }
      else { p with ownDiscarded := true } := by
  simp [PortState.sendOwn]

theorem raise_run {e : Event} {s : State} (h : s.ret.mode = .run) : raise e s = sendEvent ⟨e, s.ret.clock⟩ s := by
  unfold raise; rw [h]

theorem raise_away {e : Event} {s : State} (h : s.ret.mode ≠ .run) : raise e s = holdEvent ⟨e, s.ret.clock⟩ s := by
  unfold raise
  cases hm : s.ret.mode with
  | run => exact absurd hm h
  | retain => rfl
  | restored => rfl

theorem holdEvent_room {e : Stamped} {s : State} (h : s.ret.held.length < 16) :
    holdEvent e s = s.setRet { s.ret with held := s.ret.held ++ [e] } := if_pos h

theorem holdEvent_full {e : Stamped} {s : State} (h : 16 ≤ s.ret.held.length) :
    holdEvent e s = s.setRet { s.ret with overflow := true } := if_neg (Nat.not_lt.mpr h)

/-! ### Bytes of fields -/

theorem byteOf_value (n : Nat) (h : n < 256) : (byteOf n).toNat = n := by
  simp [byteOf, h]

theorem identityBytes_padded (x : Identity) (h : x.length ≤ 12) :
    identityBytes x = x ++ List.replicate (12 - x.length) 32 := by
  rw [identityBytes, List.take_append, List.take_of_length_le h, List.take_replicate, Nat.min_eq_left (by omega)]

theorem figure_bytes_value (x : Int) : ∃ a b c d : Byte, (Field.figure x).bytes = [a, b, c, d]
    ∧ (16777216 * a.toNat + 65536 * b.toNat + 256 * c.toNat + d.toNat : Int) = x % 4294967296 := by
  refine ⟨_, _, _, _, rfl, ?_⟩
  rw [← word32_value, ← fourBytes_value (word32 x)]
  push_cast
  rfl

theorem figure_absent_bytes : (Field.figure? none).bytes = [0x80, 0, 0, 0] := by decide

theorem motion_fields_length (m : Motion) : (fieldBytes m.fields).length = 2 := by
  cases m <;> rfl

theorem blocked_table_payload (kind dest : Nat) (m : Motion) (c g : Bool) :
    ∃ l, (OwnBody.blocked kind dest (.tableBusy m c g)).payload = [oneByte kind, oneByte dest] ++ l ++ [0, 0]
      ∧ l.length = 5 := by
  refine ⟨fieldBytes (.code .blockTable :: m.fields ++ [.code (.flag c), .code (.flag g)]), ?_, ?_⟩
  · simp [OwnBody.payload, OwnBody.fields, BlockReason.fields, Field.bytes, oneByte, byteOf]
  · simp [motion_fields_length]

/-- A reason that carries no field leaves six bytes 0 behind its code. -/
theorem blocked_plain_payload (kind dest : Nat) {r : BlockReason} (h : r = .queueFull ∨ r = .notGuardedRole) :
    ∃ a, (OwnBody.blocked kind dest r).payload = [oneByte kind, oneByte dest, a, 0, 0, 0, 0, 0, 0] := by
  rcases h with rfl | rfl <;> exact ⟨_, rfl⟩

/-! ### Payloads of the field kinds -/

/-- R68: the four bytes of a CHARGER_REPORT. -/
theorem charger_fieldBytes (ph : ChargerPhase) {tag fault : Nat} (ht : tag < 65536) (hf : fault < 256) :
    ∃ l, chargerFields ph tag fault = some (Kind.chargerReport, l) ∧ ∃ a b c : Byte,
      fieldBytes l = [a, b, Config.codeByte (.phase ph), c] ∧ 256 * a.toNat + b.toNat = tag ∧ c.toNat = fault :=
  ⟨_, rfl, _, _, _, rfl, twoBytes_value tag ht, oneByte_value fault hf⟩

/-- A command of a field kind has the length of its field list; every other kind with fields is one of the
management unit's. -/
theorem fields_length_or_managed {i : Instr} {kind : Nat} {l : List Field} (h : Instr.fields i = some (kind, l)) :
    fieldLength kind = some (fieldBytes l).length ∨ (isFieldTaken kind = false ∧ isObservable kind = false) := by
  cases i with
  | gridRequest | gridRelease | depositReport | removalReport | tableReport | strokeReport | dischargeReport
  | lifted | atDepth | lowered | retracted | chargerReportRefused | chargerReportFault =>
    left
    cases h
    simp [fieldLength, Kind.gridRequest, Kind.gridRelease, Kind.depositReport, Kind.removalReport,
      Kind.tableReport, Kind.strokeReport, Kind.dischargeReport, Kind.chargerReport]
  | queryMap h q | queryTableList h q | querySchedule h q =>
    right
    cases q <;> (cases h; exact ⟨rfl, rfl⟩)
  | _ =>
    right
    cases h <;> exact ⟨rfl, rfl⟩

/-- Settles O12: by the definitions of the queues, of `raise` and of the field encodings. -/
theorem ownTelegramsAndEvents : Obligations.OwnTelegramsAndEvents := by
  unfold Obligations.OwnTelegramsAndEvents
  refine ⟨fun p d r b s => ⟨fun h => ?_, fun st h => ?_⟩, fun e s => ⟨fun h => ?_, fun h hl => ?_, fun h hl => ?_⟩,
    ?_, ?_⟩
  · unfold sendOwn; rw [h]
  · rw [sendOwn_at h, PortState.sendOwn_eq]; rfl
  · rw [raise_run h]; rfl
  · rw [raise_away h, holdEvent_room hl]; rfl
  · rw [raise_away h, holdEvent_full hl]; rfl
  · exact ⟨fun _ => rfl, fun n h => ⟨oneByte_value n h, byteOf_value n h, rfl⟩, identityBytes_padded, fun _ => rfl,
      figure_bytes_value, fun n h => ⟨_, _, rfl, twoBytes_value n h⟩, figure_absent_bytes, rfl, by decide,
      blocked_table_payload, fun _ _ _ _ => ⟨_, _, _, rfl⟩, fun kind dest _ h => blocked_plain_payload kind dest h,
      fun _ => rfl, fun _ _ _ _ => rfl, fun m _ _ => by cases m <;> rfl⟩
  · refine ⟨fun h tag fault ht hf x hx => ?_, fun _ _ _ _ => ⟨_, rfl, rfl⟩, fun _ _ _ => ⟨_, rfl, ?_⟩,
      fun _ _ => ⟨_, rfl, rfl⟩, fun _ _ _ _ _ _ => ⟨_, rfl, ?_⟩, fun _ _ _ => ⟨_, rfl, ?_⟩, fun _ _ => ⟨_, rfl, rfl⟩,
      fun _ _ _ _ => ⟨_, rfl, ?_⟩, fun i kind l hi hk => ?_⟩
    · fin_cases hx <;> exact charger_fieldBytes _ ht hf
    · simp [Field.bytes]
    · simp [Field.bytes]
    · simp [Field.bytes]
    · simp [Field.bytes]
    · refine (fields_length_or_managed hi).resolve_right fun ⟨taken, observed⟩ => ?_
      simp [taken, observed] at hk

end Sys2Proof.Machine
end

section
/-! Settles O13: the loads of geometry records, gaps, thickness boundaries and timeouts. Each owner's checks are
said once, as the conditions under which it answers each code and under which it takes the load. -/

namespace Sys2Proof.Machine

/-! ### Fields as they are read (R171) -/

theorem figureRead_some {x : Int} (h : x ≠ absentFigure) : figureRead (some x) = some x :=
  if_neg fun e => h (Option.some.inj e)

theorem figureRead_isSome (x : Option Int) :
    (figureRead x).isSome = true ↔ ¬ (x = none ∨ x = some absentFigure) := by
  unfold figureRead
  split
  · simp_all
  · cases x <;> simp_all

@[simp] theorem codeRead_val {α : Type} (x : Option α) : codeRead (x.map Code.val) = x.map Code.val := by
  cases x <;> rfl

@[simp] theorem givenCode_val {α : Type} (x : Option α) : givenCode (x.map Code.val) = x := by
  cases x <;> rfl

@[simp] theorem goodWhereGiven_val {α : Type} (x : Option α) : goodWhereGiven (x.map Code.val) = true := by
  cases x <;> rfl

@[simp] theorem inRange_iff (a b x : Int) : inRange a b x = true ↔ a ≤ x ∧ x ≤ b := by simp [inRange]

/-- The least absent figure lies below every range of the part's tables. -/
theorem ne_absentFigure {a x : Int} (h : a ≤ x) (ha : -2147483648 < a) : x ≠ absentFigure := by
  unfold absentFigure; omega

/-! ### Selectors -/

theorem forFurnace_bad {raw : Nat} {s : State} {f : Furnace → LoadResult} :
    forFurnace (.bad raw) s f = .error (.illegalValue, 0) := rfl

theorem forFurnace_armed {k : Furnace} {s : State} {f : Furnace → LoadResult}
    (h : (s.seqs.get k).state ≠ .offline) : forFurnace (.val k) s f = .error (.notWhileArmed, 0) := by
  simp [forFurnace, (armed_true s k).2 h]

theorem forFurnace_offline {k : Furnace} {s : State} {f : Furnace → LoadResult}
    (h : (s.seqs.get k).state = .offline) : forFurnace (.val k) s f = f k := by
  simp [forFurnace, (armed_false s k).2 h]

/-! ### FURNACE_GEOMETRY (R28) -/

/-- The figures of an entry that R28 requires. -/
def GeometryEntry.figures (e : GeometryEntry) : List (Option Int) :=
  [e.lEff, e.zMin, e.zMax, e.dDoor, e.sNom, e.lPair, e.pairTolerance, e.landingTolerance, e.armOffset,
    e.retractClear]

theorem GeometryEntry.complete_iff (e : GeometryEntry) : GeometryEntry.complete (GeometryEntry.asRead e) = true ↔
    (¬ ∃ x ∈ GeometryEntry.figures e, x = none ∨ x = some absentFigure)
      ∧ (∀ raw, e.basis = some (.bad raw) → raw = 255) ∧ ∀ raw, e.policy = some (.bad raw) → raw = 255 := by
  simp only [complete, asRead, Bool.and_eq_true, figureRead_isSome, goodWhereGiven_codeRead, figures]
  simp [and_assoc]

theorem FurnaceGeometry.inRanges_iff (g : FurnaceGeometry) : g.inRanges = true ↔
    10000 ≤ g.lEff ∧ g.lEff ≤ 60000 ∧ 0 ≤ g.zMin ∧ g.zMax ≤ 10000 ∧ 0 ≤ g.dDoor ∧ g.dDoor ≤ 1000
      ∧ 200 ≤ g.sNom ∧ g.sNom ≤ 800 ∧ (g.lPair = 0 ∨ (1500 ≤ g.lPair ∧ g.lPair ≤ 7000))
      ∧ 0 ≤ g.pairTolerance ∧ g.pairTolerance ≤ 400 ∧ 10 ≤ g.landingTolerance ∧ g.landingTolerance ≤ 200
      ∧ -1000 ≤ g.armOffset ∧ g.armOffset ≤ 1000 ∧ -6000 ≤ g.retractClear ∧ g.retractClear ≤ 0 := by
  simp only [inRanges, Bool.and_eq_true, Bool.or_eq_true, inRange_iff, decide_eq_true_eq, beq_iff_eq, and_assoc]

theorem FurnaceGeometry.related_iff (g : FurnaceGeometry) :
    g.related = true ↔ g.zMin < g.zMax ∧ g.zMax < g.lEff := by
  simp [related]

theorem ownFurnaceGeometry_one {k : Furnace} {e : GeometryEntry} {s : State}
    (h : (s.seqs.get k).state = .offline) : ownFurnaceGeometry (.val k) 0 [e] s =
      if !GeometryEntry.complete (GeometryEntry.asRead e) then .error (.illegalValue, 0)
      else if !(GeometryEntry.record (s.geometry k) (GeometryEntry.asRead e)).inRanges then .error (.outOfRange, 0)
      else if !(GeometryEntry.record (s.geometry k) (GeometryEntry.asRead e)).related then .error (.illegalValue, 0)
      else .ok (.none, putGeometry k (GeometryEntry.record (s.geometry k) (GeometryEntry.asRead e))) := by
  rw [ownFurnaceGeometry, forFurnace_offline h]
  rfl

theorem ownFurnaceGeometry_form {k : Furnace} {first : Nat} {es : List GeometryEntry} {s : State}
    (h : (s.seqs.get k).state = .offline) (hf : first ≠ 0 ∨ es.length ≠ 1) :
    ownFurnaceGeometry (.val k) first es s = .error (.outOfRange, 0) := by
  rw [ownFurnaceGeometry, forFurnace_offline h]
  split
  · simp at hf
  · rfl

/-- The entry that carries each field of a geometry record. -/
def FurnaceGeometry.entry (g : FurnaceGeometry) : GeometryEntry :=
  { lEff := some g.lEff, zMin := some g.zMin, zMax := some g.zMax, dDoor := some g.dDoor
    sNom := some g.sNom, basis := some (.val g.basis), lPair := some g.lPair
    pairTolerance := some g.pairTolerance, landingTolerance := some g.landingTolerance
    armOffset := some g.armOffset, retractClear := some g.retractClear
    policy := some (.val g.policy) }

/-- An entry whose figures are all there gives a record with these figures. -/
theorem GeometryEntry.record_of_figures {e : GeometryEntry} {g : FurnaceGeometry} {old : Option FurnaceGeometry}
    (hg : GeometryEntry.figures e = GeometryEntry.figures g.entry) (hc : ¬ ∃ x ∈ GeometryEntry.figures e, x = none ∨ x = some absentFigure)
    (hb : (givenCode (codeRead e.basis)).getD ((old.map (·.basis)).getD .nominal) = g.basis)
    (hp : (givenCode (codeRead e.policy)).getD ((old.map (·.policy)).getD .trap) = g.policy) :
    GeometryEntry.record old (GeometryEntry.asRead e) = g := by
  simp only [figures, FurnaceGeometry.entry, List.cons.injEq, and_true] at hg
  obtain ⟨h1, h2, h3, h4, h5, h6, h7, h8, h9, h10⟩ := hg
  simp only [figures, List.mem_cons, List.not_mem_nil, or_false, exists_eq_or_imp, not_or,
    h1, h2, h3, h4, h5, h6, h7, h8, h9, h10, Option.some.injEq, exists_eq_left, reduceCtorEq,
    not_false_eq_true, true_and] at hc
  simp [record, asRead, h1, h2, h3, h4, h5, h6, h7, h8, h9, h10, hb, hp, figureRead_some, hc]

theorem map_val_ne_bad {α : Type} (x : Option α) (raw : Nat) : x.map Code.val ≠ some (.bad raw) := by
  cases x <;> simp

theorem ownFurnaceGeometry_incomplete {k : Furnace} {e : GeometryEntry} {s : State}
    (h : (s.seqs.get k).state = .offline)
    (hm : (∃ x ∈ GeometryEntry.figures e, x = none ∨ x = some absentFigure)
      ∨ (∃ raw, raw ≠ 255 ∧ e.basis = some (.bad raw)) ∨ ∃ raw, raw ≠ 255 ∧ e.policy = some (.bad raw)) :
    ownFurnaceGeometry (.val k) 0 [e] s = .error (.illegalValue, 0) := by
  have incomplete : GeometryEntry.complete (GeometryEntry.asRead e) = false := by
    rw [← Bool.not_eq_true, GeometryEntry.complete_iff]
    rintro ⟨figures, basis, policy⟩
    rcases hm with missing | ⟨raw, hr, hb⟩ | ⟨raw, hr, hp⟩
    · exact figures missing
    · exact hr (basis raw hb)
    · exact hr (policy raw hp)
  rw [ownFurnaceGeometry_one h, incomplete]
  rfl

/-- A load of an entry with all its figures is judged by the record it gives. -/
theorem ownFurnaceGeometry_entry {k : Furnace} {e : GeometryEntry} {g : FurnaceGeometry} {s : State}
    {basis : Option StrokeBasis} {policy : Option FaultPolicy} (h : (s.seqs.get k).state = .offline)
    (hg : GeometryEntry.figures e = GeometryEntry.figures g.entry)
    (hc : ¬ ∃ x ∈ GeometryEntry.figures e, x = none ∨ x = some absentFigure)
    (heb : e.basis = basis.map .val) (hep : e.policy = policy.map .val)
    (hb : g.basis = basis.getD (((s.cfg.geometry.get k).map (·.basis)).getD .nominal))
    (hp : g.policy = policy.getD (((s.cfg.geometry.get k).map (·.policy)).getD .trap)) :
    ownFurnaceGeometry (.val k) 0 [e] s =
      if !g.inRanges then .error (.outOfRange, 0)
      else if !g.related then .error (.illegalValue, 0)
      else .ok (.none, putGeometry k g) := by
  have complete : GeometryEntry.complete (GeometryEntry.asRead e) = true :=
    (GeometryEntry.complete_iff e).2 ⟨hc, fun raw hr => absurd (heb ▸ hr) (map_val_ne_bad basis raw),
      fun raw hr => absurd (hep ▸ hr) (map_val_ne_bad policy raw)⟩
  have record : GeometryEntry.record (s.geometry k) (GeometryEntry.asRead e) = g :=
    GeometryEntry.record_of_figures hg hc (by rw [heb, codeRead_val, givenCode_val]; exact hb.symm)
      (by rw [hep, codeRead_val, givenCode_val]; exact hp.symm)
  rw [ownFurnaceGeometry_one h, complete, record]
  rfl

/-- Figures in their ranges and relations are none of them the absent value. -/
theorem FurnaceGeometry.figures_given {g : FurnaceGeometry} (hr : g.inRanges = true) (hl : g.related = true) :
    ¬ ∃ x ∈ GeometryEntry.figures g.entry, x = none ∨ x = some absentFigure := by
  rw [inRanges_iff] at hr
  rw [related_iff] at hl
  simp only [GeometryEntry.figures, entry, List.mem_cons, List.not_mem_nil, or_false, exists_eq_or_imp, not_or,
    exists_eq_left, reduceCtorEq, not_false_eq_true, true_and, Option.some.injEq, absentFigure]
  omega

/-! ### TABLE_GEOMETRY (R86) -/

theorem tableBusyForLoad_iff (s : State) :
    s.tableBusyForLoad = true ↔ s.tracker.table ≠ [] ∨ s.arb.motion ≠ .still := by
  have moving (m : Motion) : m.moving = true ↔ m ≠ .still := by cases m <;> simp [Motion.moving]
  simp [State.tableBusyForLoad, moving]

/-- The entry that carries the positions of a table geometry, with the tolerances given. -/
def TableGeometry.entry (g : TableGeometry) (track pos len : Option Int) : TableGeometryEntry :=
  { xTS := some g.xTS, xGS := some g.xGS, xG := some g.xG, xGE := some g.xGE, xMS := some g.xMS
    xD1 := some g.xD1, xD2 := some g.xD2, xTE := some g.xTE, x1A := some g.x1A, x1C := some g.x1C
    x1B := some g.x1B, x2A := some g.x2A, x2C := some g.x2C, x2B := some g.x2B
    trackingTolerance := track, positioningTolerance := pos, lengthTolerance := len }

theorem positions_complete_iff (e : TableGeometryEntry) :
    (TableGeometryEntry.positions (TableGeometryEntry.asRead e)).all Option.isSome = true ↔
      ¬ ∃ x ∈ TableGeometryEntry.positions e, x = none ∨ x = some absentFigure := by
  have read : TableGeometryEntry.positions (TableGeometryEntry.asRead e)
      = (TableGeometryEntry.positions e).map figureRead := rfl
  rw [read]
  simp only [List.all_eq_true, List.mem_map, forall_exists_index, and_imp, forall_apply_eq_imp_iff₂,
    figureRead_isSome, not_exists, not_and]

theorem TableGeometry.inRanges_iff (g : TableGeometry) : g.inRanges = true ↔
    (∀ x ∈ [g.xTS, g.xGS, g.xG, g.xGE, g.xMS, g.xD1, g.xD2, g.xTE] ++ g.charges, 0 ≤ x ∧ x ≤ 200000)
      ∧ 20 ≤ g.trackingTolerance ∧ g.trackingTolerance ≤ 500 ∧ 10 ≤ g.positioningTolerance
      ∧ g.positioningTolerance ≤ 200 ∧ 10 ≤ g.lengthTolerance ∧ g.lengthTolerance ≤ 300 := by
  simp only [inRanges, Bool.and_eq_true, List.all_eq_true, inRange_iff, and_assoc]

theorem TableGeometry.ordered_iff (g : TableGeometry) : g.ordered = true ↔
    g.xTS < g.xGS ∧ g.xGS < g.xG ∧ g.xG ≤ g.xGE ∧ g.xGE < g.xMS ∧ g.xMS < g.xD1 ∧ g.xD1 < g.xD2
      ∧ g.xD2 < g.xTE ∧ ∀ x ∈ g.charges, g.xMS < x ∧ x < g.xTE := by
  simp only [ordered, Bool.and_eq_true, List.all_eq_true, decide_eq_true_eq, and_assoc]

theorem ownTableGeometry_busy {first : Nat} {es : List TableGeometryEntry} {s : State}
    (h : s.tracker.table ≠ [] ∨ s.arb.motion ≠ .still) : ownTableGeometry first es s = .error (.busy, 0) := by
  unfold ownTableGeometry
  rw [if_pos ((tableBusyForLoad_iff s).2 h)]

section
variable {s : State} (h : ¬ (s.tracker.table ≠ [] ∨ s.arb.motion ≠ .still))
include h

theorem ownTableGeometry_form {first : Nat} {es : List TableGeometryEntry}
    (hf : first ≠ 0 ∨ es.length ≠ 1) : ownTableGeometry first es s = .error (.outOfRange, 0) := by
  unfold ownTableGeometry
  rw [if_neg fun b => h ((tableBusyForLoad_iff s).1 b)]
  split
  · simp at hf
  · rfl

theorem ownTableGeometry_missing {e : TableGeometryEntry}
    (hp : ∃ x ∈ TableGeometryEntry.positions e, x = none ∨ x = some absentFigure) :
    ownTableGeometry 0 [e] s = .error (.illegalValue, 0) := by
  have incomplete := (positions_complete_iff e).not.2 (not_not_intro hp)
  rw [Bool.not_eq_true] at incomplete
  unfold ownTableGeometry
  rw [if_neg fun b => h ((tableBusyForLoad_iff s).1 b)]
  simp only [incomplete, Bool.not_false, if_true]

/-- A load of an entry with all its positions is judged by the record it gives. -/
theorem ownTableGeometry_entry {g : TableGeometry} {track pos len : Option Int}
    (hp : ¬ ∃ x ∈ TableGeometryEntry.positions (g.entry track pos len), x = none ∨ x = some absentFigure)
    (ht : g.trackingTolerance = (figureRead track).getD ((s.cfg.tableGeometry.map (·.trackingTolerance)).getD 150))
    (hq : g.positioningTolerance =
      (figureRead pos).getD ((s.cfg.tableGeometry.map (·.positioningTolerance)).getD 40))
    (hl : g.lengthTolerance = (figureRead len).getD ((s.cfg.tableGeometry.map (·.lengthTolerance)).getD 60)) :
    ownTableGeometry 0 [g.entry track pos len] s =
      if !g.inRanges then .error (.outOfRange, 0)
      else if !g.ordered then .error (.illegalValue, 0)
      else .ok (.none, putTableGeometry g) := by
  have complete := (positions_complete_iff (g.entry track pos len)).2 hp
  have record : TableGeometryEntry.record s.cfg.tableGeometry (TableGeometryEntry.asRead (g.entry track pos len))
      = g := by
    simp only [TableGeometryEntry.positions, TableGeometry.entry, List.mem_cons, List.not_mem_nil, or_false,
      exists_eq_or_imp, not_or, Option.some.injEq, exists_eq_left, reduceCtorEq, not_false_eq_true, true_and] at hp
    simp [TableGeometryEntry.record, TableGeometryEntry.asRead, TableGeometry.entry, ← ht, ← hq, ← hl, figureRead_some, hp]
  unfold ownTableGeometry
  rw [if_neg fun b => h ((tableBusyForLoad_iff s).1 b)]
  simp only [complete, record, Bool.not_true, Bool.false_eq_true, if_false]

end

/-- Positions in their range are none of them the absent value. -/
theorem TableGeometry.positions_given {g : TableGeometry} {track pos len : Option Int}
    (h : ∀ x ∈ [g.xTS, g.xGS, g.xG, g.xGE, g.xMS, g.xD1, g.xD2, g.xTE] ++ g.charges, 0 ≤ x ∧ x ≤ 200000) :
    ¬ ∃ x ∈ TableGeometryEntry.positions (g.entry track pos len), x = none ∨ x = some absentFigure := by
  have positions : TableGeometryEntry.positions (g.entry track pos len)
      = ([g.xTS, g.xGS, g.xG, g.xGE, g.xMS, g.xD1, g.xD2, g.xTE] ++ g.charges).map some := rfl
  rintro ⟨x, hx, missing⟩
  rw [positions, List.mem_map] at hx
  obtain ⟨y, hy, rfl⟩ := hx
  rcases missing with missing | missing
  · cases missing
  · exact ne_absentFigure (h y hy).1 (by decide) (Option.some.inj missing)

/-- A tolerance at least as great as its range allows is not the absent value, whether carried or kept. -/
theorem figureRead_getD {x : Option Int} {d a v : Int} (hv : v = x.getD d) (h : a ≤ v) (ha : -2147483648 < a) :
    v = (figureRead x).getD d := by
  cases x with
  | none => exact hv
  | some y =>
    obtain rfl : v = y := hv
    rw [figureRead_some (ne_absentFigure h ha)]
    rfl

/-! ### Lists of figures (R31, R32, R54) -/

/-- One entry is a number of entries that a load may have. -/
theorem singleton_sized {α : Type} (e : α) : 1 ≤ [e].length ∧ [e].length ≤ 16 := ⟨le_rfl, by simp⟩

theorem timeoutRange_nat {i y : Nat} (h : i < 6) (hlo : [5, 10, 5, 5, 5, 5].getD i 0 ≤ y)
    (hhi : y ≤ [120, 120, 60, 120, 60, 120].getD i 0) :
    inRange (timeoutRange i).1 (timeoutRange i).2 (Int.ofNat y) = true := by
  rw [inRange_iff]
  interval_cases i <;> simp_all [timeoutRange]

theorem timeoutRange_table {i : Nat} (h : i < 6) : (timeoutRange i).1 = [5, 10, 5, 5, 5, 5].getD i 0
    ∧ (timeoutRange i).2 = [120, 120, 60, 120, 60, 120].getD i 0 := by
  interval_cases i <;> exact ⟨rfl, rfl⟩

/-- Two checks that agree on each entry at its index fail at the same entry. -/
theorem firstFails_congr {α : Type} {p q : Nat → α → Prop} {first n : Nat} {xs : List α}
    (h : ∀ i x, xs[i]? = some x → (p (first + i) x ↔ q (first + i) x)) (hf : FirstFails p first xs n) :
    FirstFails q first xs n := by
  obtain ⟨pre, x, post, rfl, rfl, hpre, hx⟩ := hf
  refine ⟨pre, x, post, rfl, rfl, fun i y hy => ?_, fun hq => hx ((h pre.length x (by simp)).2 hq)⟩
  have inside := (List.getElem?_eq_some_iff.1 hy).1
  exact (h i y (by rwa [List.getElem?_append_left inside])).1 (hpre i y hy)

/-- No entry fails a check that each of them passes at its index. -/
theorem checkEach_passes_at {α : Type} {ok : Nat → α → Bool} {first : Nat} {xs : List α} {code : RespCode}
    {next : LoadResult} (h : ∀ i x, xs[i]? = some x → ok (first + i) x = true) :
    checkEach ok code first xs next = next := by
  have none : firstFail ok first xs = none := by
    induction xs generalizing first with
    | nil => rfl
    | cons a l ih =>
      have ha : ok first a = true := h 0 a rfl
      have hl := ih (first := first + 1) fun i x hx => by
        have := h (i + 1) x (by simpa using hx)
        rwa [show first + (i + 1) = first + 1 + i by omega] at this
      simp [firstFail, ha, hl]
  simp [checkEach, none]

/-! ### What a load leaves -/

theorem respond_putCfg (h : Hdr) (n : Nat) (c : RespCode) (x : Option Nat) (d : RespData) (s : State)
    (f : Tables → Tables) : (respond h n c x d s).setCfg (f (respond h n c x d s).cfg) =
      { respond h n c x d s with cfg := f s.cfg } := by
  rw [respond_cfg]; rfl

theorem bounds_ofList {b : Bounds} {l : List Int} (h : [b.b1, b.b2, b.b3] = l) : Bounds.ofList l = b := by
  subst h; rfl

end Sys2Proof.Machine
end

section
/-! Settles O13: each load is judged by its owner's checks in their order. -/

namespace Sys2Proof.Machine

/-- R28: the loads of a furnace geometry that are taken. -/
theorem exec_loadFurnaceGeometry_taken {h : Hdr} {k : Furnace} {e : GeometryEntry} {g : FurnaceGeometry} {s : State}
    (hm : Managed s h) (hl : s.mgmt.latch = none) (hf : formFits (.loadFurnaceGeometry h (.val k) 0 [e]) = true)
    (own : ownFurnaceGeometry (.val k) 0 [e] s = .ok (.none, putGeometry k g)) :
    exec (.loadFurnaceGeometry h (.val k) 0 [e]) s = .next { respond h Kind.loadTable .ok none .none s with
      cfg := { s.cfg with geometry := s.cfg.geometry.set k (some g) } } :=
  (load_taken hm hf hl (singleton_sized e) own).trans
    (congrArg _ (respond_putCfg _ _ _ _ _ _ fun c => { c with geometry := c.geometry.set k (some g) }))

theorem exec_loadTableGeometry_taken {h : Hdr} {e : TableGeometryEntry} {g : TableGeometry} {s : State}
    (hm : Managed s h) (hl : s.mgmt.latch = none) (hf : formFits (.loadTableGeometry h 0 [e]) = true)
    (own : ownTableGeometry 0 [e] s = .ok (.none, putTableGeometry g)) :
    exec (.loadTableGeometry h 0 [e]) s = .next { respond h Kind.loadTable .ok none .none s with
      cfg := { s.cfg with tableGeometry := some g } } :=
  (load_taken hm hf hl (singleton_sized e) own).trans
    (congrArg _ (respond_putCfg _ _ _ _ _ _ fun c => { c with tableGeometry := some g }))

/-- Settles O13: by the conditions under which each owner takes a load and answers each code. -/
theorem loadRecordsAndFigures : Obligations.LoadRecordsAndFigures := by
  unfold Obligations.LoadRecordsAndFigures
  refine ⟨⟨?geometryTaken, ?tableTaken⟩, ⟨?gapsTaken, ?boundsTaken, ?timingTaken⟩, fun h s hm hl => ⟨?geometry, ?table⟩,
    fun h s hm hl => ⟨?gaps, ?bounds, ?timing⟩⟩
  case geometryTaken =>
    intro h k lEff zMin zMax dDoor sNom lPair pairTol landTol arm clear basis policy s hm hl hoff
      a1 a2 a3 a4 a5 a6 a7 a8 a9 a10 a11 a12 a13 a14 a15 a16 a17 a18 a19 i hf
    let g : FurnaceGeometry := ⟨lEff, zMin, zMax, dDoor, sNom, basis.getD (((s.cfg.geometry.get k).map (·.basis)).getD .nominal), lPair, pairTol, landTol, arm, clear, policy.getD (((s.cfg.geometry.get k).map (·.policy)).getD .trap)⟩
    have ranges : g.inRanges = true := (FurnaceGeometry.inRanges_iff g).2
      ⟨a1, a2, a3, a4, a5, a6, a7, a8, a9, a10, a11, a12, a13, a14, a15, a16, a17⟩
    have related : g.related = true := (FurnaceGeometry.related_iff g).2 ⟨a18, a19⟩
    refine exec_loadFurnaceGeometry_taken (g := g) hm hl hf ?_
    refine Eq.trans (ownFurnaceGeometry_entry (g := g) hoff rfl ?_ rfl rfl rfl rfl) ?_
    · exact FurnaceGeometry.figures_given ranges related
    · rw [ranges, related]
      rfl
  case tableTaken =>
    intro h g track pos len s hm hl empty still pr p1 p2 p3 p4 p5 p6 p7 pc ht hp hn t1 t2 t3 t4 t5 t6 i hf
    have free : ¬ (s.tracker.table ≠ [] ∨ s.arb.motion ≠ .still) := by simp [empty, still]
    have ranges : g.inRanges = true := (TableGeometry.inRanges_iff g).2 ⟨pr, t1, t2, t3, t4, t5, t6⟩
    have ordered : g.ordered = true := (TableGeometry.ordered_iff g).2 ⟨p1, p2, p3, p4, p5, p6, p7, pc⟩
    refine exec_loadTableGeometry_taken hm hl hf ((ownTableGeometry_entry free (TableGeometry.positions_given pr)
      (figureRead_getD ht t1 (by decide)) (figureRead_getD hp t3 (by decide)) (figureRead_getD hn t5 (by decide))).trans ?_)
    rw [ranges, ordered]
    rfl
  case gapsTaken =>
    intro h k first es s hm hf hl hoff hne hlen hr
    have own : ownGapRules (.val k) first es s =
        .ok (.none, putGaps k (writeAt first es (s.cfg.gaps.get k))) := by
      rw [ownGapRules, forFurnace_offline hoff, if_neg (by omega),
        figuresGiven_passes fun x hx => ne_absentFigure (hr x hx).1 (by decide),
        checkEach_passes fun _ x hx => (inRange_iff ..).2 (hr x hx)]
    exact (load_taken hm hf hl ⟨List.length_pos_iff.2 hne, by omega⟩ own).trans
      (congrArg _ (respond_putCfg _ _ _ _ _ _ fun c => { c with gaps := c.gaps.set k _ }))
  case boundsTaken =>
    intro h first es b s hm hf hl hne hlen hr hb h12 h23
    have own : ownThicknessClasses first es s = .ok (.none, putBounds b) := by
      unfold ownThicknessClasses
      rw [if_neg (by omega)]
      dsimp only
      rw [bounds_ofList (b := b) (l := writeAt first es s.cfg.bounds.toList) hb,
        figuresGiven_passes fun x hx => ne_absentFigure (hr x hx).1 (by decide),
        checkEach_passes fun _ x hx => (inRange_iff ..).2 (hr x hx), if_neg (by omega), if_neg (by omega)]
    exact (load_taken hm hf hl ⟨List.length_pos_iff.2 hne, by omega⟩ own).trans
      (congrArg _ (respond_putCfg _ _ _ _ _ _ fun c => { c with bounds := b }))
  case timingTaken =>
    intro h k first es s hm hf hl hoff hne hlen hr
    have nats : (es.map Int.ofNat).map Int.toNat = es := by simp [Function.comp_def]
    have own : ownChargerTiming (.val k) first (es.map Int.ofNat) s =
        .ok (.none, putTiming k (writeAt first es (s.cfg.timing.get k))) := by
      rw [ownChargerTiming, forFurnace_offline hoff, if_neg (by simpa using hlen), figuresGiven_passes ?_,
        checkEach_passes_at ?_, nats]
      · intro i x hx
        obtain ⟨y, hy, rfl⟩ : ∃ y, es[i]? = some y ∧ Int.ofNat y = x := by simpa using hx
        have bound := (List.getElem?_eq_some_iff.1 hy).1
        obtain ⟨above, below⟩ := hr i y hy
        exact timeoutRange_nat (by omega) above below
      · intro x hx
        obtain ⟨y, _, rfl⟩ := List.mem_map.1 hx
        exact ne_absentFigure (Int.natCast_nonneg y) (by decide)
    exact (load_taken hm hf hl ⟨(List.length_map _).symm ▸ List.length_pos_iff.2 hne, by simp; omega⟩ own).trans
      (congrArg _ (respond_putCfg _ _ _ _ _ _ fun c => { c with timing := c.timing.set k _ }))
  case geometry =>
    refine ⟨fun raw first es hs hf => load_refused hm hf hl hs rfl,
      fun k first es hs armed hf => load_refused hm hf hl hs (forFurnace_armed armed),
      fun k first es hs off form hf => load_refused hm hf hl hs (ownFurnaceGeometry_form off form),
      fun k e off missing hf => load_refused hm hf hl (singleton_sized _) (ownFurnaceGeometry_incomplete off missing),
      fun k g off given out hf => load_refused hm hf hl (singleton_sized _) ?_,
      fun k g off given ranges unrelated hf => load_refused hm hf hl (singleton_sized _) ?_⟩
    · have outside : g.inRanges = false := by
        rw [← Bool.not_eq_true, FurnaceGeometry.inRanges_iff]; exact out
      refine (ownFurnaceGeometry_entry (basis := some g.basis) (policy := some g.policy) off rfl given rfl rfl rfl rfl).trans ?_
      rw [outside]; rfl
    · have inside : g.inRanges = true := (FurnaceGeometry.inRanges_iff g).2 ranges
      have crossed : g.related = false := by
        rw [← Bool.not_eq_true, FurnaceGeometry.related_iff]; omega
      refine (ownFurnaceGeometry_entry (basis := some g.basis) (policy := some g.policy) off rfl given rfl rfl rfl rfl).trans ?_
      rw [inside, crossed]; rfl
  case table =>
    have entry {g : TableGeometry} := ownTableGeometry_entry (s := s) (g := g) (track := some g.trackingTolerance)
      (pos := some g.positioningTolerance) (len := some g.lengthTolerance)
    refine ⟨fun first es hs busy hf => load_refused hm hf hl hs (ownTableGeometry_busy busy),
      fun first es hs free form hf => load_refused hm hf hl hs (ownTableGeometry_form free form),
      fun e free missing hf => load_refused hm hf hl (singleton_sized _) (ownTableGeometry_missing free missing),
      fun g free given out hf => load_refused hm hf hl (singleton_sized _) ?_,
      fun g free given ranges unordered hf => load_refused hm hf hl (singleton_sized _) ?_⟩
    · obtain ⟨positions, ht, hp, hn⟩ := given
      have outside : g.inRanges = false := by
        rw [← Bool.not_eq_true, TableGeometry.inRanges_iff]; exact out
      refine (entry free positions (by rw [figureRead_some ht]; rfl) (by rw [figureRead_some hp]; rfl)
        (by rw [figureRead_some hn]; rfl)).trans ?_
      rw [outside]; rfl
    · obtain ⟨positions, ht, hp, hn⟩ := given
      have inside : g.inRanges = true := (TableGeometry.inRanges_iff g).2 ranges
      have crossed : g.ordered = false := by
        rw [← Bool.not_eq_true, TableGeometry.ordered_iff]; exact unordered
      refine (entry free positions (by rw [figureRead_some ht]; rfl) (by rw [figureRead_some hp]; rfl)
        (by rw [figureRead_some hn]; rfl)).trans ?_
      rw [inside, crossed]; rfl
  case gaps =>
    have own {k : Furnace} {first : Nat} {es : List Int} (off : (s.seqs.get k).state = .offline) :
        ownGapRules (.val k) first es s = if 8 < first + es.length then .error (.outOfRange, first)
          else figuresGiven first es (checkEach (fun _ x => inRange 0 2000 x) .outOfRange first es
            (.ok (.none, putGaps k (writeAt first es (s.cfg.gaps.get k))))) := forFurnace_offline off
    refine ⟨fun raw first es hs hf => load_refused hm hf hl hs rfl,
      fun k first es hs armed hf => load_refused hm hf hl hs (forFurnace_armed armed),
      fun k first es hs off long hf => load_refused hm hf hl hs ?_,
      fun k first es n hs off fit fails hf => load_refused hm hf hl hs ?_,
      fun k first es n hs off fit given fails hf => load_refused hm hf hl hs ?_⟩
    · rw [own off, if_pos long]
    · rw [own off, if_neg (by omega), figuresGiven_fails fails]
    · rw [own off, if_neg (by omega), figuresGiven_passes given,
        checkEach_fails (fun _ x => inRange_iff 0 2000 x) fails]
  case bounds =>
    have own {first : Nat} {es : List Int} {b1 b2 b3 : Int}
        (hb : [b1, b2, b3] = writeAt first es s.cfg.bounds.toList) :
        ownThicknessClasses first es s = if 3 < first + es.length then .error (.outOfRange, first)
          else figuresGiven first es (checkEach (fun _ x => inRange 100 500 x) .outOfRange first es
            (if b2 ≤ b1 then .error (.illegalValue, 1) else if b3 ≤ b2 then .error (.illegalValue, 2)
              else .ok (.none, putBounds ⟨b1, b2, b3⟩))) := by
      unfold ownThicknessClasses
      rw [bounds_ofList (b := ⟨b1, b2, b3⟩) hb]
    have passes {first : Nat} {es : List Int} {next : LoadResult} (inside : ∀ x ∈ es, 100 ≤ x ∧ x ≤ 500) :
        figuresGiven first es (checkEach (fun _ x => inRange 100 500 x) .outOfRange first es next) = next :=
      (figuresGiven_passes fun x hx => ne_absentFigure (inside x hx).1 (by decide)).trans
        (checkEach_passes fun _ x hx => (inRange_iff ..).2 (inside x hx))
    refine ⟨fun first es hs long hf => load_refused hm hf hl hs ?_,
      fun first es n hs fit fails hf => load_refused hm hf hl hs ?_,
      fun first es n hs fit given fails hf => load_refused hm hf hl hs ?_,
      fun first es b1 b2 b3 hs fit inside hb => ⟨fun low hf => load_refused hm hf hl hs ?_,
        fun rise low hf => load_refused hm hf hl hs ?_⟩⟩
    · rw [ownThicknessClasses, if_pos long]
    · rw [ownThicknessClasses, if_neg (by omega)]
      exact figuresGiven_fails fails
    · rw [ownThicknessClasses, if_neg (by omega)]
      exact (figuresGiven_passes given).trans (checkEach_fails (fun _ x => inRange_iff 100 500 x) fails)
    · rw [own hb, if_neg (by omega), passes inside, if_pos low]
    · rw [own hb, if_neg (by omega), passes inside, if_neg (by omega), if_pos low]
  case timing =>
    have own {k : Furnace} {first : Nat} {es : List Int} (off : (s.seqs.get k).state = .offline) :
        ownChargerTiming (.val k) first es s = if 6 < first + es.length then .error (.outOfRange, first)
          else figuresGiven first es
            (checkEach (fun i x => inRange (timeoutRange i).1 (timeoutRange i).2 x) .outOfRange first es
              (.ok (.none, putTiming k (writeAt first (es.map Int.toNat) (s.cfg.timing.get k))))) :=
      forFurnace_offline off
    refine ⟨fun raw first es hs hf => load_refused hm hf hl hs rfl,
      fun k first es hs armed hf => load_refused hm hf hl hs (forFurnace_armed armed),
      fun k first es hs off long hf => load_refused hm hf hl hs ?_,
      fun k first es n hs off fit fails hf => load_refused hm hf hl hs ?_,
      fun k first es n hs off fit given fails hf => load_refused hm hf hl hs ?_⟩
    · rw [own off, if_pos long]
    · rw [own off, if_neg (by omega), figuresGiven_fails fails]
    · rw [own off, if_neg (by omega), figuresGiven_passes given]
      refine checkEach_fails (fun i x => inRange_iff ..) (firstFails_congr (fun i x hx => ?_) fails)
      have inside := (List.getElem?_eq_some_iff.1 hx).1
      rw [(timeoutRange_table (by omega)).1, (timeoutRange_table (by omega)).2]

end Sys2Proof.Machine
end

section
/-! Settles O14: the setups of the counters and of the sensor inputs. -/

namespace Sys2Proof.Machine

/-! ### COUNTER_SETUP (R145) -/

theorem counterBar_free {c : CounterId} {s : State}
    (ht : c = .t → ¬ (s.tracker.table ≠ [] ∨ s.arb.motion ≠ .still))
    (h1 : c = .c1 → s.seqs.f1.state = .offline) (h2 : c = .c2 → s.seqs.f2.state = .offline) :
    counterBar c s = none := by
  cases c with
  | t =>
    have free : s.tableBusyForLoad = false := by
      rw [← Bool.not_eq_true, tableBusyForLoad_iff]; exact ht rfl
    simp [counterBar, furnaceOf, free]
  | c1 => simp [counterBar, furnaceOf, (armed_false s .f1).2 (h1 rfl)]
  | c2 => simp [counterBar, furnaceOf, (armed_false s .f2).2 (h2 rfl)]

theorem counterBar_table {s : State} (h : s.tracker.table ≠ [] ∨ s.arb.motion ≠ .still) :
    counterBar .t s = some .busy := by
  simp [counterBar, furnaceOf, (tableBusyForLoad_iff s).2 h]

theorem ownCounterSetup_barred {c : CounterId} {first : Nat} {es : List CounterSetupEntry} {s : State}
    {code : RespCode} (h : counterBar c s = some code) :
    ownCounterSetup (.val c) first es s = .error (code, 0) := by
  simp [ownCounterSetup, h]

theorem ownCounterSetup_form {c : CounterId} {first : Nat} {es : List CounterSetupEntry} {s : State}
    (h : counterBar c s = none) (hf : first ≠ 0 ∨ es.length ≠ 1) :
    ownCounterSetup (.val c) first es s = .error (.outOfRange, 0) := by
  unfold ownCounterSetup
  dsimp only
  rw [h]
  dsimp only
  split
  · simp at hf
  · rfl

theorem ownCounterSetup_one {c : CounterId} {e : CounterSetupEntry} {s : State} (h : counterBar c s = none) :
    ownCounterSetup (.val c) 0 [e] s =
      if !CounterSetupEntry.codesOk c (CounterSetupEntry.asRead e) then .error (.illegalValue, 0)
      else if !CounterSetupEntry.rangesOk (CounterSetupEntry.asRead e) then .error (.outOfRange, 0)
      else .ok (.none, putCounterSetup c
        (CounterSetupEntry.applied (s.cfg.counterSetup.get c) (CounterSetupEntry.asRead e))) := by
  unfold ownCounterSetup
  dsimp only
  rw [h]
  rfl

/-- R145, check 5, by the fields as they are sent. -/
theorem counterCodesOk_iff (c : CounterId) (e : CounterSetupEntry) :
    CounterSetupEntry.codesOk c (CounterSetupEntry.asRead e) = true ↔
      (∀ raw, e.multiplier = some (.bad raw) → raw = 255) ∧ (∀ raw, e.invert = some (.bad raw) → raw = 255)
        ∧ (∀ raw, e.markerUse = some (.bad raw) → raw = 255)
        ∧ (∀ raw, e.edgeRising = some (.bad raw) → raw = 255)
        ∧ (∀ raw, e.homeDirection = some (.bad raw) → raw = 255)
        ∧ (∀ p ∈ e.gatePeriod, p = absentFigure ∨ p ∈ [10, 20, 50, 100])
        ∧ (c = .t → e.markerUse ≠ some (.val .home)) := by
  have gate (x : Option Int) : (figureRead x).all (fun p => p == 10 || p == 20 || p == 50 || p == 100) = true ↔
        ∀ p ∈ x, p = absentFigure ∨ p ∈ [10, 20, 50, 100] := by
    cases x with
    | none => simp [figureRead]
    | some p => by_cases hp : p = absentFigure <;> simp [figureRead, hp, or_assoc]
  have home (x : Option (Code MarkerUse)) : givenCode (codeRead x) = some .home ↔ x = some (.val .home) := by
    unfold codeRead
    split
    · simp [givenCode]
    · rcases x with _ | ⟨_ | _⟩ <;> simp [givenCode, Code.value]
  have table (x : Option (Code MarkerUse)) : (!(c == .t && givenCode (codeRead x) == some .home)) = true ↔
      (c = .t → x ≠ some (.val .home)) := by
    simp [← home, imp_iff_not_or]
  have codes : CounterSetupEntry.codesOk c (CounterSetupEntry.asRead e) =
      (goodWhereGiven (codeRead e.multiplier) && goodWhereGiven (codeRead e.invert)
        && goodWhereGiven (codeRead e.markerUse) && goodWhereGiven (codeRead e.edgeRising)
        && goodWhereGiven (codeRead e.homeDirection)
        && (figureRead e.gatePeriod).all (fun p => p == 10 || p == 20 || p == 50 || p == 100)
        && !(c == .t && givenCode (codeRead e.markerUse) == some .home)) := by
    unfold CounterSetupEntry.codesOk CounterSetupEntry.asRead
    dsimp only
    cases figureRead e.gatePeriod <;> rfl
  rw [codes]
  simp only [Bool.and_eq_true, goodWhereGiven_codeRead, gate, table, and_assoc]

/-- R145, check 6, by the fields as they are sent. -/
theorem counterRangesOk_iff (e : CounterSetupEntry) :
    CounterSetupEntry.rangesOk (CounterSetupEntry.asRead e) = true ↔
      (∀ x ∈ e.scale, x = absentFigure ∨ (1 ≤ x ∧ x ≤ 2000))
        ∧ (∀ x ∈ e.homePosition, x = absentFigure ∨ (-10000 ≤ x ∧ x ≤ 10000))
        ∧ (∀ x ∈ e.homeTolerance, x = absentFigure ∨ (1 ≤ x ∧ x ≤ 200)) := by
  simp only [CounterSetupEntry.rangesOk, CounterSetupEntry.asRead, Bool.and_eq_true, rangeWhereGiven_figureRead,
    and_assoc]

/-- An optional figure that is not the absent value is read as it is. -/
theorem figureRead_eq_self {x : Option Int} (h : ∀ y ∈ x, y ≠ absentFigure) : figureRead x = x := by
  cases x with
  | none => rfl
  | some y => exact figureRead_some (h y rfl)

theorem figureRead_idem (x : Option Int) : figureRead (if x = some absentFigure then none else x) = figureRead x := by
  unfold figureRead
  split <;> simp_all

theorem codeRead_idem {α : Type} [DecidableEq α] (x : Option (Code α)) :
    codeRead (if x = some (.bad 255) then none else x) = codeRead x := by
  split
  · rename_i h; rw [h]; rfl
  · rfl

/-- Loads with the same fields as they are read, of the same length, do the same. -/
theorem exec_loadCounterSetup_congr {h : Hdr} {sel : Code CounterId} {first : Nat} {e e' : CounterSetupEntry}
    {s : State} (hm : Managed s h) (hr : CounterSetupEntry.asRead e = CounterSetupEntry.asRead e') :
    exec (.loadCounterSetup h sel first [e]) s = exec (.loadCounterSetup h sel first [e']) s := by
  have own : ownCounterSetup sel first [e] = ownCounterSetup sel first [e'] := by
    funext s
    unfold ownCounterSetup
    rcases first with _ | n <;> simp only [hr]
  have fits : formFits (.loadCounterSetup h sel first [e]) = formFits (.loadCounterSetup h sel first [e']) := by
    simp [formFits, Instr.fieldsLength, Instr.fields, loadFields, CounterSetupEntry.fields, Instr.parts,
      Instr.entriesStand, Instr.fieldsOpen]
    rfl
  show powered (manage _ Kind.loadTable h (takeLoad h .counterSetup _ (ownCounterSetup sel first [e]))) s
    = powered (manage _ Kind.loadTable h (takeLoad h .counterSetup _ (ownCounterSetup sel first [e']))) s
  rw [powered_on _ _ hm.1.1, powered_on _ _ hm.1.1, manage_of_managed (by decide) hm, manage_of_managed (by decide) hm,
    own, fits]
  rfl

theorem putCounterSetup_eq (c : CounterId) (v : CounterSetup) (s : State) : putCounterSetup c v s =
    { s with
      cfg := { s.cfg with counterSetup := s.cfg.counterSetup.set c v }
      counters := s.counters.set c { s.counters.get c with
        gateStart := (s.counters.get c).acc, gateLeft := v.gatePeriod
        homed := if c = .t then (s.counters.get c).homed else false
        lastHomeDev := if c = .t then (s.counters.get c).lastHomeDev else none } } := by
  have reloaded : (s.counters.get c).reloaded c v.gatePeriod = { s.counters.get c with
        gateStart := (s.counters.get c).acc, gateLeft := v.gatePeriod
        homed := if c = .t then (s.counters.get c).homed else false
        lastHomeDev := if c = .t then (s.counters.get c).lastHomeDev else none } := by
    unfold Counter.reloaded
    split <;> rfl
  unfold putCounterSetup
  rw [← reloaded]
  rfl

/-! ### SENSOR_SETUP (R148) -/

theorem sensorIndex_eq (n : Nat) : sensorIndex n = [SensorId.ms, .gp, .d1, .d2, .te][n]? := by
  rcases n with _ | _ | _ | _ | _ | n <;> rfl

theorem sensorIndex_inj {n m : Nat} {i : SensorId} (hn : sensorIndex n = some i) (hm : sensorIndex m = some i) :
    n = m := by
  have nodup : [SensorId.ms, .gp, .d1, .d2, .te].Nodup := by decide
  rw [sensorIndex_eq] at hn hm
  obtain ⟨hn, rfl⟩ := List.getElem?_eq_some_iff.1 hn
  obtain ⟨hm, e⟩ := List.getElem?_eq_some_iff.1 hm
  exact (nodup.getElem_inj_iff.1 e).symm

/-- R148: an input after a load: its setup with the fields of its entry, no pending change, its level read anew. -/
structure SensorLoaded (e : SensorSetupEntry) (i : SensorId) (s t : State) : Prop where
  setup : t.cfg.sensorSetup.get i = SensorSetupEntry.applied (s.cfg.sensorSetup.get i) e
  sensor : t.sensors.get i = { s.sensors.get i with
    pending := none, taken := rawLevel (t.cfg.sensorSetup.get i) (s.sensors.get i) }

/-- An input that a load leaves alone. -/
structure SensorKept (i : SensorId) (s t : State) : Prop where
  setup : t.cfg.sensorSetup.get i = s.cfg.sensorSetup.get i
  sensor : t.sensors.get i = s.sensors.get i

/-- Nothing but the sensor inputs and their setups differs. -/
structure OnlySensors (s t : State) : Prop where
  eq : t = { s with cfg := { s.cfg with sensorSetup := t.cfg.sensorSetup }, sensors := t.sensors }

theorem OnlySensors.refl (s : State) : OnlySensors s s := ⟨rfl⟩

theorem OnlySensors.trans {s t u : State} (h : OnlySensors s t) (k : OnlySensors t u) : OnlySensors s u := by
  obtain ⟨h⟩ := h
  obtain ⟨k⟩ := k
  exact ⟨by rw [k, h]⟩

theorem putSensorSetup_loaded (i : SensorId) (e : SensorSetupEntry) (s : State) :
    SensorLoaded e i s (putSensorSetup i (SensorSetupEntry.applied (s.cfg.sensorSetup.get i) e) s) := by
  constructor <;> simp [putSensorSetup, State.setSensor, State.sensor, State.setSensors, State.setCfg]

theorem putSensorSetup_kept {i j : SensorId} (h : j ≠ i) (v : SensorSetup) (s : State) :
    SensorKept j s (putSensorSetup i v s) :=
  ⟨PerSensor.get_set_of_ne _ h _, PerSensor.get_set_of_ne _ h _⟩

theorem putSensorSetups_only (first : Nat) (es : List SensorSetupEntry) (s : State) :
    OnlySensors s (putSensorSetups first es s) := by
  induction es generalizing first s with
  | nil => exact .refl s
  | cons e es ih =>
    unfold putSensorSetups
    split
    · exact .refl s
    · exact OnlySensors.trans ⟨rfl⟩ (ih ..)

/-- The inputs at other indices stay. -/
theorem putSensorSetups_kept {first n : Nat} {es : List SensorSetupEntry} {s : State} {i : SensorId}
    (hi : sensorIndex n = some i) (h : n < first ∨ first + es.length ≤ n) :
    SensorKept i s (putSensorSetups first es s) := by
  induction es generalizing first s with
  | nil => exact ⟨rfl, rfl⟩
  | cons e es ih =>
    have len : (e :: es).length = es.length + 1 := rfl
    unfold putSensorSetups
    split
    · exact ⟨rfl, rfl⟩
    · rename_i j hj
      have ne : i ≠ j := by
        rintro rfl
        have := sensorIndex_inj hi hj
        omega
      obtain ⟨setup, sensor⟩ := ih (first := first + 1)
        (s := putSensorSetup j (SensorSetupEntry.applied (s.cfg.sensorSetup.get j) e) s) (by omega)
      obtain ⟨setup', sensor'⟩ := putSensorSetup_kept ne (SensorSetupEntry.applied (s.cfg.sensorSetup.get j) e) s
      exact ⟨setup.trans setup', sensor.trans sensor'⟩

/-- Each input named takes its entry. -/
theorem putSensorSetups_loaded {first j : Nat} {es : List SensorSetupEntry} {s : State} {i : SensorId}
    {e : SensorSetupEntry} (hl : first + es.length ≤ 5) (he : es[j]? = some e) (hi : sensorIndex (first + j) = some i) :
    SensorLoaded e i s (putSensorSetups first es s) := by
  induction es generalizing first s j with
  | nil => simp at he
  | cons a es ih =>
    have len : (a :: es).length = es.length + 1 := rfl
    have bound := (List.getElem?_eq_some_iff.1 he).1
    unfold putSensorSetups
    split
    · rename_i none
      rw [sensorIndex_eq, List.getElem?_eq_none_iff] at none
      simp at none
      omega
    · rename_i x hx
      generalize hu : putSensorSetup x (SensorSetupEntry.applied (s.cfg.sensorSetup.get x) a) s = u
      rcases j with _ | j
      · obtain rfl : a = e := by simpa using he
        obtain rfl : x = i := Option.some.inj (hx.symm.trans hi)
        obtain ⟨setup, sensor⟩ := putSensorSetup_loaded x a s
        obtain ⟨setup', sensor'⟩ := putSensorSetups_kept (first := first + 1) (es := es) (s := u) hx (by omega)
        rw [hu] at setup sensor
        exact ⟨setup'.trans setup, by rw [sensor', setup', sensor]⟩
      · have ne : i ≠ x := by
          rintro rfl
          have := sensorIndex_inj hi hx
          omega
        obtain ⟨setup, sensor⟩ := putSensorSetup_kept ne (SensorSetupEntry.applied (s.cfg.sensorSetup.get x) a) s
        rw [hu] at setup sensor
        obtain ⟨setup', sensor'⟩ := ih (first := first + 1) (j := j) (s := u) (by omega) (by simpa using he)
          (by rwa [show first + 1 + j = first + (j + 1) by omega])
        exact ⟨by rw [setup', setup], by rw [sensor', sensor]⟩

end Sys2Proof.Machine
end

section
/-! Settles O14: what a load of sensor setups leaves of the grid watch, and the two owners' checks. -/

namespace Sys2Proof.Machine

/-- R87: with an empty list and no grant the grid watch follows the taken level of GP, and a fresh presence is
told. -/
theorem evalPresence_emptyTable {s : State} (ht : s.tracker.table = []) (hg : s.grid.grant = none) :
    evalPresence s = if s.sensors.gp.taken && !s.tracker.unidentified then
        raise (.unidentifiedOnGrid s.travel) (putUnidentified true s)
      else putUnidentified s.sensors.gp.taken s := by
  have zone : s.zoneTaken = false := by
    unfold State.zoneTaken
    split
    · rfl
    · rw [ht]; rfl
  have level : s.present .gp = s.sensors.gp.taken := rfl
  have same (h : s.tracker.unidentified = true) : putUnidentified true s = s := by
    unfold putUnidentified
    rw [← h]
    rfl
  unfold evalPresence evalPresenceAt
  rw [zone, level, hg]
  cases s.sensors.gp.taken
  · rfl
  · cases hu : s.tracker.unidentified
    · rfl
    · exact (same hu).symm

/-- Where an event goes depends on the queues, the mode, the held events and the partners alone. -/
theorem raise_congr {e : Event} {s t : State} (hl : t.links = s.links) (hr : t.ret = s.ret)
    (hp : t.cfg.partners = s.cfg.partners) :
    (raise e t).links = (raise e s).links ∧ (raise e t).ret = (raise e s).ret := by
  have station : t.reportStation = s.reportStation := by
    unfold State.reportStation; rw [hp]
  by_cases hm : s.ret.mode = .run
  · rw [raise_run hm, raise_run (hr ▸ hm)]
    unfold sendEvent sendOwn
    rw [hl, hr, station]
    cases s.links.station
    · exact ⟨hl, hr⟩
    · exact ⟨rfl, hr⟩
  · rw [raise_away hm, raise_away (hr ▸ hm)]
    unfold holdEvent
    rw [hr]
    split
    · exact ⟨hl, rfl⟩
    · exact ⟨hl, rfl⟩

/-- An event changes the queues and the retention controller's part alone. -/
theorem raise_eq (e : Event) (s : State) : raise e s = { s with links := (raise e s).links, ret := (raise e s).ret } := by
  by_cases hm : s.ret.mode = .run
  · rw [raise_run hm]
    unfold sendEvent sendOwn
    split <;> rfl
  · rw [raise_away hm]
    unfold holdEvent
    split <;> rfl

/-! ### SENSOR_SETUP, its checks (R148) -/

theorem sensorBar_iff (s : State) : (s.tableBusyForLoad || s.grid.grant.isSome) = true ↔
    (s.tracker.table ≠ [] ∨ s.arb.motion ≠ .still) ∨ s.grid.grant.isSome = true := by
  rw [Bool.or_eq_true, tableBusyForLoad_iff]

/-- The entries that a load of sensor setups writes. -/
theorem ownSensorSetup_free {first : Nat} {es : List SensorSetupEntry} {s : State}
    (h : ¬ ((s.tracker.table ≠ [] ∨ s.arb.motion ≠ .still) ∨ s.grid.grant.isSome = true))
    (hl : first + es.length ≤ 5) : ownSensorSetup first es s =
      checkEach (fun _ e => rangeWhereGiven 0 50 e.filterTime) .outOfRange first (es.map SensorSetupEntry.asRead)
        (checkEach (fun _ e => goodWhereGiven e.invert) .illegalValue first (es.map SensorSetupEntry.asRead)
          (.ok (.none, fun s =>
            finish (markList (evalPresence (putSensorSetups first (es.map SensorSetupEntry.asRead) s)))))) := by
  unfold ownSensorSetup
  dsimp only
  rw [if_neg fun b => h ((sensorBar_iff s).1 b), if_neg (by simp; omega)]

theorem filterTimeOk_iff (e : SensorSetupEntry) :
    rangeWhereGiven 0 50 (SensorSetupEntry.asRead e).filterTime = true ↔
      ∀ x ∈ e.filterTime, x = absentFigure ∨ (0 ≤ x ∧ x ≤ 50) := rangeWhereGiven_figureRead 0 50 _

theorem invertOk_iff (e : SensorSetupEntry) : goodWhereGiven (SensorSetupEntry.asRead e).invert = true ↔
    ∀ raw, e.invert = some (.bad raw) → raw = 255 := goodWhereGiven_codeRead _

/-! ### What a load of sensor setups leaves (R148) -/

/-- R171: the setup that an entry gives, by its fields as they are sent. -/
theorem sensorApplied_asRead (x : SensorSetup) (time : Option Int) (inv : Option (Code Bool)) :
    (SensorSetupEntry.applied x (SensorSetupEntry.asRead ⟨time, inv⟩)).filterTime = (match time with
        | none => x.filterTime
        | some y => if y = absentFigure then x.filterTime else y.toNat)
      ∧ (SensorSetupEntry.applied x (SensorSetupEntry.asRead ⟨time, inv⟩)).invert =
        (match inv with | some (.val b) => b | _ => x.invert) := by
  constructor
  · cases time with
    | none => rfl
    | some y =>
      by_cases h : y = absentFigure <;> simp [SensorSetupEntry.applied, SensorSetupEntry.asRead, figureRead, h]
  · rcases inv with _ | _ | raw
    · rfl
    · rfl
    · by_cases h : raw = 255
      · subst h; rfl
      · simp [SensorSetupEntry.applied, SensorSetupEntry.asRead, codeRead, h, givenCode, Code.value]

/-- The grid watch behind the setups `w` of an answered load: the flag, and what the event says. -/
structure Watched (w v : State) : Prop where
  rest : v = { w with links := v.links, ret := v.ret, tracker := { w.tracker with unidentified := w.sensors.gp.taken } }
  told : ∀ a : State, a.links = w.links → a.ret = w.ret → a.cfg.partners = w.cfg.partners →
    let told := if (w.sensors.gp.taken && !w.tracker.unidentified) = true then
      raise (.unidentifiedOnGrid w.travel) a else a
    v.links = told.links ∧ v.ret = told.ret

theorem evalPresence_watched {w : State} (ht : w.tracker.table = []) (hg : w.grid.grant = none) :
    Watched w (evalPresence w) := by
  rw [evalPresence_emptyTable ht hg]
  cases h : w.sensors.gp.taken && !w.tracker.unidentified
  · exact ⟨rfl, fun a hl hr hp => by rw [h]; exact ⟨hl.symm, hr.symm⟩⟩
  · have taken : w.sensors.gp.taken = true := (Bool.and_eq_true_iff.1 h).1
    refine ⟨?_, fun a hl hr hp => by rw [h]; exact raise_congr hl.symm hr.symm hp.symm⟩
    refine (raise_eq ..).trans ?_
    rw [taken]
    rfl

theorem exec_loadSensorSetup_taken {h : Hdr} {first : Nat} {es : List SensorSetupEntry} {s : State}
    (hm : Managed s h) (hl : s.mgmt.latch = none) (hf : formFits (.loadSensorSetup h first es) = true)
    (hs : 1 ≤ es.length ∧ es.length ≤ 16)
    (free : ¬ ((s.tracker.table ≠ [] ∨ s.arb.motion ≠ .still) ∨ s.grid.grant.isSome = true))
    (fit : first + es.length ≤ 5) (timed : ∀ e ∈ es, ∀ x ∈ e.filterTime, x = absentFigure ∨ (0 ≤ x ∧ x ≤ 50))
    (good : ∀ e ∈ es, ∀ raw, e.invert = some (.bad raw) → raw = 255) :
    exec (.loadSensorSetup h first es) s = .next (finish (markList (evalPresence
      (putSensorSetups first (es.map SensorSetupEntry.asRead) (respond h Kind.loadTable .ok none .none s))))) := by
  refine load_taken (own := ownSensorSetup first es)
    (f := fun s => finish (markList (evalPresence (putSensorSetups first (es.map SensorSetupEntry.asRead) s))))
    hm hf hl hs ?_
  rw [ownSensorSetup_free free fit, checkEach_passes ?_, checkEach_passes ?_]
  · intro _ x hx
    obtain ⟨e, he, rfl⟩ := List.mem_map.1 hx
    exact (invertOk_iff e).2 (good e he)
  · intro _ x hx
    obtain ⟨e, he, rfl⟩ := List.mem_map.1 hx
    exact (filterTimeOk_iff e).2 (timed e he)

/-- Settles O14: the counters by the checks of R145 and the setup they write; the sensor inputs by the checks of
R148, the setups written one after another and the grid watch behind them. -/
theorem loadCounterAndSensorSetup : Obligations.LoadCounterAndSensorSetup := by
  unfold Obligations.LoadCounterAndSensorSetup
  refine ⟨⟨?counterTaken, ?counterAbsent⟩, ?sensorsTaken, fun h s hm hl => ⟨?counter, ?sensors⟩⟩
  case counterTaken =>
    intro h c m inv scale gate use edge dir pos tol s hm hl ht h1 h2 hs hg hp htol old x setup i hf
    have bar : counterBar c s = none :=
      counterBar_free (fun e => by simp [(ht e).1, (ht e).2.1]) h1 h2
    have inside {a b : Int} {y : Option Int} (hy : ∀ x ∈ y, a ≤ x ∧ x ≤ b) (ha : -2147483648 < a) :
        figureRead y = y := figureRead_eq_self fun z hz => ne_absentFigure (hy z hz).1 ha
    have gateRead : figureRead gate = gate := figureRead_eq_self fun z hz => by
      have := hg z hz
      rintro rfl
      exact absurd this (by decide)
    have codes : CounterSetupEntry.codesOk c (CounterSetupEntry.asRead ⟨m.map .val, inv.map .val, scale, gate,
        use.map .val, edge.map .val, dir.map .val, pos, tol⟩) = true :=
      (counterCodesOk_iff c _).2 ⟨fun _ hx => (map_val_ne_bad _ _ hx).elim, fun _ hx => (map_val_ne_bad _ _ hx).elim,
        fun _ hx => (map_val_ne_bad _ _ hx).elim, fun _ hx => (map_val_ne_bad _ _ hx).elim,
        fun _ hx => (map_val_ne_bad _ _ hx).elim, fun p hp => .inr (hg p hp),
        fun e => by simpa using (ht e).2.2⟩
    have ranges : CounterSetupEntry.rangesOk (CounterSetupEntry.asRead ⟨m.map .val, inv.map .val, scale, gate,
        use.map .val, edge.map .val, dir.map .val, pos, tol⟩) = true :=
      (counterRangesOk_iff _).2 ⟨fun x hx => .inr (hs x hx), fun x hx => .inr (hp x hx), fun x hx => .inr (htol x hx)⟩
    have applied : CounterSetupEntry.applied (s.cfg.counterSetup.get c) (CounterSetupEntry.asRead ⟨m.map .val,
        inv.map .val, scale, gate, use.map .val, edge.map .val, dir.map .val, pos, tol⟩) = setup := by
      simp only [CounterSetupEntry.applied, CounterSetupEntry.asRead, codeRead_val, givenCode_val, gateRead,
        inside hs (by decide), inside hp (by decide), inside htol (by decide)]
      rfl
    have own : ownCounterSetup (.val c) 0 [⟨m.map .val, inv.map .val, scale, gate, use.map .val, edge.map .val,
        dir.map .val, pos, tol⟩] s = .ok (.none, putCounterSetup c setup) := by
      rw [ownCounterSetup_one bar, codes, ranges, applied]
      rfl
    refine (load_taken hm hf hl (singleton_sized _) own).trans (congrArg _ ?_)
    rw [putCounterSetup_eq, respond_cfg, respond_counters]
  case counterAbsent =>
    intro h sel first e s hm
    refine exec_loadCounterSetup_congr hm ?_
    simp only [CounterSetupEntry.asRead, figureRead_idem, codeRead_idem]
  case sensorsTaken =>
    intro h first es s hm hl empty still noGrant hne hlen hes inputs answered c hf
    have len : (es.map fun e => ({ filterTime := e.1, invert := e.2 } : SensorSetupEntry)).length = es.length :=
      List.length_map _
    have free : ¬ ((s.tracker.table ≠ [] ∨ s.arb.motion ≠ .still) ∨ s.grid.grant.isSome = true) := by
      simp [empty, still, noGrant]
    have taken := exec_loadSensorSetup_taken hm hl hf (by rw [len]; exact ⟨List.length_pos_iff.2 hne, by omega⟩) free
      (by omega) (List.forall_mem_map.2 fun x hx => (hes x hx).1) (List.forall_mem_map.2 fun x hx => (hes x hx).2)
    rw [List.map_map] at taken
    generalize hw : putSensorSetups first _ _ = w at taken
    have only : OnlySensors answered w := hw ▸ putSensorSetups_only ..
    have watched : Watched w (evalPresence w) := evalPresence_watched
      (by rw [only.eq]; simpa [answered] using empty) (by rw [only.eq]; simpa [answered] using noGrant)
    have cfg : (markList (evalPresence w)).cfg = w.cfg := by rw [markList_cfg, watched.rest]
    have sensors : (markList (evalPresence w)).sensors = w.sensors := by rw [markList_sensors, watched.rest]
    have answeredCfg : answered.cfg = s.cfg := respond_cfg ..
    have answeredSensors : answered.sensors = s.sensors := respond_sensors ..
    refine ⟨markList (evalPresence w), taken, fun j time inv i hj hi => ?_, fun n i hn out => ?_, ?_⟩
    · have loaded : SensorLoaded (SensorSetupEntry.asRead ⟨time, inv⟩) i answered w :=
        hw ▸ putSensorSetups_loaded (by simpa using hlen) (by simp [hj]) ((sensorIndex_eq _).trans hi)
      obtain ⟨setup, sensor⟩ := loaded
      rw [answeredCfg] at setup
      rw [answeredSensors] at sensor
      rw [cfg, sensors, sensor, setup]
      exact ⟨(sensorApplied_asRead ..).1, (sensorApplied_asRead ..).2, rfl⟩
    · have kept : SensorKept i answered w :=
        hw ▸ putSensorSetups_kept ((sensorIndex_eq _).trans hn) (by simpa using out)
      obtain ⟨setup, sensor⟩ := kept
      rw [answeredCfg] at setup
      rw [answeredSensors] at sensor
      rw [cfg, sensors]
      exact ⟨setup, sensor⟩
    · have tracker : w.tracker = s.tracker := by rw [only.eq]; exact respond_tracker ..
      have travel : w.travel = s.travel := by rw [only.eq]; simp [State.travel, answered]
      have told := watched.told answered (by rw [only.eq]) (by rw [only.eq]) (by rw [only.eq])
      rw [tracker, travel] at told
      rw [cfg, sensors, markList_links, markList_ret]
      refine ⟨told, ?_, ?_, ?_, ?_⟩
      · rw [markList_tracker, watched.rest, tracker]
      · rw [← answeredCfg, only.eq]
      · have due : w.due = s.due := by rw [only.eq]; exact respond_due ..
        rw [← due, watched.rest]
        rfl
      · rw [watched.rest, only.eq]
        simp [answered]
  case counter =>
    refine ⟨fun raw first es hs hf => load_refused hm hf hl hs rfl,
      fun first es hs armed hf => load_refused hm hf hl hs (ownCounterSetup_barred ?_),
      fun first es hs armed hf => load_refused hm hf hl hs (ownCounterSetup_barred ?_),
      fun first es hs busy hf => load_refused hm hf hl hs (ownCounterSetup_barred (counterBar_table busy)),
      fun c first es hs free form hf => load_refused hm hf hl hs
        (ownCounterSetup_form (counterBar_free free.1 free.2.1 free.2.2) form),
      fun c e free codes hf => load_refused hm hf hl (singleton_sized e) ?_,
      fun c e free codes ranges hf => load_refused hm hf hl (singleton_sized e) ?_⟩
    · simp [counterBar, furnaceOf, (armed_true s .f1).2 armed]
    · simp [counterBar, furnaceOf, (armed_true s .f2).2 armed]
    · rw [ownCounterSetup_one (counterBar_free free.1 free.2.1 free.2.2),
        Bool.eq_false_iff.2 ((counterCodesOk_iff c e).not.2 codes)]
      rfl
    · rw [ownCounterSetup_one (counterBar_free free.1 free.2.1 free.2.2), (counterCodesOk_iff c e).2 codes,
        Bool.eq_false_iff.2 ((counterRangesOk_iff e).not.2 ranges)]
      rfl
  case sensors =>
    refine ⟨fun first es hs barred hf => load_refused hm hf hl hs ?_,
      fun first es hs free long hf => load_refused hm hf hl hs ?_,
      fun first es n hs free fit fails hf => load_refused hm hf hl hs ?_,
      fun first es n hs free fit timed fails hf => load_refused hm hf hl hs ?_⟩
    · unfold ownSensorSetup
      exact if_pos ((sensorBar_iff s).2 barred)
    · unfold ownSensorSetup
      dsimp only
      rw [if_neg fun b => free ((sensorBar_iff s).1 b), if_pos (by simpa using long)]
    · rw [ownSensorSetup_free free fit]
      exact checkEach_fails (fun _ _ => Iff.rfl) (firstFails_map (fun _ e => (filterTimeOk_iff e).symm) fails)
    · rw [ownSensorSetup_free free fit, checkEach_passes ?_]
      · exact checkEach_fails (fun _ _ => Iff.rfl) (firstFails_map (fun _ e => (invertOk_iff e).symm) fails)
      · intro _ x hx
        obtain ⟨e, he, rfl⟩ := List.mem_map.1 hx
        exact (filterTimeOk_iff e).2 (timed e he)

end Sys2Proof.Machine
end

section
/-! Settles O15, first part: the window pool (R162, R163). -/

namespace Sys2Proof.Machine

/-! ### Lists written entry by entry -/

/-- Writing the first entry and then the rest behind it writes them all. -/
theorem writeAt_set {α : Type} {first : Nat} {x : α} {xs l : List α} (h : first < l.length) :
    writeAt (first + 1) xs (l.set first x) = writeAt first (x :: xs) l := by
  have fresh : (l.set first x).take (first + 1) = l.take first ++ [x] := by
    rw [List.set_eq_take_append_cons_drop, if_pos h, List.take_append, List.length_take, Nat.min_eq_left h.le,
      List.take_of_length_le (by simp), Nat.add_sub_cancel_left]
    rfl
  have behind : (l.set first x).drop (first + 1 + xs.length) = l.drop (first + (x :: xs).length) := by
    rw [List.drop_set_of_lt (by omega)]
    congr 1
    simp
    omega
  unfold writeAt
  rw [fresh, behind]
  simp

theorem writeAt_nil {α : Type} (first : Nat) (l : List α) : writeAt first [] l = l := by
  simp [writeAt]

/-- A single entry written is the list with that entry set. -/
theorem writeAt_singleton {α : Type} {first : Nat} {x : α} {l : List α} (h : first < l.length) :
    writeAt first [x] l = l.set first x := by
  rw [← writeAt_set h, writeAt_nil]

/-! ### Overlaps of one pool index (R163) -/

theorem windowOverlaps_iff (v w : Window) :
    v.overlaps w = true ↔ v.basis = w.basis ∧ v.on < w.off ∧ w.on < v.off := by
  simp [Window.overlaps, and_assoc]

theorem windowOverlaps_comm {v w : Window} (h : v.basis = w.basis ∧ v.on < w.off ∧ w.on < v.off) :
    w.basis = v.basis ∧ w.on < v.off ∧ v.on < w.off := ⟨h.1.symm, h.2.2, h.2.1⟩

/-- In a list whose windows stand apart, the window at one of its indices overlaps none of the others. -/
theorem overlapsAt_of_apart {pool : List (Option Window)} {l : List Nat} {i j : Nat} {w : Window}
    (ha : WindowsApart pool l) (hi : i ∈ l) (hj : j ∈ l.erase i) (hw : pool.getD i none = some w) :
    overlapsAt pool w j = false := by
  unfold overlapsAt
  split
  · rfl
  · rename_i v hv
    unfold WindowsApart at ha
    rw [List.pairwise_filterMap] at ha
    rw [← Bool.not_eq_true, windowOverlaps_iff]
    exact List.rel_of_pairwise_cons (ha.perm (List.perm_cons_erase hi) fun h b hb b' hb' e =>
      h b' hb' b hb (windowOverlaps_comm e)) hj w hw v hv

theorem indexOverlaps_of_apart {pool : List (Option Window)} {sets : List (List Nat)} {i : Nat}
    (h : ∀ l ∈ sets, i ∈ l → WindowsApart pool l) : indexOverlaps pool sets i = false := by
  unfold indexOverlaps
  split
  · rfl
  · rename_i w hw
    rw [List.any_eq_false]
    intro l hl
    rw [Bool.and_eq_true, List.contains_iff_mem, List.any_eq_true]
    rintro ⟨hi, j, hj, hover⟩
    rw [overlapsAt_of_apart (h l hl hi) hi hj hw] at hover
    cases hover

theorem indexOverlaps_of_pair {pool : List (Option Window)} {sets : List (List Nat)} {l : List Nat} {i j : Nat}
    {v w : Window} (hl : l ∈ sets) (hi : i ∈ l) (hj : j ∈ l) (hne : j ≠ i) (hw : pool.getD i none = some w)
    (hv : pool.getD j none = some v) (ho : w.overlaps v = true) : indexOverlaps pool sets i = true := by
  unfold indexOverlaps
  rw [hw]
  dsimp only
  rw [List.any_eq_true]
  refine ⟨l, hl, ?_⟩
  rw [Bool.and_eq_true, List.contains_iff_mem, List.any_eq_true]
  refine ⟨hi, j, (List.mem_erase_of_ne hne).2 hj, ?_⟩
  unfold overlapsAt
  rw [hv]
  exact ho

theorem references_iff (sets : List (List Nat)) (i : Nat) : references sets i = true ↔ ∃ l ∈ sets, i ∈ l := by
  simp [references]

theorem armedReference_iff (s : State) (i : Nat) : armedReference s i = true ↔
    ∃ k, (s.seqs.get k).state ≠ .offline ∧ ∃ l ∈ s.cfg.sets.get k, i ∈ l := by
  have both (p : Furnace → Prop) : (∃ k, p k) ↔ p .f1 ∨ p .f2 :=
    ⟨fun ⟨k, hk⟩ => by cases k <;> simp [hk], fun h => h.elim (⟨_, ·⟩) (⟨_, ·⟩)⟩
  rw [both]
  simp only [armedReference, Bool.or_eq_true, Bool.and_eq_true, armed_true, references_iff]
  rfl

theorem offlineReference_iff (s : State) (i : Nat) : offlineReference s i = true ↔
    ∃ k, (s.seqs.get k).state = .offline ∧ ∃ l ∈ s.cfg.sets.get k, i ∈ l := by
  have both (p : Furnace → Prop) : (∃ k, p k) ↔ p .f1 ∨ p .f2 :=
    ⟨fun ⟨k, hk⟩ => by cases k <;> simp [hk], fun h => h.elim (⟨_, ·⟩) (⟨_, ·⟩)⟩
  rw [both]
  simp only [offlineReference, Bool.or_eq_true, Bool.and_eq_true, Bool.not_eq_true', armed_false, references_iff]
  rfl

/-! ### The checks of one pool entry (R162) -/

section
variable {s : State} {free : Bool} {pool : List (Option Window)} {place : Option Nat} {e : PoolLoadEntry}

theorem poolEntryCheck_codes (h : PoolLoadEntry.codesOk free e = false) :
    poolEntryCheck s free pool place e = some .illegalValue := by
  simp [poolEntryCheck, h]

theorem poolEntryCheck_edges {c : RespCode} (h : PoolLoadEntry.codesOk free e = true)
    (he : edgeCheck (PoolLoadEntry.window? e) = some c) : poolEntryCheck s free pool place e = some c := by
  simp [poolEntryCheck, h, he]

theorem poolEntryCheck_full (h : PoolLoadEntry.codesOk free e = true)
    (he : edgeCheck (PoolLoadEntry.window? e) = none) : poolEntryCheck s free pool none e = some .poolFull := by
  simp [poolEntryCheck, h, he]

theorem poolEntryCheck_placed {i : Nat} (h : PoolLoadEntry.codesOk free e = true)
    (he : edgeCheck (PoolLoadEntry.window? e) = none) : poolEntryCheck s free pool (some i) e =
      if !free && armedReference s i then some .notWhileArmed
      else if (PoolLoadEntry.window? e).isNone && offlineReference s i then some .illegalValue
      else if (PoolLoadEntry.window? e).isSome
          && (indexOverlaps pool s.cfg.sets.f1 i || indexOverlaps pool s.cfg.sets.f2 i) then some .overlap
      else none := by
  simp [poolEntryCheck, h, he]

/-- An entry whose codes, edges and references are good, in lists whose windows stand apart, is taken. -/
theorem poolEntryCheck_good {i : Nat} (h : PoolLoadEntry.codesOk free e = true)
    (he : edgeCheck (PoolLoadEntry.window? e) = none) (ha : free = true ∨ armedReference s i = false)
    (ho : (PoolLoadEntry.window? e).isNone = true → offlineReference s i = false)
    (hw : ∀ l ∈ s.cfg.sets.f1 ++ s.cfg.sets.f2, i ∈ l → WindowsApart pool l) :
    poolEntryCheck s free pool (some i) e = none := by
  have armed : (!free && armedReference s i) = false := by rcases ha with ha | ha <;> simp [ha]
  have offline : ((PoolLoadEntry.window? e).isNone && offlineReference s i) = false := by
    rw [← Bool.not_eq_true, Bool.and_eq_true]
    rintro ⟨hn, hr⟩
    rw [ho hn] at hr
    cases hr
  rw [poolEntryCheck_placed h he, armed, offline,
    indexOverlaps_of_apart fun l hl => hw l (List.mem_append_left _ hl),
    indexOverlaps_of_apart fun l hl => hw l (List.mem_append_right _ hl)]
  simp

end

end Sys2Proof.Machine
end

section
/-! Settles O15, second part: the window pool as a load leaves it, and the loads of the pool. -/

namespace Sys2Proof.Machine

/-! ### The entries of a load -/

/-- The load entry of a window. -/
def Window.entry (w : Window) : PoolLoadEntry :=
  .window (.val w.basis) w.on w.off (.val w.speed) w.mask (.val w.lead)

/-- The codes of a window are good and its edges are there. -/
def Window.Coded (w : Window) : Prop :=
  w.mask ≠ 0 ∧ w.mask.toNat < 128 ∧ w.on ≠ absentFigure ∧ w.off ≠ absentFigure

theorem Window.codesOk_entry {w : Window} (free : Bool) (h : w.Coded) : PoolLoadEntry.codesOk free w.entry = true := by
  obtain ⟨mask, small, on, off⟩ := h
  simp [PoolLoadEntry.codesOk, entry, Code.good, small, (figureGiven_true _).2 on, (figureGiven_true _).2 off]
  exact mask

theorem Window.window?_entry {w : Window} (h : w.Coded) : PoolLoadEntry.window? w.entry = some w := by
  simp [PoolLoadEntry.window?, entry, (figureGiven_true _).2 h.2.2.1, (figureGiven_true _).2 h.2.2.2]

/-- R162, check 3: what makes the codes of an entry bad. -/
theorem codesOk_of_bad {e : PoolLoadEntry} (free : Bool) (h : (∃ raw, e = .badKind raw)
    ∨ ∃ basis on off speed mask lead, e = .window basis on off speed mask lead
      ∧ ((∃ raw, basis = .bad raw) ∨ (∃ raw, speed = .bad raw) ∨ (∃ raw, lead = .bad raw)
        ∨ mask = 0 ∨ 128 ≤ mask.toNat ∨ on = absentFigure ∨ off = absentFigure)) :
    PoolLoadEntry.codesOk free e = false := by
  rcases h with ⟨raw, rfl⟩ | ⟨basis, on, off, speed, mask, lead, rfl, bad⟩
  · rfl
  · simp only [PoolLoadEntry.codesOk]
    rcases bad with ⟨raw, rfl⟩ | ⟨raw, rfl⟩ | ⟨raw, rfl⟩ | h | h | h | h
    · simp [Code.good]
    · simp [Code.good]
    · simp [Code.good]
    · simp [h]
    · simp [show ¬ mask.toNat < 128 by omega]
    · simp [h, figureGiven]
    · simp [h, figureGiven]

/-- R155: the greatest magnitude of an edge of a window's basis. -/
def Window.reach (w : Window) : Int := match w.basis with | .fixed => 20000 | .target => 10000

theorem Window.edgesInRange_iff (w : Window) : w.edgesInRange = true ↔
    -w.reach ≤ w.on ∧ w.on ≤ w.reach ∧ -w.reach ≤ w.off ∧ w.off ≤ w.reach := by
  unfold edgesInRange reach
  cases w.basis <;> simp [inRange, and_assoc]

theorem edgeCheck_outside {w : Window} (h : w.edgesInRange = false) : edgeCheck (some w) = some .outOfRange := by
  simp [edgeCheck, h]

theorem edgeCheck_crossed {w : Window} (h : w.edgesInRange = true) (ho : w.off ≤ w.on) :
    edgeCheck (some w) = some .illegalValue := by
  simp [edgeCheck, h, ho]

theorem edgeCheck_good {w : Window} (h : w.edgesInRange = true) (ho : w.on < w.off) : edgeCheck (some w) = none := by
  simp [edgeCheck, h, ho.not_ge]

/-- Edges in their range are there. -/
theorem Window.edges_given {w : Window} (h : w.edgesInRange = true) : w.on ≠ absentFigure ∧ w.off ≠ absentFigure := by
  obtain ⟨h1, -, h2, -⟩ := w.edgesInRange_iff.1 h
  have small : w.reach ≤ 20000 := by unfold reach; cases w.basis <;> decide
  exact ⟨ne_absentFigure (a := -20000) (by omega) (by decide), ne_absentFigure (a := -20000) (by omega) (by decide)⟩

/-! ### The pool as a load would leave it -/

theorem range_places (first n : Nat) : (List.range (n + 1)).map (fun i => some (first + i))
    = some first :: (List.range n).map fun i => some (first + 1 + i) := by
  rw [List.range_succ_eq_map, List.map_cons, List.map_map]
  congr 1
  refine List.map_congr_left fun i _ => ?_
  simp only [Function.comp]
  congr 1
  omega

theorem poolAfter_indexed {first : Nat} {es : List PoolLoadEntry} {pool : List (Option Window)}
    (h : first + es.length ≤ pool.length) :
    poolAfter ((List.range es.length).map fun i => some (first + i)) es pool =
      writeAt first (es.map PoolLoadEntry.window?) pool := by
  induction es generalizing first pool with
  | nil => exact (writeAt_nil first pool).symm
  | cons e es ih =>
    have len : (e :: es).length = es.length + 1 := rfl
    rw [len, range_places, poolAfter, ih (by simp [writePool]; omega), List.map_cons]
    exact writeAt_set (by omega)

theorem poolCheck_none {s : State} {free : Bool} {pool : List (Option Window)} {i first : Nat} {es : List PoolLoadEntry}
    (h : ∀ j e, es[j]? = some e → poolEntryCheck s free pool (some (first + j)) e = none) :
    poolCheck s free pool i ((List.range es.length).map fun i => some (first + i)) es = none := by
  induction es generalizing first i with
  | nil => rfl
  | cons e es ih =>
    have head : poolEntryCheck s free pool (some first) e = none := h 0 e rfl
    rw [List.length_cons, range_places, poolCheck, head]
    refine ih fun j x hx => ?_
    rw [show first + 1 + j = first + (j + 1) by omega]
    exact h (j + 1) x (by simpa using hx)

/-- The lowest empty entry is the first of the empty indices. -/
theorem emptyIndices_first {pool : List (Option Window)} {i n : Nat} (h : pool[i]? = some none)
    (hb : ∀ j, j < i → pool[j]? ≠ some none) : (emptyIndices n pool)[0]? = some (n + i) := by
  induction pool generalizing i n with
  | nil => simp at h
  | cons x l ih =>
    cases x with
    | none =>
      rcases i with _ | i
      · rfl
      · exact absurd rfl (hb 0 (by omega))
    | some w =>
      rcases i with _ | i
      · simp at h
      · rw [emptyIndices, ih (by simpa using h) fun j hj => by simpa using hb (j + 1) (by omega)]
        congr 1
        omega

theorem emptyIndices_full {pool : List (Option Window)} {n : Nat} (h : ∀ x ∈ pool, x.isSome = true) :
    emptyIndices n pool = [] := by
  induction pool generalizing n with
  | nil => rfl
  | cons x l ih =>
    cases x with
    | none => exact absurd (h none (by simp)) (by decide)
    | some w => exact ih fun y hy => h y (by simp [hy])

/-! ### The owner's answers (R162) -/

theorem ownWindowPool_one {i : Nat} {e : PoolLoadEntry} {s : State} {c : RespCode} (hi : i ≤ 95)
    (h : poolEntryCheck s false (writePool (some i) e s.cfg.pool) (some i) e = some c) :
    ownWindowPool i [e] s = .error (c, i) := by
  have indexed : (i == 255) = false := by simp; omega
  have inside : ¬ (!false && decide (95 < i)) = true := by simp; omega
  have fit : ¬ (!false && decide (96 < i + [e].length)) = true := by simp; omega
  unfold ownWindowPool
  dsimp only
  rw [indexed, if_neg inside, if_neg fit]
  simp only [poolPlaces, Bool.false_eq_true, if_false, List.length_singleton, List.range_one, List.map_cons,
    List.map_nil, Nat.add_zero, poolAfter, poolCheck, h]

theorem ownWindowPool_free {e : PoolLoadEntry} {s : State} {place : Option Nat}
    (hp : (emptyIndices 0 s.cfg.pool)[0]? = place) : ownWindowPool 255 [e] s =
      match poolEntryCheck s true (writePool place e s.cfg.pool) place e with
      | some c => .error (c, 0)
      | none => .ok (.poolIndices place.toList, putPool (writePool place e s.cfg.pool)) := by
  unfold ownWindowPool
  simp only [poolPlaces, hp, List.length_singleton, List.range_one, List.map_cons, List.map_nil, poolAfter, poolCheck,
    beq_self_eq_true, Bool.not_true, Bool.false_and, Bool.false_eq_true, if_false, if_true]
  cases poolEntryCheck s true (writePool place e s.cfg.pool) place e with
  | some c => rfl
  | none => cases place <;> rfl

theorem ownWindowPool_indexed {first : Nat} {es : List PoolLoadEntry} {s : State} (hf : first ≤ 95)
    (hl : first + es.length ≤ 96) (hp : s.cfg.pool.length = 96)
    (h : ∀ j e, es[j]? = some e →
      poolEntryCheck s false (writeAt first (es.map PoolLoadEntry.window?) s.cfg.pool) (some (first + j)) e = none) :
    ownWindowPool first es s = .ok (.poolIndices ((List.range es.length).map (first + ·)),
      putPool (writeAt first (es.map PoolLoadEntry.window?) s.cfg.pool)) := by
  have indexed : (first == 255) = false := by simp; omega
  have inside : ¬ (!false && decide (95 < first)) = true := by simp; omega
  have fit : ¬ (!false && decide (96 < first + es.length)) = true := by simp; omega
  have places : poolPlaces false first es.length s.cfg.pool = (List.range es.length).map fun i => some (first + i) :=
    rfl
  have listed : ((List.range es.length).map fun i => some (first + i)).filterMap id
      = (List.range es.length).map (first + ·) := by
    rw [List.filterMap_map]
    exact congrFun List.filterMap_eq_map _
  unfold ownWindowPool
  dsimp only
  rw [indexed, if_neg inside, if_neg fit, places, poolAfter_indexed (by omega), poolCheck_none h, listed]

end Sys2Proof.Machine
end

section
/-! Settles O15: the loads of the window pool, the window sets and the line settings. -/

namespace Sys2Proof.Machine

/-! ### WINDOW_SETS (R164) -/

theorem ownWindowSets_offline {k : Furnace} {first : Nat} {es : List (List Nat)} {s : State}
    (h : (s.seqs.get k).state = .offline) (hl : first + es.length ≤ 32) : ownWindowSets (.val k) first es s =
      checkEach (fun _ l => decide (l.length ≤ 4) && l.all fun i => decide (i ≤ 95)) .outOfRange first es
        (checkEach (fun _ l => l.all fun i => (s.cfg.pool.getD i none).isSome) .illegalValue first es
          (checkEach (fun _ l => !listOverlaps s.cfg.pool l) .overlap first es
            (.ok (.none, putSets k (writeAt first es (s.cfg.sets.get k)))))) := by
  rw [ownWindowSets, forFurnace_offline h, if_neg (by omega)]

theorem setIndexed_iff (l : List Nat) : (decide (l.length ≤ 4) && l.all fun i => decide (i ≤ 95)) = true ↔
    l.length ≤ 4 ∧ ∀ i ∈ l, i ≤ 95 := by
  simp

theorem setFilled_iff (pool : List (Option Window)) (l : List Nat) :
    (l.all fun i => (pool.getD i none).isSome) = true ↔ ∀ i ∈ l, ∃ w, pool[i]? = some (some w) := by
  rw [List.all_eq_true]
  refine forall₂_congr fun i _ => ?_
  rw [List.getD_eq_getElem?_getD, Option.isSome_iff_exists]
  cases pool[i]? <;> simp

theorem setApart_iff (pool : List (Option Window)) (l : List Nat) :
    (!listOverlaps pool l) = true ↔ WindowsApart pool l := by
  rw [Bool.not_eq_true', listOverlaps_false]

/-! ### LINE_SETTINGS (R165) -/

theorem ownLineSettings_offline {k : Furnace} {first : Nat} {es : List LineEntry} {s : State}
    (h : (s.seqs.get k).state = .offline) (hl : first + es.length ≤ 9) : ownLineSettings (.val k) first es s =
      checkEach lineCodeOk .illegalValue first (es.map LineEntry.asRead)
        (checkEach lineRangeOk .outOfRange first (es.map LineEntry.asRead)
          (.ok (.none, putLineSettings k (putLineEntries first (es.map LineEntry.asRead) (s.cfg.lineSettings.get k))))) := by
  unfold ownLineSettings
  rw [forFurnace_offline h, if_neg (by simpa using hl)]

/-- R165, check 4, at an index of the entry's own form: only a bad code fails it. -/
theorem lineCodeOk_iff {i : Nat} {e : LineEntry}
    (h : match e with | LineEntry.stopLevel _ => i < 8 | LineEntry.speedLead .. => i = 8) :
    lineCodeOk i (LineEntry.asRead e) = true ↔ ∀ raw, e ≠ .stopLevel (.bad raw) := by
  rcases e with ⟨_ | _⟩ | _
  · simp_all [lineCodeOk, LineEntry.asRead, Code.good]
  · simp [lineCodeOk, LineEntry.asRead, Code.good]
  · simp_all [lineCodeOk, LineEntry.asRead]

theorem lineRangeOk_iff (i : Nat) (e : LineEntry) : lineRangeOk i (LineEntry.asRead e) = true ↔
    ∀ a b c d, e = .speedLead a b c d →
      (∀ x ∈ a, x = absentFigure ∨ (0 ≤ x ∧ x ≤ 100)) ∧ (∀ x ∈ b, x = absentFigure ∨ (0 ≤ x ∧ x ≤ 2000))
        ∧ (∀ x ∈ c, x = absentFigure ∨ (0 ≤ x ∧ x ≤ 500)) ∧ (∀ x ∈ d, x = absentFigure ∨ (0 ≤ x ∧ x ≤ 300)) := by
  cases e with
  | stopLevel c => simp [lineRangeOk, LineEntry.asRead]
  | speedLead a b c d =>
    simp only [lineRangeOk, LineEntry.asRead, Bool.and_eq_true, rangeWhereGiven_figureRead, and_assoc,
      LineEntry.speedLead.injEq]
    exact ⟨fun h _ _ _ _ e => by obtain ⟨rfl, rfl, rfl, rfl⟩ := e; exact h, fun h => h _ _ _ _ ⟨rfl, rfl, rfl, rfl⟩⟩

/-- Stop levels written one after another replace the entries they name. -/
theorem putLineEntries_levels {first : Nat} {levels : List StopLevel} {x : LineSettings}
    (h : first + levels.length ≤ x.stops.length) :
    putLineEntries first ((levels.map fun l => .stopLevel (.val l)).map LineEntry.asRead) x =
      { x with stops := writeAt first levels x.stops } := by
  induction levels generalizing first x with
  | nil => rw [writeAt_nil]; rfl
  | cons l ls ih =>
    have len : (l :: ls).length = ls.length + 1 := rfl
    have step := ih (first := first + 1) (x := { x with stops := x.stops.set first l })
      (by rw [List.length_set]; omega)
    rw [writeAt_set (by omega)] at step
    exact step

/-! ### Loads that move the lines (R159) -/

/-- The lines take their levels behind the RESPONSE. -/
theorem respond_refreshCfg (h : Hdr) (n : Nat) (c : RespCode) (x : Option Nat) (d : RespData) (s : State)
    (f : Tables → Tables) :
    refreshLines ((respond h n c x d s).setCfg (f (respond h n c x d s).cfg)) =
      refreshLines { respond h n c x d s with cfg := f s.cfg } := by
  rw [respond_putCfg]

/-- Settles O15: the pool by the checks of each entry and the pool as written entry by entry; the sets and line
settings by their checks of every entry. -/
theorem loadWindowTables : Obligations.LoadWindowTables := by
  unfold Obligations.LoadWindowTables
  refine ⟨⟨?poolIndexed, ?poolFree⟩, ⟨?setsTaken, ?stopsTaken, ?speedTaken⟩, fun h s hm hl shaped => ?pool,
    fun h s hm hl => ⟨?sets, ?lines⟩⟩
  case poolIndexed =>
    intro h first es s hm hf hl shaped hne h16 hlen hcodes href hapart
    have len : s.cfg.pool.length = 96 := shaped.2.2.2.2.1
    have nonempty : 1 ≤ es.length := List.length_pos_iff.2 hne
    have own := ownWindowPool_indexed (s := s) (first := first) (es := es) (by omega) hlen len fun j e he => by
      have inside := (List.getElem?_eq_some_iff.1 he).1
      have mem : e ∈ es := List.mem_of_getElem? he
      obtain ⟨armed, offline⟩ := href (first + j) (by omega) (by omega)
      have entry : es.getD (first + j - first) .empty = e := by
        rw [Nat.add_sub_cancel_left, List.getD_eq_getElem?_getD, he]; rfl
      rw [entry] at offline
      exact poolEntryCheck_good (hcodes e mem).1 (hcodes e mem).2 (.inr armed) offline fun l hl _ => by
        simpa [writeAt] using hapart l hl
    have written : writeAt first (es.map PoolLoadEntry.window?) s.cfg.pool = s.cfg.pool.take first
        ++ es.map PoolLoadEntry.window? ++ s.cfg.pool.drop (first + es.length) := by
      rw [writeAt, List.length_map]
    rw [written] at own
    exact (load_taken hm hf hl ⟨nonempty, h16⟩ own).trans
      (congrArg _ (respond_refreshCfg _ _ _ _ _ _ fun c => { c with pool := _ }))
  case poolFree =>
    intro h w i s hm hl hi hlow hun mask small range order c hf
    have coded : w.Coded := ⟨mask, small, w.edges_given range⟩
    have window := w.window?_entry coded
    have own : ownWindowPool 255 [w.entry] s =
        .ok (.poolIndices [i], putPool (s.cfg.pool.set i (some w)) ) := by
      have fits : poolEntryCheck s true (writePool (some i) w.entry s.cfg.pool) (some i) w.entry = none :=
        poolEntryCheck_good (w.codesOk_entry true coded) (window ▸ edgeCheck_good range order) (.inl rfl)
          (by rw [window]; simp) fun l hl hi => absurd hi (hun l hl)
      rw [ownWindowPool_free (emptyIndices_first hi hlow), Nat.zero_add, fits]
      simp [writePool, window]
    exact (load_taken hm hf hl (singleton_sized _) own).trans
      (congrArg _ (respond_refreshCfg _ _ _ _ _ _ fun c => { c with pool := s.cfg.pool.set i (some w) }))
  case setsTaken =>
    intro h k first es s hm hf hl off hne h16 hlen hes
    have own : ownWindowSets (.val k) first es s =
        .ok (.none, putSets k (writeAt first es (s.cfg.sets.get k))) := by
      rw [ownWindowSets_offline off hlen, checkEach_passes ?_, checkEach_passes ?_, checkEach_passes ?_]
      · exact fun _ l hl => (setApart_iff ..).2 (hes l hl).2.2
      · exact fun _ l hl => List.all_eq_true.2 fun i hi => ((hes l hl).2.1 i hi).2
      · exact fun _ l hl => (setIndexed_iff l).2 ⟨(hes l hl).1, fun i hi => ((hes l hl).2.1 i hi).1⟩
    exact (load_taken hm hf hl ⟨List.length_pos_iff.2 hne, h16⟩ own).trans
      (congrArg _ (respond_refreshCfg _ _ _ _ _ _ fun c => { c with sets := c.sets.set k _ }))
  case stopsTaken =>
    intro h k first levels s hm hl off shaped hne hlen c hf
    have stops : (s.cfg.lineSettings.get k).stops.length = 8 := by
      cases k
      · exact shaped.2.2.2.2.2.2.2.1
      · exact shaped.2.2.2.2.2.2.2.2.1
    have own : ownLineSettings (.val k) first (levels.map fun l => .stopLevel (.val l)) s =
        .ok (.none, putLineSettings k { s.cfg.lineSettings.get k with
          stops := writeAt first levels (s.cfg.lineSettings.get k).stops }) := by
      rw [ownLineSettings_offline off (by rw [List.length_map]; omega), checkEach_passes_at ?_, checkEach_passes ?_,
        putLineEntries_levels (by omega)]
      · intro i x hx
        obtain ⟨e, he, rfl⟩ := List.mem_map.1 hx
        obtain ⟨l, -, rfl⟩ := List.mem_map.1 he
        rfl
      · intro i x hx
        simp only [List.getElem?_map, Option.map_map, Option.map_eq_some_iff] at hx
        obtain ⟨l, hi, rfl⟩ := hx
        have inside := (List.getElem?_eq_some_iff.1 hi).1
        exact (lineCodeOk_iff (e := .stopLevel (.val l)) (show first + i < 8 by omega)).2 (by simp)
    exact (load_taken hm hf hl ⟨(List.length_map _).symm ▸ List.length_pos_iff.2 hne, by rw [List.length_map]; omega⟩
      own).trans (congrArg _ (respond_refreshCfg _ _ _ _ _ _ fun c => { c with lineSettings := c.lineSettings.set k _ }))
  case speedTaken =>
    intro h k a b c d s hm hf hl off ha hb hc hd
    have read {x : Option Int} {hi : Int} (hx : ∀ y ∈ x, 0 ≤ y ∧ y ≤ hi) : figureRead x = x :=
      figureRead_eq_self fun y hy => ne_absentFigure (hx y hy).1 (by decide)
    have own : ownLineSettings (.val k) 8 [.speedLead a b c d] s =
        .ok (.none, putLineSettings k { s.cfg.lineSettings.get k with
          vStill := a.getD (s.cfg.lineSettings.get k).vStill, vSlow := b.getD (s.cfg.lineSettings.get k).vSlow
          lead := c.getD (s.cfg.lineSettings.get k).lead
          maxAdvance := d.getD (s.cfg.lineSettings.get k).maxAdvance }) := by
      rw [ownLineSettings_offline off (by simp), checkEach_passes_at ?_, checkEach_passes ?_]
      · simp [putLineEntries, putLineEntry, LineEntry.asRead, read ha, read hb, read hc, read hd]
      · intro i x hx
        obtain rfl : x = LineEntry.asRead (.speedLead a b c d) := by simpa using hx
        refine (lineRangeOk_iff ..).2 fun a' b' c' d' e => ?_
        obtain ⟨rfl, rfl, rfl, rfl⟩ := LineEntry.speedLead.inj e
        exact ⟨fun x hx => .inr (ha x hx), fun x hx => .inr (hb x hx), fun x hx => .inr (hc x hx),
          fun x hx => .inr (hd x hx)⟩
      · intro i x hx
        obtain ⟨rfl, rfl⟩ : i = 0 ∧ x = LineEntry.asRead (.speedLead a b c d) := by
          rcases i with _ | i
          · exact ⟨rfl, by simpa using hx.symm⟩
          · simp at hx
        rfl
    exact (load_taken hm hf hl (singleton_sized _) own).trans
      (congrArg _ (respond_refreshCfg _ _ _ _ _ _ fun c => { c with lineSettings := c.lineSettings.set k _ }))
  case pool =>
    have len : s.cfg.pool.length = 96 := shaped.2.2.2.2.1
    have edges {w : Window} (good : w.Coded ∧ w.edgesInRange = true ∧ w.on < w.off) :
        edgeCheck (PoolLoadEntry.window? w.entry) = none :=
      (w.window?_entry good.1).symm ▸ edgeCheck_good good.2.1 good.2.2
    have unarmed {i : Nat} (h : ¬ ∃ k, (s.seqs.get k).state ≠ .offline ∧ ∃ l ∈ s.cfg.sets.get k, i ∈ l) :
        armedReference s i = false := by
      rw [← Bool.not_eq_true, armedReference_iff]; exact h
    have one {i : Nat} {e : PoolLoadEntry} {c : RespCode} (hf : formFits (.loadWindowPool h i [e]) = true) (hi : i ≤ 95)
        (check : poolEntryCheck s false (writePool (some i) e s.cfg.pool) (some i) e = some c) :
        exec (.loadWindowPool h i [e]) s = LoadRefused h .windowPool c (some i) s :=
      load_refused hm hf hl (singleton_sized e) (ownWindowPool_one hi check)
    have free {e : PoolLoadEntry} {c : RespCode} {place : Option Nat}
        (hf : formFits (.loadWindowPool h 255 [e]) = true) (hp : (emptyIndices 0 s.cfg.pool)[0]? = place)
        (check : poolEntryCheck s true (writePool place e s.cfg.pool) place e = some c) :
        exec (.loadWindowPool h 255 [e]) s = LoadRefused h .windowPool c (some 0) s :=
      load_refused hm hf hl (singleton_sized e) (by rw [ownWindowPool_free hp, check])
    refine ⟨fun first es hs far fixed hf => load_refused hm hf hl hs ?_,
      fun first es hs near long hf => load_refused hm hf hl hs ?_,
      fun i e hi bad hf => one hf hi (poolEntryCheck_codes (codesOk_of_bad false bad)),
      fun e bad hf => free hf rfl (poolEntryCheck_codes ?_),
      fun i w hi coded out hf => one hf hi (poolEntryCheck_edges (w.codesOk_entry false coded) ?_),
      fun i w hi coded inside crossed hf => one hf hi (poolEntryCheck_edges (w.codesOk_entry false coded) ?_),
      fun w good full hf => free hf (place := none) ?_ (poolEntryCheck_full (w.codesOk_entry true good.1) ?_),
      fun i e hi placed armed hf => one hf hi ?_,
      fun i k hi free listed hf => one hf hi ?_,
      fun i w k l j v hi good free hl hil hjl hne hv hb h1 h2 hf => one (e := w.entry) hf hi ?_⟩
    · have indexed : (first == 255) = false := by simpa using fixed
      unfold ownWindowPool
      dsimp only
      rw [indexed, if_pos (by simpa using far)]
    · have indexed : (first == 255) = false := by simp; omega
      unfold ownWindowPool
      dsimp only
      rw [indexed, if_neg (by simp; omega), if_pos (by simpa using long)]
    · rcases bad with bad | rfl
      · exact codesOk_of_bad true bad
      · rfl
    · have outside : w.edgesInRange = false := by
        rw [← Bool.not_eq_true, w.edgesInRange_iff]; exact out
      exact (w.window?_entry coded).symm ▸ edgeCheck_outside outside
    · exact (w.window?_entry coded).symm ▸ edgeCheck_crossed (w.edgesInRange_iff.2 inside) crossed
    · rw [emptyIndices_full full]; rfl
    · exact edges ⟨good.1, w.edgesInRange_iff.2 good.2.1, good.2.2⟩
    · have fine : PoolLoadEntry.codesOk false e = true ∧ edgeCheck (PoolLoadEntry.window? e) = none := by
        rcases placed with rfl | ⟨w, good, rfl⟩
        · exact ⟨rfl, rfl⟩
        · exact ⟨w.codesOk_entry false good.1, edges ⟨good.1, w.edgesInRange_iff.2 good.2.1, good.2.2⟩⟩
      rw [poolEntryCheck_placed fine.1 fine.2, (armedReference_iff s i).2 armed]
      rfl
    · have offline : (s.seqs.get k).state = .offline := by
        by_contra armed
        exact free ⟨k, armed, listed⟩
      rw [poolEntryCheck_placed rfl rfl, unarmed free, (offlineReference_iff s i).2 ⟨k, offline, listed⟩]
      rfl
    · have window := w.window?_entry good.1
      have overlaps : indexOverlaps (s.cfg.pool.set i (some w)) (s.cfg.sets.get k) i = true :=
        indexOverlaps_of_pair hl hil hjl hne
          (by rw [List.getD_eq_getElem?_getD, List.getElem?_set_self (by omega)]; rfl)
          (by rw [List.getD_eq_getElem?_getD, List.getElem?_set_ne hne.symm, hv]; rfl)
          ((windowOverlaps_iff w v).2 ⟨hb.symm, h2, h1⟩)
      have either : (indexOverlaps (s.cfg.pool.set i (some w)) s.cfg.sets.f1 i
          || indexOverlaps (s.cfg.pool.set i (some w)) s.cfg.sets.f2 i) = true := by
        cases k
        · rw [show indexOverlaps (s.cfg.pool.set i (some w)) s.cfg.sets.f1 i = true from overlaps, Bool.true_or]
        · rw [show indexOverlaps (s.cfg.pool.set i (some w)) s.cfg.sets.f2 i = true from overlaps, Bool.or_true]
      have written : writePool (some i) w.entry s.cfg.pool = s.cfg.pool.set i (some w) := by
        rw [writePool, window]
      refine (poolEntryCheck_placed (w.codesOk_entry false good.1)
        (edges ⟨good.1, w.edgesInRange_iff.2 good.2.1, good.2.2⟩)).trans ?_
      rw [written, window, unarmed free, either]
      rfl
  case sets =>
    refine ⟨fun raw first es hs hf => load_refused hm hf hl hs rfl,
      fun k first es hs armed hf => load_refused hm hf hl hs (forFurnace_armed armed),
      fun k first es hs off long hf => load_refused hm hf hl hs ?_,
      fun k first es n hs off fit fails hf => load_refused hm hf hl hs ?_,
      fun k first es n hs off fit indexed fails hf => load_refused hm hf hl hs ?_,
      fun k first es n hs off fit good fails hf => load_refused hm hf hl hs ?_⟩
    · rw [ownWindowSets, forFurnace_offline off, if_pos long]
    · rw [ownWindowSets_offline off fit, checkEach_fails (fun _ l => setIndexed_iff l) fails]
    · rw [ownWindowSets_offline off fit, checkEach_passes fun _ l hl => (setIndexed_iff l).2 (indexed l hl),
        checkEach_fails (fun _ l => setFilled_iff _ l) fails]
    · rw [ownWindowSets_offline off fit, checkEach_passes fun _ l hl => (setIndexed_iff l).2 (good l hl).1,
        checkEach_passes fun _ l hl => (setFilled_iff _ l).2 (good l hl).2,
        checkEach_fails (fun _ l => setApart_iff _ l) fails]
  case lines =>
    have fails_at {first n : Nat} {es : List LineEntry} {p : Nat → LineEntry → Prop} {ok : Nat → LineEntry → Bool}
        (hp : ∀ i e, es[i]? = some e → (p (first + i) e ↔ ok (first + i) (LineEntry.asRead e) = true))
        (fails : FirstFails p first es n) :
        FirstFails (fun i e => ok i e = true) first (es.map LineEntry.asRead) n :=
      firstFails_map (fun _ _ => Iff.rfl) (firstFails_congr (q := fun i e => ok i (LineEntry.asRead e) = true) hp fails)
    refine ⟨fun raw first es hs hf => load_refused hm hf hl hs rfl,
      fun k first es hs armed hf => load_refused hm hf hl hs (by unfold ownLineSettings; exact forFurnace_armed armed),
      fun k first es hs off long hf => load_refused hm hf hl hs ?_,
      fun k first es n hs off fit shaped fails hf => load_refused hm hf hl hs ?_,
      fun k first es n hs off fit shaped good fails hf => load_refused hm hf hl hs ?_⟩
    · unfold ownLineSettings
      rw [forFurnace_offline off, if_pos (by simpa using long)]
    · rw [ownLineSettings_offline off fit]
      refine checkEach_fails (fun _ _ => Iff.rfl) (fails_at (fun i e he => ?_) fails)
      exact (lineCodeOk_iff (shaped i e he)).symm
    · rw [ownLineSettings_offline off fit, checkEach_passes_at ?_]
      · exact checkEach_fails (fun _ _ => Iff.rfl) (fails_at (fun i e he => (lineRangeOk_iff ..).symm) fails)
      · intro i x hx
        obtain ⟨e, he, rfl⟩ : ∃ e, es[i]? = some e ∧ LineEntry.asRead e = x := by simpa using hx
        exact (lineCodeOk_iff (shaped i e he)).2 (good e (List.mem_of_getElem? he))

end Sys2Proof.Machine
end

section
/-! Settles O16: the passage table, the status map and the part settings. -/

namespace Sys2Proof.Machine

/-! ### PASSAGE (R178) -/

theorem passageCodesOk_iff (e : PassageLoadEntry) : PassageLoadEntry.codesOk e = true ↔
    e = .empty ∨ ∃ kind a, e = .bound kind (.val a) ∧ kind ≤ 255 := by
  rcases e with _ | ⟨kind, _ | _⟩ | _ <;> simp [PassageLoadEntry.codesOk, Code.good]

/-- R178, check 3: which kinds an action may stand with. -/
theorem actionAllowed_iff (kind : Nat) (a : Action) : actionAllowed kind a = true ↔
    (a = .observe → kind ∈ [Kind.depositReport, Kind.removalReport, Kind.strokeReport, Kind.dischargeReport])
      ∧ (a = .guardTable → kind = Kind.manualTableMove) ∧ (a = .guardStroke → kind = Kind.manualStroke) := by
  cases a <;> simp [actionAllowed, isObservable, or_assoc]

theorem passageAllowed_iff (e : PassageLoadEntry) : PassageLoadEntry.allowed e = true ↔
    ∀ kind a, e = .bound kind (.val a) →
      (a = .observe → kind ∈ [Kind.depositReport, Kind.removalReport, Kind.strokeReport, Kind.dischargeReport])
        ∧ (a = .guardTable → kind = Kind.manualTableMove) ∧ (a = .guardStroke → kind = Kind.manualStroke) := by
  rcases e with _ | ⟨kind, a | _⟩ | _
  · simp [PassageLoadEntry.allowed, PassageLoadEntry.entry]
  · refine (actionAllowed_iff kind a).trans ⟨fun h k b e => ?_, fun h => h kind a rfl⟩
    obtain ⟨rfl, hab⟩ := PassageLoadEntry.bound.inj e
    obtain rfl := Code.val.inj hab
    exact h
  · simp [PassageLoadEntry.allowed, PassageLoadEntry.entry]
  · simp [PassageLoadEntry.allowed, PassageLoadEntry.entry]

/-- The kind bound at an index of a passage table. -/
def kindAt (l : List (Option (Nat × Action))) (i : Nat) : Option Nat := ((l[i]?).join).map (·.1)

/-- The kind at an index is one of those seen or stands at a lower index too. -/
def TwiceBound (seen : List Nat) (l : List (Option (Nat × Action))) (j : Nat) : Prop :=
  ∃ k, kindAt l j = some k ∧ (k ∈ seen ∨ ∃ i, i < j ∧ kindAt l i = some k)

section
variable {seen : List Nat} {l : List (Option (Nat × Action))} {k n : Nat} {a : Action}

theorem kindAt_succ (x : Option (Nat × Action)) (i : Nat) : kindAt (x :: l) (i + 1) = kindAt l i := rfl

theorem twiceBound_empty : TwiceBound seen (none :: l) (n + 1) ↔ TwiceBound seen l n := by
  refine exists_congr fun k => and_congr (by rw [kindAt_succ]) (or_congr Iff.rfl ⟨?_, ?_⟩)
  · rintro ⟨i, hi, h⟩
    rcases i with _ | i
    · cases h
    · exact ⟨i, by omega, h⟩
  · rintro ⟨i, hi, h⟩
    exact ⟨i + 1, by omega, h⟩

theorem twiceBound_bound : TwiceBound seen (some (k, a) :: l) (n + 1) ↔ TwiceBound (k :: seen) l n := by
  refine exists_congr fun x => and_congr (by rw [kindAt_succ]) ⟨?_, ?_⟩
  · rintro (h | ⟨i, hi, h⟩)
    · exact .inl (List.mem_cons_of_mem _ h)
    · rcases i with _ | i
      · obtain rfl : k = x := Option.some.inj h
        exact .inl List.mem_cons_self
      · exact .inr ⟨i, by omega, h⟩
  · rintro (h | ⟨i, hi, h⟩)
    · rcases List.mem_cons.1 h with rfl | h
      · exact .inr ⟨0, by omega, rfl⟩
      · exact .inl h
    · exact .inr ⟨i + 1, by omega, h⟩

theorem twiceBound_head (h : TwiceBound seen (some (k, a) :: l) 0) : k ∈ seen := by
  obtain ⟨x, hx, h | ⟨i, hi, -⟩⟩ := h
  · obtain rfl : k = x := Option.some.inj hx
    exact h
  · omega

end

/-- R178, check 4: the first index whose kind stands at a lower one is the one named. -/
theorem duplicateKind_some {seen : List Nat} {l : List (Option (Nat × Action))} {i n : Nat}
    (h : TwiceBound seen l n) (hn : ∀ j, j < n → ¬ TwiceBound seen l j) :
    duplicateKind seen i l = some (i + n) := by
  induction l generalizing seen i n with
  | nil =>
    obtain ⟨k, hk, -⟩ := h
    cases hk
  | cons x l ih =>
    rcases x with _ | ⟨k, a⟩
    · rcases n with _ | n
      · obtain ⟨k, hk, -⟩ := h
        cases hk
      · rw [duplicateKind, ih (twiceBound_empty.1 h) fun j hj hd => hn (j + 1) (by omega) (twiceBound_empty.2 hd)]
        congr 1
        omega
    · rw [duplicateKind]
      split
      · rename_i hk
        rcases n with _ | n
        · rfl
        · exact absurd ⟨k, rfl, .inl (List.contains_iff_mem.1 hk)⟩ (hn 0 (by omega))
      · rename_i hk
        rcases n with _ | n
        · exact absurd (List.contains_iff_mem.2 (twiceBound_head h)) hk
        · rw [ih (twiceBound_bound.1 h) fun j hj hd => hn (j + 1) (by omega) (twiceBound_bound.2 hd)]
          congr 1
          omega

theorem duplicateKind_none {seen : List Nat} {l : List (Option (Nat × Action))} {i : Nat}
    (h : ∀ j, ¬ TwiceBound seen l j) : duplicateKind seen i l = none := by
  induction l generalizing seen i with
  | nil => rfl
  | cons x l ih =>
    rcases x with _ | ⟨k, a⟩
    · exact ih fun j hd => h (j + 1) (twiceBound_empty.2 hd)
    · rw [duplicateKind, if_neg fun hk => h 0 ⟨k, rfl, .inl (List.contains_iff_mem.1 hk)⟩]
      exact ih fun j hd => h (j + 1) (twiceBound_bound.2 hd)

/-- Kinds that differ stand at no two indices. -/
theorem not_twiceBound_of_nodup {l : List (Option (Nat × Action))} (h : (l.filterMap (·.map (·.1))).Nodup) (j : Nat) :
    ¬ TwiceBound [] l j := by
  rintro ⟨k, hj, hd | ⟨i, hi, hk⟩⟩
  · cases hd
  · have entry {n : Nat} (hn : kindAt l n = some k) : ∃ x, l[n]? = some x ∧ x.map (·.1) = some k := by
      unfold kindAt at hn
      rcases hx : l[n]? with _ | x
      · rw [hx] at hn; cases hn
      · rw [hx] at hn; exact ⟨x, rfl, hn⟩
    obtain ⟨x, hx, hxk⟩ := entry hk
    obtain ⟨y, hy, hyk⟩ := entry hj
    obtain ⟨li, rfl⟩ := List.getElem?_eq_some_iff.1 hx
    obtain ⟨lj, rfl⟩ := List.getElem?_eq_some_iff.1 hy
    rw [List.Nodup, List.pairwise_filterMap, List.pairwise_iff_getElem] at h
    exact h i j li lj hi k hxk k hyk rfl

theorem ownPassage_fits {first : Nat} {es : List PassageLoadEntry} {s : State} (h : first + es.length ≤ 32) :
    ownPassage first es s =
      checkEach (fun _ e => PassageLoadEntry.codesOk e) .illegalValue first es
        (checkEach (fun _ e => PassageLoadEntry.allowed e) .illegalValue first es
          (match duplicateKind [] 0 (writeAt first (es.map PassageLoadEntry.entry) s.cfg.passage) with
           | some i => .error (.duplicate, i)
           | none => .ok (.none, putPassage (writeAt first (es.map PassageLoadEntry.entry) s.cfg.passage)))) := by
  unfold ownPassage
  exact if_neg (by omega)

/-! ### STATUS_MAP (R196) -/

theorem ownStatusMap_fits {first : Nat} {es : List Nat} {s : State} (h : first + es.length ≤ 16) :
    ownStatusMap first es s = checkEach (fun _ q => byteGiven q) .illegalValue first es
      (checkEach (fun _ q => decide (q ≤ 26)) .outOfRange first es
        (.ok (.none, putStatusMap (writeAt first es s.cfg.statusMap)))) := by
  rw [ownStatusMap, if_neg (by omega)]

/-! ### PART_SETTINGS (R190, R174) -/

/-- The stations of a partner list in their order. -/
def Partners.toList (p : Partners) : List Nat :=
  [p.scheduling, p.crane1, p.crane2, p.crane3, p.tableDrive, p.charger1, p.charger2, p.beam1, p.beam2,
    p.discharge1, p.discharge2]

theorem partners_ofList {l : List Nat} (h : l.length = 11) : ∃ p, Partners.ofList l = some p := by
  match l, h with
  | [_, _, _, _, _, _, _, _, _, _, _], _ => exact ⟨_, rfl⟩

theorem namedTwice_iff (l : List Nat) : namedTwice l = true ↔ ¬ l.Nodup := by
  induction l with
  | nil => simp [namedTwice]
  | cons x xs ih => rw [namedTwice, Bool.or_eq_true, ih, List.contains_iff_mem, List.nodup_cons]; tauto

theorem partnersCheck_list {l : List Nat} {p : Partners} {s : State} (h : Partners.ofList l = some p) :
    partnersCheck s l = if !l.all byteGiven then .error .illegalValue
      else if l.any fun x => decide (62 < x) then .error .outOfRange
      else if namedTwice l || l.any (fun x => s.links.station == some x) then .error .illegalValue
      else if s.armed .f1 || s.armed .f2 then .error .notWhileArmed
      else if s.arb.motion.moving || s.grid.grant.isSome || !s.grid.queue.isEmpty then .error .busy
      else .ok p := by
  unfold partnersCheck
  rw [h]

theorem stationsGiven_iff (l : List Nat) : l.all byteGiven = true ↔ 255 ∉ l := by
  rw [List.all_eq_true]
  exact ⟨fun h h255 => (byteGiven_true 255).1 (h 255 h255) rfl,
    fun h x hx => (byteGiven_true x).2 fun e => h (e ▸ hx)⟩

theorem stationsNamed_iff (l : List Nat) (s : State) :
    (namedTwice l || l.any fun x => s.links.station == some x) = true ↔
      ¬ (l.Nodup ∧ ∀ x ∈ l, s.links.station ≠ some x) := by
  rw [Bool.or_eq_true, namedTwice_iff, List.any_eq_true, not_and_or]
  simp

theorem anyArmed_iff (s : State) : (s.armed .f1 || s.armed .f2) = true ↔
    ¬ (s.seqs.f1.state = .offline ∧ s.seqs.f2.state = .offline) := by
  rw [Bool.or_eq_true, armed_true, armed_true, not_and_or]
  rfl

theorem motion_moving_iff (m : Motion) : m.moving = true ↔ m ≠ .still := by
  cases m <;> simp [Motion.moving]

theorem partnersBusy_iff (s : State) : (s.arb.motion.moving || s.grid.grant.isSome || !s.grid.queue.isEmpty) = true ↔
    s.arb.motion ≠ .still ∨ s.grid.grant.isSome = true ∨ s.grid.queue ≠ [] := by
  simp [motion_moving_iff, or_assoc]

/-- A load that an entry of the settings fails. -/
theorem ownPartSettings_fails {first n : Nat} {es : List SettingEntry} {s : State} {c : RespCode}
    (hl : first + es.length ≤ 5)
    (h : takeSettings s first es ⟨s.cfg.settings, s.cfg.partners, []⟩ = .error (c, n)) :
    ownPartSettings first es s = .error (c, n) := by
  rw [ownPartSettings, if_neg (by omega), h]

theorem ownPartSettings_taken {first : Nat} {es : List SettingEntry} {s : State} {t : SettingsTaken}
    (hl : first + es.length ≤ 5) (h : takeSettings s first es ⟨s.cfg.settings, s.cfg.partners, []⟩ = .ok t) :
    ownPartSettings first es s = .ok (.settingsTaken t.taken, putSettings t) := by
  rw [ownPartSettings, if_neg (by omega), h]

theorem takeSettings_partners {l : List Nat} {t : SettingsTaken} {s : State} :
    takeSettings s 4 [.partners l] t = match partnersCheck s l with
      | .error c => .error (c, 4)
      | .ok p => .ok { t with partners := some p, taken := t.taken ++ [.partners (some p)] } := by
  unfold takeSettings takeSetting
  simp only [ne_eq, not_true_eq_false, if_false]
  cases partnersCheck s l <;> rfl

theorem takeSetting_figure {i : Nat} {x : Int} {t : SettingsTaken} {s : State} (h : x ≠ absentFigure) :
    takeSetting s i (.figure x) t = match takeFigure i x t.settings with
      | .error c => .error c
      | .ok (p, v) => .ok { t with settings := p, taken := t.taken ++ [.figure v] } := by
  unfold takeSetting
  exact if_neg (by rw [(figureGiven_true x).2 h]; decide)

theorem inRange_beyond {lo hi x : Int} (h : x < lo ∨ hi < x) : inRange lo hi x = false := by
  rw [← Bool.not_eq_true, inRange_iff]; omega

end Sys2Proof.Machine
end

section
/-! Settles O16: the loads of the passage table, the status map and the part settings. -/

namespace Sys2Proof.Machine

theorem twiceBound_iff (l : List (Option (Nat × Action))) (j : Nat) :
    TwiceBound [] l j ↔ ∃ i, i < j ∧ (kindAt l j).isSome = true ∧ kindAt l i = kindAt l j := by
  constructor
  · rintro ⟨k, hj, hd | ⟨i, hi, hk⟩⟩
    · cases hd
    · exact ⟨i, hi, by rw [hj]; rfl, hk.trans hj.symm⟩
  · rintro ⟨i, hi, hs, hk⟩
    obtain ⟨k, hj⟩ := Option.isSome_iff_exists.1 hs
    exact ⟨k, hj, .inr ⟨i, hi, hk.trans hj⟩⟩

/-- Four figures in their places, the last two in their ranges, are taken one after another. -/
theorem takeSettings_figures {a b x y : Int} {s : State} {t : SettingsTaken} (ha : a ≠ absentFigure)
    (hb : b ≠ absentFigure) (hx : inRange 1 8 x = true) (hy : inRange 30 600 y = true) :
    takeSettings s 0 [.figure a, .figure b, .figure x, .figure y] t = .ok { t with
      settings := ⟨(clampInt 100 5000 a).toNat, (clampInt 1 60 b).toNat, x.toNat, y.toNat⟩
      taken := t.taken ++ [.figure (clampInt 100 5000 a).toNat, .figure (clampInt 1 60 b).toNat,
        .figure x.toNat, .figure y.toNat] } := by
  have hx' : x ≠ absentFigure := ne_absentFigure ((inRange_iff ..).1 hx).1 (by decide)
  have hy' : y ≠ absentFigure := ne_absentFigure ((inRange_iff ..).1 hy).1 (by decide)
  simp [takeSettings, takeSetting_figure, ha, hb, hx', hy', takeFigure, hx, hy]

/-- R174: a partner list that each check passes. -/
theorem partnersCheck_ok {l : List Nat} {p : Partners} {s : State} (h : Partners.ofList l = some p)
    (hr : ∀ x ∈ l, x ≤ 62) (hn : l.Nodup ∧ ∀ x ∈ l, s.links.station ≠ some x)
    (ho : s.seqs.f1.state = .offline ∧ s.seqs.f2.state = .offline)
    (hb : ¬ (s.arb.motion ≠ .still ∨ s.grid.grant.isSome = true ∨ s.grid.queue ≠ [])) :
    partnersCheck s l = .ok p := by
  have given : l.all byteGiven = true := (stationsGiven_iff l).2 fun h255 => absurd (hr _ h255) (by decide)
  have small : ¬ (l.any fun x => decide (62 < x)) = true := by simpa using hr
  rw [partnersCheck_list h, given, if_neg (by simp), if_neg small,
    if_neg fun e => (stationsNamed_iff l s).1 e hn, if_neg fun e => (anyArmed_iff s).1 e ho,
    if_neg fun e => hb ((partnersBusy_iff s).1 e)]

/-- Settles O16: PASSAGE by its checks of every entry and the first kind that stands twice; STATUS_MAP by its two
checks; PART_SETTINGS by its entries in index order. -/
theorem loadPartTables : Obligations.LoadPartTables := by
  unfold Obligations.LoadPartTables
  refine ⟨⟨?passageTaken, ?statusTaken⟩, ⟨?figuresTaken, ?partnersTaken⟩, fun h s hm hl => ⟨?passage, ?status⟩,
    fun h s hm hl => ?settings⟩
  case passageTaken =>
    intro h first es s hm hf hl hne h16 hlen hes nodup
    have own : ownPassage first es s =
        .ok (.none, putPassage (writeAt first (es.map PassageLoadEntry.entry) s.cfg.passage)) := by
      rw [ownPassage_fits hlen, checkEach_passes fun _ e he => (hes e he).1,
        checkEach_passes fun _ e he => (hes e he).2, duplicateKind_none (not_twiceBound_of_nodup ?_)]
      rwa [writeAt, List.length_map]
    rw [writeAt, List.length_map] at own
    exact (load_taken hm hf hl ⟨List.length_pos_iff.2 hne, h16⟩ own).trans
      (congrArg _ (respond_putCfg _ _ _ _ _ _ fun c => { c with passage := _ }))
  case statusTaken =>
    intro h first es s hm hf hl hne hlen hes
    have own : ownStatusMap first es s = .ok (.none, putStatusMap (writeAt first es s.cfg.statusMap)) := by
      rw [ownStatusMap_fits hlen, checkEach_passes fun _ q hq => (byteGiven_true q).2 (by have := hes q hq; omega),
        checkEach_passes fun _ q hq => by simpa using hes q hq]
    exact (load_taken hm hf hl ⟨List.length_pos_iff.2 hne, by omega⟩ own).trans
      (congrArg _ (respond_putCfg _ _ _ _ _ _ fun c => { c with statusMap := _ }))
  case figuresTaken =>
    intro h period supervision look timeout s hm hl hp hs l1 l8 t30 t600 c hf
    have own := ownPartSettings_taken (by simp) (takeSettings_figures (s := s)
      (t := ⟨s.cfg.settings, s.cfg.partners, []⟩) hp hs ((inRange_iff ..).2 ⟨l1, l8⟩) ((inRange_iff ..).2 ⟨t30, t600⟩))
    exact ⟨_, (load_taken hm hf hl ⟨by simp, by simp⟩ own).trans
      (congrArg _ (respond_putCfg _ _ _ _ _ _ fun c => { c with settings := _, partners := _ })), rfl⟩
  case partnersTaken =>
    intro h p s hm hl hx nodup off1 off2 still noGrant noQueue c hf
    have check : partnersCheck s p.toList = .ok p := partnersCheck_ok rfl (fun x hi => (hx x hi).1)
      ⟨nodup, fun x hi => (hx x hi).2⟩ ⟨off1, off2⟩ (by simp [still, noGrant, noQueue])
    have own := ownPartSettings_taken (s := s) (first := 4) (es := [.partners p.toList]) (by simp)
      (takeSettings_partners.trans (by rw [check]))
    exact (load_taken hm hf hl (singleton_sized _) own).trans
      (congrArg _ (respond_putCfg _ _ _ _ _ _ fun c => { c with settings := _, partners := _ }))
  case passage =>
    refine ⟨fun first es hs long hf => load_refused hm hf hl hs ?_,
      fun first es n hs fit fails hf => load_refused hm hf hl hs ?_,
      fun first es n hs fit coded fails hf => load_refused hm hf hl hs ?_,
      fun first es n hs fit good twice least hf => load_refused hm hf hl hs ?_⟩
    · rw [ownPassage, if_pos long]
    · rw [ownPassage_fits fit, checkEach_fails (fun _ e => passageCodesOk_iff e) fails]
    · rw [ownPassage_fits fit, checkEach_passes fun _ e he => (passageCodesOk_iff e).2 (coded e he),
        checkEach_fails (fun _ e => passageAllowed_iff e) fails]
    · rw [ownPassage_fits fit, checkEach_passes fun _ e he => (passageCodesOk_iff e).2 (good e he).1,
        checkEach_passes fun _ e he => (passageAllowed_iff e).2 (good e he).2, writeAt, List.length_map,
        duplicateKind_some ((twiceBound_iff ..).2 twice) fun j hj hd => least j hj ((twiceBound_iff ..).1 hd),
        Nat.zero_add]
  case status =>
    refine ⟨fun first es hs long hf => load_refused hm hf hl hs ?_,
      fun first es n hs fit fails hf => load_refused hm hf hl hs ?_,
      fun first es n hs fit given fails hf => load_refused hm hf hl hs ?_⟩
    · rw [ownStatusMap, if_pos long]
    · rw [ownStatusMap_fits fit, checkEach_fails (fun _ q => byteGiven_true q) fails]
    · rw [ownStatusMap_fits fit, checkEach_passes fun _ q hq => (byteGiven_true q).2 (given q hq),
        checkEach_fails (fun _ q => decide_eq_true_iff) fails]
  case settings =>
    have fails {first n : Nat} {es : List SettingEntry} {c : RespCode}
        (hf : formFits (.loadPartSettings h first es) = true) (he : es ≠ []) (fit : first + es.length ≤ 5)
        (take : takeSettings s first es ⟨s.cfg.settings, s.cfg.partners, []⟩ = .error (c, n)) :
        exec (.loadPartSettings h first es) s = LoadRefused h .partSettings c (some n) s :=
      load_refused hm hf hl ⟨List.length_pos_iff.2 he, by omega⟩ (ownPartSettings_fails fit take)
    have list {l : List Nat} {c : RespCode} (hf : formFits (.loadPartSettings h 4 [.partners l]) = true)
        (check : partnersCheck s l = .error c) :
        exec (.loadPartSettings h 4 [.partners l]) s = LoadRefused h .partSettings c (some 4) s :=
      fails hf (by simp) (by simp) (takeSettings_partners.trans (by rw [check]))
    have given {l : List Nat} (hl : ∀ x ∈ l, x ≤ 62) : l.all byteGiven = true :=
      (stationsGiven_iff l).2 fun h255 => absurd (hl _ h255) (by decide)
    have small {l : List Nat} (hl : ∀ x ∈ l, x ≤ 62) : ¬ (l.any fun x => decide (62 < x)) = true := by
      simpa using hl
    refine ⟨fun first es h1 h16 long hf => load_refused hm hf hl ⟨h1, h16⟩ ?_,
      fun i hi hf => fails hf (by simp) (by simp; omega) ?_,
      fun x hx hf => fails hf (by simp) (by simp) ?_,
      fun a b x es ha hb hx he hf => fails hf (by simp) (by simp; omega) ?_,
      fun x hx hf => fails hf (by simp) (by simp) ?_,
      fun l h11 h255 hf => list hf ?_, fun l h11 h255 far hf => list hf ?_, fun l good bad hf => list hf ?_,
      fun l good named armed hf => list hf ?_, fun l good named off busy hf => list hf ?_⟩
    · rw [ownPartSettings, if_pos long]
    · rfl
    · simp [takeSettings, takeSetting_figure hx.1, takeFigure, inRange_beyond hx.2]
    · simp [takeSettings, takeSetting_figure ha, takeSetting_figure hb, takeSetting_figure hx.1, takeFigure,
        inRange_beyond hx.2]
    · simp [takeSettings, takeSetting_figure hx.1, takeFigure, inRange_beyond hx.2]
    · obtain ⟨p, hp⟩ := partners_ofList h11
      have missing : l.all byteGiven = false := by
        rw [← Bool.not_eq_true, stationsGiven_iff]; exact not_not_intro h255
      rw [partnersCheck_list hp, missing]
      rfl
    · obtain ⟨p, hp⟩ := partners_ofList h11
      rw [partnersCheck_list hp, (stationsGiven_iff l).2 h255, if_neg (by simp), if_pos (by simpa using far)]
    · obtain ⟨p, hp⟩ := partners_ofList good.1
      rw [partnersCheck_list hp, given good.2, if_neg (by simp), if_neg (small good.2),
        if_pos ((stationsNamed_iff l s).2 bad)]
    · obtain ⟨p, hp⟩ := partners_ofList good.1
      rw [partnersCheck_list hp, given good.2, if_neg (by simp), if_neg (small good.2),
        if_neg fun e => (stationsNamed_iff l s).1 e named, if_pos ((anyArmed_iff s).2 armed)]
    · obtain ⟨p, hp⟩ := partners_ofList good.1
      rw [partnersCheck_list hp, given good.2, if_neg (by simp), if_neg (small good.2),
        if_neg fun e => (stationsNamed_iff l s).1 e named, if_neg fun e => (anyArmed_iff s).1 e off,
        if_pos ((partnersBusy_iff s).2 busy)]

end Sys2Proof.Machine
end

section
/-! Settles O17: what the error latch and the form check refuse, and the payload length of every management kind. -/

namespace Sys2Proof.Machine

/-! ### While the latch is set (R188, R191, R114, R20) -/

section
variable {c : Instr} {h : Hdr} {s : State}

theorem load_latched {t : TableId} {n : Nat} {own : State → LoadResult} (hm : Managed s h)
    (hl : s.mgmt.latch.isSome = true) : powered (manage c Kind.loadTable h (takeLoad h t n own)) s =
      .next (respond h Kind.loadTable .latched none .none s) := by
  rw [powered_on _ _ hm.1.1, manage_of_managed (by decide) hm, takeLoad, if_pos hl]

theorem mapEdit_latched {op : MapOpCode} {own : State → EditResult} (hm : Managed s h)
    (hl : s.mgmt.latch.isSome = true) : powered (manage c Kind.mapEdit h (takeMapEdit h op own)) s =
      .next (respond h Kind.mapEdit .latched none .none s) := by
  rw [powered_on _ _ hm.1.1, manage_of_managed (by decide) hm, takeMapEdit, if_pos hl]

theorem scheduleEdit_latched {ops : List SchedOp} (hm : Managed s h) (hl : s.mgmt.latch.isSome = true) :
    exec (.scheduleEdit h ops) s = .next (respond h Kind.scheduleEdit .latched none .none s) := by
  refine (powered_on _ _ hm.1.1).trans (congrArg _ ?_)
  rw [manage_of_managed (by decide) hm, takeScheduleEdit, if_pos hl]

/-! ### Payloads that do not fit (R187) -/

theorem load_unfit {t : TableId} {n : Nat} {own : State → LoadResult} (hm : Managed s h) (hl : s.mgmt.latch = none)
    (hf : formFits c = false) : powered (manage c Kind.loadTable h (takeLoad h t n own)) s =
      .next (refuseAndLatch h Kind.loadTable (sentTable h t) .illegalValue none s) := by
  rw [powered_on _ _ hm.1.1, manage_of_managed (by decide) hm, hf, takeLoad_unfit hl]

/-- R187: a load with no entry or more than 16. -/
theorem load_uncounted {t : TableId} {n : Nat} {own : State → LoadResult} (hm : Managed s h)
    (hl : s.mgmt.latch = none) (hf : formFits c = true) (hn : n = 0 ∨ 16 < n) :
    powered (manage c Kind.loadTable h (takeLoad h t n own)) s = LoadRefused h t .outOfRange (some 0) s := by
  rw [powered_on _ _ hm.1.1, manage_of_managed (by decide) hm, hf, takeLoad, hl]
  simp [hn, refuseAndLatch, setLatch, State.setMgmt]

theorem mapEdit_unfit {op : MapOpCode} {own : State → EditResult} (hm : Managed s h) (hl : s.mgmt.latch = none)
    (hf : formFits c = false) : powered (manage c Kind.mapEdit h (takeMapEdit h op own)) s =
      .next (refuseAndLatch h Kind.mapEdit (.map (if h.length = 0 then none else some op)) .illegalValue
        (some 0) s) := by
  rw [powered_on _ _ hm.1.1, manage_of_managed (by decide) hm, hf, takeMapEdit_unfit hl]
  rfl

theorem scheduleEdit_unfit {ops : List SchedOp} (hm : Managed s h) (hl : s.mgmt.latch = none)
    (hf : formFits (.scheduleEdit h ops) = false) : exec (.scheduleEdit h ops) s =
      .next (refuseAndLatch h Kind.scheduleEdit (.schedule none) .illegalValue none s) := by
  refine (powered_on _ _ hm.1.1).trans (congrArg _ ?_)
  rw [manage_of_managed (by decide) hm, hf, takeScheduleEdit_unfit hl]

theorem read_unfit {own : State → ReadResult} (hm : Managed s h) (hf : formFits c = false) :
    powered (manage c Kind.readTable h (takeRead h own)) s =
      .next (respond h Kind.readTable .illegalValue none .none s) := by
  rw [powered_on _ _ hm.1.1, manage_of_managed (by decide) hm, hf, takeRead_unfit]

theorem command_unfit {own : State → CommandResult} (hm : Managed s h) (hf : formFits c = false) :
    powered (manage c Kind.command h (takeCommand h own)) s =
      .next (respond h Kind.command .illegalValue none .none s) := by
  rw [powered_on _ _ hm.1.1, manage_of_managed (by decide) hm, hf, takeCommand_unfit]

theorem query_unfit {ok : Bool} {own : State → ReadResult} (hm : Managed s h) (hf : formFits c = false) :
    powered (manage c Kind.query h (takeQuery h ok own)) s =
      .next (respond h Kind.query .illegalValue none .none s) := by
  rw [powered_on _ _ hm.1.1, manage_of_managed (by decide) hm, hf, takeQuery_unfit]

theorem queryHolds_unfit {clear : Code Bool} (hm : Managed s h) (hf : formFits c = false) :
    powered (manage c Kind.query h (takeQueryHolds h clear)) s =
      .next (respond h Kind.query .illegalValue none .none s) := by
  rw [powered_on _ _ hm.1.1, manage_of_managed (by decide) hm, hf, takeQueryHolds_unfit]

/-- An empty payload fits no kind that has a field. -/
theorem formFits_empty {kind : Nat} {l : List Field} (hc : c.parts.hdr = some h)
    (hl : Instr.fields c = some (kind, l)) (h0 : h.length = 0) (hn : 0 < (fieldBytes l).length) :
    formFits c = false := by
  have fixed : (h.length == (fieldBytes l).length) = false := by
    rw [beq_eq_false_iff_ne]; omega
  have opened : decide ((fieldBytes l).length < h.length) = false := by
    rw [decide_eq_false_iff_not]; omega
  simp [formFits, hc, Instr.fieldsLength, hl, fixed, opened]

/-- R187, log 31: what a load answers whose form or entry count fails. -/
theorem load_formRefused {t : TableId} {n : Nat} {own : State → LoadResult} {l : List Field} (hm : Managed s h)
    (hl : s.mgmt.latch = none) (hc : c.parts.hdr = some h)
    (hf : Instr.fields c = some (Kind.loadTable, .code (.table t) :: l))
    (he : exec c s = powered (manage c Kind.loadTable h (takeLoad h t n own)) s) :
    (formFits c = false → 0 < h.length → exec c s = LoadRefused h t .illegalValue none s)
      ∧ (h.length = 0 → exec c s =
        .next (refuseAndLatch h Kind.loadTable (.loadUnknown 0) .illegalValue none s))
      ∧ (formFits c = true → (n = 0 ∨ 16 < n) → exec c s = LoadRefused h t .outOfRange (some 0) s) := by
  rw [he]
  refine ⟨fun unfit some => ?_, fun empty => ?_, fun fit count => load_uncounted hm hl fit count⟩
  · rw [load_unfit hm hl unfit, sentTable, if_neg (by omega)]
    simp [refuseAndLatch, setLatch, State.setMgmt]
  · rw [load_unfit hm hl (formFits_empty hc hf empty (by simp)), sentTable, if_pos empty]

end

/-- R189, R192, R193: a read, a command or a query whose payload does not fit is answered, with no effect. -/
theorem exec_unfit {c : Instr} {h : Hdr} {kind : Nat} {l : List Field} {s : State} (hm : Managed s h)
    (hc : c.parts.hdr = some h) (hl : Instr.fields c = some (kind, l))
    (hk : kind ∈ [Kind.readTable, Kind.command, Kind.query]) (hf : formFits c = false) :
    exec c s = .next (respond h kind .illegalValue none .none s) := by
  cases c with
  | readFurnaceGeometry | readGapRules | readThicknessClasses | readChargerTiming | readTableGeometry
  | readCounterSetup | readSensorSetup | readWindowPool | readWindowSets | readLineSettings | readPassage
  | readStatusMap | readPartSettings =>
    cases hc
    cases hl
    exact read_unfit hm hf
  | armFurnace | disarmFurnace | stopCharger | releaseCharger | resolveInflightLanded | resolveInflightRemoved
  | acceptSlab | rejectSlab | removeSlab | enterSlab | clearHolds | clearError | clearLink | resume | resetTracking
  | resetAll =>
    cases hc
    cases hl
    exact command_unfit hm hf
  | queryInflight | queryGrid | queryCounters =>
    cases hc
    cases hl
    exact query_unfit hm hf
  | queryMap _ q | queryTableList _ q | querySchedule _ q =>
    cases q <;> (cases hc; cases hl; exact query_unfit hm hf)
  | queryHolds =>
    cases hc
    cases hl
    exact queryHolds_unfit hm hf
  | _ => cases hl <;> exact absurd hk (by decide)

end Sys2Proof.Machine
end

section
/-! Settles O17: the payload length of every management kind (R187, R171). -/

namespace Sys2Proof.Machine

/-- R187: where no field list is open and every entry has the fields of its index, a payload fits by its length
alone. -/
theorem formFits_iff_length {c : Instr} {h : Hdr} {kind n : Nat} {l : List Field} (hc : c.parts.hdr = some h)
    (hf : Instr.fields c = some (kind, l)) (hl : (fieldBytes l).length = n) (hs : Instr.entriesStand c = true)
    (ho : Instr.fieldsOpen c = false) : formFits c = true ↔ h.length = n := by
  rw [formFits_closed hc (by rw [Instr.fieldsLength, hf, Option.map_some, hl]) ho]
  exact and_iff_right hs

/-- R188: the four fields before the entries of a load have a byte each. -/
theorem load_bytes_length {t : TableId} {sel : Field} {first count n : Nat} {entries : List Field}
    (hsel : sel.bytes.length = 1) (hn : (fieldBytes entries).length = n) :
    (fieldBytes ([.code (.table t), sel, .byte first, .byte count] ++ entries)).length = 4 + n := by
  simp [hsel, hn]
  omega

section
variable {c : Instr} {h : Hdr} {t : TableId} {sel : Field} {first count n : Nat} {entries : List Field}

theorem load_fits (hc : c.parts.hdr = some h) (hf : Instr.fields c = loadFields t sel first count entries)
    (hsel : sel.bytes.length = 1) (hn : (fieldBytes entries).length = n) (hs : Instr.entriesStand c = true)
    (ho : Instr.fieldsOpen c = false) : formFits c = true ↔ h.length = 4 + n :=
  formFits_iff_length hc hf (load_bytes_length hsel hn) hs ho

end

/-! ### The entries of the loads -/

theorem geometryEntry_length (e : GeometryEntry) : (fieldBytes (GeometryEntry.fields e)).length = 42 := by
  simp [GeometryEntry.fields]

theorem tableGeometryEntry_length (e : TableGeometryEntry) :
    (fieldBytes (TableGeometryEntry.fields e)).length = 68 := by
  simp [TableGeometryEntry.fields]

theorem counterSetupEntry_length (e : CounterSetupEntry) : (fieldBytes (CounterSetupEntry.fields e)).length = 21 := by
  simp [CounterSetupEntry.fields]

theorem sensorSetupEntry_length (e : SensorSetupEntry) : (fieldBytes (SensorSetupEntry.fields e)).length = 5 := by
  simp [SensorSetupEntry.fields]

theorem poolLoadEntry_length (e : PoolLoadEntry) :
    (fieldBytes (PoolLoadEntry.fields e)).length = match e with | .window .. => 14 | _ => 1 := by
  cases e <;> simp [PoolLoadEntry.fields]

theorem passageLoadEntry_length (e : PassageLoadEntry) :
    (fieldBytes (PassageLoadEntry.fields e)).length = match e with | .bound .. => 3 | _ => 1 := by
  cases e <;> simp [PassageLoadEntry.fields]

theorem schedOp_length (op : SchedOp) : (fieldBytes (SchedOp.fields op)).length = match op with
    | .append .. => 29 | .insert .. => 29 | .delete _ => 3 | .modify .. => 17 | .badCode _ => 1 := by
  cases op <;> simp [SchedOp.fields]

theorem lineList_length (l : List Nat) : (fieldBytes (.byte l.length :: l.map .byte)).length = 1 + l.length := by
  rw [fieldBytes_cons, List.length_append, fieldBytes_map_const field_byte_length, field_byte_length, Nat.one_mul]

/-- A list of stop levels within the first eight indices stands. -/
theorem allStand_stops {i : Nat} {ls : List (Code StopLevel)} (h : i + ls.length ≤ 8) :
    allStand LineEntry.standsAt i (ls.map .stopLevel) = true := by
  induction ls generalizing i with
  | nil => rfl
  | cons l ls ih =>
    have len : (l :: ls).length = ls.length + 1 := rfl
    rw [List.map_cons, allStand, ih (by omega), Bool.and_true]
    simp [LineEntry.standsAt]
    omega

/-- A list of figures within the first four indices stands. -/
theorem allStand_figures {i : Nat} {xs : List Int} (h : i + xs.length ≤ 4) :
    allStand SettingEntry.standsAt i (xs.map .figure) = true := by
  induction xs generalizing i with
  | nil => rfl
  | cons x xs ih =>
    have len : (x :: xs).length = xs.length + 1 := rfl
    rw [List.map_cons, allStand, ih (by omega), Bool.and_true]
    simp [SettingEntry.standsAt]
    omega

/-- R189: the four fields of a read. -/
theorem read_fits {c : Instr} {h : Hdr} {l : List Field} (hc : c.parts.hdr = some h)
    (hf : Instr.fields c = some (Kind.readTable, l)) : formFits c = true ↔ h.length = 4 := by
  cases c with
  | readFurnaceGeometry | readGapRules | readThicknessClasses | readChargerTiming | readTableGeometry
  | readCounterSetup | readSensorSetup | readWindowPool | readWindowSets | readLineSettings | readPassage
  | readStatusMap | readPartSettings =>
    refine formFits_iff_length hc hf ?_ rfl rfl
    cases hf
    simp [unusedSelector]
  | queryMap _ q | queryTableList _ q | querySchedule _ q =>
    cases q <;> cases hf
  | _ => cases hf

/-- A set of hold names has three bytes. -/
theorem holdNames_length (form : List HoldName) (n : HoldNames) : (fieldBytes (HoldNames.fields form n)).length = 3 := by
  cases n <;> simp [HoldNames.fields]

/-! ### Field lists that are open (log 48) -/

theorem poolLoad_closed {h : Hdr} {i : Nat} {es : List PoolLoadEntry} (good : ∀ raw, .badKind raw ∉ es) :
    Instr.fieldsOpen (.loadWindowPool h i es) = false := by
  refine List.any_eq_false.2 fun e he => ?_
  cases e with
  | badKind raw => exact absurd he (good raw)
  | _ => exact Bool.false_ne_true

theorem passageLoad_closed {h : Hdr} {i : Nat} {es : List PassageLoadEntry} (good : ∀ raw, .badKind raw ∉ es) :
    Instr.fieldsOpen (.loadPassage h i es) = false := by
  refine List.any_eq_false.2 fun e he => ?_
  cases e with
  | badKind raw => exact absurd he (good raw)
  | _ => exact Bool.false_ne_true

theorem scheduleEdit_closed {h : Hdr} {ops : List SchedOp} (good : ∀ raw, .badCode raw ∉ ops) :
    Instr.fieldsOpen (.scheduleEdit h ops) = false := by
  refine List.any_eq_false.2 fun op hop => ?_
  cases op with
  | badCode raw => exact absurd hop (good raw)
  | _ => exact Bool.false_ne_true

/-- Settles O17: the latch and the form check stand before the owners; the lengths are the sums of the fields. -/
theorem latchedRefusesLoadsAndEdits : Obligations.LatchedRefusesLoadsAndEdits := by
  unfold Obligations.LatchedRefusesLoadsAndEdits
  refine ⟨fun h s hm hl => ?latched, fun h s hm hl => ?loads, fun h s hm hl => ?edits,
    fun c h kind l s hm hc hf hk hfits => exec_unfit hm hc hf hk hfits, fun h => ?lengths⟩
  case latched =>
    exact ⟨fun _ _ _ => load_latched hm hl, fun _ _ _ => load_latched hm hl, fun _ _ => load_latched hm hl,
      fun _ _ _ => load_latched hm hl, fun _ _ => load_latched hm hl, fun _ _ _ => load_latched hm hl,
      fun _ _ => load_latched hm hl, fun _ _ => load_latched hm hl, fun _ _ _ => load_latched hm hl,
      fun _ _ _ => load_latched hm hl, fun _ _ => load_latched hm hl, fun _ _ => load_latched hm hl,
      fun _ _ => load_latched hm hl, fun _ => scheduleEdit_latched hm hl, fun _ => mapEdit_latched hm hl,
      fun _ _ _ => mapEdit_latched hm hl, fun _ _ _ _ _ _ _ _ => mapEdit_latched hm hl⟩
  case loads =>
    exact ⟨fun _ _ _ => load_formRefused hm hl rfl rfl rfl, fun _ _ _ => load_formRefused hm hl rfl rfl rfl,
      fun _ _ => load_formRefused hm hl rfl rfl rfl, fun _ _ _ => load_formRefused hm hl rfl rfl rfl,
      fun _ _ => load_formRefused hm hl rfl rfl rfl, fun _ _ _ => load_formRefused hm hl rfl rfl rfl,
      fun _ _ => load_formRefused hm hl rfl rfl rfl, fun _ _ => load_formRefused hm hl rfl rfl rfl,
      fun _ _ _ => load_formRefused hm hl rfl rfl rfl, fun _ _ _ => load_formRefused hm hl rfl rfl rfl,
      fun _ _ => load_formRefused hm hl rfl rfl rfl, fun _ _ => load_formRefused hm hl rfl rfl rfl,
      fun _ _ => load_formRefused hm hl rfl rfl rfl⟩
  case edits =>
    exact ⟨fun _ unfit => scheduleEdit_unfit hm hl unfit, fun _ unfit => mapEdit_unfit hm hl unfit,
      fun _ _ _ unfit => mapEdit_unfit hm hl unfit, fun _ _ _ _ _ _ _ _ unfit => mapEdit_unfit hm hl unfit⟩
  case lengths =>
    refine ⟨formFits_iff_length rfl rfl rfl rfl rfl, ⟨?_, ?_, ?_, ?_, ?_, ?_, ?_, ?_, ?_, ?_, ?_, ?_, ?_, ?_, ?_⟩,
      fun c l hc hf => read_fits hc hf, ⟨?_, ?_, ?_, ?_⟩, ⟨?_, ?_, ?_, ?_, ?_, ?_, ?_, ?_, ?_, ?_, ?_, ?_, ?_⟩,
      ⟨?_, ?_, ?_, ?_, ?_, ?_, ?_, ?_, ?_, ?_⟩⟩
    · exact fun k i es => load_fits rfl rfl (codeField_length ..)
        (fieldBytes_flatMap_const fun e _ => geometryEntry_length e) rfl rfl
    · exact fun k i es => load_fits rfl rfl (codeField_length ..) (fieldBytes_map_const field_figure_length) rfl rfl
    · exact fun i es => load_fits rfl rfl rfl (fieldBytes_map_const field_figure_length) rfl rfl
    · exact fun k i es => load_fits rfl rfl (codeField_length ..) (fieldBytes_map_const field_figure_length) rfl rfl
    · exact fun i es => load_fits rfl rfl rfl
        (fieldBytes_flatMap_const fun e _ => tableGeometryEntry_length e) rfl rfl
    · exact fun c i es => load_fits rfl rfl (codeField_length ..)
        (fieldBytes_flatMap_const fun e _ => counterSetupEntry_length e) rfl rfl
    · exact fun i es => load_fits rfl rfl rfl (fieldBytes_flatMap_const fun e _ => sensorSetupEntry_length e) rfl rfl
    · exact fun i es good => load_fits rfl rfl rfl ((fieldBytes_flatMap_length ..).trans
        (congrArg List.sum (List.map_congr_left fun e _ => poolLoadEntry_length e))) rfl (poolLoad_closed good)
    · exact fun k i es => load_fits rfl rfl (codeField_length ..) ((fieldBytes_flatMap_length ..).trans
        (congrArg List.sum (List.map_congr_left fun l _ => lineList_length l))) rfl rfl
    · refine fun k i ls inside => load_fits rfl rfl (codeField_length ..) ?_ (allStand_stops inside) ?_
      · rw [fieldBytes_flatMap_const (n := 1), Nat.one_mul, List.length_map]
        exact List.forall_mem_map.2 fun c _ => by simp [LineEntry.fields]
      · simp [Instr.fieldsOpen]
        omega
    · exact fun k u v w x => load_fits (n := 16) rfl rfl (codeField_length ..) rfl rfl rfl
    · exact fun i es good => load_fits rfl rfl rfl ((fieldBytes_flatMap_length ..).trans
        (congrArg List.sum (List.map_congr_left fun e _ => passageLoadEntry_length e))) rfl (passageLoad_closed good)
    · exact fun i es => load_fits rfl rfl rfl ((fieldBytes_map_const field_byte_length).trans (Nat.one_mul _)) rfl rfl
    · refine fun i xs inside => load_fits rfl rfl rfl ?_ (allStand_figures inside) ?_
      · rw [fieldBytes_flatMap_const (n := 4), List.length_map]
        exact List.forall_mem_map.2 fun x _ => field_figure_length x
      · simp [Instr.fieldsOpen]
        omega
    · refine fun l eleven => load_fits (n := 11) rfl rfl rfl ?_ ?_ rfl
      · simp [SettingEntry.fields, fieldBytes_map_const field_byte_length, eleven]
      · simp [Instr.entriesStand, allStand, SettingEntry.standsAt, eleven]
    · refine fun ops good => formFits_iff_length rfl rfl ?_ rfl (scheduleEdit_closed good)
      rw [fieldBytes_cons, List.length_append, field_byte_length, fieldBytes_flatMap_length]
      exact congrArg (1 + List.sum ·) (List.map_congr_left fun op _ => schedOp_length op)
    · exact fun tag => formFits_iff_length rfl rfl rfl rfl rfl
    · exact fun k r x => formFits_iff_length rfl rfl (by simp) rfl rfl
    · exact fun k x id w l th g m => formFits_iff_length rfl rfl (by simp) rfl rfl
    · exact fun k => ⟨formFits_iff_length rfl rfl (by simp) rfl rfl, formFits_iff_length rfl rfl (by simp) rfl rfl,
        formFits_iff_length rfl rfl (by simp) rfl rfl, formFits_iff_length rfl rfl (by simp) rfl rfl,
        formFits_iff_length rfl rfl (by simp) rfl rfl⟩
    · exact fun k x => formFits_iff_length rfl rfl (by simp) rfl rfl
    · exact fun tag w l th g d => formFits_iff_length rfl rfl (by simp) rfl rfl
    · exact fun tag => ⟨formFits_iff_length rfl rfl rfl rfl rfl, formFits_iff_length rfl rfl rfl rfl rfl⟩
    · exact fun id w th m => formFits_iff_length rfl rfl (by simp) rfl rfl
    · exact formFits_iff_length rfl rfl rfl rfl rfl
    · exact fun k n => formFits_iff_length rfl rfl (by simp [HoldSelection.fields, holdNames_length]) rfl rfl
    · exact fun c n => formFits_iff_length rfl rfl (by simp [HoldSelection.fields, holdNames_length]) rfl rfl
    · exact formFits_iff_length rfl rfl rfl rfl rfl
    · exact fun l => formFits_iff_length rfl rfl (by simp) rfl rfl
    · exact formFits_iff_length rfl rfl rfl rfl rfl
    · exact formFits_iff_length rfl rfl rfl rfl rfl
    · exact formFits_iff_length rfl rfl rfl rfl rfl
    · exact fun k i => formFits_iff_length rfl rfl (by simp) rfl rfl
    · exact fun tag => formFits_iff_length rfl rfl rfl rfl rfl
    · exact formFits_iff_length rfl rfl rfl rfl rfl
    · exact fun tag => formFits_iff_length rfl rfl rfl rfl rfl
    · exact fun q => formFits_iff_length rfl rfl rfl rfl rfl
    · exact fun id => formFits_iff_length rfl rfl (by simp) rfl rfl
    · exact fun k => formFits_iff_length rfl rfl (by simp) rfl rfl
    · exact formFits_iff_length rfl rfl rfl rfl rfl
    · exact formFits_iff_length rfl rfl rfl rfl rfl
    · exact fun c => formFits_iff_length rfl rfl (by simp) rfl rfl

end Sys2Proof.Machine
end

section
/-! Settles O19 and O21: the reads of the tables, and QUERY HOLDS. -/

namespace Sys2Proof.Machine

/-- R189: a count of 0 or more than 16, or a first index beyond the last entry, fails the check of the range. -/
theorem readRange_fails {first count last : Nat} (r : ReadResult) (h : count = 0 ∨ 16 < count ∨ last < first) :
    readRange first count last r = .error .outOfRange := if_pos h

/-- R166: the pool entries with their reference counts. -/
theorem poolReport_map (s : State) (i : Nat) (l : List (Option Window)) : (poolReport s i l).map (·.1) = l := by
  induction l generalizing i with
  | nil => rfl
  | cons w l ih => rw [poolReport, List.map_cons, ih]

theorem poolReport_count {s : State} {i j : Nat} {l : List (Option Window)} {x : Option Window × Nat}
    (h : (poolReport s i l)[j]? = some x) : x.2 = s.referenced (i + j) := by
  induction l generalizing i j with
  | nil => cases h
  | cons w l ih =>
    rcases j with _ | j
    · obtain rfl := Option.some.inj h
      rfl
    · rw [ih h]
      congr 1
      omega

theorem referenced_eq (s : State) (i : Nat) :
    s.referenced i = ((s.cfg.sets.f1 ++ s.cfg.sets.f2).filter fun l => l.contains i).length := by
  simp [State.referenced, referenceCount, List.filter_append]

/-- Settles O19: each read answers the slice of its table, or what its selector, its range or its missing record
refuses. -/
theorem readTables : Obligations.ReadTables := by
  unfold Obligations.ReadTables
  refine ⟨fun h first count s hm h1 h16 => ?plain, fun h first count s hm h1 h16 => ?indexed,
    fun h s hm => ⟨?selector, ?range, ?record⟩⟩
  case plain =>
    refine ⟨fun k hl hf => read_taken hm hf (readRange_passes _ h1 h16 hl),
      fun hl hf => read_taken hm hf (readRange_passes _ h1 h16 hl),
      fun k hl hf => read_taken hm hf (readRange_passes _ h1 h16 hl), fun g hg hf => read_taken hm hf ?_,
      fun c hf => read_taken hm hf (oneRecord_some _ _ h1 h16),
      fun hl hf => read_taken hm hf (readRange_passes _ h1 h16 hl)⟩
    rw [ownReadTableGeometry, hg, oneRecord_some _ _ h1 h16]
  case indexed =>
    refine ⟨fun hl hf => ⟨poolReport s first (slice first count s.cfg.pool),
        read_taken hm hf (readRange_passes _ h1 h16 hl), poolReport_map .., fun j x hx => ?_⟩,
      fun k hl hf => read_taken hm hf (readRange_passes _ h1 h16 hl),
      fun k hl hf => read_taken hm hf (readRange_passes _ h1 h16 hl),
      fun hl hf => read_taken hm hf (readRange_passes _ h1 h16 hl),
      fun hl hf => read_taken hm hf (readRange_passes _ h1 h16 hl),
      fun hl hf => read_taken hm hf (readRange_passes _ h1 h16 hl)⟩
    rw [poolReport_count hx, referenced_eq]
  case selector =>
    exact fun raw first count => ⟨fun hf => read_refused hm hf rfl, fun hf => read_refused hm hf rfl,
      fun hf => read_refused hm hf rfl, fun hf => read_refused hm hf rfl, fun hf => read_refused hm hf rfl,
      fun hf => read_refused hm hf rfl⟩
  case range =>
    exact fun first count => ⟨fun k => ⟨fun b hf => read_refused hm hf (readRange_fails _ b),
        fun b hf => read_refused hm hf (readRange_fails _ b), fun b hf => read_refused hm hf (readRange_fails _ b),
        fun b hf => read_refused hm hf (readRange_fails _ b), fun b hf => read_refused hm hf (readRange_fails _ b)⟩,
      fun c b hf => read_refused hm hf (readRange_fails _ b), fun b hf => read_refused hm hf (readRange_fails _ b),
      fun b hf => read_refused hm hf (readRange_fails _ b), fun b hf => read_refused hm hf (readRange_fails _ b),
      fun b hf => read_refused hm hf (readRange_fails _ b), fun b hf => read_refused hm hf (readRange_fails _ b),
      fun b hf => read_refused hm hf (readRange_fails _ b), fun b hf => read_refused hm hf (readRange_fails _ b)⟩
  case record =>
    intro count h1 h16 none hf
    exact read_refused hm hf (by rw [ownReadTableGeometry, none, oneRecord_none _ h1 h16])

/-! ### QUERY HOLDS (R47) -/

/-- R193: a query that its owning rule answers leaves its RESPONSE, and nothing else. -/
theorem query_taken {c : Instr} {h : Hdr} {own : State → ReadResult} {s : State} {d : RespData} (hm : Managed s h)
    (hf : formFits c = true) (ho : own s = .ok d) :
    powered (manage c Kind.query h (takeQuery h true own)) s = .next (respond h Kind.query .ok none d s) := by
  rw [powered_on _ _ hm.1.1, manage_of_managed (by decide) hm, hf]
  simp [takeQuery, ho]

theorem query_refused {c : Instr} {h : Hdr} {own : State → ReadResult} {s : State} {code : RespCode}
    (hm : Managed s h) (hf : formFits c = true) (ho : own s = .error code) :
    powered (manage c Kind.query h (takeQuery h true own)) s = .next (respond h Kind.query code none .none s) := by
  rw [powered_on _ _ hm.1.1, manage_of_managed (by decide) hm, hf]
  simp [takeQuery, ho]

/-- The answer of QUERY HOLDS. -/
def State.holdsAnswer (s : State) : RespData := .holds ⟨s.holdsReport .f1, s.holdsReport .f2⟩ s.counterHolds

/-- R47: the query answers, and with its option clears every hold behind the RESPONSE. -/
theorem exec_queryHolds {h : Hdr} {clear : Bool} {s : State} (hm : Managed s h)
    (hf : formFits (.queryHolds h (.val clear)) = true) : exec (.queryHolds h (.val clear)) s =
      .next (if clear then clearAllHolds (respond h Kind.query .ok none s.holdsAnswer s)
        else respond h Kind.query .ok none s.holdsAnswer s) := by
  refine (powered_on _ _ hm.1.1).trans (congrArg _ ?_)
  rw [manage_of_managed (by decide) hm, hf]
  cases clear <;> rfl

/-- Settles O21: the answer is read before the holds are cleared. -/
theorem queryHolds : Obligations.QueryHolds := by
  unfold Obligations.QueryHolds
  intro h s hm hf report d
  refine ⟨exec_queryHolds hm hf, _, exec_queryHolds hm hf, ?_⟩
  rw [if_pos rfl, clearAllHolds_eq]
  refine ⟨rfl, fun k => ?_, fun c => ?_⟩
  · rw [respond_place]; cases k <;> rfl
  · rw [respond_counters]; cases c <;> rfl

end Sys2Proof.Machine
end

section
/-! Settles O20: the queries. First the grant order as a sorted permutation of the queue, and where the look-ups by
tag and identity end. -/

namespace Sys2Proof.Machine

/-! ### The grant order (R125) -/

theorem keyBefore_iff (a b : Nat × Nat) : keyBefore a b = true ↔ a.1 < b.1 ∨ (a.1 = b.1 ∧ a.2 < b.2) := by
  simp [keyBefore]

theorem keyBefore_false (a b : Nat × Nat) : keyBefore a b = false ↔ b.1 < a.1 ∨ (b.1 = a.1 ∧ b.2 ≤ a.2) := by
  rw [← Bool.not_eq_true, keyBefore_iff]; omega

theorem insertRequest_perm (l : List ScheduleEntry) (q : GridRequest) (xs : List GridRequest) :
    (insertRequest l q xs).Perm (q :: xs) := by
  induction xs with
  | nil => exact .refl _
  | cons x xs ih =>
    unfold insertRequest
    split
    · exact .refl _
    · exact (ih.cons x).trans (.swap q x xs)

theorem grantOrder_perm (l : List ScheduleEntry) (qs : List GridRequest) : (grantOrder l qs).Perm qs := by
  induction qs with
  | nil => exact .refl _
  | cons q qs ih => exact (insertRequest_perm l q _).trans (ih.cons q)

/-- Requests in grant order: none stands behind one that it comes before. -/
abbrev GrantSorted (l : List ScheduleEntry) (qs : List GridRequest) : Prop :=
  qs.Pairwise fun x y => keyBefore (grantKey l y) (grantKey l x) = false

theorem insertRequest_sorted {l : List ScheduleEntry} {q : GridRequest} {xs : List GridRequest}
    (h : GrantSorted l xs) : GrantSorted l (insertRequest l q xs) := by
  induction xs with
  | nil => exact List.pairwise_singleton _ q
  | cons x xs ih =>
    obtain ⟨hx, hxs⟩ := List.pairwise_cons.1 h
    unfold insertRequest
    split
    · rename_i before
      rw [keyBefore_iff] at before
      refine List.pairwise_cons.2 ⟨fun y hy => ?_, h⟩
      rw [keyBefore_false]
      rcases List.mem_cons.1 hy with rfl | hy
      · omega
      · have := (keyBefore_false ..).1 (hx y hy)
        omega
    · rename_i behind
      rw [Bool.not_eq_true] at behind
      refine List.pairwise_cons.2 ⟨fun y hy => ?_, ih hxs⟩
      rcases List.mem_cons.1 ((insertRequest_perm l q xs).mem_iff.1 hy) with rfl | hy
      · exact behind
      · exact hx y hy

theorem grantOrder_sorted (l : List ScheduleEntry) (qs : List GridRequest) : GrantSorted l (grantOrder l qs) := by
  induction qs with
  | nil => exact List.Pairwise.nil
  | cons q qs ih => exact insertRequest_sorted ih

/-- A request in grant order before another: by the sequence numbers of their PLANNED entries, then by rank. -/
theorem grantKey_order {l : List ScheduleEntry} {x y : GridRequest}
    (h : keyBefore (grantKey l y) (grantKey l x) = false) :
    match (plannedEntry x.id l).map (·.seq), (plannedEntry y.id l).map (·.seq) with
    | some a, some b => a ≤ b
    | some _, none => True
    | none, some _ => False
    | none, none => x.rank ≤ y.rank := by
  rw [keyBefore_false] at h
  cases hx : plannedEntry x.id l <;> cases hy : plannedEntry y.id l <;> simp only [grantKey, hx, hy] at h ⊢ <;>
    simp only [Option.map_some, Option.map_none] <;> omega

/-! ### Slabs by tag (R24) -/

theorem locate_none {p : FurnaceSlab → Bool} {i : Nat} {rows : List Row}
    (h : ∀ r ∈ rows, ∀ x ∈ r.slabs, p x = false) : locate p i rows = none := by
  induction rows generalizing i with
  | nil => rfl
  | cons r rs ih =>
    have none : r.findSlab p = none := List.find?_eq_none.2 fun x hx => by
      rw [h r (by simp) x.2 (List.mem_map_of_mem hx)]; simp
    rw [locate, none]
    exact ih fun r hr => h r (by simp [hr])

theorem locate_append {p : FurnaceSlab → Bool} {i : Nat} {pre post : List Row} {r : Row} {lane : Lane} {x : FurnaceSlab}
    (h : ∀ q ∈ pre, ∀ y ∈ q.slabs, p y = false) (hr : r.findSlab p = some (lane, x)) :
    locate p i (pre ++ r :: post) = some ⟨i + pre.length, lane, r.front, x⟩ := by
  induction pre generalizing i with
  | nil => simp [locate, hr]
  | cons q pre ih =>
    have none : q.findSlab p = none := List.find?_eq_none.2 fun y hy => by
      rw [h q (by simp) y.2 (List.mem_map_of_mem hy)]; simp
    rw [List.cons_append, locate, none]
    refine (ih fun q hq => h q (by simp [hq])).trans ?_
    rw [List.length_cons]
    congr 2
    omega

theorem locateTag_none {m : FurnaceMap} {tag : Nat} (h : ∀ x ∈ m.slabs, x.tag ≠ tag) : m.locateTag tag = none :=
  locate_none fun r hr x hx => beq_false_of_ne (h x (List.mem_flatMap.2 ⟨r, hr, hx⟩))

/-- R24: where the slab with a tag lies. -/
theorem locateTag_state {s : State} {k : Furnace} {tag : Nat} {p : Place}
    (other : k = .f2 → ∀ y ∈ s.maps.f1.slabs, y.tag ≠ tag) (h : (s.maps.get k).locateTag tag = some p) :
    s.locateTag tag = some (k, p) := by
  unfold State.locateTag
  cases k with
  | f1 =>
    have here : s.maps.f1.locateTag tag = some p := h
    rw [here]
  | f2 =>
    have here : s.maps.f2.locateTag tag = some p := h
    rw [locateTag_none (other rfl), here]
    rfl

theorem queryGiven_some {x : Nat} {next : ReadResult} (h : x ≠ 0) : queryGiven x next = next :=
  if_pos ((tagGiven_true x).2 h)

/-! ### The schedule (R132) -/

theorem schedulePlace_append {pre post : List ScheduleEntry} {e : ScheduleEntry} {i : Nat}
    (h : ∀ x ∈ pre, x.id ≠ e.id) : schedulePlace e.id i (pre ++ e :: post) = some (e, i + pre.length) := by
  induction pre generalizing i with
  | nil => exact if_pos rfl
  | cons x pre ih =>
    rw [List.cons_append, schedulePlace, if_neg (h x (by simp)), ih fun y hy => h y (by simp [hy]), List.length_cons]
    congr 2
    omega

theorem schedulePlace_none {id : Identity} {l : List ScheduleEntry} {i : Nat} (h : ∀ e ∈ l, e.id ≠ id) :
    schedulePlace id i l = none := by
  induction l generalizing i with
  | nil => rfl
  | cons x l ih =>
    rw [schedulePlace, if_neg (h x (by simp))]
    exact ih fun y hy => h y (by simp [hy])

/-- R132: in a schedule in order the entries ahead of one are those of the lower sequence numbers. -/
theorem plannedAhead_append {pre post : List ScheduleEntry} {e : ScheduleEntry}
    (h : seqsRise (pre ++ e :: post) = true) :
    plannedAhead e.seq (pre ++ e :: post) = (pre.filter ScheduleEntry.planned).length := by
  rw [seqsRise_iff, List.pairwise_append, List.pairwise_cons] at h
  obtain ⟨-, ⟨behind, -⟩, ahead⟩ := h
  have before : pre.filter (fun x => x.planned && decide (x.seq < e.seq)) = pre.filter ScheduleEntry.planned :=
    List.filter_congr fun x hx => by simp [ahead x hx e (by simp)]
  have after : (e :: post).filter (fun x => x.planned && decide (x.seq < e.seq)) = [] := by
    refine List.filter_eq_nil_iff.2 fun x hx => ?_
    rcases List.mem_cons.1 hx with rfl | hx
    · simp
    · have := behind x hx
      simp
      omega
  rw [plannedAhead, List.filter_append, before, after, List.append_nil]

/-! ### The table list (R107) -/

theorem recordSummaries_eq (travel : Int) (i : Nat) (l : List TableRecord) :
    recordSummaries travel i l = l.mapIdx fun j r =>
      { index := i + j, tag := r.tag, head := r.anchor + travel
        centre := r.anchor + travel - r.assumed.tdiv 2, state := r.state, dest := r.dest } := by
  induction l generalizing i with
  | nil => rfl
  | cons r l ih =>
    rw [recordSummaries, ih, List.mapIdx_cons]
    congr 2
    funext j x
    rw [show i + 1 + j = i + (j + 1) by omega]

/-- Settles O20: each query answers what its look-up finds. -/
theorem queries : Obligations.Queries := by
  unfold Obligations.Queries
  refine ⟨fun h s hm => ⟨?rows, ?beyond, ?noTag, ?unknownSlab, ?slab, ?list, ?noRecord, ?record, ?unknownRecord, ?noSeq,
    ?range, ?entry, ?unknownEntry⟩, fun h s hm => ⟨?inflight, ?grid, ?counters⟩⟩
  case rows =>
    intro k first inside hf
    exact query_taken hm hf (if_neg (Nat.not_lt.2 inside))
  case beyond => exact fun k first out hf => query_refused hm hf (if_pos out)
  case noTag => exact fun hf => query_refused hm hf rfl
  case unknownSlab =>
    intro tag h0 none hf
    refine query_refused hm hf ((queryGiven_some h0).trans ?_)
    have off : s.locateTag tag = .none := by
      rw [State.locateTag, locateTag_none fun x hx => none x (List.mem_append_left _ hx),
        locateTag_none fun x hx => none x (List.mem_append_right _ hx)]
      rfl
    rw [off]
  case slab =>
    intro k pre r post lane x h0 other rows before found hf
    refine query_taken hm hf ((queryGiven_some h0).trans ?_)
    have here : (s.maps.get k).locateTag x.tag = some ⟨0 + pre.length, lane, r.front, x⟩ := by
      rw [FurnaceMap.locateTag, rows]
      exact locate_append (fun q hq y hy => beq_false_of_ne (before q hq y hy)) found
    rw [locateTag_state other here, Nat.zero_add]
  case list =>
    intro hf
    refine query_taken hm hf (congrArg Except.ok ?_)
    rw [tableListAnswer, recordSummaries_eq]
    simp only [Nat.zero_add]
    rfl
  case noRecord => exact fun hf => query_refused hm hf rfl
  case record =>
    intro tag r h0 found hf
    refine query_taken hm hf ((queryGiven_some h0).trans ?_)
    rw [State.findTag, found]
    rfl
  case unknownRecord =>
    intro tag h0 none hf
    refine query_refused hm hf ((queryGiven_some h0).trans ?_)
    have off : s.findTag tag = .none := List.find?_eq_none.2 fun r hr => by simpa using none r hr
    rw [off]
  case noSeq => exact fun hf => query_refused hm hf rfl
  case range => exact fun seq h0 hf => query_taken hm hf (queryGiven_some h0)
  case entry =>
    intro pre e post order split hf
    have ids := (idsDiffer_iff s.schedule).1 order.2.1
    rw [split, List.pairwise_append] at ids
    refine query_taken hm hf ?_
    unfold ownQuerySchedule
    dsimp only
    rw [split, schedulePlace_append fun x hx => ids.2.2 x hx e (by simp)]
    dsimp only
    rw [plannedAhead_append (split ▸ order.1), Nat.zero_add]
    rfl
  case unknownEntry =>
    intro id none hf
    refine query_refused hm hf ?_
    unfold ownQuerySchedule
    dsimp only
    rw [schedulePlace_none none]
  case inflight => exact fun k hf => query_taken hm hf rfl
  case grid =>
    intro hf
    refine ⟨s.gridOrder.map fun q => (q, (plannedEntry q.id s.schedule).map (·.seq)), fun _ => query_taken hm hf ?_,
      ?_, ?_, ?_⟩
    · have supervision : s.mgmt.supervision.isOk = decide (s.mgmt.supervision ≠ .lost) := by
        cases s.mgmt.supervision <;> rfl
      rw [ownQueryGrid, State.grantConditions, supervision]
      rfl
    · rw [List.map_map]
      exact (List.map_id _).symm ▸ grantOrder_perm s.schedule s.grid.queue
    · exact List.forall_mem_map.2 fun q _ => rfl
    · rw [List.pairwise_map]
      exact (grantOrder_sorted s.schedule s.grid.queue).imp fun h => grantKey_order h
  case counters => exact fun hf => query_taken hm hf rfl

end Sys2Proof.Machine
end

section
/-! The observed STROKE_REPORT (R12 to R15, R63, R64): how far an event depends on the rest of the state, which
placement holds the blocks leave, what a stroke makes of the rows, and the settlement. -/

namespace Sys2Proof.Machine

/-! ### Events in states that differ elsewhere -/

/-- Two states with the same queues, retention part and configuration: an event goes the same way in both. -/
structure SameLines (s t : State) : Prop where
  links : t.links = s.links
  ret : t.ret = s.ret
  cfg : t.cfg = s.cfg

namespace SameLines

variable {s t u : State}

theorem refl (s : State) : SameLines s s := ⟨rfl, rfl, rfl⟩

theorem trans (h : SameLines s t) (g : SameLines t u) : SameLines s u :=
  ⟨g.links.trans h.links, g.ret.trans h.ret, g.cfg.trans h.cfg⟩

theorem raise (h : SameLines s t) (e : Event) : SameLines (raise e s) (raise e t) := by
  obtain ⟨hl, hr⟩ := raise_congr (e := e) h.links h.ret (by rw [h.cfg])
  refine ⟨hl, hr, ?_⟩
  rw [raise_eq e t, raise_eq e s]
  exact h.cfg

theorem raises (h : SameLines s t) (l : List Event) :
    SameLines (l.foldl (fun s e => Machine.raise e s) s) (l.foldl (fun s e => Machine.raise e s) t) := by
  induction l generalizing s t with
  | nil => exact h
  | cons e l ih => exact ih (h.raise e)

end SameLines

/-! ### The placement state while the occasions are served -/

/-- Each furnace keeps its last reported stroke, and its holds that are set stay set. -/
structure PlaceGrows (s t : State) : Prop where
  lastStroke : ∀ k, (t.place.get k).lastStroke = (s.place.get k).lastStroke
  holds : ∀ k n, (s.place.get k).holds.get n = true → (t.place.get k).holds.get n = true

theorem PlaceGrows.of_place {s t : State} (h : t.place = s.place) : PlaceGrows s t :=
  ⟨fun k => by rw [h], fun k n => by rw [h]; exact id⟩

theorem PlacementHolds.get_put_true {x : PlacementHolds} {n : HoldName} (m : HoldName) (h : x.get n = true) :
    (x.put m true).get n = true := by
  cases m <;> cases n <;> simp_all [PlacementHolds.put, PlacementHolds.get]

theorem placeGrows_serveClosed : ServeClosed PlaceGrows where
  refl _ := .of_place rfl
  trans h k := ⟨fun j => (k.lastStroke j).trans (h.lastStroke j), fun j n hn => k.holds j n (h.holds j n hn)⟩
  sendOwn p d r b s := .of_place (untouched_send.sendOwn p d r b s).place
  holdEvent e s := .of_place (untouched_send.holdEvent e s).place
  setGrid _ _ := .of_place rfl
  setTracker _ _ := .of_place rfl
  setArb _ _ := .of_place rfl
  setHolds _ _ := .of_place rfl
  setWindows _ _ := .of_place rfl
  setDue _ _ := .of_place rfl
  setSeq _ _ _ _ := .of_place rfl
  setHold s k n := by
    have set (j : Furnace) : (s.putHold k n true).place.get j =
        if j = k then { s.placeOf k with holds := (s.placeOf k).holds.put n true } else s.place.get j := by
      rw [State.putHold, State.setPlaceOf, State.setPlace_place]
      by_cases e : j = k
      · rw [if_pos e, e, PerFurnace.get_set]
      · rw [if_neg e, eq_otherFurnace e, PerFurnace.get_set_other]
    refine ⟨fun j => ?_, fun j m hm => ?_⟩
    · rw [set]
      split
      · next e => rw [e]; rfl
      · rfl
    · rw [set]
      split
      · next e => exact PlacementHolds.get_put_true n (e ▸ hm)
      · exact hm

/-! ### The rows after a stroke (R13) -/

/-- Closing the last row changes nothing that does not read its pair-open flag. -/
theorem map_closeLast {α : Type} (f : Row → α) (hf : ∀ r : Row, f { r with pairOpen := false } = f r) (rows : List Row) :
    (closeLast rows).map f = rows.map f := by
  induction rows with
  | nil => rfl
  | cons r rows ih =>
    cases rows with
    | nil => exact congrArg (fun a => [a]) (hf r)
    | cons r' rows => exact congrArg (f r :: ·) ih

theorem getLast?_closeLast {rows : List Row} {r : Row} (h : (closeLast rows).getLast? = some r) : r.pairOpen = false := by
  induction rows with
  | nil => cases h
  | cons a rows ih =>
    cases rows with
    | nil =>
      cases h
      rfl
    | cons b rows =>
      have grown : (closeLast (b :: rows)) ≠ [] := by
        rw [← List.length_pos_iff, closeLast_length]
        exact Nat.succ_pos _
      have tail : (closeLast (a :: b :: rows)).getLast? = (closeLast (b :: rows)).getLast? := by
        rw [closeLast, List.getLast?_cons, List.getLast?_eq_some_getLast grown, Option.getD_some]
        exact List.cons_ne_nil _ _
      exact ih (tail ▸ h)

theorem map_shiftRows (len : Int) {α : Type} (f : Row → α) (hf : ∀ r : Row, f { r with pairOpen := false } = f r)
    (rows : List Row) : (shiftRows len rows).map f = rows.map fun r => f { r with front := r.front + len } := by
  rw [shiftRows, map_closeLast f hf, List.map_map]
  rfl

/-- The OVERRUN events of a list do not read the pair-open flags. -/
theorem overrunEvents_closeLast (k : Furnace) (l : Int) (i : Nat) (rows : List Row) :
    overrunEvents k l i (closeLast rows) = overrunEvents k l i rows := by
  induction rows generalizing i with
  | nil => rfl
  | cons r rows ih =>
    cases rows with
    | nil => rfl
    | cons r' rows => exact congrArg (_ ++ ·) (ih (i + 1))

/-- R13: one OVERRUN for each row of the list that the stroke takes beyond the effective length. -/
theorem overrunEvents_shiftRows (k : Furnace) (l len : Int) (rows : List Row) :
    overrunEvents k l 0 (shiftRows len rows) =
      (rows.zipIdx.filter fun p => !p.1.overrun && decide (l < p.1.front + len)).map
        fun p => .overrun k p.2 (p.1.front + len) (p.1.slabs.map fun y => (y.tag, y.id)) := by
  rw [shiftRows, overrunEvents_closeLast]
  generalize 0 = i
  induction rows generalizing i with
  | nil => rfl
  | cons r rows ih =>
    rw [List.map_cons, overrunEvents, ih, List.zipIdx_cons, List.filter_cons, Row.newlyOver, Bool.and_comm]
    split
    · rfl
    · rfl

/-! ### The stroke in the map unit (R12 to R15) -/

theorem strokeClamp_untouched (k : Furnace) (x : Int) (s : State) : Untouched s (strokeClamp k x s) := by
  unfold strokeClamp
  split
  · exact .refl s
  · exact untouched_send.raise ..

/-- R13: the rows of furnace k after a stroke of a length. -/
def strokeRows (k : Furnace) (len : Int) (s : State) : List Row :=
  if len = 0 then (s.maps.get k).rows
  else match s.cfg.geometry.get k with
    | none => shiftRows len (s.maps.get k).rows
    | some g => flagOverruns g.lEff (shiftRows len (s.maps.get k).rows)

/-- R13: the rows that a stroke takes beyond the effective length, with their OVERRUN events. -/
def strokeOverruns (k : Furnace) (len : Int) (s : State) : List Event :=
  match s.cfg.geometry.get k with
  | none => []
  | some g => overrunEvents k g.lEff 0 (shiftRows len (s.maps.get k).rows)

theorem strokeShift_zero (k : Furnace) (s : State) : strokeShift k 0 s = s := rfl

theorem strokeShift_eq {k : Furnace} {len : Int} {s : State} (h : len ≠ 0) :
    strokeShift k len s = (strokeOverruns k len s).foldl (fun s e => raise e s)
      (s.setMap k { s.maps.get k with rows := strokeRows k len s }) := by
  unfold strokeShift strokeOverruns strokeRows
  rw [if_neg h, if_neg h]
  unfold State.geometry State.map
  cases s.cfg.geometry.get k <;> rfl

/-! ### What the map unit's work leaves alone -/

/-- What a report taken into a map leaves: everything but the queues, the held events, the maps and the placement
holds. -/
structure MapWork (s t : State) : Prop where
  seqs : t.seqs = s.seqs
  cfg : t.cfg = s.cfg
  schedule : t.schedule = s.schedule
  counters : t.counters = s.counters
  sensors : t.sensors = s.sensors
  mgmt : t.mgmt = s.mgmt
  due : t.due = s.due
  clock : t.ret.clock = s.ret.clock

namespace MapWork

variable {s t u : State}

theorem refl (s : State) : MapWork s s := ⟨rfl, rfl, rfl, rfl, rfl, rfl, rfl, rfl⟩

theorem trans (h : MapWork s t) (g : MapWork t u) : MapWork s u :=
  ⟨g.seqs.trans h.seqs, g.cfg.trans h.cfg, g.schedule.trans h.schedule, g.counters.trans h.counters,
    g.sensors.trans h.sensors, g.mgmt.trans h.mgmt, g.due.trans h.due, g.clock.trans h.clock⟩

theorem raise (e : Event) (s : State) : MapWork s (raise e s) := by
  have untouched := untouched_send.raise e s
  refine ⟨untouched.seqs, untouched.cfg, untouched.schedule, untouched.counters, untouched.sensors, ?_, untouched.due,
    untouched.clock⟩
  rw [raise_eq]

theorem raises (l : List Event) (s : State) : MapWork s (l.foldl (fun s e => Machine.raise e s) s) := by
  induction l generalizing s with
  | nil => exact refl s
  | cons e l ih => exact (raise e s).trans (ih _)

theorem forwardTo (p : Port) (c : Instr) (s : State) : MapWork s (forwardTo p c s) :=
  ⟨rfl, rfl, rfl, rfl, rfl, rfl, rfl, rfl⟩

theorem setMap (s : State) (k : Furnace) (m : FurnaceMap) : MapWork s (s.setMap k m) :=
  ⟨rfl, rfl, rfl, rfl, rfl, rfl, rfl, rfl⟩

theorem setPlaceOf (s : State) (k : Furnace) (p : PlacementState) : MapWork s (s.setPlaceOf k p) :=
  ⟨rfl, rfl, rfl, rfl, rfl, rfl, rfl, rfl⟩

theorem strokeClamp (k : Furnace) (x : Int) (s : State) : MapWork s (strokeClamp k x s) := by
  unfold Machine.strokeClamp
  split
  · exact refl s
  · exact raise ..

theorem strokeShift (k : Furnace) (len : Int) (s : State) : MapWork s (strokeShift k len s) := by
  by_cases h : len = 0
  · rw [h]
    exact refl s
  · rw [strokeShift_eq h]
    exact (setMap ..).trans (raises ..)

theorem strokeHold (k : Furnace) (s : State) : MapWork s (strokeHold k s) := by
  unfold Machine.strokeHold
  split
  · exact (setPlaceOf ..).trans (raise ..)
  · exact refl s

theorem mapStroke (k : Furnace) (x : Int) (s : State) : MapWork s (mapStroke k x s) :=
  (strokeClamp ..).trans ((strokeShift ..).trans ((setPlaceOf ..).trans (strokeHold ..)))

end MapWork

/-! ### The maps and the placement state after a stroke -/

theorem strokeHold_maps (k : Furnace) (s : State) : (strokeHold k s).maps = s.maps := by
  unfold strokeHold
  split
  · exact (untouched_send.raise ..).maps
  · rfl

theorem strokeShift_maps (k : Furnace) (len : Int) (s : State) :
    (strokeShift k len s).maps = s.maps.set k { s.maps.get k with rows := strokeRows k len s } := by
  by_cases h : len = 0
  · have rows : strokeRows k len s = (s.maps.get k).rows := if_pos h
    rw [rows, PerFurnace.set_get, h]
    rfl
  · rw [strokeShift_eq h, (untouched_send.raiseAll _ _).maps]
    rfl

/-- R13: the maps after a stroke: furnace k's rows are those of the length taken. -/
theorem mapStroke_maps (k : Furnace) (x : Int) (s : State) :
    (mapStroke k x s).maps = s.maps.set k { s.maps.get k with rows := strokeRows k (lengthTaken x) s } := by
  have clamp := strokeClamp_untouched k x s
  have rows : strokeRows k (lengthTaken x) (strokeClamp k x s) = strokeRows k (lengthTaken x) s := by
    unfold strokeRows
    rw [clamp.maps, clamp.cfg]
  calc (mapStroke k x s).maps = (strokeShift k (lengthTaken x) (strokeClamp k x s)).maps := strokeHold_maps ..
    _ = _ := by rw [strokeShift_maps, rows, clamp.maps]

theorem strokeHold_place (k : Furnace) (s : State) :
    ((strokeHold k s).place.get k).lastStroke = (s.place.get k).lastStroke
      ∧ ((s.seqs.get k).state.charging = true → ((strokeHold k s).place.get k).holds.strokeDuringCharge = true) := by
  unfold strokeHold
  split
  · have set : (setHoldAlways .strokeDuringCharge k none s).place.get k =
        { s.placeOf k with holds := (s.placeOf k).holds.put .strokeDuringCharge true } := by
      rw [setHoldAlways, (untouched_send.raise ..).place, State.putHold, State.setPlaceOf, State.setPlace_place,
        PerFurnace.get_set]
    rw [set]
    exact ⟨rfl, fun _ => rfl⟩
  · next h => exact ⟨rfl, fun g => absurd g h⟩

/-- R14, R15: what a stroke leaves in the placement state. -/
theorem mapStroke_place (k : Furnace) (x : Int) (s : State) :
    ((mapStroke k x s).place.get k).lastStroke = some (lengthTaken x)
      ∧ ((s.seqs.get k).state.charging = true → ((mapStroke k x s).place.get k).holds.strokeDuringCharge = true) := by
  have seqs : (strokeRecord k (lengthTaken x) (strokeShift k (lengthTaken x) (strokeClamp k x s))).seqs = s.seqs :=
    ((MapWork.strokeClamp ..).trans ((MapWork.strokeShift ..).trans (.setPlaceOf ..))).seqs
  obtain ⟨stroke, hold⟩ := strokeHold_place k
    (strokeRecord k (lengthTaken x) (strokeShift k (lengthTaken x) (strokeClamp k x s)))
  rw [seqs] at hold
  refine ⟨stroke.trans ?_, hold⟩
  rw [strokeRecord, State.setPlaceOf, State.setPlace_place, PerFurnace.get_set]

theorem charging_iff (st : SeqState) : st.charging = true ↔ st = .carry ∨ st = .lower ∨ st = .retract := by
  cases st <;> decide

/-! ### The rows of a stroke -/

section
variable {k : Furnace} {len : Int} {s : State}

theorem strokeRows_zero : strokeRows k 0 s = (s.maps.get k).rows := rfl

theorem strokeRows_places : (strokeRows k len s).map (fun r => (r.front, r.extent, r.occ))
    = (s.maps.get k).rows.map fun r => (r.front + len, r.extent, r.occ) := by
  unfold strokeRows
  split
  · next h => simp [h]
  · split
    · exact map_shiftRows len (fun r => (r.front, r.extent, r.occ)) (fun _ => rfl) _
    · rw [flagOverruns, List.map_map, ← map_shiftRows len (fun r => (r.front, r.extent, r.occ)) (fun _ => rfl)]
      refine List.map_congr_left fun r _ => ?_
      rw [Function.comp_apply]
      split <;> rfl

theorem strokeRows_overrun {g : FurnaceGeometry} (hg : s.cfg.geometry.get k = some g) (h : len ≠ 0) :
    (strokeRows k len s).map (·.overrun)
      = (s.maps.get k).rows.map fun r => r.overrun || decide (g.lEff < r.front + len) := by
  have flag (r : Row) : (if r.newlyOver g.lEff then { r with overrun := true } else r).overrun
      = (r.overrun || decide (g.lEff < r.front)) := by
    unfold Row.newlyOver
    cases ho : r.overrun <;> by_cases hf : g.lEff < r.front <;> simp [ho, hf]
  unfold strokeRows
  rw [if_neg h, hg]
  dsimp only
  rw [flagOverruns, List.map_map, ← map_shiftRows len (fun r => r.overrun || decide (g.lEff < r.front)) (fun _ => rfl)]
  exact List.map_congr_left fun r _ => flag r

theorem strokeRows_last (h : len ≠ 0) {r : Row} (hr : (strokeRows k len s).getLast? = some r) : r.pairOpen = false := by
  unfold strokeRows at hr
  rw [if_neg h] at hr
  split at hr
  · exact getLast?_closeLast hr
  · rw [flagOverruns, List.getLast?_map, Option.map_eq_some_iff] at hr
    obtain ⟨r', hr', rfl⟩ := hr
    have closed := getLast?_closeLast hr'
    split <;> exact closed

end

end Sys2Proof.Machine
end

section
/-! The observed STROKE_REPORT (R12 to R15, R63, R64): its events, what is handed on to the sequencer, the
settlement. -/

namespace Sys2Proof.Machine

/-! ### The events of a stroke, in the order of R12 to R15 -/

/-- The told state: the copy with the STROKE_CLAMPED, the OVERRUN and the HOLD_SET events of a stroke. -/
theorem mapStroke_sameLines (k : Furnace) (x : Int) (s : State) :
    let len := max 0 (min 1000 x)
    let newly := fun (r : Row) => match s.cfg.geometry.get k with
      | none => false
      | some g => !r.overrun && decide (g.lEff < r.front + len)
    let clamped := if 0 ≤ x ∧ x ≤ 1000 then s else raise (.strokeClamped k x len) s
    let overrun := if len = 0 then clamped else
      ((s.maps.get k).rows.zipIdx.filter fun p => newly p.1).foldl
        (fun t p => raise (.overrun k p.2 (p.1.front + len) (p.1.slabs.map fun y => (y.tag, y.id))) t) clamped
    let told := if (s.seqs.get k).state = .carry ∨ (s.seqs.get k).state = .lower ∨ (s.seqs.get k).state = .retract then
      raise (.holdSet (.placement .strokeDuringCharge k none none)) overrun else overrun
    SameLines told (mapStroke k x s) := by
  intro len newly clamped overrun told
  have taken : lengthTaken x = len := rfl
  have clamp : strokeClamp k x s = clamped := by
    unfold strokeClamp
    rw [taken]
    by_cases h : 0 ≤ x ∧ x ≤ 1000
    · exact (if_pos (by omega)).trans (if_pos h).symm
    · exact (if_neg (by omega)).trans (if_neg h).symm
  have kept := MapWork.strokeClamp k x s
  have maps := (strokeClamp_untouched k x s).maps
  have shift : SameLines overrun (strokeShift k len (strokeClamp k x s)) := by
    by_cases h : len = 0
    · have none : overrun = clamped := if_pos h
      rw [none, h, strokeShift_zero, clamp]
      exact .refl _
    · have some : overrun = _ := if_neg h
      have events : strokeOverruns k len (strokeClamp k x s) =
          ((s.maps.get k).rows.zipIdx.filter fun p => newly p.1).map
            fun p => .overrun k p.2 (p.1.front + len) (p.1.slabs.map fun y => (y.tag, y.id)) := by
        unfold strokeOverruns
        rw [kept.cfg, maps]
        dsimp only [newly]
        cases s.cfg.geometry.get k with
        | none => simp
        | some g => exact overrunEvents_shiftRows ..
      rw [some, strokeShift_eq h, events, clamp, List.foldl_map]
      have start : SameLines clamped (clamped.setMap k
          { clamped.maps.get k with rows := strokeRows k len clamped }) := ⟨rfl, rfl, rfl⟩
      have told := start.raises (((s.maps.get k).rows.zipIdx.filter fun p => newly p.1).map
            fun p => .overrun k p.2 (p.1.front + len) (p.1.slabs.map fun y => (y.tag, y.id)))
      rwa [List.foldl_map, List.foldl_map] at told
  have record : SameLines overrun (strokeRecord k len (strokeShift k len (strokeClamp k x s))) :=
    shift.trans ⟨rfl, rfl, rfl⟩
  have seqs : (strokeRecord k len (strokeShift k len (strokeClamp k x s))).seqs = s.seqs :=
    (kept.trans ((MapWork.strokeShift ..).trans (.setPlaceOf ..))).seqs
  have state : ((strokeRecord k len (strokeShift k len (strokeClamp k x s))).seq k).state = (s.seqs.get k).state := by
    rw [State.seq, seqs]
  change SameLines told (strokeHold k (strokeRecord k len (strokeShift k len (strokeClamp k x s))))
  by_cases h : (s.seqs.get k).state = .carry ∨ (s.seqs.get k).state = .lower ∨ (s.seqs.get k).state = .retract
  · have charging := (charging_iff _).2 h
    have hold : told = _ := if_pos h
    rw [← state] at charging
    rw [hold, strokeHold, if_pos charging]
    have put (t : State) : SameLines t (t.putHold k .strokeDuringCharge true) := ⟨rfl, rfl, rfl⟩
    exact (record.trans (put _)).raise _
  · have charging : ¬ _ := fun c => h ((charging_iff _).1 c)
    have hold : told = _ := if_neg h
    rw [← state] at charging
    rw [hold, strokeHold, if_neg charging]
    exact record

/-! ### Handed on to the sequencer (R63, R64, R57) -/

section
variable {k : Furnace} {len : Int} {s : State}

theorem strokeHandedOn_idle (h : (s.seqs.get k).state = .idle) : strokeHandedOn k len s = markStart k s := by
  unfold strokeHandedOn State.seq
  rw [h]

theorem strokeHandedOn_beside (hi : (s.seqs.get k).state ≠ .idle) (hr : (s.seqs.get k).state ≠ .room) :
    strokeHandedOn k len s = s := by
  unfold strokeHandedOn
  split
  · next h => exact absurd h hi
  · next h _ => exact absurd h hr
  · rfl

theorem strokeHandedOn_room {c : CycleRecord} (hr : (s.seqs.get k).state = .room) (hc : (s.seqs.get k).cycle = some c) :
    strokeHandedOn k len s =
      if c.outstanding ≠ 0 then takeStroke k len c.outstanding s
      else if (s.seqs.get k).waiting.forRoom && decide (len ≠ 0) then runFinal k s
      else s := by
  unfold strokeHandedOn State.cycle State.seq
  rw [hr, hc]

end

theorem updateCycle_eq {k : Furnace} {c : CycleRecord} {s : State} (f : CycleRecord → CycleRecord)
    (hc : (s.seqs.get k).cycle = some c) :
    updateCycle k f s = { s with seqs := s.seqs.set k { s.seqs.get k with cycle := some (f c) } } := by
  unfold updateCycle State.seq
  rw [hc]
  rfl

/-- Two changes of one cycle record, the second of which may read the rest of the state. -/
theorem updateCycle_updateCycle {k : Furnace} {c : CycleRecord} {s : State} (f g : CycleRecord → CycleRecord)
    (hc : (s.seqs.get k).cycle = some c) :
    updateCycle k g (updateCycle k f s) =
      { s with seqs := s.seqs.set k { s.seqs.get k with cycle := some (g (f c)) } } := by
  have first := updateCycle_eq f hc
  have then_ : ((updateCycle k f s).seqs.get k).cycle = some (f c) := by rw [first, PerFurnace.get_set]
  rw [updateCycle_eq g then_, first, PerFurnace.get_set, PerFurnace.set_set]

/-- R63: a stroke counted while others are still outstanding starts the stroke timer again. -/
theorem takeStroke_more {k : Furnace} {len : Int} {c : CycleRecord} {s : State} (hc : (s.seqs.get k).cycle = some c)
    (hl : len ≠ 0) (hn : 2 ≤ c.outstanding) :
    takeStroke k len c.outstanding s = { s with
      seqs := s.seqs.set k { s.seqs.get k with cycle := some { c with
        outstanding := c.outstanding - 1
        timer := some ⟨.stroke, 1000 * (s.cfg.timing.get k).getD 1 0⟩ } } } := by
  have count : countStroke len c.outstanding = c.outstanding - 1 := if_neg hl
  unfold takeStroke
  rw [count, if_neg (by omega)]
  exact updateCycle_updateCycle _ _ hc

/-- R63, R64: the last outstanding stroke, and a stroke of no length, bring the final computation about. -/
theorem takeStroke_last {k : Furnace} {len : Int} {c : CycleRecord} {s : State} (hc : (s.seqs.get k).cycle = some c)
    (h : countStroke len c.outstanding = 0) :
    takeStroke k len c.outstanding s = runFinal k { s with
      seqs := s.seqs.set k { s.seqs.get k with cycle := some { c with outstanding := 0, timer := none } } } := by
  unfold takeStroke
  rw [h, if_pos rfl]
  exact congrArg (runFinal k) (updateCycle_updateCycle _ _ hc)

/-! ### The command -/

theorem exec_strokeReport {h : Hdr} {k : Furnace} {x : Int} {s : State}
    (ho : FieldObserved s Kind.strokeReport h (.beam k)) (hx : x ≠ absentFigure) :
    exec (.strokeReport h x) s = .next (finish (strokeHandedOn k (lengthTaken x)
      (mapStroke k x (forwardTo (otherPort h.port) (.strokeReport h x) s)))) := by
  have given : figureGiven x = true := bne_iff_ne.2 hx
  change powered (field (.strokeReport h x) Kind.strokeReport h (figureGiven x)
    (fromBeam (takeStrokeReport x))) s = _
  rw [powered_on _ _ ho.1.1, given, field_of_observed ho]
  rfl

/-- R179, R171: an observed telegram with a field that has not its form is a stray. -/
theorem field_of_observed_unfit {c : Instr} {kind : Nat} {h : Hdr} {act : Role → State → State} {r : Role} {s : State}
    (ho : FieldObserved s kind h r) :
    field c kind h false act s = stray h kind .format (forwardTo (otherPort h.port) c s) := by
  obtain ⟨hr, hd, ha, hrole, hl⟩ := ho
  simp [field, arrive_of_received hr, hd, passBy, ha, fromRole, hrole, lengthFits]

/-- PlaceGrows and KeepsCounters hold of what is handed on to the sequencer. -/
theorem ServeClosed.strokeHandedOn {R : State → State → Prop} (c : ServeClosed R) (k : Furnace) (len : Int) (s : State) :
    R s (strokeHandedOn k len s) := by
  unfold Machine.strokeHandedOn
  split
  · exact c.setDue ..
  · split
    · unfold takeStroke
      dsimp only
      split
      · exact c.trans (c.updateCycle ..) (c.trans (c.updateCycle ..) (c.runFinal ..))
      · exact c.trans (c.updateCycle ..) (c.startTimer ..)
    · split
      · exact c.runFinal ..
      · exact c.refl s
  · exact c.refl s

/-- Settles O23: the maps and holds are those that the map unit leaves, for neither the sequencer nor the occasions
touch a map or clear a hold; the events are the map unit's own; and the sequencer's share is read off its state. -/
theorem strokeReportShiftsMap : Obligations.StrokeReportShiftsMap := by
  refine ⟨fun h k x s ho => ⟨?missing, fun hx => ?mapped⟩, fun h k x s ho hx => ?told⟩
  case missing =>
    change powered (field (.strokeReport h absentFigure) Kind.strokeReport h (figureGiven absentFigure)
      (fromBeam (takeStrokeReport absentFigure))) s = _
    rw [powered_on _ _ ho.1.1]
    exact congrArg Host.Outcome.next (field_of_observed_unfit ho)
  case mapped =>
    let copy := forwardTo (otherPort h.port) (.strokeReport h x) s
    let u := mapStroke k x copy
    let v := strokeHandedOn k (lengthTaken x) u
    have work : MapWork s u := (MapWork.forwardTo ..).trans (.mapStroke ..)
    have records : KeepsCounters u (finish v) :=
      keepsCounters_blockClosed.trans (keepsCounters_blockClosed.strokeHandedOn k (lengthTaken x) u) (finish_keepsCounters v)
    have grows : PlaceGrows u (finish v) :=
      placeGrows_serveClosed.trans (placeGrows_serveClosed.strokeHandedOn k (lengthTaken x) u) (placeGrows_serveClosed.finish v)
    have maps : (finish v).maps = s.maps.set k { s.maps.get k with rows := strokeRows k (lengthTaken x) s } :=
      records.maps.trans (mapStroke_maps k x copy)
    have map : (finish v).maps.get k = { s.maps.get k with rows := strokeRows k (lengthTaken x) s } := by
      rw [maps, PerFurnace.get_set]
    obtain ⟨stroke, hold⟩ := mapStroke_place k x copy
    have taken : lengthTaken x = max 0 (min 1000 x) := rfl
    have zero : x ≤ 0 → lengthTaken x = 0 := by omega
    have some : 0 < x → lengthTaken x = min 1000 x := by omega
    have long : 0 < x → lengthTaken x ≠ 0 := by omega
    refine ⟨finish v, exec_strokeReport ho hx, ?places, fun hn => ?none, fun hp g hg => ?flags,
      fun hp r hr => ?closed, ?landing, ?other, ?last, fun hc => ?charging, records.schedule.trans work.schedule,
      records.cfg.trans work.cfg, records.counters.trans work.counters, records.sensors.trans work.sensors,
      records.mgmt.trans work.mgmt⟩
    case places => rw [map]; exact strokeRows_places
    case none => rw [map, zero hn]; exact strokeRows_zero
    case flags => rw [map, ← some hp]; exact strokeRows_overrun hg (long hp)
    case closed => rw [map] at hr; exact strokeRows_last (long hp) hr
    case landing => rw [map]
    case other => rw [maps, PerFurnace.get_set_other]
    case last => exact (grows.lastStroke k).trans stroke
    case charging => exact grows.holds k .strokeDuringCharge (hold ((charging_iff _).2 hc))
  case told =>
    intro q copy mapped done len newly clamped overrun told
    have work : MapWork s mapped := (MapWork.forwardTo ..).trans (.mapStroke ..)
    have lines : SameLines told mapped := mapStroke_sameLines k x copy
    have ran : done = .next (finish (strokeHandedOn k (lengthTaken x) mapped)) := exec_strokeReport ho hx
    have seq : mapped.seqs.get k = q := by rw [work.seqs]
    have positive : 0 < x → lengthTaken x ≠ 0 := by unfold lengthTaken clampInt; omega
    have zero : x ≤ 0 → lengthTaken x = 0 := by unfold lengthTaken clampInt; omega
    rw [ran]
    refine ⟨work.seqs, lines.links, lines.ret, fun c hr hc hn hp => ?more, fun c hr hc hn => ?last,
      fun c tag hr hc hn hw hp => ?waiting, fun hi => ?idle, fun hi hr => ?beside⟩
    case more =>
      have taken := takeStroke_more (s := mapped) (by rwa [seq]) (positive hp) hn
      rw [strokeHandedOn_room (by rwa [seq]) (by rwa [seq]), if_pos (by omega), taken, seq, work.seqs, work.cfg]
    case last =>
      have count : countStroke (lengthTaken x) c.outstanding = 0 := by
        unfold countStroke
        rcases hn with ⟨one, hp⟩ | ⟨-, hx⟩
        · rw [if_neg (positive hp), one]
        · rw [if_pos (zero hx)]
      rw [strokeHandedOn_room (by rwa [seq]) (by rwa [seq]), if_pos (by omega),
        takeStroke_last (s := mapped) (by rwa [seq]) count, seq, work.seqs]
    case waiting =>
      have forRoom : (mapped.seqs.get k).waiting.forRoom = true := by
        rw [seq]
        rcases hw with hw | hw <;> rw [hw] <;> rfl
      rw [strokeHandedOn_room (by rwa [seq]) (by rwa [seq]), if_neg (by omega), forRoom, Bool.true_and,
        if_pos (decide_eq_true (positive hp))]
    case idle => rw [strokeHandedOn_idle (by rwa [seq])]; rfl
    case beside => rw [strokeHandedOn_beside (by rwa [seq]) (by rwa [seq])]

end Sys2Proof.Machine
end

section
/-! The observed DISCHARGE_REPORT (R16 to R19, R57, R64): what an identity takes out of a map, what is handed on to
the sequencer, the settlement. -/

namespace Sys2Proof.Machine

/-! ### What an identity takes out of the rows (R17, R18) -/

/-- A row after the slab of a lane has left it, with the rows behind it. -/
def withoutLane (lane : Lane) (r : Row) (post : List Row) : List Row :=
  match r.without lane with
  | none => post
  | some r' => r' :: post

theorem removeAt_append (lane : Lane) (pre post : List Row) (r : Row) :
    removeAt lane pre.length (pre ++ r :: post) = pre ++ withoutLane lane r post := by
  induction pre with
  | nil => rfl
  | cons a pre ih => exact congrArg (a :: ·) ih

theorem locateId_none {id : Identity} {rows : List Row} (h : ∀ x ∈ rows.flatMap Row.slabs, x.id ≠ id) :
    locate (fun x => x.id == id) 0 rows = none :=
  locate_none fun r hr x hx => beq_eq_false_iff_ne.2 (h x (List.mem_flatMap.2 ⟨r, hr, hx⟩))

theorem locateId_append {id : Identity} {pre post : List Row} {r : Row} {lane : Lane} {x : FurnaceSlab}
    (hpre : ∀ y ∈ pre.flatMap Row.slabs, y.id ≠ id) (hr : r.occ.slabs.find? (fun y => y.2.id == id) = some (lane, x)) :
    locate (fun x => x.id == id) 0 (pre ++ r :: post) = some ⟨pre.length, lane, r.front, x⟩ := by
  rw [locate_append (fun q hq y hy => beq_eq_false_iff_ne.2 (hpre y (List.mem_flatMap.2 ⟨q, hq, hy⟩))) hr,
    Nat.zero_add]

/-- R17: the one slab of a row takes the row with it. -/
theorem withoutLane_single {lane : Lane} {r : Row} {y : FurnaceSlab} (hr : r.occ.slabs = [(lane, y)]) (post : List Row) :
    withoutLane lane r post = post := by
  have gone : r.without lane = none := by
    unfold Row.without
    cases ho : r.occ <;> rw [ho] at hr <;> cases hr <;> rfl
  rw [withoutLane, gone]

theorem find?_single {lane : Lane} {r : Row} {y : FurnaceSlab} {id : Identity} (hr : r.occ.slabs = [(lane, y)])
    (hy : y.id = id) : r.occ.slabs.find? (fun x => x.2.id == id) = some (lane, y) := by
  rw [hr]
  exact List.find?_cons_of_pos (beq_iff_eq.2 hy)

/-- The rows after a discharge of an identity: without its slab, where they hold one. -/
def dischargedRows (id : Identity) (rows : List Row) : List Row :=
  match locate (fun x => x.id == id) 0 rows with
  | none => rows
  | some p => removeAt p.lane p.row rows

section
variable {id : Identity} {r : Row} {rest : List Row} {y z : FurnaceSlab}

theorem dischargedRows_nowhere {rows : List Row} (h : ∀ x ∈ rows.flatMap Row.slabs, x.id ≠ id) :
    dischargedRows id rows = rows := by
  unfold dischargedRows
  rw [locateId_none h]

theorem dischargedRows_at {pre post : List Row} {lane : Lane} (hpre : ∀ x ∈ pre.flatMap Row.slabs, x.id ≠ id)
    (hr : r.occ.slabs.find? (fun x => x.2.id == id) = some (lane, y)) :
    dischargedRows id (pre ++ r :: post) = pre ++ withoutLane lane r post := by
  unfold dischargedRows
  rw [locateId_append hpre hr]
  exact removeAt_append ..

/-- R17: the one slab of the first row takes the row with it. -/
theorem dischargedRows_single (hr : r.slabs = [y]) (hy : y.id = id) : dischargedRows id (r :: rest) = rest := by
  obtain ⟨lane, hl⟩ : ∃ lane, r.occ.slabs = [(lane, y)] := by
    unfold Row.slabs at hr
    cases ho : r.occ <;> rw [ho] at hr <;> cases hr <;> exact ⟨_, rfl⟩
  have removed := dischargedRows_at (pre := []) (post := rest) (fun x hx => by cases hx) (find?_single hl hy)
  rwa [withoutLane_single hl] at removed

/-- R17: of two slabs of the first row the one in lane A leaves the other alone. -/
theorem dischargedRows_pairA (hr : r.occ = .ab y z) (hy : y.id = id) :
    dischargedRows id (r :: rest) = { r with occ := .b z, extent := z.width, pairOpen := false } :: rest := by
  have found : r.occ.slabs.find? (fun x => x.2.id == id) = some (.a, y) := by
    rw [hr]
    exact List.find?_cons_of_pos (beq_iff_eq.2 hy)
  have removed := dischargedRows_at (pre := []) (post := rest) (fun x hx => by cases hx) found
  rw [withoutLane, Row.without, hr] at removed
  exact removed

theorem dischargedRows_pairB (hr : r.occ = .ab y z) (hy : y.id ≠ id) (hz : z.id = id) :
    dischargedRows id (r :: rest) = { r with occ := .a y, extent := y.width, pairOpen := false } :: rest := by
  have found : r.occ.slabs.find? (fun x => x.2.id == id) = some (.b, z) := by
    rw [hr]
    exact (List.find?_cons_of_neg (by simpa using hy)).trans (List.find?_cons_of_pos (beq_iff_eq.2 hz))
  have removed := dischargedRows_at (pre := []) (post := rest) (fun x hx => by cases hx) found
  rw [withoutLane, Row.without, hr] at removed
  exact removed

end

/-! ### One identity in the state (R17 to R19) -/

section
variable {k : Furnace} {first : List Identity} {id : Identity} {s : State}

theorem dischargeIdentity_unknown (h : ∀ y ∈ (s.maps.get k).slabs, y.id ≠ id) :
    dischargeIdentity k first id s = raise (.dischargeUnknown k id) s := by
  unfold dischargeIdentity FurnaceMap.locateId State.map
  rw [locateId_none h]

/-- R19: a slab leaves the map of a state in which DISCHARGE_MISORDER may have been raised. -/
theorem dischargeSlab_eq {pre post : List Row} {r : Row} {lane : Lane} {x : FurnaceSlab} {t : State}
    (ht : Untouched s t) (hm : (s.maps.get k).rows = pre ++ r :: post) :
    dischargeSlab k ⟨pre.length, lane, r.front, x⟩ t =
      raise (.discharged x.tag x.id k pre.length lane r.front x.mass x.substituted (s.ret.clock - x.chargedAt))
        { t with maps := s.maps.set k { s.maps.get k with rows := pre ++ withoutLane lane r post } } := by
  unfold dischargeSlab State.map
  dsimp only
  rw [ht.maps, ht.clock, hm, removeAt_append]
  unfold State.setMap
  rw [ht.maps]
  rfl

/-- R17, R18: the identity of a slab of a row: with DISCHARGE_MISORDER first, unless it is one of row 0. -/
theorem dischargeIdentity_at {pre post : List Row} {r : Row} {lane : Lane} {x : FurnaceSlab}
    (hm : (s.maps.get k).rows = pre ++ r :: post) (hpre : ∀ y ∈ pre.flatMap Row.slabs, y.id ≠ id)
    (hr : r.occ.slabs.find? (fun y => y.2.id == id) = some (lane, x)) :
    dischargeIdentity k first id s =
      raise (.discharged x.tag x.id k pre.length lane r.front x.mass x.substituted (s.ret.clock - x.chargedAt))
        { (if first.contains id then s else raise (.dischargeMisorder k id x.tag pre.length) s) with
          maps := s.maps.set k { s.maps.get k with rows := pre ++ withoutLane lane r post } } := by
  unfold dischargeIdentity FurnaceMap.locateId State.map
  rw [hm, locateId_append hpre hr]
  dsimp only
  split
  · exact dischargeSlab_eq (.refl s) hm
  · exact dischargeSlab_eq (untouched_send.raise ..) hm

theorem dischargeIdentity_maps : (dischargeIdentity k first id s).maps =
    s.maps.set k { s.maps.get k with rows := dischargedRows id (s.maps.get k).rows } := by
  have slab (p : Place) (t : State) : (dischargeSlab k p t).maps =
      t.maps.set k { t.maps.get k with rows := removeAt p.lane p.row (t.maps.get k).rows } :=
    (untouched_send.raise ..).maps
  unfold dischargeIdentity dischargedRows FurnaceMap.locateId State.map
  cases locate (fun x => x.id == id) 0 (s.maps.get k).rows with
  | none =>
    dsimp only
    rw [PerFurnace.set_get]
    exact (untouched_send.raise ..).maps
  | some p =>
    dsimp only
    split
    · exact slab p s
    · rw [slab, (untouched_send.raise ..).maps]

theorem MapWork.dischargeIdentity : MapWork s (dischargeIdentity k first id s) := by
  have slab (p : Place) (t : State) : MapWork t (dischargeSlab k p t) := (setMap ..).trans (raise ..)
  unfold Machine.dischargeIdentity
  split
  · exact raise ..
  · split
    · exact slab ..
    · exact (raise ..).trans (slab ..)

end

/-! ### The report in the map unit (R16 to R18) -/

/-- R16: the rows after a report of a count and two identities. -/
def reportedRows (n : Nat) (id1 id2 : Identity) (rows : List Row) : List Row :=
  if n = 1 then dischargedRows id1 rows
  else if n = 2 ∧ id1 ≠ id2 then dischargedRows id2 (dischargedRows id1 rows)
  else rows

section
variable {k : Furnace} {n : Nat} {id1 id2 : Identity} {s : State}

theorem mapDischarge_maps : (mapDischarge k n id1 id2 s).maps =
    s.maps.set k { s.maps.get k with rows := reportedRows n id1 id2 (s.maps.get k).rows } := by
  unfold mapDischarge reportedRows
  dsimp only
  split
  · exact dischargeIdentity_maps
  · split
    · rw [dischargeIdentity_maps, dischargeIdentity_maps, PerFurnace.get_set, PerFurnace.set_set]
    · rw [PerFurnace.set_get]
      exact (untouched_send.raise ..).maps

theorem MapWork.mapDischarge : MapWork s (mapDischarge k n id1 id2 s) := by
  unfold Machine.mapDischarge
  dsimp only
  split
  · exact .dischargeIdentity
  · split
    · exact MapWork.trans .dischargeIdentity .dischargeIdentity
    · exact .raise ..

theorem mapDischarge_one :
    mapDischarge k 1 id1 id2 s = dischargeIdentity k (s.map k).firstIds id1 s := rfl

theorem mapDischarge_two (h : id1 ≠ id2) : mapDischarge k 2 id1 id2 s =
    dischargeIdentity k (s.map k).firstIds id2 (dischargeIdentity k (s.map k).firstIds id1 s) := by
  unfold mapDischarge
  exact (if_neg (by decide)).trans (if_pos ⟨rfl, h⟩)

theorem mapDischarge_invalid (h : n ≠ 1 ∧ n ≠ 2 ∨ n = 2 ∧ id1 = id2) :
    mapDischarge k n id1 id2 s = raise (.dischargeInvalid k n id1 id2) s := by
  unfold mapDischarge
  have one : n ≠ 1 := by omega
  have two : ¬ (n = 2 ∧ id1 ≠ id2) := by
    rintro ⟨hn, hid⟩
    rcases h with h | h
    · exact h.2 hn
    · exact hid h.2
  exact (if_neg one).trans (if_neg two)

/-! ### Handed on to the sequencer (R19, R64, R57) -/

theorem dischargeHandedOn_idle (h : (s.seqs.get k).state = .idle) : dischargeHandedOn k s = markStart k s := by
  unfold dischargeHandedOn State.seq
  rw [h]

theorem dischargeHandedOn_beside (hi : (s.seqs.get k).state ≠ .idle) (hr : (s.seqs.get k).state ≠ .room) :
    dischargeHandedOn k s = s := by
  unfold dischargeHandedOn
  split
  · next h => exact absurd h hi
  · next h => exact absurd h hr
  · rfl

theorem dischargeHandedOn_room (h : (s.seqs.get k).state = .room) :
    dischargeHandedOn k s = if (s.seqs.get k).waiting.forRoom then runFinal k s else s := by
  unfold dischargeHandedOn State.seq
  rw [h]

end

theorem exec_dischargeReport {h : Hdr} {k : Furnace} {n : Nat} {id1 id2 : Identity} {s : State}
    (ho : FieldObserved s Kind.dischargeReport h (.discharge k)) :
    exec (.dischargeReport h n id1 id2) s = .next (finish (dischargeHandedOn k
      (mapDischarge k n id1 id2 (forwardTo (otherPort h.port) (.dischargeReport h n id1 id2) s)))) := by
  change powered (field (.dischargeReport h n id1 id2) Kind.dischargeReport h true
    (fromDischarge (takeDischargeReport n id1 id2))) s = _
  rw [powered_on _ _ ho.1.1, field_of_observed ho]
  rfl

/-! ### The four answers of the sequencer -/

/-- What becomes of a report that the map unit has taken, by the state of furnace k's sequencer. -/
structure HandedOn (k : Furnace) (q : Sequencer) (told : State) (done : Host.Outcome State Fault Refusal) : Prop where
  beside : q.state ≠ .idle → q.state ≠ .room → done = .next (finish told)
  idle : q.state = .idle → done = .next (finish { told with
    due := { told.due with start := told.due.start.set k true } })
  waiting : ∀ tag, q.state = .room → (q.waiting = .full tag ∨ q.waiting = .mapFull tag) →
    done = .next (finish (runFinal k told))
  room : q.state = .room → (∀ tag, q.waiting ≠ .full tag ∧ q.waiting ≠ .mapFull tag) → done = .next (finish told)

theorem handedOn {k : Furnace} {s told : State} {done : Host.Outcome State Fault Refusal}
    (hd : done = .next (finish (dischargeHandedOn k told))) (hs : MapWork s told) :
    HandedOn k (s.seqs.get k) told done := by
  have seq : told.seqs.get k = s.seqs.get k := by rw [hs.seqs]
  refine ⟨fun hi hr => ?_, fun hi => ?_, fun tag hr hw => ?_, fun hr hw => ?_⟩
  · rw [hd, dischargeHandedOn_beside (by rwa [seq]) (by rwa [seq])]
  · rw [hd, dischargeHandedOn_idle (by rwa [seq])]
    rfl
  · have forRoom : (told.seqs.get k).waiting.forRoom = true := by
      rw [seq]
      rcases hw with hw | hw <;> rw [hw] <;> rfl
    rw [hd, dischargeHandedOn_room (by rwa [seq]), if_pos forRoom]
  · have forRoom : (told.seqs.get k).waiting.forRoom = false := by
      rw [seq]
      unfold Waiting.forRoom
      split
      · next h => exact absurd h (hw _).1
      · next h => exact absurd h (hw _).2
      · rfl
    rw [hd, dischargeHandedOn_room (by rwa [seq]), if_neg (by rw [forRoom]; decide)]

/-- Settles O24: the rows are those that the identities leave, for nothing behind the map unit touches a map; the
events are those of each identity by its place; and the sequencer's share is read off its state. -/
theorem dischargeReportTakesSlabs : Obligations.DischargeReportTakesSlabs := by
  refine ⟨fun h k n id1 id2 s ho => ?rows, ⟨fun h k id1 id2 first r mid post x lane s ho hm hne hr => ?misorder,
    fun h k id1 id2 first r mid post x y la lx s ho hid hm hf hy hy2 hmid hr hi hroom => ?both⟩,
    fun h k n id1 id2 told s ho => ?unknown, fun k n a b => ⟨rfl, rfl, rfl, rfl⟩⟩
  case rows =>
    let copy := forwardTo (otherPort h.port) (.dischargeReport h n id1 id2) s
    let u := mapDischarge k n id1 id2 copy
    have work : MapWork s u := (MapWork.forwardTo ..).trans .mapDischarge
    have records : KeepsCounters u (finish (dischargeHandedOn k u)) :=
      keepsCounters_blockClosed.trans (keepsCounters_blockClosed.dischargeHandedOn k u) (finish_keepsCounters _)
    have maps : (finish (dischargeHandedOn k u)).maps =
        s.maps.set k { s.maps.get k with rows := reportedRows n id1 id2 (s.maps.get k).rows } :=
      records.maps.trans (mapDischarge_maps (s := copy))
    have map : (finish (dischargeHandedOn k u)).maps.get k =
        { s.maps.get k with rows := reportedRows n id1 id2 (s.maps.get k).rows } := by
      rw [maps, PerFurnace.get_set]
    have same {rows : List Row} (hr : reportedRows n id1 id2 (s.maps.get k).rows = rows) :
        ((finish (dischargeHandedOn k u)).maps.get k).rows = rows := by rw [map]; exact hr
    have kept (hr : reportedRows n id1 id2 (s.maps.get k).rows = (s.maps.get k).rows) :
        (finish (dischargeHandedOn k u)).maps.get k = s.maps.get k := by rw [map, hr]
    refine ⟨_, exec_dischargeReport ho, fun r rest y hm hr hn hy => same ?single,
      fun r rest y z hm hr hne hn => ⟨fun hy => same ?laneA, fun hz => same ?laneB⟩,
      fun r rest y z hm hr hne hn hid => same ?pair, fun hn => kept ?invalid, fun hid => kept ?nowhere,
      by rw [map], by rw [maps, PerFurnace.get_set_other], records.schedule.trans work.schedule,
      records.cfg.trans work.cfg, records.counters.trans work.counters, records.sensors.trans work.sensors,
      records.mgmt.trans work.mgmt⟩
    case single => rw [hm, reportedRows, if_pos hn, dischargedRows_single hr hy]
    case laneA => rw [hm, reportedRows, if_pos hn, dischargedRows_pairA hr hy]
    case laneB => rw [hm, reportedRows, if_pos hn, dischargedRows_pairB hr (hz ▸ hne) hz]
    case pair =>
      rw [hm, reportedRows, if_neg (by omega)]
      rcases hid with ⟨rfl, rfl⟩ | ⟨rfl, rfl⟩
      · rw [if_pos ⟨hn, hne⟩, dischargedRows_pairA hr rfl]
        exact dischargedRows_single rfl rfl
      · rw [if_pos ⟨hn, hne.symm⟩, dischargedRows_pairB hr hne rfl]
        exact dischargedRows_single rfl rfl
    case invalid =>
      have two : ¬ (n = 2 ∧ id1 ≠ id2) := by
        rintro ⟨two, ne⟩
        rcases hn with hn | hn
        · exact hn.2 two
        · exact ne hn.2
      rw [reportedRows, if_neg (by omega), if_neg two]
    case nowhere =>
      have first := dischargedRows_nowhere fun y hy => (hid y hy).1
      have second := dischargedRows_nowhere fun y hy => (hid y hy).2
      unfold reportedRows
      rw [first, second]
      split
      · rfl
      · split <;> rfl
  case misorder =>
    intro copy told rest left taken done
    have nowhere : ∀ y ∈ (first :: mid).flatMap Row.slabs, y.id ≠ id1 := hne
    have beside : (s.map k).firstIds.contains id1 = false := by
      unfold State.map FurnaceMap.firstIds
      rw [hm, List.contains_eq_mem, decide_eq_false_iff_not, List.mem_map]
      rintro ⟨y, hy, hid⟩
      exact hne y (List.mem_append_left _ hy) hid
    have mapped : mapDischarge k 1 id1 id2 copy = taken := by
      have identity := dischargeIdentity_at (k := k) (first := (s.map k).firstIds) (s := copy)
        (pre := first :: mid) hm nowhere hr
      have found : x.id = id1 := beq_iff_eq.1 (List.find?_some (a := (lane, x)) hr)
      rw [beside, if_neg (by decide)] at identity
      exact identity
    have answers : HandedOn k (s.seqs.get k) taken done :=
      handedOn (by rw [← mapped]; exact exec_dischargeReport ho)
        (by rw [← mapped]; exact (MapWork.forwardTo ..).trans .mapDischarge)
    exact ⟨answers.beside, answers.idle, answers.waiting⟩
  case both =>
    intro copy fore told rest
    have ids : (s.map k).firstIds = [y.id] := by
      unfold State.map FurnaceMap.firstIds Row.slabs
      rw [hm]
      dsimp only
      rw [hf]
      rfl
    have found : x.id = id2 := beq_iff_eq.1 (List.find?_some (a := (lx, x)) hr)
    have one : dischargeIdentity k (s.map k).firstIds id1 copy = fore := by
      have identity := dischargeIdentity_at (k := k) (first := (s.map k).firstIds) (s := copy) (pre := [])
        hm (fun y hy => by cases hy) (find?_single hf hy)
      have own : (s.map k).firstIds.contains id1 = true := by rw [ids, hy]; simp
      rw [own, if_pos rfl, withoutLane_single hf] at identity
      exact identity
    have maps : fore.maps = s.maps.set k { s.maps.get k with rows := mid ++ r :: post } :=
      (untouched_send.raise ..).maps
    have clock : fore.ret.clock = s.ret.clock := (untouched_send.raise ..).clock
    have two : mapDischarge k 2 id1 id2 copy = raise (.discharged x.tag x.id k mid.length lx r.front x.mass
        x.substituted (s.ret.clock - x.chargedAt))
        { told with maps := s.maps.set k { s.maps.get k with rows := mid ++ rest } } := by
      have identity := dischargeIdentity_at (k := k) (first := (s.map k).firstIds) (s := fore) (pre := mid) (post := post)
        (by rw [maps, PerFurnace.get_set]) hmid hr
      have beside : (s.map k).firstIds.contains id2 = false := by rw [ids]; simpa using Ne.symm hy2
      rw [beside, if_neg (by decide), clock, maps, PerFurnace.get_set, PerFurnace.set_set] at identity
      exact (mapDischarge_two (s := copy) hid).trans ((congrArg _ one).trans identity)
    have answers := handedOn (exec_dischargeReport (n := 2) (id1 := id1) (id2 := id2) ho)
      ((MapWork.forwardTo ..).trans .mapDischarge)
    rw [← two]
    exact answers.beside hi hroom
  case unknown =>
    intro copy nowhere invalid one both second alternatives done q
    have mapped : mapDischarge k n id1 id2 copy = told := by
      rcases alternatives with ⟨hn, rfl⟩ | ⟨rfl, h1, rfl⟩ | ⟨rfl, hid, h1, h2, rfl⟩ |
        ⟨rfl, h1, r, rest, y, lane, hm, hf, hy, rfl⟩
      · exact mapDischarge_invalid hn
      · exact dischargeIdentity_unknown (s := copy) h1
      · have first := dischargeIdentity_unknown (first := (s.map k).firstIds) (s := copy) h1
        have maps : (raise (.dischargeUnknown k id1) copy).maps = s.maps := (untouched_send.raise ..).maps
        exact (mapDischarge_two (s := copy) hid).trans ((congrArg _ first).trans
          (dischargeIdentity_unknown (by rw [maps]; exact h2)))
      · have hid : id1 ≠ id2 := by
          rintro rfl
          refine h1 y (List.mem_flatMap.2 ⟨r, by rw [hm]; exact List.mem_cons_self, ?_⟩) hy
          unfold Row.slabs
          rw [hf]
          exact List.mem_cons_self
        have first := dischargeIdentity_unknown (first := (s.map k).firstIds) (s := copy) h1
        have maps : (raise (.dischargeUnknown k id1) copy).maps = s.maps := (untouched_send.raise ..).maps
        have clock : (raise (.dischargeUnknown k id1) copy).ret.clock = s.ret.clock := (untouched_send.raise ..).clock
        have own : (s.map k).firstIds.contains id2 = true := by
          unfold State.map FurnaceMap.firstIds Row.slabs
          rw [hm]
          dsimp only
          rw [hf, ← hy]
          simp
        have identity := dischargeIdentity_at (k := k) (first := (s.map k).firstIds)
          (s := raise (.dischargeUnknown k id1) copy) (pre := []) (post := rest) (by rw [maps]; exact hm)
          (fun y hy => by cases hy) (find?_single hf hy)
        rw [own, if_pos rfl, clock, maps, withoutLane_single hf] at identity
        exact (mapDischarge_two (s := copy) hid).trans ((congrArg _ first).trans identity)
    have answers : HandedOn k (s.seqs.get k) told done :=
      handedOn (by rw [← mapped]; exact exec_dischargeReport ho)
        (by rw [← mapped]; exact (MapWork.forwardTo ..).trans .mapDischarge)
    exact ⟨answers.beside, answers.idle, answers.waiting, answers.room⟩

end Sys2Proof.Machine
end

section
/-! The map edits (R20 to R23): what DELETE_SLAB, SET_ROW_FRONT and INSERT_SLAB answer for their owner, with the
furnace map after an accepted one. -/

namespace Sys2Proof.Machine

/-! ### The answer to a map edit (R20) -/

section
variable {c : Instr} {h : Hdr} {op : MapOpCode} {own : State → EditResult} {s : State}

theorem mapEdit_taken {d : RespData} {f : State → State} (hm : Managed s h) (hf : formFits c = true)
    (hl : s.mgmt.latch = none) (ho : own s = .ok (d, f)) :
    powered (manage c Kind.mapEdit h (takeMapEdit h op own)) s =
      .next (finish (f (respond h Kind.mapEdit .ok none d s))) := by
  rw [powered_on _ _ hm.1.1, manage_of_managed (by decide) hm, hf, takeMapEdit_ok hl ho]

theorem mapEdit_refused {code : RespCode} (hm : Managed s h) (hf : formFits c = true) (hl : s.mgmt.latch = none)
    (ho : own s = .error code) :
    powered (manage c Kind.mapEdit h (takeMapEdit h op own)) s = MapEditRefused h op code s := by
  rw [powered_on _ _ hm.1.1, manage_of_managed (by decide) hm, hf, takeMapEdit, hl, ho]
  simp [refuseAndLatch, setLatch, State.setMgmt]

end

theorem cycling_iff (st : SeqState) :
    st.cycling = true ↔ st ∈ [SeqState.positioning, .room, .pick, .carry, .lower, .retract] := by
  cases st <;> decide

theorem not_cycling {st : SeqState} (h : st ∉ [SeqState.positioning, .room, .pick, .carry, .lower, .retract]) :
    st.cycling = false :=
  Bool.eq_false_of_not_eq_true fun c => h ((cycling_iff st).1 c)

/-! ### DELETE_SLAB (R21) -/

section
variable {tag : Nat} {k : Furnace} {p : Place} {s : State}

theorem ownDeleteSlab_given (h : tag ≠ 0) : ownDeleteSlab tag s =
    match s.locateTag tag with
    | none => .error .unknownTag
    | some (k, p) =>
      if (s.seq k).state.cycling then .error .notWhileCharging
      else .ok (.deleted p.slab.tag p.slab.id k p.row p.lane, deleteSlabAt k p) := by
  have given : tagGiven tag = true := bne_iff_ne.2 h
  unfold ownDeleteSlab
  rw [given]
  rfl

theorem State.locateTag_none (h : ∀ x ∈ s.maps.f1.slabs ++ s.maps.f2.slabs, x.tag ≠ tag) : s.locateTag tag = none := by
  unfold State.locateTag
  rw [Machine.locateTag_none fun x hx => h x (List.mem_append_left _ hx),
    Machine.locateTag_none fun x hx => h x (List.mem_append_right _ hx)]
  rfl

/-- A slab of the map with the tag is found. -/
theorem exists_locateTag {m : FurnaceMap} (h : ∃ y ∈ m.slabs, y.tag = tag) : ∃ p, m.locateTag tag = some p := by
  obtain ⟨y, hy, ht⟩ := h
  obtain ⟨r, hr, hy⟩ := List.mem_flatMap.1 hy
  have holds : (r.occ.slabs.find? fun x => x.2.tag == tag).isSome = true := by
    obtain ⟨⟨lane, z⟩, hz, rfl⟩ := List.mem_map.1 hy
    exact List.find?_isSome.2 ⟨(lane, z), hz, beq_iff_eq.2 ht⟩
  unfold FurnaceMap.locateTag
  generalize m.rows = rows at hr
  generalize 0 = i
  induction rows generalizing i with
  | nil => cases hr
  | cons a rows ih =>
    rw [locate]
    cases found : a.findSlab fun x => x.tag == tag with
    | some q => exact ⟨_, rfl⟩
    | none =>
      rcases List.mem_cons.1 hr with rfl | hr
      · rw [Row.findSlab] at found
        rw [found] at holds
        cases holds
      · exact ih hr _

/-- R21: the lane of the row's slab with the tag. -/
theorem exists_lane {r : Row} {x : FurnaceSlab} (hx : x.tag = tag)
    (hr : r.slabs = [x] ∨ ∃ z, z.tag ≠ tag ∧ (r.occ = .ab x z ∨ r.occ = .ab z x)) :
    ∃ lane, r.findSlab (fun y => y.tag == tag) = some (lane, x) := by
  have own : (x.tag == tag) = true := beq_iff_eq.2 hx
  unfold Row.findSlab
  rcases hr with hr | ⟨z, hz, hr | hr⟩
  · unfold Row.slabs at hr
    cases ho : r.occ <;> rw [ho] at hr <;> cases hr <;> exact ⟨_, List.find?_cons_of_pos own⟩
  · rw [hr]
    exact ⟨.a, List.find?_cons_of_pos own⟩
  · rw [hr]
    exact ⟨.b, (List.find?_cons_of_neg (by simpa using hz)).trans (List.find?_cons_of_pos own)⟩

/-- What is left of a row that the slab with the tag leaves. -/
theorem withoutLane_tag {r : Row} {lane : Lane} {x : FurnaceSlab} (post : List Row) (hx : x.tag = tag)
    (hl : r.findSlab (fun y => y.tag == tag) = some (lane, x)) :
    (r.slabs = [x] → withoutLane lane r post = post)
      ∧ (∀ z, r.occ = .ab x z →
          withoutLane lane r post = { r with occ := .b z, extent := z.width, pairOpen := false } :: post)
      ∧ (∀ z, z.tag ≠ tag → r.occ = .ab z x →
          withoutLane lane r post = { r with occ := .a z, extent := z.width, pairOpen := false } :: post) := by
  unfold Row.findSlab at hl
  refine ⟨fun hr => ?_, fun z hz => ?_, fun z hne hz => ?_⟩
  · have gone : r.without lane = none := by
      unfold Row.slabs at hr
      unfold Row.without
      cases ho : r.occ <;> rw [ho] at hr <;> cases hr <;> rfl
    rw [withoutLane, gone]
  · rw [hz] at hl
    have laneA : lane = .a := by
      simp only [Occupancy.slabs, List.find?_cons, hx, beq_self_eq_true, Option.some.injEq, Prod.mk.injEq] at hl
      exact hl.1.symm
    rw [laneA, withoutLane, Row.without, hz]
    rfl
  · rw [hz] at hl
    have laneB : lane = .b := by
      simp only [Occupancy.slabs, List.find?_cons, hx, beq_false_of_ne hne, beq_self_eq_true, Option.some.injEq,
        Prod.mk.injEq] at hl
      exact hl.1.symm
    rw [laneB, withoutLane, Row.without, hz]
    rfl

end

/-! ### SET_ROW_FRONT (R22) -/

section
variable {k : Furnace} {row : Nat} {front : Int} {s : State}

theorem ownSetRowFront_given (sel : Code Furnace) (hf : front ≠ absentFigure) (hm : front ≤ 100000) :
    ownSetRowFront sel row front s =
      match sel with
      | .bad _ => .error .illegalValue
      | .val k =>
        match (s.map k).rows[row]? with
        | none => .error .outOfRange
        | some r =>
          if front - r.extent < 0 then .error .outOfRange
          else if (s.seq k).state.cycling then .error .notWhileCharging
          else if !frontFits (s.map k).rows row front r.extent then .error .mapConflict
          else .ok (.rowFront k row front, moveRow k row r front) := by
  have given : figureGiven front = true := bne_iff_ne.2 hf
  unfold ownSetRowFront
  exact (if_pos given).trans (if_neg (by omega))

theorem getElem?_middle {α : Type} (pre post : List α) (a : α) : (pre ++ a :: post)[pre.length]? = some a := by
  simp

/-- R22: the row of an index, in a map that is not in a cycle of its furnace. -/
theorem ownSetRowFront_at {pre post : List Row} {r : Row} (hf : front ≠ absentFigure) (hm : front ≤ 100000)
    (hr : (s.maps.get k).rows = pre ++ r :: post) :
    ownSetRowFront (.val k) pre.length front s =
      if front - r.extent < 0 then .error .outOfRange
      else if (s.seq k).state.cycling then .error .notWhileCharging
      else if !frontFits (pre ++ r :: post) pre.length front r.extent then .error .mapConflict
      else .ok (.rowFront k pre.length front, moveRow k pre.length r front) := by
  rw [ownSetRowFront_given _ hf hm]
  unfold State.map
  dsimp only
  rw [hr, getElem?_middle]

/-- R22, R3: a front fits between its neighbours. -/
theorem frontFits_iff {pre post : List Row} {r : Row} {extent : Int} :
    frontFits (pre ++ r :: post) pre.length front extent = true ↔
      (∀ a, pre.getLast? = some a → front ≤ a.front - a.extent)
        ∧ (∀ b, post.head? = some b → b.front ≤ front - extent) := by
  have behind : (pre ++ r :: post)[pre.length + 1]? = post.head? := by
    rw [List.getElem?_append_right (by omega)]
    simp [List.head?_eq_getElem?]
  have ahead (h : pre.length ≠ 0) : (pre ++ r :: post)[pre.length - 1]? = pre.getLast? := by
    rw [List.getElem?_append_left (by omega), List.getLast?_eq_getElem?]
  unfold frontFits
  rw [behind, Bool.and_eq_true]
  refine and_congr ?_ ?_
  · by_cases h : pre.length = 0
    · have nil := List.eq_nil_of_length_eq_zero h
      simp [nil]
    · rw [ahead h, beq_false_of_ne h, Bool.false_or]
      cases pre.getLast? with
      | none => simp
      | some a =>
        simp only [decide_eq_true_eq, Option.some.injEq, forall_eq']
        rfl
  · cases post.head? with
    | none => simp
    | some b => simp

/-- R22, R5: the rows after a row's front edge is set. -/
theorem moved_rows (pre post : List Row) (r : Row) (front : Int) (o : Bool) :
    (pre ++ r :: post).set pre.length (r.moved front o) =
      pre ++ { r with front, pairOpen := false, overrun := o } :: post := by
  rw [List.set_append_right _ _ le_rfl, Nat.sub_self]
  rfl

end

/-! ### INSERT_SLAB (R23) -/

section
variable {k : Furnace} {front w l th : Int} {id : Identity} {grp : Nat} {mass : Int} {s : State}

theorem insertRangesOk_iff : insertRangesOk front w l th grp mass = true ↔
    800 ≤ w ∧ w ≤ 2800 ∧ 1500 ≤ l ∧ l ≤ 12000 ∧ 100 ≤ th ∧ th ≤ 500 ∧ grp ≤ 15
      ∧ 0 ≤ mass ∧ mass ≤ 200000 ∧ front ≤ 100000 ∧ 0 ≤ front - w := by
  simp only [insertRangesOk, editRange, Bool.and_eq_true, inRange_iff, decide_eq_true_eq]
  tauto

theorem insertGiven_iff : insertGiven front w l th grp = true ↔
    (∀ x ∈ [front, w, l, th], x ≠ absentFigure) ∧ grp ≠ 255 := by
  simp [insertGiven, figureGiven, byteGiven]

/-- R23: fields in their ranges are there. -/
theorem insertGiven_of_ranges (h : insertRangesOk front w l th grp mass = true) : insertGiven front w l th grp = true := by
  rw [insertRangesOk_iff] at h
  rw [insertGiven_iff]
  unfold absentFigure
  refine ⟨fun x hx => ?_, by omega⟩
  simp only [List.mem_cons, List.not_mem_nil, or_false] at hx
  omega

theorem ownInsertSlab_missing (sel : Code Furnace) (h : insertGiven front w l th grp = false) :
    ownInsertSlab sel front id w l th grp mass s = .error .illegalValue := by
  unfold ownInsertSlab
  rw [h]
  rfl

theorem ownInsertSlab_outside (sel : Code Furnace) (hg : insertGiven front w l th grp = true)
    (h : insertRangesOk front w l th grp mass = false) :
    ownInsertSlab sel front id w l th grp mass s = .error .outOfRange := by
  unfold ownInsertSlab
  rw [hg, h]
  rfl

theorem ownInsertSlab_badId (sel : Code Furnace) (h : insertRangesOk front w l th grp mass = true)
    (hid : idCharsOk id = false) : ownInsertSlab sel front id w l th grp mass s = .error .illegalValue := by
  unfold ownInsertSlab
  rw [insertGiven_of_ranges h, h, hid]
  rfl

/-- R23: the checks of an insertion whose fields are in their ranges. -/
theorem ownInsertSlab_ranges (sel : Code Furnace) (h : insertRangesOk front w l th grp mass = true)
    (hid : idCharsOk id = true) : ownInsertSlab sel front id w l th grp mass s =
      match sel with
      | .bad _ => .error .illegalValue
      | .val k =>
        if (s.geometry k).isNone then .error .notConfigured
        else if (s.seq k).state.cycling then .error .notWhileCharging
        else if s.idHeld id then .error .duplicate
        else
          match insertChecks front w (s.map k) with
          | .error c => .error c
          | .ok () =>
            .ok (.inserted s.freshTag k (insertIndex front (s.map k).rows),
              insertSlab k front (insertedSlab s.freshTag id w l th grp mass s.ret.clock)) := by
  unfold ownInsertSlab
  rw [insertGiven_of_ranges h, h, hid]
  rfl

theorem insertChecks_full {m : FurnaceMap} (h : 64 ≤ m.rows.length) : insertChecks front w m = .error .mapFullEdit :=
  if_pos h

theorem spanConflict_iff {rows : List Row} : spanConflict front w rows = true ↔
    ∃ r ∈ rows, front - w < r.front ∧ r.front - r.extent < front := by
  simp only [spanConflict, List.any_eq_true, Bool.and_eq_true, decide_eq_true_eq]
  rfl

theorem insertChecks_conflict {m : FurnaceMap} (h : m.rows.length < 64)
    (hc : ∃ r ∈ m.rows, front - w < r.front ∧ r.front - r.extent < front) :
    insertChecks front w m = .error .mapConflict :=
  (if_neg (by omega)).trans (if_pos (spanConflict_iff.2 hc))

theorem insertChecks_ok {m : FurnaceMap} (h : m.rows.length < 64)
    (hc : ∀ r ∈ m.rows, r.front ≤ front - w ∨ front ≤ r.front - r.extent) : insertChecks front w m = .ok () := by
  refine (if_neg (by omega)).trans (if_neg fun conflict => ?_)
  obtain ⟨r, hr, h1, h2⟩ := spanConflict_iff.1 conflict
  rcases hc r hr with h | h <;> omega

/-- R3: the index that a front edge takes behind the rows whose fronts are not less. -/
theorem insertIndex_append {pre post : List Row} (hpre : ∀ r ∈ pre, front ≤ r.front)
    (hpost : ∀ r, post.head? = some r → r.front < front) : insertIndex front (pre ++ post) = pre.length := by
  unfold insertIndex
  rw [List.takeWhile_append_of_pos fun r hr => decide_eq_true (hpre r hr)]
  cases post with
  | nil => simp
  | cons b post =>
    have stop := hpost b rfl
    rw [List.takeWhile_cons_of_neg (by simpa using stop), List.append_nil]

/-- R3, R4: the rows after an insertion behind those of a list. -/
theorem insertRows_append {pre post : List Row} {o : Bool} {x : FurnaceSlab} (hpre : ∀ r ∈ pre, front ≤ r.front)
    (hpost : ∀ r, post.head? = some r → r.front < front) :
    insertRows front o x (pre ++ post) = (if post = [] then closeLast pre else pre)
      ++ { front, extent := x.width, occ := .c x, pairOpen := false, overrun := o } :: post := by
  unfold insertRows insertRowAt
  rw [insertIndex_append hpre hpost]
  cases post with
  | nil =>
    rw [List.append_nil, if_pos rfl, if_pos rfl]
  | cons b post =>
    rw [if_neg (by simp), if_neg (by simp), List.take_left, List.drop_left]

end

end Sys2Proof.Machine
end

section
/-! Settles O25: the map edits (R20 to R23, R4, R5, R84). -/

namespace Sys2Proof.Machine

/-! ### An accepted DELETE_SLAB (R21) -/

/-- R21: the tag is the only field of a DELETE_SLAB, whose form does not depend on it. -/
theorem formFits_deleteSlab (h : Hdr) (a b : Nat) : formFits (.deleteSlab h a) = formFits (.deleteSlab h b) := rfl

theorem deleteSlabAt_respond (h : Hdr) (d : RespData) {k : Furnace} {pre post : List Row} {r : Row} {lane : Lane}
    {x : FurnaceSlab} {s : State} (hm : (s.maps.get k).rows = pre ++ r :: post) :
    let t := deleteSlabAt k ⟨pre.length, lane, r.front, x⟩ (respond h Kind.mapEdit .ok none d s)
    t = { respond h Kind.mapEdit .ok none d s with maps := t.maps, due := t.due }
      ∧ t.maps = s.maps.set k { s.maps.get k with rows := pre ++ withoutLane lane r post } := by
  intro t
  refine ⟨rfl, ?_⟩
  calc t.maps = (respond h Kind.mapEdit .ok none d s).maps.set k
        { (respond h Kind.mapEdit .ok none d s).maps.get k with
          rows := removeAt lane pre.length ((respond h Kind.mapEdit .ok none d s).maps.get k).rows } := rfl
    _ = _ := by rw [respond_maps, hm, removeAt_append]

/-! ### An accepted SET_ROW_FRONT (R22) -/

theorem beyond_iff {k : Furnace} {front : Int} {s : State} :
    s.beyond k front = true ↔ ∃ g ∈ s.cfg.geometry.get k, g.lEff < front := by
  unfold State.beyond State.geometry
  cases s.cfg.geometry.get k <;> simp

/-- R22, R5: what the accepted front edge leaves, in a state with its RESPONSE. -/
theorem moveRow_fields {k : Furnace} {pre post : List Row} {r : Row} {front : Int} {s : State}
    (hr : (s.maps.get k).rows = pre ++ r :: post) :
    let t := moveRow k pre.length r front s
    t = { s with links := t.links, ret := t.ret, maps := t.maps, due := t.due }
      ∧ t.maps = s.maps.set k { s.maps.get k with rows := pre ++ { r with
        front, pairOpen := false, overrun := s.beyond k front } :: post }
      ∧ (r.overrun = false ∧ s.beyond k front = true →
        SameLines (raise (.overrun k pre.length front (r.slabs.map fun x => (x.tag, x.id))) s) t)
      ∧ (¬ (r.overrun = false ∧ s.beyond k front = true) → SameLines s t) := by
  intro t
  let u := markEdit k (s.setMap k { s.map k with rows := (s.map k).rows.set pre.length (r.moved front (s.beyond k front)) })
  have maps : u.maps = s.maps.set k { s.maps.get k with rows := pre ++ { r with
      front, pairOpen := false, overrun := s.beyond k front } :: post } := by
    have set : u.maps = s.maps.set k { s.maps.get k with
        rows := (s.maps.get k).rows.set pre.length (r.moved front (s.beyond k front)) } := rfl
    rw [set, hr, moved_rows]
  have same : SameLines s u := ⟨rfl, rfl, rfl⟩
  have unfolded : t = if s.beyond k front && !r.overrun then raise (.overrun k pre.length front r.tagIds) u else u := rfl
  by_cases newly : r.overrun = false ∧ s.beyond k front = true
  · have raised : t = raise (.overrun k pre.length front r.tagIds) u := by
      rw [unfolded, if_pos (by rw [newly.1, newly.2]; rfl)]
    rw [raised]
    refine ⟨?_, (untouched_send.raise ..).maps.trans maps, fun _ => same.raise _, fun h => absurd newly h⟩
    rw [raise_eq]
    rfl
  · have quiet : t = u := by
      rw [unfolded, if_neg fun both => newly ?_]
      rw [Bool.and_eq_true, Bool.not_eq_true'] at both
      exact ⟨both.2, both.1⟩
    rw [quiet]
    exact ⟨rfl, maps, fun h => absurd h newly, fun _ => same⟩

theorem beyond_match (s : State) (k : Furnace) (front : Int) : s.beyond k front =
    match s.cfg.geometry.get k with
    | none => false
    | some g => decide (g.lEff < front) := by
  unfold State.beyond State.geometry
  cases s.cfg.geometry.get k <;> rfl

/-! ### An accepted INSERT_SLAB (R23) -/

/-- R11, R23, R5: the row of its own that a slab takes, with OVERRUN where it is beyond the effective length. -/
theorem insertSlabRow_fields {k : Furnace} {pre post : List Row} {x : FurnaceSlab} {front : Int} {s : State}
    (hr : (s.maps.get k).rows = pre ++ post) (hpre : ∀ r ∈ pre, front ≤ r.front)
    (hpost : ∀ r, post.head? = some r → r.front < front) :
    let t := insertSlabRow k front x s
    t = { s with links := t.links, ret := t.ret, maps := t.maps }
      ∧ t.maps = s.maps.set k { s.maps.get k with
          rows := (if post = [] then closeLast pre else pre)
            ++ { front, extent := x.width, occ := .c x, pairOpen := false, overrun := s.beyond k front } :: post }
      ∧ (s.beyond k front = true → SameLines (raise (.overrun k pre.length front [(x.tag, x.id)]) s) t)
      ∧ (s.beyond k front = false → SameLines s t) := by
  intro t
  let u := s.setMap k { s.map k with rows := insertRows front (s.beyond k front) x (s.map k).rows }
  have maps : u.maps = s.maps.set k { s.maps.get k with
      rows := (if post = [] then closeLast pre else pre)
        ++ { front, extent := x.width, occ := .c x, pairOpen := false, overrun := s.beyond k front } :: post } := by
    have set : u.maps = s.maps.set k { s.maps.get k with
        rows := insertRows front (s.beyond k front) x (s.maps.get k).rows } := rfl
    rw [set, hr, insertRows_append hpre hpost]
  have index : insertIndex front (s.map k).rows = pre.length := by
    unfold State.map
    rw [hr, insertIndex_append hpre hpost]
  have same : SameLines s u := ⟨rfl, rfl, rfl⟩
  have unfolded : t = if s.beyond k front then
      raise (.overrun k (insertIndex front (s.map k).rows) front [(x.tag, x.id)]) u else u := rfl
  rw [index] at unfolded
  cases newly : s.beyond k front with
  | true =>
    rw [newly, if_pos rfl] at unfolded
    rw [newly] at maps
    rw [unfolded]
    refine ⟨?_, (untouched_send.raise ..).maps.trans maps, fun _ => same.raise _, fun h => absurd h (by decide)⟩
    rw [raise_eq]
    rfl
  | false =>
    rw [newly, if_neg (by decide)] at unfolded
    rw [newly] at maps
    rw [unfolded]
    exact ⟨rfl, maps, fun h => absurd h (by decide), fun _ => same⟩

/-- R23: what the accepted insertion leaves beside the row, in a state with its RESPONSE. -/
theorem insertSlab_fields {k : Furnace} {pre post : List Row} {x : FurnaceSlab} {front : Int} {s : State}
    (hr : (s.maps.get k).rows = pre ++ post) (hpre : ∀ r ∈ pre, front ≤ r.front)
    (hpost : ∀ r, post.head? = some r → r.front < front) :
    let t := insertSlab k front x s
    t = { s with links := t.links, ret := t.ret, maps := t.maps, due := t.due, tracker := t.tracker
                 schedule := t.schedule }
      ∧ t.maps = s.maps.set k { s.maps.get k with
          rows := (if post = [] then closeLast pre else pre)
            ++ { front, extent := x.width, occ := .c x, pairOpen := false, overrun := s.beyond k front } :: post }
      ∧ (s.beyond k front = true → SameLines (raise (.overrun k pre.length front [(x.tag, x.id)]) s) t)
      ∧ (s.beyond k front = false → SameLines s t)
      ∧ t.tracker = { s.tracker with nextTag := nextTagAfter x.tag }
      ∧ t.schedule = s.schedule.filter (fun e => !(e.id == x.id && e.state == .planned)) := by
  intro t
  let v := insertSlabRow k front x (takeTag x.tag s)
  obtain ⟨only, maps, told, untold⟩ := insertSlabRow_fields (s := takeTag x.tag s) (x := x) hr hpre hpost
  have marked : SameLines v (markEdit k (removePlanned x.id v)) := ⟨rfl, rfl, rfl⟩
  have tagged : SameLines s (takeTag x.tag s) := ⟨rfl, rfl, rfl⟩
  obtain ⟨l, r, m, row⟩ : ∃ l r m, v = { takeTag x.tag s with links := l, ret := r, maps := m } := ⟨_, _, _, only⟩
  have unfolded : t = markEdit k (removePlanned x.id v) := rfl
  rw [row] at unfolded
  refine ⟨?_, maps, fun h => ((tagged.raise _).trans (told h)).trans marked,
    fun h => (tagged.trans (untold h)).trans marked, ?_, ?_⟩
  all_goals
    rw [unfolded]
    rfl

/-- Settles O25: each edit's checks in their order, and behind the last of them the rows that the edit leaves. -/
theorem mapEdits : Obligations.MapEdits := by
  refine ⟨fun h tag s hm hf hl => ?delete, fun h k pre post r front s hm hf hl hc hr hx hmax h0 hpre hpost => ?front,
    fun h k pre post front w l th id grp mass g s hm hf hl hc hg w1 w2 l1 l2 th1 th2 hgrp m1 m2 hmax h0 hid hnew hr
      hlen hpre hpost hclear => ?insert, fun h s hm hl => ⟨?frontRefused, fun id front w l th grp mass => ?insertRefused⟩⟩
  case delete =>
    refine ⟨mapEdit_refused hm ((formFits_deleteSlab ..).trans hf) hl rfl, fun ht hx => ?unknown,
      fun k ht h1 hy hc => ?cycling, fun k pre r post x ht h1 hr hpre hc hx hs => ?taken⟩
    case unknown =>
      have own : ownDeleteSlab tag s = .error .unknownTag := by
        rw [ownDeleteSlab_given ht, State.locateTag_none hx]
      exact mapEdit_refused hm hf hl own
    case cycling =>
      obtain ⟨p, hp⟩ := exists_locateTag hy
      have own : ownDeleteSlab tag s = .error .notWhileCharging := by
        rw [ownDeleteSlab_given ht, locateTag_state h1 hp]
        exact if_pos ((cycling_iff _).2 hc)
      exact mapEdit_refused hm hf hl own
    case taken =>
      obtain ⟨lane, hlane⟩ := exists_lane hx hs
      have found : (s.maps.get k).locateTag tag = some ⟨pre.length, lane, r.front, x⟩ := by
        unfold FurnaceMap.locateTag
        rw [hr, locate_append (fun q hq y hy => beq_false_of_ne (hpre q hq y hy)) hlane, Nat.zero_add]
      have own : ownDeleteSlab tag s = .ok (.deleted tag x.id k pre.length lane,
          deleteSlabAt k ⟨pre.length, lane, r.front, x⟩) := by
        rw [ownDeleteSlab_given ht, locateTag_state h1 found, ← hx]
        exact if_neg (by rw [State.seq, hc]; decide)
      obtain ⟨only, maps⟩ := deleteSlabAt_respond h (.deleted tag x.id k pre.length lane) (lane := lane) (x := x) hr
      obtain ⟨single, laneA, laneB⟩ := withoutLane_tag post hx hlane
      refine ⟨lane, _, mapEdit_taken hm hf hl own, List.mem_of_find?_eq_some hlane, only, fun h => ?_, fun z hz => ?_,
        fun z hz => ?_⟩
      · rw [maps, single h]
      · rw [maps, laneA z hz]
      · have other : z.tag ≠ tag := by
          rcases hs with hs | ⟨y, hy, ho | ho⟩
          · unfold Row.slabs at hs
            rw [hz] at hs
            cases hs
          · rw [hz] at ho
            cases ho
            exact absurd hx hy
          · rw [hz] at ho
            cases ho
            exact hy
        rw [maps, laneB z other hz]
  case front =>
    intro answered
    have own : ownSetRowFront (.val k) pre.length front s =
        .ok (.rowFront k pre.length front, moveRow k pre.length r front) := by
      rw [ownSetRowFront_at hx hmax hr, if_neg (by omega)]
      refine (if_neg (by rw [State.seq, hc]; decide)).trans (if_neg ?_)
      rw [frontFits_iff.2 ⟨hpre, hpost⟩]
      decide
    have beyond : answered.beyond k front = s.beyond k front := by
      unfold State.beyond State.geometry
      rw [respond_cfg]
    obtain ⟨only, maps, told, untold⟩ := moveRow_fields (front := front) (s := answered) (k := k)
      (by rw [respond_maps]; exact hr)
    rw [respond_maps, beyond, beyond_match] at maps
    rw [beyond, beyond_iff] at told untold
    refine ⟨_, mapEdit_taken hm hf hl own, maps, ?lines, (congrArg State.cfg only).trans (respond_cfg ..),
      (congrArg State.mgmt only).trans (respond_mgmt ..), (congrArg State.schedule only).trans (respond_schedule ..),
      (congrArg State.grid only).trans (respond_grid ..), (congrArg State.tracker only).trans (respond_tracker ..),
      (congrArg State.arb only).trans (respond_arb ..), (congrArg State.seqs only).trans (respond_seqs ..),
      (congrArg State.place only).trans (respond_place ..), (congrArg State.counters only).trans (respond_counters ..),
      (congrArg State.sensors only).trans (respond_sensors ..), (congrArg State.windows only).trans (respond_windows ..)⟩
    case lines =>
      by_cases newly : r.overrun = false ∧ ∃ g ∈ s.cfg.geometry.get k, g.lEff < front
      · rw [if_pos newly]
        exact ⟨(told newly).links, (told newly).ret⟩
      · rw [if_neg newly]
        exact ⟨(untold newly).links, (untold newly).ret⟩
  case insert =>
    let x := insertedSlab s.freshTag id w l th grp mass s.ret.clock
    let answered := respond h Kind.mapEdit .ok none (.inserted s.freshTag k pre.length) s
    have ranges : insertRangesOk front w l th grp mass = true :=
      insertRangesOk_iff.2 ⟨w1, w2, l1, l2, th1, th2, hgrp, m1, m2, hmax, h0⟩
    have own : ownInsertSlab (.val k) front id w l th grp mass s =
        .ok (.inserted s.freshTag k pre.length, insertSlab k front x) := by
      rw [ownInsertSlab_ranges _ ranges hid]
      dsimp only
      rw [State.geometry, hg, State.seq, hc, hnew, State.map, insertChecks_ok hlen (by rw [hr]; exact hclear), hr,
        insertIndex_append hpre hpost]
      rfl
    have beyond : answered.beyond k front = decide (g.lEff < front) := by
      unfold State.beyond State.geometry
      rw [respond_cfg, hg]
    obtain ⟨only, maps, told, untold, tracker, schedule⟩ := insertSlab_fields (front := front) (s := answered) (k := k)
      (x := x) (by rw [respond_maps]; exact hr) hpre hpost
    rw [respond_maps, beyond] at maps
    rw [beyond, decide_eq_true_eq] at told
    rw [beyond, decide_eq_false_iff_not] at untold
    refine ⟨_, x, mapEdit_taken hm hf hl own, rfl, maps, ?told, tracker.trans (by rw [respond_tracker]; rfl),
      schedule.trans (by rw [respond_schedule]; rfl), (congrArg State.cfg only).trans (respond_cfg ..),
      (congrArg State.mgmt only).trans (respond_mgmt ..), (congrArg State.grid only).trans (respond_grid ..),
      (congrArg State.arb only).trans (respond_arb ..), (congrArg State.seqs only).trans (respond_seqs ..),
      (congrArg State.place only).trans (respond_place ..), (congrArg State.counters only).trans (respond_counters ..),
      (congrArg State.sensors only).trans (respond_sensors ..)⟩
    case told =>
      intro response line
      by_cases newly : g.lEff < front
      · have newlyBeyond : line = raise (.overrun k pre.length front [(s.freshTag, id)]) response := if_pos newly
        rw [newlyBeyond]
        exact ⟨(told newly).links, (told newly).ret⟩
      · have clear : line = response := if_neg newly
        rw [clear]
        exact ⟨(untold newly).links, (untold newly).ret⟩
  case frontRefused =>
    intro refused
    have refuse {sel : Code Furnace} {row : Nat} {front : Int} {c : RespCode}
        (own : ownSetRowFront sel row front s = .error c) : refused sel row front c :=
      fun hf => mapEdit_refused hm hf hl own
    refine ⟨fun sel row => refuse rfl, fun sel row front hmax => refuse ?above,
      fun raw row front hx hmax => refuse (ownSetRowFront_given _ hx hmax),
      fun k row front hx hmax hrow => refuse ?noRow, fun k pre r post front hx hmax hr =>
        ⟨fun h0 => refuse ?short, fun h0 hc => refuse ?cycling, fun h0 hc hn => refuse ?conflict⟩⟩
    case above =>
      have given : figureGiven front = true := bne_iff_ne.2 (by unfold absentFigure; omega)
      exact (if_pos given).trans (if_pos hmax)
    case noRow =>
      rw [ownSetRowFront_given _ hx hmax]
      dsimp only
      rw [State.map, List.getElem?_eq_none hrow]
    case short =>
      rw [ownSetRowFront_at hx hmax hr]
      exact if_pos h0
    case cycling =>
      rw [ownSetRowFront_at hx hmax hr, if_neg (by omega)]
      exact if_pos ((cycling_iff _).2 hc)
    case conflict =>
      rw [ownSetRowFront_at hx hmax hr, if_neg (by omega)]
      refine (if_neg (by rw [State.seq, not_cycling hc]; decide)).trans (if_pos ?_)
      rw [Bool.not_eq_true']
      refine Bool.eq_false_of_not_eq_true fun fits => ?_
      obtain ⟨ahead, behind⟩ := frontFits_iff.1 fits
      rcases hn with ⟨a, ha, hlt⟩ | ⟨b, hb, hlt⟩
      · have := ahead a ha
        omega
      · have := behind b hb
        omega
  case insertRefused =>
    intro refused given ranges rows
    have refuse {sel : Code Furnace} {c : RespCode} (own : ownInsertSlab sel front id w l th grp mass s = .error c) :
        refused sel c := fun hf => mapEdit_refused hm hf hl own
    refine ⟨fun sel hg => refuse (ownInsertSlab_missing _ (Bool.eq_false_of_not_eq_true (mt insertGiven_iff.1 hg))),
      fun sel hg hr => refuse (ownInsertSlab_outside _ (insertGiven_iff.2 hg)
        (Bool.eq_false_of_not_eq_true (mt insertRangesOk_iff.1 hr))),
      fun sel hr hid => refuse (ownInsertSlab_badId _ (insertRangesOk_iff.2 hr) hid), fun hr hid => ?checks⟩
    have checks (sel : Code Furnace) := ownInsertSlab_ranges (s := s) (id := id) sel (insertRangesOk_iff.2 hr) hid
    refine ⟨fun raw => refuse (checks _), fun k hg => refuse ?noGeometry, fun k hg hc => refuse ?inCycle,
      fun k hg hc => ⟨fun held => refuse ?duplicate, fun held hlen => refuse ?full,
        fun held hlen hcon => refuse ?occupied⟩⟩
    case noGeometry =>
      rw [checks]
      dsimp only
      rw [State.geometry, hg]
      rfl
    all_goals
      rw [checks]
      dsimp only
      refine (if_neg (by rw [State.geometry, Option.isNone_iff_eq_none]; exact Option.isSome_iff_ne_none.1 hg)).trans ?_
    case inCycle => exact if_pos ((cycling_iff _).2 hc)
    all_goals refine (if_neg (by rw [State.seq, not_cycling hc]; decide)).trans ?_
    case duplicate => exact if_pos held
    all_goals refine (if_neg (by rw [held]; decide)).trans ?_
    case full => rw [State.map, insertChecks_full hlen]
    case occupied => rw [State.map, insertChecks_conflict hlen hcon]

end Sys2Proof.Machine
end

section
/-! The exits of a sequencer (R51, R56, R57, R73, R94, R99) as changes of the state's fields, and with them ARM_FURNACE,
DISARM_FURNACE and STOP_CHARGER. -/

namespace Sys2Proof.Machine

/-! ### What is sent changes the queues alone (R183) -/

/-- The second state is the first with other queues. -/
def LinksOnly (s t : State) : Prop := t = { s with links := t.links }

theorem LinksOnly.refl (s : State) : LinksOnly s s := rfl

theorem LinksOnly.trans {s t u : State} (h : LinksOnly s t) (g : LinksOnly t u) : LinksOnly s u := by
  unfold LinksOnly at h g ⊢
  generalize u.links = l at g ⊢
  rw [g, h]

namespace LinksOnly

variable {s t : State} (h : LinksOnly s t)
include h

theorem power : t.power = s.power := by rw [h]

theorem ret : t.ret = s.ret := by rw [h]

theorem cfg : t.cfg = s.cfg := by rw [h]

theorem mgmt : t.mgmt = s.mgmt := by rw [h]

theorem schedule : t.schedule = s.schedule := by rw [h]

theorem grid : t.grid = s.grid := by rw [h]

theorem tracker : t.tracker = s.tracker := by rw [h]

theorem arb : t.arb = s.arb := by rw [h]

theorem seqs : t.seqs = s.seqs := by rw [h]

theorem place : t.place = s.place := by rw [h]

theorem maps : t.maps = s.maps := by rw [h]

theorem counters : t.counters = s.counters := by rw [h]

theorem sensors : t.sensors = s.sensors := by rw [h]

theorem windows : t.windows = s.windows := by rw [h]

theorem due : t.due = s.due := by rw [h]

end LinksOnly

theorem sendOwn_linksOnly (p : Port) (d r : Nat) (b : OwnBody) (s : State) : LinksOnly s (sendOwn p d r b s) := by
  obtain ⟨l, h, -⟩ := sendOwn_eq_links p d r b s
  rw [h]
  rfl

theorem respond_linksOnly (h : Hdr) (n : Nat) (c : RespCode) (x : Option Nat) (d : RespData) (s : State) :
    LinksOnly s (respond h n c x d s) := sendOwn_linksOnly ..

theorem sendField_linksOnly (r : Role) (n : Nat) (b : OwnBody) (s : State) : LinksOnly s (sendField r n b s) := by
  unfold sendField
  split
  · exact .refl s
  · exact sendOwn_linksOnly ..

/-- Sending does not read the sequencers. -/
theorem sendField_withSeqs (r : Role) (n : Nat) (b : OwnBody) (s : State) (q : PerFurnace Sequencer) :
    sendField r n b { s with seqs := q } = { sendField r n b s with seqs := q } := by
  unfold sendField
  dsimp only
  split
  · rfl
  · unfold sendOwn
    dsimp only
    split <;> rfl

theorem haltFor_linksOnly (k : Furnace) (m : Motion) (reason : HaltReason) (s : State) :
    LinksOnly s (haltFor k m reason s) := by
  unfold haltFor
  split
  · split
    · exact sendField_linksOnly ..
    · exact .refl s
  · exact .refl s

/-- Where a telegram goes depends on the queues and the partners alone. -/
theorem sendField_congr {r : Role} {n : Nat} {b : OwnBody} {s t : State} (hl : t.links = s.links)
    (hp : t.cfg.partners = s.cfg.partners) : (sendField r n b t).links = (sendField r n b s).links := by
  unfold sendField
  rw [hp]
  cases s.cfg.partners with
  | none => exact hl
  | some ps =>
    dsimp only
    unfold sendOwn
    rw [hl]
    cases s.links.station with
    | none => exact hl
    | some st => rfl

/-! ### A move abandoned, a sequencer put OFFLINE (R94, R99, R56) -/

/-- R94, R99: the request is gone, and the move of the sequencer's own is halted and unwanted. -/
theorem abandonMove_fields (k : Furnace) (reason : HaltReason) (s : State) : ∃ d, abandonMove k reason s =
    { s with
      links := (haltFor k s.arb.motion reason s).links
      arb := { s.arb with motion := unwantedFor k s.arb.motion, requests := s.arb.requests.set k none }
      due := d } := by
  obtain ⟨d, h⟩ := abandonMove_eq k reason s
  rw [h, haltOwnMove_eq_haltFor, haltFor_linksOnly k s.arb.motion reason s]
  exact ⟨d, rfl⟩

/-- R56: the entry into OFFLINE. -/
theorem enterOffline_fields (k : Furnace) (s : State) : ∃ d, enterOffline k s =
    { s with
      seqs := s.seqs.set k
        { s.seqs.get k with state := .offline, cause := none, waiting := .none, cycle := none }
      arb := { s.arb with holds := s.arb.holds.set k false }
      windows := s.windows.set k { s.windows.get k with stopped := none }
      due := d } := by
  obtain ⟨d, h⟩ := releaseHold_eq k (putStopped k none
    (s.setSeq k { s.seq k with state := .offline, cause := none, waiting := .none, cycle := none }))
  exact ⟨d, h⟩

/-! ### DISARM_FURNACE (R56) -/

section
variable {k : Furnace} {s : State}

theorem disarm_positioning (h : (s.seqs.get k).state = .positioning) :
    disarm k s = enterOffline k (abandonMove k .disarmed s) := by
  unfold disarm State.seq
  rw [h]

theorem disarm_offline (h : (s.seqs.get k).state = .offline) : disarm k s = s := by
  unfold disarm State.seq
  rw [h]

theorem disarm_beside (ho : (s.seqs.get k).state ≠ .offline) (hp : (s.seqs.get k).state ≠ .positioning) :
    disarm k s = enterOffline k s := by
  unfold disarm
  split
  · next h => exact absurd h ho
  · next h => exact absurd h hp
  · rfl

theorem disarmRefused_iff (q : Sequencer) : disarmRefused q = true ↔
    q.state = .pick ∨ q.state = .carry ∨ q.state = .lower ∨ q.state = .retract
      ∨ (q.state = .held ∧ q.inflight.isSome = true) := by
  unfold disarmRefused
  cases q.state <;> simp

theorem ownDisarm_refused (h : disarmRefused (s.seqs.get k) = true) : ownDisarm (.val k) s = .error (.busy, .none) :=
  if_pos h

theorem ownDisarm_ok (h : disarmRefused (s.seqs.get k) = false) : ownDisarm (.val k) s = .ok (.none, disarm k) :=
  if_neg (by rw [State.seq, h]; decide)

end

/-! ### ARM_FURNACE (R55) -/

section
variable {k : Furnace} {s : State}

theorem ownArm_mode (h : s.ret.mode ≠ .run) : ownArm (.val k) s = .error (.wrongMode, .none) := if_pos h

theorem armed_eq_true (h : (s.seqs.get k).state ≠ .offline) : s.armed k = true := bne_iff_ne.2 h

theorem ownArm_armed (hm : s.ret.mode = .run) (h : (s.seqs.get k).state ≠ .offline) :
    ownArm (.val k) s = .error (.busy, .none) :=
  (if_neg (not_not.2 hm)).trans (if_pos (armed_eq_true h))

/-- R55: with the mode and the state as they must be, the tables decide. -/
theorem ownArm_tables (hm : s.ret.mode = .run) (h : (s.seqs.get k).state = .offline) : ownArm (.val k) s =
    match missingTable s k with
    | some t => .error (.notConfigured, .missing t)
    | none => .ok (.none, enterIdle k) := by
  have unarmed : s.armed k = false := by
    unfold State.armed State.seq
    rw [h]
    rfl
  exact (if_neg (not_not.2 hm)).trans (if_neg (by rw [unarmed]; decide))

theorem missingTable_geometry (hg : s.cfg.geometry.get k = none) : missingTable s k = some .geometry := by
  unfold missingTable State.geometry
  rw [hg]
  rfl

theorem missingTable_table (hg : (s.cfg.geometry.get k).isSome = true) (ht : s.cfg.tableGeometry = none) :
    missingTable s k = some .tableGeometry := by
  unfold missingTable State.geometry
  rw [← Option.not_isSome, hg, ht]
  rfl

theorem missingTable_partners (hg : (s.cfg.geometry.get k).isSome = true) (ht : s.cfg.tableGeometry.isSome = true)
    (hp : s.cfg.partners = none) : missingTable s k = some .partners := by
  unfold missingTable State.geometry
  rw [← Option.not_isSome, hg, ← Option.not_isSome, ht, hp]
  rfl

theorem missingTable_none (hg : (s.cfg.geometry.get k).isSome = true) (ht : s.cfg.tableGeometry.isSome = true)
    (hp : s.cfg.partners.isSome = true) : missingTable s k = none := by
  unfold missingTable State.geometry
  rw [← Option.not_isSome, hg, ← Option.not_isSome, ht, ← Option.not_isSome, hp]
  rfl

end

/-! ### STOP_CHARGER (R73) -/

section
variable {k : Furnace} {s : State}

theorem stopSequencer_rest (h : (s.seqs.get k).state = .offline ∨ (s.seqs.get k).state = .held) :
    stopSequencer k s = s := by
  unfold stopSequencer State.seq
  rcases h with h | h <;> rw [h]

theorem stopSequencer_positioning (h : (s.seqs.get k).state = .positioning) :
    stopSequencer k s = enterHeld k .stopped none (abandonMove k .stopped s) := by
  unfold stopSequencer State.seq
  rw [h]

theorem stopSequencer_beside (ho : (s.seqs.get k).state ≠ .offline) (hh : (s.seqs.get k).state ≠ .held)
    (hp : (s.seqs.get k).state ≠ .positioning) : stopSequencer k s = enterHeld k .stopped none s := by
  unfold stopSequencer
  split
  · next h => exact absurd h ho
  · next h => exact absurd h hh
  · next h => exact absurd h hp
  · rfl

end

/-- R51: what the entry into HELD leaves: CHARGER_HELD behind what had been sent, the sequencer HELD, the hold on the
table released, and everything that is not the sequencer's as it was. -/
structure EnteredHeld (k : Furnace) (cause : HeldCause) (e : Event) (s t : State) : Prop where
  links : t.links = (raise e s).links
  ret : t.ret = (raise e s).ret
  seq : t.seqs.get k = (s.seqs.get k).held cause
  other : t.seqs.get (otherFurnace k) = s.seqs.get (otherFurnace k)
  holds : t.arb.holds.get k = false
  motion : t.arb.motion = s.arb.motion
  noRequest : s.arb.requests.get k = none → t.arb.requests.get k = none
  accounts : KeepsAccounts s t

theorem enterHeld_entered (k : Furnace) (cause : HeldCause) (fault : Option Nat) (s : State) :
    EnteredHeld k cause (.chargerHeld k cause (s.seqs.get k).state ((s.seqs.get k).cycle.map (·.tag))
      ((s.seqs.get k).inflight.map fun _ => .uncertain) fault) s (enterHeld k cause fault s) := by
  obtain ⟨d, w, h⟩ := enterHeld_eq k cause fault s
  let e : Event := .chargerHeld k cause (s.seqs.get k).state ((s.seqs.get k).cycle.map (·.tag))
    ((s.seqs.get k).inflight.map fun _ => .uncertain) fault
  let u : State := { s with
    seqs := s.seqs.set k ((s.seqs.get k).held cause)
    arb := { s.arb with
      holds := s.arb.holds.set k false
      requests := if s.requestWaits k = true then s.arb.requests.set k none else s.arb.requests }
    due := d
    windows := w }
  have same : SameLines s u := ⟨rfl, rfl, rfl⟩
  have lines := same.raise e
  have kept := untouched_send.raise e u
  have mgmt : (raise e u).mgmt = s.mgmt := by rw [raise_eq]
  rw [h]
  refine ⟨lines.links, lines.ret, ?_, ?_, ?_, ?_, fun hr => ?_, kept.cfg, mgmt, kept.schedule, kept.grid, ?_, kept.place,
    kept.maps, kept.counters, kept.sensors, kept.mode, kept.clock⟩
  · rw [kept.seqs, PerFurnace.get_set]
  · rw [kept.seqs, PerFurnace.get_set_other]
  · rw [kept.arb]
    exact PerFurnace.get_set ..
  · rw [kept.arb]
  · rw [kept.arb]
    change (if s.requestWaits k = true then s.arb.requests.set k none else s.arb.requests).get k = none
    split
    · exact PerFurnace.get_set ..
    · exact hr
  · rw [raise_eq]

theorem held_heldFrom (cause : HeldCause) (q : Sequencer) : HeldFrom cause q (q.held cause) :=
  ⟨rfl, rfl, rfl, rfl, rfl⟩

/-- R51, R94, R99: what an entry into HELD behind the abandonment of a move leaves: the move halted before CHARGER_HELD
and unwanted, and the request gone. -/
structure HeldAbandoning (k : Furnace) (cause : HeldCause) (reason : HaltReason) (e : Event) (s t : State) : Prop where
  links : t.links = (raise e (haltFor k s.arb.motion reason s)).links
  ret : t.ret = (raise e (haltFor k s.arb.motion reason s)).ret
  seq : t.seqs.get k = (s.seqs.get k).held cause
  other : t.seqs.get (otherFurnace k) = s.seqs.get (otherFurnace k)
  holds : t.arb.holds.get k = false
  motion : t.arb.motion = unwantedFor k s.arb.motion
  request : t.arb.requests.get k = none
  accounts : KeepsAccounts s t

theorem enterHeld_abandoning (k : Furnace) (cause : HeldCause) (reason : HaltReason) (fault : Option Nat) (s : State) :
    HeldAbandoning k cause reason (.chargerHeld k cause (s.seqs.get k).state ((s.seqs.get k).cycle.map (·.tag))
      ((s.seqs.get k).inflight.map fun _ => .uncertain) fault) s (enterHeld k cause fault (abandonMove k reason s)) := by
  obtain ⟨d, left⟩ := abandonMove_fields k reason s
  have halt := haltFor_linksOnly k s.arb.motion reason s
  have entered := enterHeld_entered k cause fault (abandonMove k reason s)
  have seqs : (abandonMove k reason s).seqs = s.seqs := by rw [left]
  have same : SameLines (haltFor k s.arb.motion reason s) (abandonMove k reason s) := by
    rw [left]
    exact ⟨rfl, halt.ret.symm, halt.cfg.symm⟩
  have lines := same.raise (.chargerHeld k cause (s.seqs.get k).state ((s.seqs.get k).cycle.map (·.tag))
    ((s.seqs.get k).inflight.map fun _ => .uncertain) fault)
  rw [seqs] at entered
  refine ⟨entered.links.trans lines.links, entered.ret.trans lines.ret, by rw [entered.seq, seqs],
    by rw [entered.other, seqs], entered.holds, entered.motion.trans ?motion, entered.noRequest ?request, ?accounts⟩
  case motion => rw [left]
  case request =>
    rw [left]
    exact PerFurnace.get_set ..
  case accounts =>
    have accounts := entered.accounts
    rw [left] at accounts
    rw [left]
    exact accounts

/-- What a part with other queues keeps, the part keeps. -/
theorem keepsAccounts_linksOnly {s t u : State} (h : LinksOnly s t) (g : KeepsAccounts t u) : KeepsAccounts s u := by
  rw [h] at g
  exact g

/-- Settles O27: the CHARGER_STOP is sent first; a sequencer that is neither OFFLINE nor HELD then enters HELD, in
POSITIONING behind the abandonment of its move. -/
theorem stopCharger : Obligations.StopCharger := by
  intro h k s hm hf q sent stopped heldEvent
  have taken : exec (.stopCharger h (.val k)) s = .next (finish (stopSequencer k
      (sendChargerStop k .command (respond h Kind.command .ok none .none s)))) :=
    command_taken (own := ownStop (.val k)) hm hf rfl
  have stop : sendChargerStop k .command (respond h Kind.command .ok none .none s) = sent := by
    unfold sendChargerStop State.cycleTag State.cycle State.seq
    rw [respond_seqs]
  have only : LinksOnly s sent := (respond_linksOnly ..).trans (sendField_linksOnly ..)
  rw [stop] at taken
  have seqs : sent.seqs = s.seqs := only.seqs
  have arb : sent.arb = s.arb := only.arb
  refine ⟨fun hq => ?rest, fun ho hh => ?held⟩
  case rest => rw [taken, stopSequencer_rest (by rwa [seqs])]
  case held =>
    by_cases hp : q.state = .positioning
    · have halted : stopped = haltFor k s.arb.motion .stopped sent := if_pos hp
      have entered := enterHeld_abandoning k .stopped .stopped none sent
      have links := entered.links
      have ret := entered.ret
      rw [seqs, arb, ← halted] at links ret
      refine ⟨_, by rw [taken, stopSequencer_positioning (by rwa [seqs])], links, ret, ?_,
        entered.holds, fun _ => ⟨entered.request, entered.motion.trans (by rw [arb])⟩, fun hn => absurd hp hn,
        entered.other.trans (by rw [seqs]), keepsAccounts_linksOnly only entered.accounts⟩
      rw [entered.seq, seqs]
      exact held_heldFrom ..
    · have unhalted : stopped = sent := if_neg hp
      have entered := enterHeld_entered k .stopped none sent
      rw [seqs, ← unhalted] at entered
      refine ⟨_, by rw [taken, stopSequencer_beside (by rwa [seqs]) (by rwa [seqs]) (by rwa [seqs]), ← unhalted],
        entered.links, entered.ret, ?_, entered.holds, fun hn => absurd hn hp,
        fun _ => entered.motion.trans (by rw [unhalted, arb]), entered.other.trans (by rw [unhalted, seqs]),
        keepsAccounts_linksOnly only (unhalted ▸ entered.accounts)⟩
      rw [entered.seq, unhalted, seqs]
      exact held_heldFrom ..

end Sys2Proof.Machine
end

section
/-! ARM_FURNACE and DISARM_FURNACE (R55, R56), the start evaluation (R57, R58, R52) and the final computation (R61,
R63 to R65). -/

namespace Sys2Proof.Machine

/-! ### The candidate of a start evaluation (R57) -/

/-- R57: the record with the greatest head, the first of those with equal heads. -/
theorem mostDownstream_append {pre post : List TableRecord} {r : TableRecord} (hpre : ∀ x ∈ pre, x.anchor < r.anchor)
    (hpost : ∀ x ∈ post, x.anchor ≤ r.anchor) : mostDownstream (pre ++ r :: post) = some r := by
  induction pre with
  | nil =>
    rw [List.nil_append, mostDownstream]
    cases hm : mostDownstream post with
    | none => rfl
    | some b => exact congrArg some (if_neg (hpost b (mostDownstream_mem hm)).not_gt)
  | cons x pre ih =>
    rw [List.cons_append, mostDownstream, ih fun y hy => hpre y (List.mem_cons_of_mem _ hy)]
    exact congrArg some (if_pos (hpre x List.mem_cons_self))

theorem candidateFor_iff (k : Furnace) (r : TableRecord) :
    r.candidateFor k = true ↔ r.state = .ready ∧ r.dest = some k := by
  simp [TableRecord.candidateFor, TableRecord.ready]

section
variable {k : Furnace} {s : State}

theorem candidate_none (h : ∀ r ∈ s.tracker.table, ¬ (r.state = .ready ∧ r.dest = some k)) : s.candidate k = none := by
  have empty : s.tracker.table.filter (TableRecord.candidateFor k) = [] :=
    List.filter_eq_nil_iff.2 fun r hr => mt (candidateFor_iff k r).1 (h r hr)
  rw [State.candidate, empty, mostDownstream]

theorem candidate_append {pre post : List TableRecord} {r : TableRecord} (ht : s.tracker.table = pre ++ r :: post)
    (hr : r.state = .ready ∧ r.dest = some k)
    (hpre : ∀ x ∈ pre, x.state = .ready ∧ x.dest = some k → x.anchor < r.anchor)
    (hpost : ∀ x ∈ post, x.state = .ready ∧ x.dest = some k → x.anchor ≤ r.anchor) : s.candidate k = some r := by
  rw [State.candidate, ht, List.filter_append, List.filter_cons_of_pos ((candidateFor_iff k r).2 hr)]
  refine mostDownstream_append (fun x hx => ?_) fun x hx => ?_
  · obtain ⟨mem, own⟩ := List.mem_filter.1 hx
    exact hpre x mem ((candidateFor_iff k x).1 own)
  · obtain ⟨mem, own⟩ := List.mem_filter.1 hx
    exact hpost x mem ((candidateFor_iff k x).1 own)

/-! ### The bars of a start evaluation (R52, R57) -/

theorem startBar_mode (h : s.ret.mode ≠ .run) : s.startBar k = some .mode := if_pos h

theorem startBar_supervision (hm : s.ret.mode = .run) (h : s.mgmt.supervision = .lost) :
    s.startBar k = some .supervision := by
  unfold State.startBar
  rw [if_neg (not_not.2 hm), h]
  rfl

theorem isOk_of_ne_lost {v : Supervision} (h : v ≠ .lost) : v.isOk = true := by
  cases v with
  | ok => rfl
  | lost => exact absurd rfl h

theorem startBar_unhomed (hm : s.ret.mode = .run) (h : s.mgmt.supervision ≠ .lost) (hh : s.homed k = false) :
    s.startBar k = some .unhomed := by
  unfold State.startBar
  rw [if_neg (not_not.2 hm), isOk_of_ne_lost h, hh]
  rfl

theorem startBar_none (hm : s.ret.mode = .run) (h : s.mgmt.supervision ≠ .lost) (hh : s.homed k = true) :
    s.startBar k = none := by
  unfold State.startBar
  rw [if_neg (not_not.2 hm), isOk_of_ne_lost h, hh]
  rfl

theorem startEval_bar {w : Waiting} (hi : (s.seqs.get k).state = .idle) (hb : s.startBar k = some w) :
    startEval k s = showWaiting k w s := by
  unfold startEval State.seq
  rw [if_neg (not_not.2 hi), hb]

theorem startEval_loop (hi : (s.seqs.get k).state = .idle) (hb : s.startBar k = none) :
    startEval k s = startLoop k (s.tracker.table.length + 1) s := by
  unfold startEval State.seq
  rw [if_neg (not_not.2 hi), hb]

theorem startEval_busy (h : (s.seqs.get k).state ≠ .idle) : startEval k s = s := if_pos h

/-! ### One record of a start evaluation (R57, R58) -/

theorem startLoop_none {n : Nat} (h : s.candidate k = none) : startLoop k (n + 1) s = showWaiting k .noSlab s := by
  rw [startLoop, h]

theorem placeInput_some {kind : PlacementKind} {r : TableRecord} {lane : Lane} {g : FurnaceGeometry}
    (hg : s.cfg.geometry.get k = some g) : s.placeInput kind k r lane = some
      { kind, furnace := k, record := r, lane, map := s.maps.get k, geometry := g, gaps := s.cfg.gaps.get k
        bounds := s.cfg.bounds, lastStroke := (s.place.get k).lastStroke } := by
  unfold State.placeInput State.geometry
  rw [hg]
  rfl

theorem startLoop_some {n : Nat} {r : TableRecord} {i : PlaceInput} (h : s.candidate k = some r)
    (hi : s.placeInput .provisional k r .c = some i) : startLoop k (n + 1) s =
      match i.compute.result with
      | .placed => beginCycle k r i.compute (placementMarks i i.compute s)
      | .pair => beginCycle k r i.compute (placementMarks i i.compute s)
      | .strokes => beginCycle k r i.compute (placementMarks i i.compute s)
      | .noFit => startLoop k n (holdTag .noFit r.tag (placementMarks i i.compute s))
      | .unmeasured => startLoop k n (holdTag .unmeasured r.tag (placementMarks i i.compute s))
      | .full => showWaiting k (.full r.tag) (placementMarks i i.compute s)
      | .mapFull => showWaiting k (.mapFull r.tag) (placementMarks i i.compute s) := by
  rw [startLoop, h]
  dsimp only
  split
  · next e => rw [hi] at e; cases e
  · next e =>
    rw [hi] at e
    cases e
    rfl

end

/-- R58: the cycle of a record whose computation has a lane and a class. -/
theorem beginCycle_fields {k : Furnace} {r : TableRecord} {p : PlacementRecord} {tg : TableGeometry} {lane : Lane}
    {cls : Nat} {s : State} (ht : s.cfg.tableGeometry = some tg) (hl : p.lane = some lane) (hc : p.cls = some cls) :
    beginCycle k r p s = { s with
      seqs := s.seqs.set k { s.seqs.get k with
        state := .positioning, waiting := .grant
        cycle := some
          { tag := r.tag, id := r.id, lane, provisional := p, final := none, target := none, cls
            outstanding := 0, corrective := 0, timer := none, measured := none } }
      arb := { s.arb with requests := s.arb.requests.set k (some
        { tag := r.tag, target := tg.chargePosition k lane, status := .waiting }) }
      due := { s.due with tableRule := true, gridEval := true } } := by
  unfold beginCycle newCycle
  rw [ht, hl, hc]
  rfl

/-! ### A slab held (R85) -/

/-- R85: the hold of the first record with a tag: its state, then what the hold brings about beside the table list. -/
theorem holdTag_fields {cause : SlabCause} {tag : Nat} {r : TableRecord} {s : State}
    (hr : s.tracker.table.find? (fun r => r.tag == tag) = some r) (hs : r.state ≠ .reject) :
    (holdTag cause tag s).tracker = { s.tracker with
        table := s.tracker.table.map fun x => if x.tag = r.tag then { x with state := .held cause } else x }
      ∧ (holdTag cause tag s).arb = s.arb ∧ (holdTag cause tag s).seqs = s.seqs := by
  have marked (b : Bool) (t : State) : markReady b (markList t) = { t with due := (markReady b (markList t)).due } := by
    unfold markReady
    split <;> rfl
  have held : holdTag cause tag s = placeHold cause r s := by
    unfold holdTag State.findTag
    rw [hr]
  rw [held]
  unfold placeHold
  split
  · next h => exact absurd h hs
  · rw [marked, raise_eq]
    exact ⟨rfl, rfl, rfl⟩

theorem map_tag_others {l : List TableRecord} {tag : Nat} (f : TableRecord → TableRecord) (h : ∀ x ∈ l, x.tag ≠ tag) :
    (l.map fun x => if x.tag = tag then f x else x) = l :=
  (List.map_congr_left fun x hx => if_neg (h x hx)).trans (List.map_id l)

/-- In a list whose tags differ the other records have other tags. -/
theorem tags_apart {pre post : List TableRecord} {r : TableRecord} (ht : ((pre ++ r :: post).map (·.tag)).Nodup) :
    (∀ x ∈ pre, x.tag ≠ r.tag) ∧ ∀ x ∈ post, x.tag ≠ r.tag := by
  rw [List.map_append, List.map_cons, List.nodup_append, List.nodup_cons] at ht
  obtain ⟨-, ⟨behind, -⟩, apart⟩ := ht
  refine ⟨fun x hx => apart _ (List.mem_map_of_mem hx) _ List.mem_cons_self, fun x hx e => behind ?_⟩
  rw [← e]
  exact List.mem_map_of_mem hx

/-- The records of a list whose tags differ, after a change of those with one record's tag. -/
theorem map_tag_append {pre post : List TableRecord} {r : TableRecord} (f : TableRecord → TableRecord)
    (ht : ((pre ++ r :: post).map (·.tag)).Nodup) :
    ((pre ++ r :: post).map fun x => if x.tag = r.tag then f x else x) = pre ++ f r :: post := by
  obtain ⟨ahead, behind⟩ := tags_apart ht
  rw [List.map_append, List.map_cons, if_pos rfl, map_tag_others f ahead, map_tag_others f behind]

theorem find?_tag_append {pre post : List TableRecord} {r : TableRecord} (hpre : ∀ x ∈ pre, x.tag ≠ r.tag) :
    (pre ++ r :: post).find? (fun x => x.tag == r.tag) = some r := by
  have none : pre.find? (fun x => x.tag == r.tag) = none :=
    List.find?_eq_none.2 fun x hx => by simpa using hpre x hx
  rw [List.find?_append, none, Option.none_or]
  exact List.find?_cons_of_pos (beq_iff_eq.2 rfl)

/-- A change of the records that leaves the tags finds the changed record by its tag. -/
theorem find?_map_tag {l : List TableRecord} {tag : Nat} {r : TableRecord} {f : TableRecord → TableRecord}
    (hf : ∀ x, (f x).tag = x.tag) (h : l.find? (fun x => x.tag == tag) = some r) :
    (l.map f).find? (fun x => x.tag == tag) = some (f r) := by
  have same : ((fun x : TableRecord => x.tag == tag) ∘ f) = fun x => x.tag == tag :=
    funext fun x => by rw [Function.comp_apply, hf]
  rw [List.find?_map, same, h]
  rfl

/-! ### The final computation (R61, R63 to R65) -/

section
variable {k : Furnace} {c : CycleRecord} {r : TableRecord} {g : FurnaceGeometry} {s : State}

theorem runFinal_eq {i : PlaceInput} (hc : (s.seqs.get k).cycle = some c)
    (hr : s.tracker.table.find? (fun r => r.tag == c.tag) = some r) (hi : s.placeInput .final k r c.lane = some i) :
    runFinal k s = decideFinal k c.tag i.compute { placementMarks i i.compute s with
      seqs := s.seqs.set k { s.seqs.get k with cycle := some (c.withFinal i.compute) } } := by
  have own : ((placementMarks i i.compute s).seqs.get k).cycle = some c := by rw [placementMarks_seqs]; exact hc
  have updated := updateCycle_eq (CycleRecord.withFinal i.compute) own
  rw [placementMarks_seqs] at updated
  unfold runFinal State.cycle State.seq State.findTag
  rw [hc]
  dsimp only
  rw [hr, Option.bind_some, hi]
  dsimp only
  rw [updated]

/-- R53: an entry into a state whose timer starts. -/
theorem startTimer_putSeqState {st : SeqState} {w : Waiting} {x : TimeoutKind} (hc : (s.seqs.get k).cycle = some c) :
    startTimer k x (putSeqState k st w s) = { s with
      seqs := s.seqs.set k { s.seqs.get k with
        state := st, waiting := w, cycle := some { c with timer := some ⟨x, s.timeoutMs k x⟩ } } } := by
  have entered : ((putSeqState k st w s).seqs.get k) = { s.seqs.get k with state := st, waiting := w } :=
    PerFurnace.get_set ..
  unfold startTimer
  rw [updateCycle_eq (c := c) _ (by rw [entered]; exact hc), entered]
  have set : (putSeqState k st w s).seqs = s.seqs.set k { s.seqs.get k with state := st, waiting := w } := rfl
  rw [set, PerFurnace.set_set]
  rfl

theorem orderCharge_eq {target : Int} (hc : (s.seqs.get k).cycle = some c) (hg : s.cfg.geometry.get k = some g) :
    orderCharge k target s = { sendField (.charger k) 0
        (.chargeOrder c.tag c.id c.lane target (target - g.armOffset) c.cls) s with
      seqs := s.seqs.set k { s.seqs.get k with
        state := .pick, waiting := .none
        cycle := some { c with timer := some ⟨.pick, 1000 * (s.cfg.timing.get k).getD 2 0⟩ } } } := by
  have sent := sendField_linksOnly (.charger k) 0
    (.chargeOrder c.tag c.id c.lane target (target - g.armOffset) c.cls) s
  unfold orderCharge State.cycle State.geometry State.seq
  rw [hc, hg]
  dsimp only
  rw [startTimer_putSeqState (c := c) (by rw [sent.seqs]; exact hc), sent.seqs, State.timeoutMs, sent.cfg]
  rfl

theorem requestStrokes_eq {n d : Int} (hc : (s.seqs.get k).cycle = some c) :
    requestStrokes k n d s = { sendField (.beam k) 0 (.strokeRequest c.tag (min n.toNat 8) d) s with
      seqs := s.seqs.set k { s.seqs.get k with
        state := .room, waiting := .strokes
        cycle := some { c with
          outstanding := min n.toNat 8, timer := some ⟨.stroke, 1000 * (s.cfg.timing.get k).getD 1 0⟩ } } } := by
  have sent := sendField_linksOnly (.beam k) 0 (.strokeRequest c.tag (min n.toNat 8) d) s
  unfold requestStrokes State.cycle State.seq
  rw [hc]
  dsimp only
  unfold strokeBatch
  rw [updateCycle_eq (c := c) _ (by rw [sent.seqs]; exact hc), sent.seqs,
    startTimer_putSeqState (c := { c with outstanding := min n.toNat 8 }) (by rw [PerFurnace.get_set])]
  dsimp only
  rw [PerFurnace.get_set, PerFurnace.set_set, State.timeoutMs]
  dsimp only
  rw [sent.cfg]
  rfl

theorem waitInRoom_eq {w : Waiting} (hc : (s.seqs.get k).cycle = some c) :
    waitInRoom k w s = { s with
      seqs := s.seqs.set k { s.seqs.get k with
        state := .room, waiting := w, cycle := some { c with timer := none } } } := by
  have entered : ((putSeqState k .room w s).seqs.get k) = { s.seqs.get k with state := .room, waiting := w } :=
    PerFurnace.get_set ..
  unfold waitInRoom stopTimer
  rw [updateCycle_eq (c := c) _ (by rw [entered]; exact hc), entered]
  have set : (putSeqState k .room w s).seqs = s.seqs.set k { s.seqs.get k with state := .room, waiting := w } := rfl
  rw [set, PerFurnace.set_set]
  rfl

end

end Sys2Proof.Machine
end

section
/-! Settles O26: ARM_FURNACE, DISARM_FURNACE, the start evaluation and the final computation (R52, R55 to R58, R61, R63
to R65). -/

namespace Sys2Proof.Machine

/-! ### A slab held by a start evaluation (R57) -/

/-- R57: the table list after the provisional computation of a record has held its slab. -/
theorem heldByStart_table {cause : SlabCause} {i : PlaceInput} {p : PlacementRecord} {pre post : List TableRecord}
    {r : TableRecord} {s : State} (hir : i.record = r) (ht : s.tracker.table = pre ++ r :: post)
    (hn : (s.tracker.table.map (·.tag)).Nodup) (hs : r.state = .ready) :
    let marked := placementMarks i p s
    let t := holdTag cause r.tag marked
    t.tracker = { s.tracker with
        table := pre ++ { r with
          state := .held cause
          substituted := marked.tracker.table.any fun x => x.tag == r.tag && x.substituted } :: post }
      ∧ t.arb = s.arb ∧ t.seqs = s.seqs := by
  intro marked t
  rw [ht] at hn
  obtain ⟨ahead, behind⟩ := tags_apart hn
  have tracker : marked.tracker = { s.tracker with table := pre ++ { r with substituted := i.substitutes } :: post } := by
    rw [placementMarks_tracker, hir, ht, map_tag_append _ hn]
  have tag : ({ r with substituted := i.substitutes } : TableRecord).tag = r.tag := rfl
  have found : marked.tracker.table.find? (fun x => x.tag == r.tag) = some { r with substituted := i.substitutes } := by
    rw [tracker]
    exact find?_tag_append (r := { r with substituted := i.substitutes }) ahead
  obtain ⟨held, arb, seqs⟩ := holdTag_fields (cause := cause) found (by rw [hs]; decide)
  have flag : (marked.tracker.table.any fun x => x.tag == r.tag && x.substituted) = i.substitutes := by
    have others (l : List TableRecord) (hl : ∀ x ∈ l, x.tag ≠ r.tag) :
        (l.any fun x => x.tag == r.tag && x.substituted) = false :=
      List.any_eq_false.2 fun x hx => by simp [hl x hx]
    rw [tracker, List.any_append, List.any_cons, others _ ahead, others _ behind]
    simp
  refine ⟨?_, arb.trans (placementMarks_arb ..), seqs.trans (placementMarks_seqs ..)⟩
  rw [flag, held, tracker]
  have mapped := map_tag_append (r := { r with substituted := i.substitutes }) (fun x => { x with state := .held cause })
    (pre := pre) (post := post) (by simpa using hn)
  rw [mapped]

/-! ### A slab held by a final computation (R61) -/

/-- R61: what holds the slab of a cycle and enters IDLE. -/
theorem holdAndIdle_fields {k : Furnace} {cause : SlabCause} {tag : Nat} {r : TableRecord} {s : State}
    (hr : s.tracker.table.find? (fun r => r.tag == tag) = some r) :
    let u := holdAndIdle k cause tag s
    IdleFrom (s.seqs.get k) (u.seqs.get k) ∧ u.due.start.get k = true ∧ u.arb.holds.get k = false
      ∧ (r.state ≠ .reject → u.tracker.table.find? (fun r => r.tag == tag) = some { r with state := .held cause })
      ∧ u.seqs.get (otherFurnace k) = s.seqs.get (otherFurnace k) := by
  intro u
  have seqs : (holdTag cause tag s).seqs = s.seqs := (Quiet.holdTag cause tag s).seqs
  have idle := enterIdle_idleFrom k (holdTag cause tag s)
  have other := enterIdle_seqs_other k (holdTag cause tag s)
  obtain ⟨-, -, -, -, tracker, -⟩ := enterIdle_keepsAccounts k (holdTag cause tag s)
  obtain ⟨d, w, -, he⟩ := enterIdle_eq k (holdTag cause tag s)
  rw [seqs] at idle other
  refine ⟨idle, enterIdle_start_due .., ?_, fun hs => ?_, other⟩
  · change (enterIdle k (holdTag cause tag s)).arb.holds.get k = false
    rw [he]
    exact PerFurnace.get_set ..
  · obtain ⟨held, -, -⟩ := holdTag_fields (cause := cause) hr hs
    have tagged : r.tag = tag := by simpa using List.find?_some hr
    change (enterIdle k (holdTag cause tag s)).tracker.table.find? _ = _
    rw [tracker, held]
    dsimp only
    rw [find?_map_tag (fun x => by split <;> rfl) hr, if_pos rfl]

/-! ### The statement -/

/-- Settles O26: each command's checks in their order; a start evaluation by its first bar or its candidate's
computation; a final computation by its result. -/
theorem armAndDisarm : Obligations.ArmAndDisarm := by
  refine ⟨fun h k s hm hf => ?arm, fun h k s hm hf => ?disarm, fun k s => ?start, fun k c r g s hc hr hg => ?final⟩
  case arm =>
    intro answer q
    have refused {c : RespCode} {d : RespData} (own : ownArm (.val k) s = .error (c, d)) :
        exec (.armFurnace h (.val k)) s = answer c d := command_refused hm hf own
    refine ⟨fun hr => refused (ownArm_mode hr), fun hr ho => refused (ownArm_armed hr ho),
      fun hr ho hg => refused ?geometry, fun hr ho hg ht => refused ?table, fun hr ho hg ht hp => refused ?partners,
      fun hr ho hg ht hp => ?armed⟩
    case geometry => rw [ownArm_tables hr ho, missingTable_geometry hg]
    case table => rw [ownArm_tables hr ho, missingTable_table hg ht]
    case partners => rw [ownArm_tables hr ho, missingTable_partners hg ht hp]
    case armed =>
      have own : ownArm (.val k) s = .ok (.none, enterIdle k) := by
        rw [ownArm_tables hr ho, missingTable_none hg ht hp]
      have idle := enterIdle_idleFrom k (respond h Kind.command .ok none .none s)
      have other := enterIdle_seqs_other k (respond h Kind.command .ok none .none s)
      have accounts := enterIdle_keepsAccounts k (respond h Kind.command .ok none .none s)
      simp only [respond_seqs] at idle other
      exact ⟨_, command_taken hm hf own, idle, enterIdle_start_due .., other, enterIdle_links ..,
        by simpa [KeepsAccounts] using accounts⟩
  case disarm =>
    intro q
    let answered := respond h Kind.command .ok none .none s
    have only : LinksOnly s answered := respond_linksOnly ..
    refine ⟨fun hq => command_refused hm hf (ownDisarm_refused ((disarmRefused_iff q).2 hq)), fun hq => ?offline,
      fun hq => ?leaves⟩
    case offline =>
      have allowed : disarmRefused q = false :=
        Bool.eq_false_of_not_eq_true fun busy => by simp [disarmRefused_iff, hq] at busy
      have taken := command_taken (c := .disarmFurnace h (.val k)) hm hf (ownDisarm_ok allowed)
      rw [disarm_offline (by rw [respond_seqs]; exact hq)] at taken
      exact taken
    case leaves =>
      have allowed : disarmRefused q = false := Bool.eq_false_of_not_eq_true fun busy => by
        rcases hq with hq | hq | hq | ⟨hq, hn⟩ <;> simp [disarmRefused_iff, hq] at busy
        exact absurd hn (Option.isSome_iff_ne_none.1 busy)
      have armed : q.state ≠ .offline := by rcases hq with hq | hq | hq | ⟨hq, -⟩ <;> rw [hq] <;> decide
      have taken := command_taken (c := .disarmFurnace h (.val k)) hm hf (ownDisarm_ok allowed)
      refine ⟨disarm k answered, taken, ?_⟩
      by_cases hp : q.state = .positioning
      · obtain ⟨d, left⟩ := abandonMove_fields k .disarmed answered
        obtain ⟨d', gone⟩ := enterOffline_fields k (abandonMove k .disarmed answered)
        have disarmed : disarm k answered = _ := (disarm_positioning (by rw [only.seqs]; exact hp)).trans gone
        rw [left] at disarmed
        rw [disarmed]
        refine ⟨?seq, ?stopped, PerFurnace.get_set .., fun _ => ⟨PerFurnace.get_set .., ?motion, ?links⟩,
          fun hn => absurd hp hn, ?other, only.cfg, only.mgmt, only.schedule, only.grid, only.tracker, only.place,
          only.maps, only.counters, only.sensors, congrArg Retention.mode only.ret, congrArg Retention.clock only.ret⟩
        case seq =>
          dsimp only
          rw [only.seqs, PerFurnace.get_set]
        case stopped =>
          dsimp only
          rw [PerFurnace.get_set]
        case motion =>
          dsimp only
          rw [only.arb]
        case links =>
          dsimp only
          rw [only.arb]
        case other =>
          dsimp only
          rw [only.seqs, PerFurnace.get_set_other]
      · obtain ⟨d, gone⟩ := enterOffline_fields k answered
        have disarmed : disarm k answered = _ := (disarm_beside (by rw [only.seqs]; exact armed) (by rw [only.seqs]; exact hp)).trans gone
        rw [disarmed]
        refine ⟨?seq, ?stopped, PerFurnace.get_set .., fun hn => absurd hn hp,
          fun _ => ⟨?motion, rfl⟩, ?other, only.cfg, only.mgmt, only.schedule, only.grid,
          only.tracker, only.place, only.maps, only.counters, only.sensors, congrArg Retention.mode only.ret,
          congrArg Retention.clock only.ret⟩
        case seq =>
          dsimp only
          rw [only.seqs, PerFurnace.get_set]
        case stopped =>
          dsimp only
          rw [PerFurnace.get_set]
        case motion =>
          dsimp only
          rw [only.arb]
        case other =>
          dsimp only
          rw [only.seqs, PerFurnace.get_set_other]
  case start =>
    intro q showing ready
    refine ⟨fun hq => startEval_busy hq, fun hq hr => startEval_bar hq (startBar_mode hr),
      fun hq hr hl => startEval_bar hq (startBar_supervision hr hl),
      fun hq hr hl hh => startEval_bar hq (startBar_unhomed hr hl hh), fun hq hr hl hh => ⟨fun hn => ?noSlab,
        fun pre r post g tg ht hn hready hpre hpost hg htg => ?candidate⟩⟩
    all_goals rw [startEval_loop hq (startBar_none hr hl hh)]
    case noSlab => exact startLoop_none (candidate_none hn)
    case candidate =>
      intro i p marked
      have one := startLoop_some (n := s.tracker.table.length) (i := i) (candidate_append ht hready hpre hpost)
        (placeInput_some hg)
      have shown (w : Waiting) : showWaiting k w marked = showing w marked := rfl
      refine ⟨fun lane cls hp hlane hcls => ?begun, fun hp => ?full, fun hp => ?mapFull,
        fun cause hp hothers => ?held⟩
      case full =>
        rw [one, show i.compute.result = _ from hp]
        exact shown _
      case mapFull =>
        rw [one, show i.compute.result = _ from hp]
        exact shown _
      case begun =>
        have begun : startLoop k (s.tracker.table.length + 1) s = beginCycle k r p marked := by
          rw [one]
          rcases hp with hp | hp | hp <;> rw [show i.compute.result = _ from hp]
        have cycle := beginCycle_fields (k := k) (r := r) (s := marked)
          ((congrArg Tables.tableGeometry (placementMarks_cfg ..)).trans htg) hlane hcls
        rw [placementMarks_seqs, placementMarks_arb, placementMarks_due] at cycle
        exact begun.trans cycle
      case held =>
        obtain ⟨table, arb, seqs⟩ := heldByStart_table (cause := cause) (i := i) (p := p) rfl ht hn hready.1
        have next : startLoop k (s.tracker.table.length + 1) s =
            startLoop k s.tracker.table.length (holdTag cause r.tag marked) := by
          rw [one]
          rcases hp with ⟨hp, rfl⟩ | ⟨hp, rfl⟩ <;> rw [show i.compute.result = _ from hp]
        obtain ⟨n, length⟩ : ∃ n, s.tracker.table.length = n + 1 := ⟨pre.length + post.length, by rw [ht]; simp; omega⟩
        have empty : (holdTag cause r.tag marked).candidate k = none := by
          refine candidate_none fun x hx => ?_
          rw [table] at hx
          rcases List.mem_append.1 hx with hx | hx
          · exact hothers x (List.mem_append_left _ hx)
          · rcases List.mem_cons.1 hx with rfl | hx
            · exact fun ready => by cases ready.1
            · exact hothers x (List.mem_append_right _ hx)
        rw [next, length, startLoop_none empty]
        refine ⟨?_, table, arb⟩
        unfold showWaiting State.setSeq State.seq
        rw [State.setSeqs_seqs, seqs]
  case final =>
    intro q i p marked seconds cls
    have run := runFinal_eq (i := i) hc hr (placeInput_some hg)
    let u : State := { marked with seqs := s.seqs.set k { q with cycle := some (c.withFinal p) } }
    have cycle : (u.seqs.get k).cycle = some (c.withFinal p) := by rw [PerFurnace.get_set]
    have geometry : u.cfg.geometry.get k = some g := by rw [← hg]; exact congrArg (·.geometry.get k) (placementMarks_cfg ..)
    have timing : u.cfg.timing = s.cfg.timing := congrArg Tables.timing (placementMarks_cfg ..)
    refine ⟨fun target hp ht => ?order, fun n d hp hn hd => ?strokes, fun w hp => ?wait, fun cause hp => ?held⟩
    case order =>
      have ordered : runFinal k s = orderCharge k target u := by
        rw [run]
        unfold decideFinal
        rcases hp with hp | hp <;> rw [show i.compute.result = _ from hp, show i.compute.target = _ from ht] <;> rfl
      have chosen : c.withFinal p = { c with final := some p, cls, target := some target } := by
        unfold CycleRecord.withFinal
        rw [if_pos hp, ht]
      rw [ordered, orderCharge_eq cycle geometry, chosen, timing, sendField_withSeqs]
      dsimp only [u]
      rw [PerFurnace.get_set, PerFurnace.set_set]
    case strokes =>
      have requested : runFinal k s = requestStrokes k n d u := by
        rw [run]
        unfold decideFinal
        rw [show i.compute.result = _ from hp]
        dsimp only
        rw [PlacementRecord.strokeCount, show i.compute.strokes = _ from hn, show i.compute.divisor = _ from hd]
        rfl
      have chosen : c.withFinal p = { c with final := some p, cls } := by
        unfold CycleRecord.withFinal
        rw [if_neg (by rw [hp]; decide)]
      rw [requested, requestStrokes_eq cycle, chosen, timing, sendField_withSeqs]
      dsimp only [u]
      rw [PerFurnace.get_set, PerFurnace.set_set]
    case wait =>
      have waits : runFinal k s = waitInRoom k w u := by
        rw [run]
        unfold decideFinal
        rcases hp with ⟨hp, rfl⟩ | ⟨hp, rfl⟩ <;> rw [show i.compute.result = _ from hp]
      have chosen : c.withFinal p = { c with final := some p, cls } := by
        unfold CycleRecord.withFinal
        rcases hp with ⟨hp, -⟩ | ⟨hp, -⟩ <;> rw [if_neg (by rw [hp]; decide)]
      rw [waits, waitInRoom_eq cycle, chosen]
      dsimp only [u]
      rw [PerFurnace.get_set, PerFurnace.set_set]
    case held =>
      intro v
      have holds : v = holdAndIdle k cause c.tag u := by
        rw [show v = _ from run]
        unfold decideFinal
        rcases hp with ⟨hp, rfl⟩ | ⟨hp, rfl⟩ <;> rw [show i.compute.result = _ from hp]
      let f : TableRecord → TableRecord := fun x => if x.tag = i.record.tag then { x with substituted := i.substitutes } else x
      have table : u.tracker.table = s.tracker.table.map f := congrArg Tracker.table (placementMarks_tracker ..)
      have found : u.tracker.table.find? (fun x => x.tag == c.tag) = some (f r) := by
        rw [table]
        exact find?_map_tag (fun x => by dsimp only [f]; split <;> rfl) hr
      have flagged : f r = { r with substituted := i.substitutes } := if_pos rfl
      obtain ⟨idle, due, hold, state, other⟩ := holdAndIdle_fields (k := k) (cause := cause) found
      have records := keepsCounters_blockClosed.runFinal k s
      rw [flagged] at state
      rw [← holds] at idle due hold state other
      have seq : u.seqs.get k = { q with cycle := some (c.withFinal p) } := PerFurnace.get_set ..
      rw [seq] at idle
      exact ⟨idle, due, hold, fun hs => ⟨i.substitutes, state hs⟩, other.trans (PerFurnace.get_set_other ..),
        records.maps, records.schedule, records.cfg⟩

end Sys2Proof.Machine
end

section
/-! Settles O29: RESOLVE_INFLIGHT (R75, R11, R50, R5). -/

namespace Sys2Proof.Machine

/-- R10, R11: the entry that a link names is taken out of the schedule. -/
theorem removeLink_fields (link : Option Nat) (s : State) :
    removeLink link s = { s with schedule := s.schedule.filter fun e => some e.seq != link } := by
  unfold removeLink
  cases link with
  | none =>
    have same : (s.schedule.filter fun e => some e.seq != none) = s.schedule :=
      List.filter_eq_self.2 fun e _ => rfl
    rw [same]
  | some q =>
    have same : (s.schedule.filter fun e => some e.seq != some q) = s.schedule.filter fun e => e.seq != q :=
      List.filter_congr fun e _ => by simp [bne]
    rw [same]
    rfl

/-! ### The resolution insert (R11) -/

/-- R11: the slab's row, its LANDED behind a possible OVERRUN, and its entry taken out of the schedule. -/
theorem resolutionInsert_fields {k : Furnace} {f : InFlight} {o : Option Operands} {pre post : List Row} {front : Int}
    {s : State} (hr : (s.maps.get k).rows = pre ++ post) (hpre : ∀ r ∈ pre, front ≤ r.front)
    (hpost : ∀ r, post.head? = some r → r.front < front) :
    let x := slabFrom f o none s.ret.clock
    let t := resolutionInsert k f o front s
    t = { s with links := t.links, ret := t.ret, maps := t.maps, schedule := t.schedule }
      ∧ t.maps = s.maps.set k
          { rows := (if post = [] then closeLast pre else pre)
              ++ { front, extent := x.width, occ := .c x, pairOpen := false, overrun := s.beyond k front } :: post
            lastLanding := front }
      ∧ (let landed := Event.landed x.tag x.id k pre.length .c front none x.mass
        (s.beyond k front = true →
            SameLines (raise landed (raise (.overrun k pre.length front [(x.tag, x.id)]) s)) t)
          ∧ (s.beyond k front = false → SameLines (raise landed s) t))
      ∧ t.schedule = s.schedule.filter fun e => some e.seq != f.record.link := by
  intro x t
  obtain ⟨only, maps, told, untold⟩ := insertSlabRow_fields (s := s) (x := x) hr hpre hpost
  obtain ⟨l, r, m, row⟩ : ∃ l r m, insertSlabRow k front x s = { s with links := l, ret := r, maps := m } :=
    ⟨_, _, _, only⟩
  have index : insertIndex front (s.map k).rows = pre.length := by
    unfold State.map
    rw [hr, insertIndex_append hpre hpost]
  let v := insertSlabRow k front x s
  let u : State := { v.setMap k { v.map k with lastLanding := front } with
    schedule := s.schedule.filter fun e => some e.seq != f.record.link }
  have schedule : v.schedule = s.schedule := by rw [show v = _ from row]
  have maps' : u.maps = s.maps.set k
      { rows := (if post = [] then closeLast pre else pre)
          ++ { front, extent := x.width, occ := .c x, pairOpen := false, overrun := s.beyond k front } :: post
        lastLanding := front } := by
    have set : u.maps = v.maps.set k { v.maps.get k with lastLanding := front } := rfl
    rw [set, show v.maps = _ from maps, PerFurnace.get_set, PerFurnace.set_set]
  have same : SameLines v u := ⟨rfl, rfl, rfl⟩
  have unfolded : t = raise (.landed x.tag x.id k (insertIndex front (s.map k).rows) .c front none x.mass) u := by
    change raise _ (removeLink f.record.link (v.setMap k { v.map k with lastLanding := front })) = _
    rw [removeLink_fields, State.setMap, State.setMaps_schedule, schedule]
    rfl
  rw [index] at unfolded
  have kept := untouched_send.raise (.landed x.tag x.id k pre.length .c front none x.mass) u
  rw [unfolded]
  refine ⟨?_, kept.maps.trans maps', ⟨fun h => ((told h).trans same).raise _, fun h => ((untold h).trans same).raise _⟩,
    kept.schedule⟩
  rw [raise_eq]
  dsimp only [u]
  rw [show v = _ from row]
  rfl

/-! ### After the resolution (R75) -/

/-- R75: the in-flight record is gone, and the sequencer enters IDLE where the arms are clear of the door. -/
theorem afterResolution_fields {k : Furnace} {s : State} (h : (s.seqs.get k).state = .held) :
    let u := afterResolution k s
    (u.seqs.get k).inflight = none ∧ (u.seqs.get k).state = resolvedState s k
      ∧ u.seqs.get (otherFurnace k) = s.seqs.get (otherFurnace k) ∧ u.links = s.links ∧ u.ret = s.ret
      ∧ KeepsAccounts s u := by
  intro u
  let v := markGrid (putInFlight k none s)
  have seq : v.seqs.get k = { s.seqs.get k with inflight := none } := PerFurnace.get_set ..
  have other : v.seqs.get (otherFurnace k) = s.seqs.get (otherFurnace k) := PerFurnace.get_set_other ..
  have clear : v.armsClear k = s.armsClear k := rfl
  have unfolded : u = if v.armsClear k then enterIdle k v else v := rfl
  rw [clear] at unfolded
  unfold resolvedState
  cases hc : s.armsClear k with
  | true =>
    rw [hc, if_pos rfl] at unfolded
    obtain ⟨d, w, -, he⟩ := enterIdle_eq k v
    rw [unfolded, he]
    refine ⟨?_, ?_, ?_, rfl, rfl, ?_⟩
    · exact (congrArg Sequencer.inflight (PerFurnace.get_set ..)).trans (congrArg Sequencer.inflight seq)
    · exact congrArg Sequencer.state (PerFurnace.get_set ..)
    · exact (PerFurnace.get_set_other ..).trans other
    · exact ⟨rfl, rfl, rfl, rfl, rfl, rfl, rfl, rfl, rfl, rfl, rfl⟩
  | false =>
    rw [hc, if_neg (by decide)] at unfolded
    rw [unfolded, seq, other]
    exact ⟨rfl, h, rfl, rfl, rfl, rfl, rfl, rfl, rfl, rfl, rfl, rfl, rfl, rfl, rfl, rfl⟩

theorem resolvedState_eq {k : Furnace} {g : FurnaceGeometry} {s : State} (hg : s.cfg.geometry.get k = some g) :
    resolvedState s k = if s.depth k ≤ g.retractClear then .idle else .held := by
  unfold resolvedState State.armsClear State.geometry
  rw [hg]
  by_cases h : s.depth k ≤ g.retractClear
  · simp [h]
  · simp [h]

/-! ### The checks (R75, R11) -/

section
variable {k : Furnace} {f : InFlight} {front : Int} {s : State}

theorem unresolved_some (hs : (s.seqs.get k).state = .held) (hf : (s.seqs.get k).inflight = some f) :
    (s.seqs.get k).unresolved = some f := (if_pos hs).trans hf

theorem unresolved_none (h : (s.seqs.get k).inflight = none ∨ (s.seqs.get k).state ≠ .held) :
    (s.seqs.get k).unresolved = none := by
  unfold Sequencer.unresolved
  split
  · next hs => exact h.resolve_right (not_not.2 hs)
  · rfl

theorem ownResolveRemoved_some (hu : (s.seqs.get k).unresolved = some f) : ownResolveRemoved (.val k) s =
    .ok (.resolved f.record.tag false (resolvedState s k),
      fun s => afterResolution k (revertLink f.record.link s)) := by
  unfold ownResolveRemoved forSelected State.seq
  dsimp only
  rw [hu]

theorem ownResolve_none (hu : (s.seqs.get k).unresolved = none) :
    ownResolveLanded (.val k) front s = .error (.illegalValue, .none)
      ∧ ownResolveRemoved (.val k) s = .error (.illegalValue, .none) := by
  unfold ownResolveLanded ownResolveRemoved forSelected State.seq
  dsimp only
  rw [hu]
  exact ⟨rfl, rfl⟩

theorem finalOperands_eq {c : CycleRecord} {p : PlacementRecord} {o : Operands} (hc : (s.seqs.get k).cycle = some c)
    (hp : c.final = some p) (ho : p.operands = some o) : s.finalOperands k = some o := by
  unfold State.finalOperands State.cycle State.seq CycleRecord.operands
  rw [hc, Option.bind_some, hp, Option.bind_some, ho]

/-- R11, R75: the checks of a LANDED resolution with the operands of the final computation. -/
theorem ownResolveLanded_some {o : Operands} (hu : (s.seqs.get k).unresolved = some f)
    (ho : s.finalOperands k = some o) : ownResolveLanded (.val k) front s =
      if !figureGiven front then .error (.illegalValue, .none)
      else if !editRange front o.width.value then .error (.outOfRange, .none)
      else match insertChecks front o.width.value (s.maps.get k) with
        | .error c => .error (c, .none)
        | .ok () => .ok (.resolved f.record.tag true (resolvedState s k),
            fun s => afterResolution k (resolutionInsert k f (some o) front s)) := by
  unfold ownResolveLanded forSelected State.seq
  dsimp only
  rw [hu]
  dsimp only
  rw [ho]
  rfl

theorem editRange_iff {w : Int} : editRange front w = true ↔ front ≤ 100000 ∧ 0 ≤ front - w := by
  simp [editRange]

end

/-- R75: the entry that a link names returns to PLANNED. -/
theorem revertLink_fields (link : Option Nat) (s : State) :
    revertLink link s = { s with
      schedule := s.schedule.map fun e => if some e.seq = link then { e with state := .planned } else e } := by
  unfold revertLink
  cases link with
  | none =>
    have same : (s.schedule.map fun e => if some e.seq = none then { e with state := .planned } else e) = s.schedule :=
      (List.map_congr_left fun e _ => if_neg (by simp)).trans (List.map_id _)
    rw [same]
  | some q => simp [setEntryState, State.setSchedule]

/-- R75: the state that a resolution leaves to the sequencer does not depend on the records it settles. -/
theorem resolvedState_of {k : Furnace} {g : FurnaceGeometry} {s t : State} (hg : s.cfg.geometry.get k = some g)
    (hc : t.cfg = s.cfg) (hn : t.counters = s.counters) :
    resolvedState t k = if s.depth k ≤ g.retractClear then .idle else .held := by
  have depth : t.depth k = s.depth k := by
    unfold State.depth State.counter
    rw [hn]
  rw [resolvedState_eq (by rw [hc]; exact hg), depth]

/-- Settles O29: the checks in their order; behind them the slab's row or its entry, the in-flight record deleted and
the entry into IDLE where the arms are clear. -/
theorem resolveInflight : Obligations.ResolveInflight := by
  refine ⟨fun h k f c p o g s hm hs hi hc hp ho hg => ⟨fun front pre post hf hx hmax h0 hr hlen hpre hpost hclear => ?landed,
    fun hf => ?removed⟩, fun h s hm => ⟨fun raw front => ⟨fun hf => command_refused hm hf rfl,
      fun hf => command_refused hm hf rfl⟩, fun k front hn => ?none, fun k front f c p o hs hi hc hp ho => ?checks⟩⟩
  case landed =>
    have next := resolvedState_eq (k := k) hg
    let answered := respond h Kind.command .ok none (.resolved f.record.tag true (resolvedState s k)) s
    have only : LinksOnly s answered := respond_linksOnly ..
    have own : ownResolveLanded (.val k) front s = .ok (.resolved f.record.tag true (resolvedState s k),
        fun s => afterResolution k (resolutionInsert k f (some o) front s)) := by
      rw [ownResolveLanded_some (unresolved_some hs hi) (finalOperands_eq hc hp ho),
        show figureGiven front = true from bne_iff_ne.2 hx, editRange_iff.2 ⟨hmax, h0⟩,
        insertChecks_ok hlen (by rw [hr]; exact hclear)]
      rfl
    obtain ⟨inserted, maps, ⟨told, untold⟩, schedule⟩ := resolutionInsert_fields (k := k) (f := f) (o := some o)
      (s := answered) (by rw [only.maps]; exact hr) hpre hpost
    have seqs : (resolutionInsert k f (some o) front answered).seqs = s.seqs :=
      (congrArg State.seqs inserted).trans only.seqs
    have state := resolvedState_of (t := resolutionInsert k f (some o) front answered) hg
      ((congrArg State.cfg inserted).trans only.cfg) ((congrArg State.counters inserted).trans only.counters)
    obtain ⟨inflight, after, other, links, ret, cfg, -, sched, -, tracker, place, mapsKept, counters, -⟩ :=
      afterResolution_fields (k := k) (s := resolutionInsert k f (some o) front answered) (by rw [seqs]; exact hs)
    have beyond : answered.beyond k front = decide (g.lEff < front) := by
      unfold State.beyond State.geometry
      rw [only.cfg, hg]
    rw [beyond, decide_eq_true_eq] at told
    rw [beyond, decide_eq_false_iff_not] at untold
    refine ⟨_, command_taken hm hf own, ?maps, ?lines, sched.trans (schedule.trans (by rw [only.schedule])), inflight,
      after.trans state, other.trans (by rw [seqs]), tracker.trans ((congrArg State.tracker inserted).trans only.tracker),
      cfg.trans ((congrArg State.cfg inserted).trans only.cfg),
      counters.trans ((congrArg State.counters inserted).trans only.counters),
      place.trans ((congrArg State.place inserted).trans only.place)⟩
    case maps =>
      rw [beyond, only.maps, only.ret] at maps
      exact mapsKept.trans maps
    case lines =>
      rw [← next]
      intro response line lined
      rw [links, ret]
      by_cases newly : g.lEff < front
      · have newlyBeyond : line = raise (.overrun k pre.length front [(f.record.tag, f.record.id)]) response := if_pos newly
        rw [show lined = raise _ line from rfl, newlyBeyond]
        exact ⟨(told newly).links, (told newly).ret⟩
      · have clear : line = response := if_neg newly
        rw [show lined = raise _ line from rfl, clear]
        exact ⟨(untold newly).links, (untold newly).ret⟩
  case removed =>
    have next := resolvedState_eq (k := k) hg
    let answered := respond h Kind.command .ok none (.resolved f.record.tag false (resolvedState s k)) s
    have only : LinksOnly s answered := respond_linksOnly ..
    have reverted := revertLink_fields f.record.link answered
    have seqs : (revertLink f.record.link answered).seqs = s.seqs := (congrArg State.seqs reverted).trans only.seqs
    have state := resolvedState_of (t := revertLink f.record.link answered) hg
      ((congrArg State.cfg reverted).trans only.cfg) ((congrArg State.counters reverted).trans only.counters)
    obtain ⟨inflight, after, other, links, ret, cfg, -, sched, -, tracker, place, mapsKept, counters, -⟩ :=
      afterResolution_fields (k := k) (s := revertLink f.record.link answered) (by rw [seqs]; exact hs)
    refine ⟨_, command_taken hm hf (ownResolveRemoved_some (unresolved_some hs hi)), ?_, ?_, ?_, inflight,
      after.trans state, other.trans (by rw [seqs]), tracker.trans ((congrArg State.tracker reverted).trans only.tracker),
      cfg.trans ((congrArg State.cfg reverted).trans only.cfg),
      counters.trans ((congrArg State.counters reverted).trans only.counters),
      place.trans ((congrArg State.place reverted).trans only.place)⟩
    · exact mapsKept.trans ((congrArg State.maps reverted).trans only.maps)
    · rw [← next]
      exact links.trans (by rw [reverted])
    · exact sched.trans ((congrArg State.schedule reverted).trans (by rw [only.schedule]))
  case none =>
    obtain ⟨landed, removed⟩ := ownResolve_none (front := front) (unresolved_none hn)
    exact ⟨fun hf => command_refused hm hf landed, fun hf => command_refused hm hf removed⟩
  case checks =>
    intro landed rows inside
    have own := ownResolveLanded_some (front := front) (unresolved_some hs hi) (finalOperands_eq hc hp ho)
    have refuse {c : RespCode} (e : ownResolveLanded (.val k) front s = .error (c, .none)) : landed c :=
      fun hf => command_refused hm hf e
    refine ⟨fun hx => refuse ?missing, fun hx hn => refuse ?outside, fun hx hn hlen => refuse ?full,
      fun hx hn hlen hcon => refuse ?conflict⟩
    case missing =>
      rw [own, hx]
      rfl
    all_goals rw [own, show figureGiven front = true from bne_iff_ne.2 hx]
    case outside =>
      rw [Bool.eq_false_of_not_eq_true (mt editRange_iff.1 hn)]
      rfl
    all_goals rw [editRange_iff.2 hn]
    case full =>
      rw [insertChecks_full hlen]
      rfl
    case conflict =>
      rw [insertChecks_conflict hlen hcon]
      rfl

end Sys2Proof.Machine
end

section
/-! Settles O30 and O32: the reports of the charger drives (R66 to R71, R50, R51, R87, R91). -/

namespace Sys2Proof.Machine

/-! ### A report that its sequencer expects, and one that it does not (R68) -/

section
variable {c : Instr} {h : Hdr} {k : Furnace} {phase : ChargerPhase} {tag : Nat} {act : Furnace → State → State}
  {s : State}

theorem charger_expected (ht : FieldTaken s Kind.chargerReport h (.charger k))
    (he : reportExpected s k phase tag = true) :
    powered (field c Kind.chargerReport h true (fromCharger phase tag act)) s = .next (finish (act k s)) := by
  rw [powered_on _ _ ht.1.1, field_of_taken (by decide) (by decide) ht]
  exact congrArg Host.Outcome.next (if_pos he)

theorem charger_unexpected (ht : FieldTaken s Kind.chargerReport h (.charger k))
    (he : reportExpected s k phase tag = false) :
    powered (field c Kind.chargerReport h true (fromCharger phase tag act)) s =
      .next (raise (.unexpectedCharger k (s.seqs.get k).state phase tag) s) := by
  rw [powered_on _ _ ht.1.1, field_of_taken (by decide) (by decide) ht]
  exact congrArg Host.Outcome.next (if_neg (by rw [he]; decide))

/-- R68: the tag of the cycle in a state that expects the phase. -/
theorem reportExpected_own {r : CycleRecord} (hp : phaseExpected (s.seqs.get k).state phase = true)
    (hc : (s.seqs.get k).cycle = some r) (ht : r.tag = tag) : reportExpected s k phase tag = true := by
  unfold reportExpected State.cycle State.seq
  rw [hp, hc, tagExpected, ht]
  simp

theorem reportExpected_phase (hp : phaseExpected (s.seqs.get k).state phase = false) :
    reportExpected s k phase tag = false := by
  unfold reportExpected State.seq
  rw [hp]
  rfl

/-- R68: the tag of another slab. -/
theorem reportExpected_tag (hc : (s.seqs.get k).cycle.map (·.tag) ≠ some tag) (hf : phase ≠ .fault ∨ tag ≠ 0) :
    reportExpected s k phase tag = false := by
  unfold reportExpected State.cycle State.seq tagExpected
  cases hr : (s.seqs.get k).cycle with
  | none => exact Bool.and_false _
  | some r =>
    have other : (r.tag == tag) = false := beq_false_of_ne fun e => hc (by rw [hr, ← e]; rfl)
    have unsaid : (phase == .fault && tag == 0) = false := by
      rcases hf with hf | hf
      · rw [beq_false_of_ne hf]
        rfl
      · rw [beq_false_of_ne hf]
        exact Bool.and_false _
    dsimp only
    rw [other, unsaid]
    exact Bool.and_false _

end

/-- R68: outside its own states a phase is not expected. -/
theorem phaseExpected_false {st : SeqState} :
    (st ≠ .pick → phaseExpected st .lifted = false) ∧ (st ≠ .carry → phaseExpected st .atDepth = false)
      ∧ (st ≠ .lower → phaseExpected st .lowered = false) ∧ (st ≠ .retract → phaseExpected st .retracted = false)
      ∧ (st ≠ .pick → phaseExpected st .refused = false)
      ∧ (st ≠ .pick → st ≠ .carry → st ≠ .lower → st ≠ .retract → phaseExpected st .fault = false) := by
  cases st <;> decide

/-! ### The presence flag (R87) -/

/-- R87: the presence on the grid is newly without a record. -/
def newlyUnidentified (s : State) : Bool :=
  s.sensors.gp.taken && !s.zoneTaken && !s.tracker.unidentified && s.grid.grant.isNone

/-- R87: a state with the event of a presence that is newly without a record. -/
def presenceTold (s : State) : State :=
  if newlyUnidentified s then raise (.unidentifiedOnGrid s.travel) s else s

/-- R87: what an evaluation of the unidentified presence flag leaves: the flag, and its event where it is newly set. -/
theorem evalPresence_fields (s : State) :
    let watched := s.sensors.gp.taken && !s.zoneTaken
    evalPresence s = { s with
        links := (presenceTold s).links, ret := (presenceTold s).ret
        tracker := { s.tracker with
          unidentified := watched && (s.tracker.unidentified || s.grid.grant.isNone) } } := by
  intro watched
  have unfolded : evalPresence s = if !s.sensors.gp.taken || s.zoneTaken then putUnidentified false s
      else if s.grid.grant.isSome || s.tracker.unidentified then s
      else raise (.unidentifiedOnGrid s.travel) (putUnidentified true s) := rfl
  rw [unfolded]
  by_cases unwatched : (!s.sensors.gp.taken || s.zoneTaken) = true
  · have clear : watched = false := by
      change (s.sensors.gp.taken && !s.zoneTaken) = false
      rw [← Bool.not_not s.sensors.gp.taken, ← Bool.not_or, unwatched]
      rfl
    have quiet : presenceTold s = s := if_neg (by
      rw [newlyUnidentified, show (s.sensors.gp.taken && !s.zoneTaken) = false from clear, Bool.false_and,
        Bool.false_and]
      decide)
    rw [if_pos unwatched, clear, quiet]
    rfl
  · have seen : watched = true := by
      change (s.sensors.gp.taken && !s.zoneTaken) = true
      rw [← Bool.not_not s.sensors.gp.taken, ← Bool.not_or, Bool.eq_false_of_not_eq_true unwatched]
      rfl
    rw [if_neg unwatched, seen]
    by_cases told : (s.grid.grant.isSome || s.tracker.unidentified) = true
    · have flag : (true && (s.tracker.unidentified || s.grid.grant.isNone)) = s.tracker.unidentified := by
        cases hu : s.tracker.unidentified <;> cases hg : s.grid.grant <;> simp_all
      have quiet : presenceTold s = s := if_neg (by
        rw [newlyUnidentified, show (s.sensors.gp.taken && !s.zoneTaken) = true from seen]
        cases hu : s.tracker.unidentified <;> cases hg : s.grid.grant <;> simp_all)
      rw [if_pos told, flag, quiet]
    · have unset : s.tracker.unidentified = false ∧ s.grid.grant.isNone = true := by
        cases hu : s.tracker.unidentified <;> cases hg : s.grid.grant <;> simp_all
      have newly : presenceTold s = raise (.unidentifiedOnGrid s.travel) s := if_pos (by
        rw [newlyUnidentified, show (s.sensors.gp.taken && !s.zoneTaken) = true from seen, unset.1, unset.2]
        rfl)
      have put : SameLines s (putUnidentified true s) := ⟨rfl, rfl, rfl⟩
      have lines := put.raise (.unidentifiedOnGrid s.travel)
      rw [if_neg told, unset.1, unset.2, newly, raise_eq, lines.links, lines.ret]
      rfl

/-- The same where the flag is evaluated in a state with the queues and the watched inputs of another. -/
theorem presenceTold_lines {s t : State} (h : SameLines s t) {x : Int} {b : Bool} (e : t.travel = x)
    (hb : newlyUnidentified t = b) :
    (presenceTold t).links = (if b = true then raise (.unidentifiedOnGrid x) s else s).links
      ∧ (presenceTold t).ret = (if b = true then raise (.unidentifiedOnGrid x) s else s).ret := by
  unfold presenceTold
  rw [hb, e]
  cases b with
  | true => exact ⟨(h.raise _).links, (h.raise _).ret⟩
  | false => exact ⟨h.links, h.ret⟩

/-! ### LIFTED (R67) -/

theorem dropMeasurement_eq (tag : Nat) (m : Option Measurement) :
    dropMeasurement tag m = if m.map (·.tag) = some tag then none else m := by
  cases m with
  | none => rfl
  | some x => simp [dropMeasurement]

/-- R67: the state in which the presence flag is evaluated as the slab of a cycle is lifted. -/
def liftedWith (k : Furnace) (c : CycleRecord) (r : TableRecord) (d : Due) (s : State) : State :=
  { s with
    seqs := s.seqs.set k { s.seqs.get k with
      state := .carry, waiting := .none
      inflight := some { record := r, lane := c.lane, target := c.target, certainty := .normal }
      cycle := some { c with timer := some ⟨.carry, 1000 * (s.cfg.timing.get k).getD 3 0⟩ } }
    tracker := { s.tracker with
      table := s.tracker.table.filter fun x => x.tag != c.tag
      measuring := if s.tracker.measuring.map (·.tag) = some c.tag then none else s.tracker.measuring }
    arb := { s.arb with holds := s.arb.holds.set k false }
    due := d }

theorem takeLifted_fields {k : Furnace} {c : CycleRecord} {r : TableRecord} {s : State}
    (hc : (s.seqs.get k).cycle = some c) (hr : s.tracker.table.find? (fun r => r.tag == c.tag) = some r) :
    ∃ d, takeLifted k s = evalPresence (liftedWith k c r d s) := by
  have tagged : r.tag = c.tag := (State.findTag_some hr).2
  have lifted : takeLifted k s = evalPresence (startTimer k .carry (putSeqState k .carry .none
      (releaseHold k (deleteRecord r (putInFlight k (some (makeInFlight r c)) s))))) := by
    unfold takeLifted State.cycle State.seq State.findTag
    rw [hc]
    dsimp only
    rw [hr]
  obtain ⟨d, deleted⟩ := deleteRecord_due r (putInFlight k (some (makeInFlight r c)) s)
  obtain ⟨d', released⟩ := releaseHold_eq k (deleteRecord r (putInFlight k (some (makeInFlight r c)) s))
  rw [lifted, released, deleted, tagged, dropMeasurement_eq]
  refine ⟨d', congrArg evalPresence ?_⟩
  have inflight : (putInFlight k (some (makeInFlight r c)) s).seqs.get k =
      { s.seqs.get k with inflight := some (makeInFlight r c) } := PerFurnace.get_set ..
  rw [startTimer_putSeqState (c := c) (by dsimp only; rw [inflight]; exact hc)]
  dsimp only
  rw [inflight]
  have set : (putInFlight k (some (makeInFlight r c)) s).seqs =
      s.seqs.set k { s.seqs.get k with inflight := some (makeInFlight r c) } := rfl
  rw [set, PerFurnace.set_set]
  rfl

/-! ### The statements -/

/-- Settles O30: the sequencer's record, the table list and the presence flag for LIFTED; the state alone for AT_DEPTH;
and for RETRACTED the entry into IDLE or HELD. -/
theorem carriageReports : Obligations.CarriageReports := by
  refine ⟨fun h k tag fault c r s ht hs hc htag hr => ?lifted, fun h k tag fault c s ht hs hc htag => ?atDepth,
    fun h k tag fault c g s ht hs hc htag hg => ?retracted⟩
  case lifted =>
    rw [← htag] at hr ⊢
    have expected : reportExpected s k .lifted c.tag = true := reportExpected_own (by rw [hs]; rfl) hc rfl
    obtain ⟨d, lifted⟩ := takeLifted_fields hc hr
    have only := evalPresence_fields (liftedWith k c r d s)
    have lines := presenceTold_lines (s := s) (t := liftedWith k c r d s) ⟨rfl, rfl, rfl⟩ rfl rfl
    refine ⟨_, charger_expected (act := takeLifted) ht expected, ?_⟩
    rw [lifted, only]
    exact ⟨PerFurnace.get_set .., rfl, rfl, ⟨rfl, lines⟩, rfl,
      PerFurnace.get_set .., PerFurnace.get_set_other .., rfl, rfl, rfl, rfl, rfl, rfl, rfl, rfl⟩
  case atDepth =>
    have expected : reportExpected s k .atDepth tag = true := reportExpected_own (by rw [hs]; rfl) hc htag
    have lowers : takeAtDepth k s = _ := startTimer_putSeqState (st := .lower) (w := .none) (x := .lower) hc
    exact (charger_expected (act := takeAtDepth) ht expected).trans (by rw [lowers]; rfl)
  case retracted =>
    have expected : reportExpected s k .retracted tag = true := reportExpected_own (by rw [hs]; rfl) hc htag
    have taken := charger_expected (c := .retracted h tag fault) (act := takeRetracted) ht expected
    have clear : s.armsClear k = decide (s.depth k ≤ g.retractClear) := by
      unfold State.armsClear State.geometry
      rw [hg]
    refine ⟨fun hd => ?_, fun hd => ?_⟩
    · have idle : takeRetracted k s = enterIdle k s := if_pos (by rw [clear]; exact decide_eq_true hd)
      rw [idle] at taken
      refine ⟨_, taken, enterIdle_idleFrom .., enterIdle_start_due .., enterIdle_links .., ?_, enterIdle_seqs_other ..,
        enterIdle_keepsAccounts ..⟩
      obtain ⟨d, w, -, he⟩ := enterIdle_eq k s
      rw [he]
    · intro told
      have held : takeRetracted k s = enterHeld k .retractPosition none s :=
        if_neg (by rw [clear]; simpa using hd)
      have entered := enterHeld_entered k .retractPosition none s
      rw [hs, hc] at entered
      rw [held] at taken
      exact ⟨_, taken, by rw [entered.seq]; exact held_heldFrom .., entered.links, entered.ret, entered.other,
        entered.accounts⟩

/-- Settles O32: an expected trouble is an entry into HELD; what the state or the tag does not expect is told. -/
theorem chargerTrouble : Obligations.ChargerTrouble := by
  refine ⟨fun h k tag fault c s ht hc => ?trouble, fun h k tag fault s ht => ?unexpected⟩
  case trouble =>
    intro told
    have held (cause : HeldCause) := enterHeld_entered k cause (some fault) s
    rw [hc] at held
    refine ⟨fun hs htag => ?_, fun hs htag => ?_⟩
    · have expected : reportExpected s k .refused tag = true := reportExpected_own (by rw [hs]; rfl) hc htag
      have entered := held .chargerRefused
      exact ⟨_, charger_expected (act := fun k => enterHeld k .chargerRefused (some fault)) ht expected,
        by rw [entered.seq]; exact held_heldFrom .., entered.holds, entered.links, entered.ret, entered.other,
        entered.accounts⟩
    · have expected : reportExpected s k .fault tag = true := by
        have phase : phaseExpected (s.seqs.get k).state .fault = true := by
          rcases hs with hs | hs | hs | hs <;> rw [hs] <;> rfl
        unfold reportExpected State.cycle State.seq tagExpected
        rw [phase, hc]
        rcases htag with htag | htag <;> simp [htag]
      have entered := held .chargerFault
      exact ⟨_, charger_expected (act := fun k => enterHeld k .chargerFault (some fault)) ht expected,
        by rw [entered.seq]; exact held_heldFrom .., entered.holds, entered.links, entered.ret, entered.other,
        entered.accounts⟩
  case unexpected =>
    intro q other unexpected
    obtain ⟨lifted, atDepth, lowered, retracted, refused, trouble⟩ := @phaseExpected_false q.state
    have strange {phase : ChargerPhase} {st : SeqState} (hp : q.state ≠ st → phaseExpected q.state phase = false)
        (hf : phase ≠ .fault) (h : q.state ≠ st ∨ other) : reportExpected s k phase tag = false := by
      rcases h with h | h
      · exact reportExpected_phase (hp h)
      · exact reportExpected_tag h (.inl hf)
    refine ⟨fun hs => charger_unexpected ht (strange lifted (by decide) hs),
      fun hs => charger_unexpected ht (strange atDepth (by decide) hs),
      fun hs => charger_unexpected ht (strange lowered (by decide) hs),
      fun hs => charger_unexpected ht (strange retracted (by decide) hs),
      fun hs => charger_unexpected ht (strange refused (by decide) hs), fun hs => charger_unexpected ht ?_⟩
    rcases hs with ⟨h1, h2, h3, h4⟩ | ⟨ho, h0⟩
    · exact reportExpected_phase (trouble h1 h2 h3 h4)
    · exact reportExpected_tag ho (.inr h0)

end Sys2Proof.Machine
end

section
/-! Settles O33: the expiries of the sequencers' timers (R53, R62, R64, R66, R69, R71, R72, R99, R51). -/

namespace Sys2Proof.Machine

/-! ### Time as it passes for a sequencer (R53) -/

section
variable {k : Furnace} {n : Nat} {which : TimeoutKind} {s : State}

theorem elapse_seq (h : s.ret.mode ≠ .retain) : (elapse n s).seqs.get k = (s.seqs.get k).elapse n := by
  unfold elapse
  rw [if_neg h]
  cases k <;> rfl

theorem timerOut_retain (h : s.ret.mode = .retain) : timerOut k which (elapse n s) = false := by
  unfold timerOut
  rw [elapse_ret, h]
  rfl

/-- R53: outside RETAIN a timer has run out where it is the one that runs and no time is left to it. -/
theorem timerOut_elapse (h : s.ret.mode ≠ .retain) : timerOut k which (elapse n s) = true ↔
    ∃ c left, (s.seqs.get k).cycle = some c ∧ c.timer = some ⟨which, left⟩ ∧ left ≤ n := by
  have mode : (s.ret.mode != .retain) = true := bne_iff_ne.2 h
  unfold timerOut State.cycle State.seq
  rw [elapse_ret, mode, elapse_seq h, Bool.true_and, beq_iff_eq]
  unfold Sequencer.elapse
  cases hc : (s.seqs.get k).cycle with
  | none => simp
  | some c =>
    cases ht : c.timer with
    | none => simp [ht]
    | some t =>
      obtain ⟨w, left⟩ := t
      simp [ht]
      omega

theorem expire_out {act : State → State} (h : timerOut k which (elapse n s) = true) :
    expire k which n act s = finish (act (elapse n s)) := if_pos h

theorem expire_early {act : State → State} (h : timerOut k which (elapse n s) = false) :
    expire k which n act s = elapse n s := if_neg (by rw [h]; decide)

end

/-! ### The seven commands as one -/

/-- R62, R64, R66, R69, R71: what an expiry does to its sequencer. -/
def takeTimeout (k : Furnace) : TimeoutKind → State → State
  | .positioning => takePositioningTimeout k
  | .stroke => takeStrokeTimeout k
  | .pick => takeChargeTimeout k .pick
  | .carry => takeChargeTimeout k .carry
  | .lower => takeChargeTimeout k .lower
  | .retract => takeChargeTimeout k .retract

/-- R53: the command of an expiry. -/
def timeoutInstr (k : Furnace) (n : Nat) : TimeoutKind → Instr
  | .positioning => .positioningTimeout k n
  | .stroke => .strokeTimeout k n
  | .pick => .pickTimeout k n
  | .carry => .carryTimeout k n
  | .lower => .lowerTimeout k n
  | .retract => .retractTimeout k n

theorem exec_timeout (k : Furnace) (n : Nat) (which : TimeoutKind) (s : State) :
    exec (timeoutInstr k n which) s = powered (expire k which n (takeTimeout k which)) s := by
  cases which <;> rfl

theorem takeTimeout_beside {k : Furnace} {which : TimeoutKind} (s : State) (h : which ≠ .positioning) :
    takeTimeout k which s = enterHeld k (.timeout which) none
      (match which with
        | .stroke => s
        | _ => sendField (.charger k) 0 (.chargerStop (s.cycleTag k) .timeout) s) := by
  cases which with
  | positioning => exact absurd rfl h
  | stroke => rfl
  | pick => rfl
  | carry => rfl
  | lower => rfl
  | retract => rfl

/-- R51: what the passing of time leaves of a sequencer that enters HELD. -/
theorem heldFrom_elapse (cause : HeldCause) (n : Nat) (q : Sequencer) : HeldFrom cause q ((q.elapse n).held cause) := by
  refine ⟨rfl, rfl, rfl, ?_, rfl⟩
  change (q.cycle.map _).map _ = _
  rw [Option.map_map]
  rfl

/-- Settles O33: a timer that has run out brings the entry into HELD about, in POSITIONING behind the abandonment of
the move; any other expiry lets the time pass. -/
theorem sequencerTimeouts : Obligations.SequencerTimeouts := by
  intro k n which s hp expiry q
  have command : expiry = timeoutInstr k n which := by
    change (match which with
      | .positioning => Instr.positioningTimeout k n
      | .stroke => .strokeTimeout k n
      | .pick => .pickTimeout k n
      | .carry => .carryTimeout k n
      | .lower => .lowerTimeout k n
      | .retract => .retractTimeout k n) = _
    cases which <;> rfl
  rw [command, exec_timeout, powered_on _ _ hp]
  refine ⟨fun c left hr hc ht hl => ?out, fun h => ?early⟩
  case early =>
    have idle : timerOut k which (elapse n s) = false := by
      by_cases hr : s.ret.mode = .retain
      · exact timerOut_retain hr
      · refine Bool.eq_false_of_not_eq_true fun gone => ?_
        obtain ⟨c, left, hc, ht, hl⟩ := (timerOut_elapse hr).1 gone
        rcases h.resolve_left hr c _ hc ht with hw | hw
        · exact hw rfl
        · exact absurd hl (by dsimp only at hw; omega)
    rw [expire_early idle]
  case out =>
    have seq : (elapse n s).seqs.get k = q.elapse n := elapse_seq hr
    have state : (q.elapse n).state = q.state := rfl
    have inflight : (q.elapse n).inflight = q.inflight := rfl
    have tag : (q.elapse n).cycle.map (·.tag) = some c.tag := by
      change (q.cycle.map _).map _ = _
      rw [hc]
      rfl
    rw [expire_out ((timerOut_elapse hr).2 ⟨c, left, hc, ht, hl⟩)]
    by_cases hw : which = .positioning
    · subst hw
      have entered := enterHeld_abandoning k (.timeout .positioning) .timeout none (elapse n s)
      rw [seq, tag, state, inflight] at entered
      have links := entered.links
      have ret := entered.ret
      rw [elapse_arb] at links ret
      refine ⟨_, rfl, ?_, entered.holds, fun _ => ⟨entered.request, entered.motion.trans (by rw [elapse_arb])⟩,
        fun hn => absurd rfl hn, ⟨links, ret⟩, entered.other, entered.accounts⟩
      change HeldFrom _ q ((enterHeld k (.timeout .positioning) none
        (abandonMove k .timeout (elapse n s))).seqs.get k)
      rw [entered.seq, seq]
      exact heldFrom_elapse ..
    · have held (v : State) (hv : LinksOnly (elapse n s) v) :
          let u := enterHeld k (.timeout which) none v
          let told := raise (.chargerHeld k (.timeout which) q.state (some c.tag)
            (q.inflight.map fun _ => .uncertain) none) v
          HeldFrom (.timeout which) q (u.seqs.get k) ∧ u.arb.holds.get k = false
            ∧ (which = .positioning → u.arb.requests.get k = none ∧ u.arb.motion = unwantedFor k s.arb.motion)
            ∧ (which ≠ .positioning → u.arb.motion = s.arb.motion) ∧ (u.links = told.links ∧ u.ret = told.ret)
            ∧ u.seqs.get (otherFurnace k) = (elapse n s).seqs.get (otherFurnace k)
            ∧ KeepsAccounts (elapse n s) u := by
        intro u told
        have entered := enterHeld_entered k (.timeout which) none v
        rw [hv.seqs, seq, tag, state, inflight] at entered
        refine ⟨?_, entered.holds, fun hn => absurd hn hw, fun _ => entered.motion.trans (by rw [hv.arb, elapse_arb]),
          ⟨entered.links, entered.ret⟩, entered.other.trans (by rw [hv.seqs]), keepsAccounts_linksOnly hv entered.accounts⟩
        rw [entered.seq, hv.seqs, seq]
        exact heldFrom_elapse ..
      have cycleTag : (elapse n s).cycleTag k = c.tag := by
        unfold State.cycleTag State.cycle State.seq
        rw [seq, tag]
        rfl
      have stopped := held (sendField (.charger k) 0 (.chargerStop c.tag .timeout) (elapse n s)) (sendField_linksOnly ..)
      rw [takeTimeout_beside _ hw, cycleTag]
      cases which with
      | positioning => exact absurd rfl hw
      | stroke => exact ⟨_, rfl, held _ (.refl _)⟩
      | pick => exact ⟨_, rfl, stopped⟩
      | carry => exact ⟨_, rfl, stopped⟩
      | lower => exact ⟨_, rfl, stopped⟩
      | retract => exact ⟨_, rfl, stopped⟩

end Sys2Proof.Machine
end

section
/-! Settles O31: LOWERED (R70, R7 to R10, R2). -/

namespace Sys2Proof.Machine

/-! ### A landing that the map takes (R7 to R10) -/

/-- R9, R10: what a landing leaves once the map has taken it. -/
structure LandingTaken (k : Furnace) (f : InFlight) (x : FurnaceSlab) (deviation : Int) (d : Landing)
    (g : FurnaceGeometry) (s t : State) : Prop where
  maps : t.maps = s.maps.set k d.map
  schedule : t.schedule = s.schedule.filter fun e => some e.seq != f.record.link
  beyond : g.landingTolerance < mag deviation → (t.place.get k).holds.landingDeviation = true
  within : mag deviation ≤ g.landingTolerance → t.place = s.place
  lines : SameLines (raise (.landed x.tag x.id k d.row d.lane d.front (some deviation) x.mass)
    (if g.landingTolerance < mag deviation then
      raise (.holdSet (.placement .landingDeviation k (some x.tag) none)) s else s)) t
  seqs : t.seqs = s.seqs
  tracker : t.tracker = s.tracker
  cfg : t.cfg = s.cfg
  grid : t.grid = s.grid
  counters : t.counters = s.counters

theorem landingHold_eq {k : Furnace} {tag : Nat} {deviation : Int} {g : FurnaceGeometry} {s : State}
    (hg : s.cfg.geometry.get k = some g) : landingHold k tag deviation s =
      if g.landingTolerance < mag deviation then setHoldAlways .landingDeviation k (some tag) s else s := by
  unfold landingHold State.geometry
  rw [hg]

theorem completeLanding_taken {k : Furnace} {f : InFlight} {x : FurnaceSlab} {deviation : Int} {d : Landing}
    {g : FurnaceGeometry} {s : State} (hg : s.cfg.geometry.get k = some g) :
    LandingTaken k f x deviation d g s (completeLanding k f x deviation d s) := by
  let u := s.setMap k d.map
  let v := landingHold k x.tag deviation u
  have held : v = if g.landingTolerance < mag deviation then setHoldAlways .landingDeviation k (some x.tag) u else u :=
    landingHold_eq hg
  have same : SameLines s u := ⟨rfl, rfl, rfl⟩
  have put : SameLines u (u.putHold k .landingDeviation true) := ⟨rfl, rfl, rfl⟩
  have unfolded : completeLanding k f x deviation d s =
      raise (.landed x.tag x.id k d.row d.lane d.front (some deviation) x.mass) (removeLink f.record.link v) := rfl
  rw [removeLink_fields] at unfolded
  have linked (w : State) : SameLines w
      { w with schedule := w.schedule.filter fun e => some e.seq != f.record.link } := ⟨rfl, rfl, rfl⟩
  have kept := untouched_send.raise (.landed x.tag x.id k d.row d.lane d.front (some deviation) x.mass)
    { v with schedule := v.schedule.filter fun e => some e.seq != f.record.link }
  rw [unfolded]
  have told : SameLines (if g.landingTolerance < mag deviation then
      raise (.holdSet (.placement .landingDeviation k (some x.tag) none)) s else s) v := by
    rw [held]
    by_cases far : g.landingTolerance < mag deviation
    · rw [if_pos far, if_pos far]
      exact (same.trans put).raise _
    · rw [if_neg far, if_neg far]
      exact same
  obtain ⟨w, untouched, base⟩ : ∃ w, Untouched w v ∧ (w = u.putHold k .landingDeviation true ∧ g.landingTolerance < mag deviation
      ∨ w = u ∧ ¬ g.landingTolerance < mag deviation) := by
    by_cases far : g.landingTolerance < mag deviation
    · exact ⟨_, by rw [held, if_pos far]; exact untouched_send.raise .., .inl ⟨rfl, far⟩⟩
    · exact ⟨u, by rw [held, if_neg far]; exact .refl u, .inr ⟨rfl, far⟩⟩
  have rest : w.maps = u.maps ∧ w.schedule = s.schedule ∧ w.seqs = s.seqs ∧ w.tracker = s.tracker ∧ w.cfg = s.cfg
      ∧ w.grid = s.grid ∧ w.counters = s.counters := by
    rcases base with ⟨rfl, -⟩ | ⟨rfl, -⟩ <;> exact ⟨rfl, rfl, rfl, rfl, rfl, rfl, rfl⟩
  have tracker : (raise (.landed x.tag x.id k d.row d.lane d.front (some deviation) x.mass)
      { v with schedule := v.schedule.filter fun e => some e.seq != f.record.link }).tracker = v.tracker := by
    rw [raise_eq]
  have heldTracker : v.tracker = s.tracker := by
    rw [held]
    split
    · rw [setHoldAlways, raise_eq]
      rfl
    · rfl
  obtain ⟨maps, schedule, seqs, -, cfg, grid, counters⟩ := rest
  refine ⟨kept.maps.trans (untouched.maps.trans maps), kept.schedule.trans ?schedule, fun far => ?beyond,
    fun near => ?within, (told.trans (linked v)).raise _, kept.seqs.trans (untouched.seqs.trans seqs),
    tracker.trans heldTracker, kept.cfg.trans (untouched.cfg.trans cfg),
    kept.grid.trans (untouched.grid.trans grid), kept.counters.trans (untouched.counters.trans counters)⟩
  case schedule => exact congrArg (List.filter _) (untouched.schedule.trans schedule)
  case beyond =>
    rcases base with ⟨rfl, -⟩ | ⟨-, near⟩
    · rw [kept.place, untouched.place, State.putHold, State.setPlaceOf, State.setPlace_place, PerFurnace.get_set]
      rfl
    · exact absurd far near
  case within =>
    rcases base with ⟨-, far⟩ | ⟨rfl, -⟩
    · exact absurd far (not_lt.2 near)
    · exact kept.place.trans untouched.place

/-! ### The sequencer at a landing (R70) -/

section
variable {k : Furnace} {c : CycleRecord} {f : InFlight} {p : PlacementRecord} {o : Operands} {target : Int}
  {g : FurnaceGeometry} {s : State}

/-- R70: the state with the measured landing front in the cycle record. -/
def measuredWith (k : Furnace) (c : CycleRecord) (front : Int) (s : State) : State :=
  { s with seqs := s.seqs.set k { s.seqs.get k with cycle := some { c with measured := some front } } }

/-- R70: the sequencer enters RETRACT. -/
theorem enterRetract_seq {t : State} (hc : (t.seqs.get k).cycle = some c) : enterRetract k t = { t with
    seqs := t.seqs.set k { t.seqs.get k with
      state := .retract, waiting := .none, inflight := none
      cycle := some { c with timer := some ⟨.retract, 1000 * (t.cfg.timing.get k).getD 5 0⟩ } } } := by
  have gone : (putInFlight k none t).seqs.get k = { t.seqs.get k with inflight := none } := PerFurnace.get_set ..
  unfold enterRetract
  rw [startTimer_putSeqState (c := c) (by rw [gone]; exact hc), gone]
  have set : (putInFlight k none t).seqs = t.seqs.set k { t.seqs.get k with inflight := none } := rfl
  rw [set, PerFurnace.set_set]
  rfl

/-- R70: LOWERED, with the records of its cycle. -/
theorem takeLowered_eq {front : Int} {x : FurnaceSlab} (hc : (s.seqs.get k).cycle = some c)
    (hf : (s.seqs.get k).inflight = some f) (hp : c.final = some p) (ho : p.operands = some o)
    (ht : c.target = some target) (hg : s.cfg.geometry.get k = some g) (hfront : s.depth k + g.armOffset = front)
    (hx : slabFrom f (some o) (some (front - target)) s.ret.clock = x) :
    takeLowered k s =
      match (s.maps.get k).land (p.result == .pair) c.lane front x with
      | none => enterHeld k .mapFullLanding none (measuredWith k c front s)
      | some d => enterRetract k (completeLanding k f x (front - target) d (measuredWith k c front s)) := by
  have landing : s.landingFront k = front := by
    unfold State.landingFront State.geometry
    rw [hg]
    exact hfront
  have measured : updateCycle k (fun c => { c with measured := some (s.landingFront k) }) s = measuredWith k c front s := by
    rw [updateCycle_eq _ hc, landing]
    rfl
  have pair : c.isPair = (p.result == .pair) := by
    unfold CycleRecord.isPair
    rw [hp]
  have operands : c.operands = some o := by
    unfold CycleRecord.operands
    rw [hp]
    exact ho
  have same : (measuredWith k c front s).map k = s.maps.get k := rfl
  have clock : (measuredWith k c front s).ret.clock = s.ret.clock := rfl
  unfold takeLowered State.cycle State.seq
  rw [hc, hf]
  dsimp only
  rw [measured]
  unfold landSlab landingDeviation
  dsimp only
  rw [landing, pair, operands, ht, Option.getD_some, same, clock, hx]
  cases (s.maps.get k).land (p.result == .pair) c.lane front x <;> rfl

/-! ### Where a slab lands (R7, R8) -/

theorem land_single {m : FurnaceMap} {lane : Lane} {measured : Int} {x : FurnaceSlab} (h : m.rows.length < 64) :
    m.land false lane measured x = some (m.landNew lane measured x) := by
  unfold FurnaceMap.land
  cases m.openSlab <;> exact if_pos h

theorem land_unpaired {m : FurnaceMap} {lane : Lane} {measured : Int} {x : FurnaceSlab} (ho : m.openSlab = none) :
    m.land true lane measured x = if m.rows.length < 64 then some (m.landNew .b measured x) else none := by
  unfold FurnaceMap.land
  rw [ho]

theorem openSlab_some {m : FurnaceMap} {pre : List Row} {r : Row} {y : FurnaceSlab} (hm : m.rows = pre ++ [r])
    (hy : r.occ = .a y) (hr : r.pairOpen = true) : m.openSlab = some (r, y) := by
  unfold FurnaceMap.openSlab FurnaceMap.last
  rw [hm, List.getLast?_concat]
  dsimp only
  rw [hy, hr]

theorem land_pair {m : FurnaceMap} {lane : Lane} {measured : Int} {x y : FurnaceSlab} {r : Row}
    (ho : m.openSlab = some (r, y)) : m.land true lane measured x = some (m.landJoin r y x) := by
  unfold FurnaceMap.land
  rw [ho]

theorem setLast_append (v r : Row) (pre : List Row) : setLast v (pre ++ [r]) = pre ++ [v] := by
  induction pre with
  | nil => rfl
  | cons a pre ih =>
    rw [List.cons_append, setLast, ih, List.cons_append]
    simp

theorem touchClamp_eq (m : FurnaceMap) (front : Int) : touchClamp m front =
    match m.rows.getLast? with
    | none => front
    | some r => min front (r.front - r.extent) := by
  unfold touchClamp FurnaceMap.last
  cases m.rows.getLast? <;> rfl

end

/-- Settles O31: the map takes the slab in a new row, in lane B of an open last row, or not at all; a landing taken goes
on into RETRACT, one not taken into HELD. -/
theorem lowered : Obligations.Lowered := by
  intro h k tag fault c f p o target g s ht hs hc htag hf hp ho htarget hg front m x landed
  have expected : reportExpected s k .lowered tag = true := reportExpected_own (by rw [hs]; rfl) hc htag
  have taken := charger_expected (c := .lowered h tag fault) (act := takeLowered) ht expected
  have lowers := takeLowered_eq (front := front) (x := x) hc hf hp ho htarget hg rfl rfl
  let t := measuredWith k c front s
  have measured : t.seqs.get k = { s.seqs.get k with cycle := some { c with measured := some front } } :=
    PerFurnace.get_set ..
  have same : SameLines s t := ⟨rfl, rfl, rfl⟩
  have lands {d : Landing} (hd : m.land (p.result == .pair) c.lane front x = some d) (hfront : d.front = d.map.lastLanding) :
      ∃ u, landed u d.map d.row d.lane := by
    have done : LandingTaken k f x (front - target) d g t (completeLanding k f x (front - target) d t) :=
      completeLanding_taken hg
    rw [show (s.maps.get k).land (p.result == .pair) c.lane front x = _ from hd] at lowers
    have entered : takeLowered k s = _ := lowers.trans
      (enterRetract_seq (c := { c with measured := some front }) (by rw [done.seqs, measured]))
    have timing : (completeLanding k f x (front - target) d t).cfg.timing = s.cfg.timing := congrArg Tables.timing done.cfg
    have lines : SameLines (raise (.landed x.tag x.id k d.row d.lane d.front (some (front - target)) x.mass)
        (if g.landingTolerance < mag (front - target) then
          raise (.holdSet (.placement .landingDeviation k (some x.tag) none)) s else s))
        (completeLanding k f x (front - target) d t) := by
      refine SameLines.trans ?_ done.lines
      refine SameLines.raise ?_ _
      split
      · exact same.raise _
      · exact same
    rw [hfront] at lines
    rw [entered] at taken
    refine ⟨_, taken, done.maps, ?_, done.schedule, done.beyond, done.within, ⟨lines.links, lines.ret⟩, ?_, done.tracker,
      done.cfg, done.grid, done.counters⟩
    · refine (PerFurnace.get_set ..).trans ?_
      rw [done.seqs, measured, timing]
    · exact (PerFurnace.get_set_other ..).trans (by rw [done.seqs]; exact PerFurnace.get_set_other ..)
  refine ⟨fun hr hlen => ?new, fun pre r y hr hm hy hopen => ?join, fun hr hopen hlen => ?alone,
    fun hr hlen hopen => ?full⟩
  case new =>
    have unpaired : (p.result == .pair) = false := beq_false_of_ne hr
    have found := lands (by rw [unpaired]; exact land_single hlen) rfl
    unfold FurnaceMap.landNew at found
    rw [touchClamp_eq] at found
    exact found
  case join =>
    have paired : (p.result == .pair) = true := beq_iff_eq.2 hr
    have found := lands (by rw [paired]; exact land_pair (openSlab_some hm hy hopen)) rfl
    unfold FurnaceMap.landJoin at found
    dsimp only at found
    rw [hm, setLast_append, List.length_append, List.length_singleton, Nat.add_sub_cancel] at found
    exact found
  case alone =>
    have paired : (p.result == .pair) = true := beq_iff_eq.2 hr
    have found := lands (by rw [paired]; exact (land_unpaired hopen).trans (if_pos hlen)) rfl
    unfold FurnaceMap.landNew at found
    rw [touchClamp_eq] at found
    exact found
  case full =>
    have paired : (p.result == .pair) = true := beq_iff_eq.2 hr
    have none : (s.maps.get k).land (p.result == .pair) c.lane front x = Option.none := by
      rw [paired]
      exact (land_unpaired hopen).trans (if_neg (by omega))
    have entered := enterHeld_entered k .mapFullLanding Option.none t
    have lines := same.raise (.chargerHeld k .mapFullLanding .lower (some c.tag) (some .uncertain) Option.none)
    rw [measured] at entered
    dsimp only at entered
    rw [hs, hf] at entered
    rw [none] at lowers
    rw [lowers] at taken
    refine ⟨_, taken, ?_, ?_, ?_, entered.links.trans lines.links, entered.accounts⟩
    all_goals
      rw [entered.seq, measured]
    · rfl
    · rfl
    · unfold Sequencer.held
      dsimp only
      rw [hf]
      rfl

end Sys2Proof.Machine
end

section
/-! Proof of the statement on the operands, the class, the lane and the pair test. First the stages one by one;
then what a computation leaves in the state; then the statement. -/

namespace Sys2Proof.Machine

/-! ### The class (R30) -/

/-- R30: the class counts the boundaries not above the thickness. -/
theorem classOf_ordered {b : Bounds} (t : Int) (h12 : b.b1 < b.b2) (h23 : b.b2 < b.b3) :
    (t < b.b1 → classOf b t = 0) ∧ (b.b1 ≤ t → t < b.b2 → classOf b t = 1)
      ∧ (b.b2 ≤ t → t < b.b3 → classOf b t = 2) ∧ (b.b3 ≤ t → classOf b t = 3) := by
  unfold classOf
  refine ⟨fun h => ?_, fun h h' => ?_, fun h h' => ?_, fun h => ?_⟩ <;> split_ifs <;> omega

/-! ### The pair test (R37) -/

/-- R37: the five conditions of the pair test in their order. -/
def pairConditions (g : FurnaceGeometry) (r : Row) (o : Operands) : List Bool :=
  [r.pairOpen, decide (o.length.value ≤ g.lPair),
    decide (mag (o.width.value - r.occ.leadSlab.width) ≤ g.pairTolerance),
    decide (o.group.value = r.occ.leadSlab.group),
    decide (max g.zMin (g.dDoor + o.width.value) ≤ r.front ∧ r.front ≤ g.zMax)]

section
variable {g : FurnaceGeometry} {m : FurnaceMap} {o : Operands} {r : Row}

theorem pairTest_noRow (h : m.rows = []) : pairTest g m o = .failed 1 := by
  unfold pairTest FurnaceMap.last
  rw [h]
  rfl

/-- R37: the pair test names the first condition that fails. -/
theorem pairTest_lastRow (h : m.rows.getLast? = some r) :
    pairTest g m o = match (pairConditions g r o).findIdx? (!·) with
      | some n => .failed (n + 1)
      | none => .passed := by
  have last : m.last = some r := h
  unfold pairTest pairConditions
  have zone : inRange (fMinOf g o.width.value) g.zMax r.front =
      decide (max g.zMin (g.dDoor + o.width.value) ≤ r.front ∧ r.front ≤ g.zMax) := (Bool.decide_and ..).symm
  rw [last]
  simp only [List.findIdx?_cons, List.findIdx?_nil, zone]
  by_cases h1 : r.pairOpen = true
  · by_cases h2 : o.length.value ≤ g.lPair
    · by_cases h3 : mag (o.width.value - r.occ.leadSlab.width) ≤ g.pairTolerance
      · by_cases h4 : o.group.value = r.occ.leadSlab.group
        · rw [h1, if_neg (by decide), if_neg (not_lt.2 h2), if_neg (not_lt.2 h3),
            if_neg (not_not.2 h4), decide_eq_true h2, decide_eq_true h3, decide_eq_true h4]
          by_cases h5 : max g.zMin (g.dDoor + o.width.value) ≤ r.front ∧ r.front ≤ g.zMax
          · rw [decide_eq_true h5]
            rfl
          · rw [decide_eq_false h5]
            rfl
        · simp [h1, h2, h3, h4, not_lt.2 h2, not_lt.2 h3]
      · simp [h1, h2, h3, not_le.1 h3, not_lt.2 h2]
    · simp [h1, h2, not_le.1 h2]
  · simp [h1]

theorem pairTest_failed_iff (h : m.rows.getLast? = some r) {n : Nat} :
    pairTest g m o = .failed (n + 1) ↔
      (pairConditions g r o)[n]? = some false ∧ ∀ j, j < n → (pairConditions g r o)[j]? = some true := by
  rw [pairTest_lastRow h]
  have first : (pairConditions g r o).findIdx? (!·) = some n ↔
      (pairConditions g r o)[n]? = some false ∧ ∀ j, j < n → (pairConditions g r o)[j]? = some true := by
    rw [List.findIdx?_eq_some_iff_getElem]
    constructor
    · rintro ⟨hn, hfalse, before⟩
      refine ⟨List.getElem?_eq_some_iff.2 ⟨hn, by simpa using hfalse⟩, fun j hj => ?_⟩
      exact List.getElem?_eq_some_iff.2 ⟨hj.trans hn, by simpa using before j hj⟩
    · rintro ⟨hfalse, before⟩
      obtain ⟨hn, hfalse⟩ := List.getElem?_eq_some_iff.1 hfalse
      refine ⟨hn, by simpa using hfalse, fun j hj => ?_⟩
      obtain ⟨_, htrue⟩ := List.getElem?_eq_some_iff.1 (before j hj)
      simpa using htrue
  rw [← first]
  cases (pairConditions g r o).findIdx? (!·) <;> simp

/-- R37: the pair test passes exactly when the map has a last row that meets all five conditions. -/
theorem pairTest_passed_iff :
    pairTest g m o = .passed ↔ ∃ r, m.rows.getLast? = some r ∧ r.pairOpen = true
      ∧ o.length.value ≤ g.lPair
      ∧ mag (o.width.value - r.occ.leadSlab.width) ≤ g.pairTolerance
      ∧ o.group.value = r.occ.leadSlab.group
      ∧ max g.zMin (g.dDoor + o.width.value) ≤ r.front ∧ r.front ≤ g.zMax := by
  cases hlast : m.rows.getLast? with
  | none =>
    rw [pairTest_noRow (List.getLast?_eq_none_iff.1 hlast)]
    simp
  | some r =>
    have passed : pairTest g m o = .passed ↔ ∀ b ∈ pairConditions g r o, b = true := by
      have none : (pairConditions g r o).findIdx? (!·) = Option.none ↔ ∀ b ∈ pairConditions g r o, b = true := by
        simp [List.findIdx?_eq_none_iff]
      rw [pairTest_lastRow hlast, ← none]
      cases (pairConditions g r o).findIdx? (!·) <;> simp
    rw [passed]
    simp [pairConditions]

end

/-! ### The record of a computation (R36, R37, R43) -/

theorem isShort_iff {g : FurnaceGeometry} {len : Int} :
    isShort g len = true ↔ g.lPair ≠ 0 ∧ len ≤ g.lPair := by
  simp [isShort]

section
variable {i : PlaceInput} {o : Operands}

theorem PlaceInput.compute_of_passed (ho : i.operands = .ok o) (hp : i.pairOutcome o = some .passed) :
    i.compute = { i.pairStages o with result := .pair, target := i.map.last.map (·.front) } := by
  unfold PlaceInput.compute
  rw [ho]
  exact if_pos hp

theorem PlaceInput.compute_of_absent {n : OperandName} (ho : i.operands = .error n) :
    i.compute = { i.blank with absent := some n } := by
  unfold PlaceInput.compute
  rw [ho]

/-- R40 to R43: stages 8 to 10 leave what the earlier stages recorded and do not end with PAIR. -/
theorem PlaceInput.roomStages_keeps (cls : Nat) (fMin first : Int) (last : Row) (p : PlacementRecord) :
    (i.roomStages o cls fMin first last p).lane = p.lane
      ∧ (i.roomStages o cls fMin first last p).pairTest = p.pairTest
      ∧ (i.roomStages o cls fMin first last p).result ≠ .pair := by
  unfold PlaceInput.roomStages
  dsimp only
  split
  · exact ⟨rfl, rfl, PlacementResult.noConfusion⟩
  · split <;> exact ⟨rfl, rfl, PlacementResult.noConfusion⟩

/-- R38 to R43: so do stages 5 to 10. -/
theorem PlaceInput.rowStages_keeps (cls : Nat) (p : PlacementRecord) :
    (i.rowStages o cls p).lane = p.lane ∧ (i.rowStages o cls p).pairTest = p.pairTest
      ∧ (i.rowStages o cls p).result ≠ .pair := by
  unfold PlaceInput.rowStages
  dsimp only
  split
  · exact ⟨rfl, rfl, PlacementResult.noConfusion⟩
  · split
    · split
      · exact ⟨rfl, rfl, PlacementResult.noConfusion⟩
      · exact PlaceInput.roomStages_keeps ..
    · exact ⟨rfl, rfl, PlacementResult.noConfusion⟩

/-- R36, R37: the lane and the pair test of a computation with its operands, and when it ends with PAIR. -/
theorem PlaceInput.compute_pairing (ho : i.operands = .ok o) :
    i.compute.lane = some (i.laneOf o) ∧ i.compute.pairTest = i.pairOutcome o
      ∧ (i.compute.result = .pair ↔ i.pairOutcome o = some .passed) := by
  by_cases hp : i.pairOutcome o = some .passed
  · rw [PlaceInput.compute_of_passed ho hp]
    exact ⟨rfl, rfl, fun _ => hp, fun _ => rfl⟩
  · obtain ⟨lane, test, result⟩ := PlaceInput.rowStages_keeps (i := i) (o := o)
      (classOf i.bounds o.thickness.value) (i.pairStages o)
    rw [PlaceInput.compute_of_not_passed ho hp]
    exact ⟨lane, test, fun h => absurd h result, fun h => absurd h hp⟩

/-! ### Where the pair test is run (R36) -/

theorem PlaceInput.pairOutcome_provisional (hk : i.kind = .provisional) :
    i.pairOutcome o = if isShort i.geometry o.length.value then some (pairTest i.geometry i.map o) else none := by
  unfold PlaceInput.pairOutcome
  rw [hk]

theorem PlaceInput.pairOutcome_final (hk : i.kind = .final) :
    i.pairOutcome o = if i.lane = .b then some (pairTest i.geometry i.map o) else none := by
  unfold PlaceInput.pairOutcome
  rw [hk]

theorem PlaceInput.laneOf_provisional (hk : i.kind = .provisional) :
    i.laneOf o = if isShort i.geometry o.length.value then
      if pairTest i.geometry i.map o = .passed then .b else .a else .c := by
  unfold PlaceInput.laneOf
  rw [hk]

theorem PlaceInput.laneOf_final (hk : i.kind = .final) : i.laneOf o = i.lane := by
  unfold PlaceInput.laneOf
  rw [hk]

/-! ### The operands (R35) -/

theorem operandOf_measured (b : Bool) (x : Int) (n : Option Int) : operandOf b (some x) n = some ⟨x, false⟩ := rfl

theorem operandOf_nominal (n : Option Int) : operandOf true none n = n.map (⟨·, true⟩) := rfl

theorem operandOf_eq_none {b : Bool} {x n : Option Int} :
    operandOf b x n = none ↔ x = none ∧ (n = none ∨ b = false) := by
  cases x <;> cases b <;> simp [operandOf]

theorem PlaceInput.maySubstitute_iff : i.maySubstitute = true ↔ i.geometry.policy = .substitute := beq_iff_eq

theorem PlaceInput.maySubstitute_eq_false : i.maySubstitute = false ↔ i.geometry.policy = .trap := by
  unfold PlaceInput.maySubstitute
  cases i.geometry.policy <;> decide

theorem PlaceInput.mayStandLength_eq_false :
    i.mayStandLength = false ↔ i.geometry.policy = .trap ∧ i.kind = .final := by
  unfold PlaceInput.mayStandLength
  rw [Bool.or_eq_false_iff, PlaceInput.maySubstitute_eq_false]
  cases i.kind <;> simp

/-- R35: an operand of the slab's measure `x` and nominal `f` is absent. -/
theorem operandOf_nominals_eq_none {b : Bool} {x : Option Int} {n : Option Nominals} {f : Nominals → Int} :
    operandOf b x (n.map f) = none ↔ x = none ∧ (n = none ∨ b = false) := by
  rw [operandOf_eq_none, Option.map_eq_none_iff]

/-- R35: the operands, from the four that are there. -/
theorem PlaceInput.operands_ok {w l t : Operand} {g : Nat}
    (hw : operandOf i.maySubstitute i.record.width (i.record.nominals.map (·.width)) = some w)
    (hl : operandOf i.mayStandLength i.record.measured (i.record.nominals.map (·.length)) = some l)
    (ht : operandOf i.maySubstitute i.record.thickness (i.record.nominals.map (·.thickness)) = some t)
    (hg : i.record.group = some g) : i.operands = .ok ⟨w, l, t, ⟨g, false⟩⟩ := by
  unfold PlaceInput.operands
  rw [hw, hl, ht, hg]

/-- R35: the first operand that is absent is named. -/
theorem PlaceInput.operands_absent
    (w : Option Operand) (hw : operandOf i.maySubstitute i.record.width (i.record.nominals.map (·.width)) = w)
    (l : Option Operand)
    (hl : operandOf i.mayStandLength i.record.measured (i.record.nominals.map (·.length)) = l)
    (t : Option Operand)
    (ht : operandOf i.maySubstitute i.record.thickness (i.record.nominals.map (·.thickness)) = t) :
    (w = none → i.operands = .error .width)
      ∧ (w ≠ none → l = none → i.operands = .error .length)
      ∧ (w ≠ none → l ≠ none → t = none → i.operands = .error .thickness)
      ∧ (w ≠ none → l ≠ none → t ≠ none → i.record.group = none → i.operands = .error .group) := by
  unfold PlaceInput.operands
  rw [hw, hl, ht]
  refine ⟨fun h => ?_, fun h h' => ?_, fun h h' h'' => ?_, fun h h' h'' hg => ?_⟩
  · rw [h]
  · obtain ⟨w, rfl⟩ := Option.ne_none_iff_exists'.1 h
    rw [h']
  · obtain ⟨w, rfl⟩ := Option.ne_none_iff_exists'.1 h
    obtain ⟨l, rfl⟩ := Option.ne_none_iff_exists'.1 h'
    rw [h'']
  · obtain ⟨w, rfl⟩ := Option.ne_none_iff_exists'.1 h
    obtain ⟨l, rfl⟩ := Option.ne_none_iff_exists'.1 h'
    obtain ⟨t, rfl⟩ := Option.ne_none_iff_exists'.1 h''
    rw [hg]

end

/-! ### What a computation leaves behind (R35, R44) -/

/-- R35, R44: the state in which the record of the slab carries the substituted flag `b`. -/
def flaggedWith (tag : Nat) (b : Bool) (s : State) : State :=
  { s with tracker := { s.tracker with
      table := s.tracker.table.map fun r => if r.tag = tag then { r with substituted := b } else r } }

/-- R44: the event and the hold of a computation, where it was clear. -/
def holdAdded (n : HoldName) (k : Furnace) (tag : Nat) (divisor : Option Int) (s : State) : State :=
  raise (.holdSet (.placement n k (some tag) divisor)) { s with
    place := s.place.set k { s.place.get k with holds := (s.place.get k).holds.put n true } }

theorem setHoldOnce_of_set {n : HoldName} {k : Furnace} {tag : Nat} {d : Option Int} {s : State}
    (h : (s.place.get k).holds.get n = true) : setHoldOnce n k tag d s = s :=
  if_pos h

theorem setHoldOnce_of_clear {n : HoldName} {k : Furnace} {tag : Nat} {d : Option Int} {s : State}
    (h : (s.place.get k).holds.get n = false) : setHoldOnce n k tag d s = holdAdded n k tag d s :=
  if_neg (Bool.eq_false_iff.1 h)

/-- R35, R41, R44: the flag, then the SUBSTITUTED hold, then the STROKE_BASIS hold. -/
theorem placementMarks_eq (i : PlaceInput) (p : PlacementRecord) (s : State) :
    placementMarks i p s =
      let t := flaggedWith i.record.tag i.substitutes s
      let u := if i.substitutes then setHoldOnce .substituted i.furnace i.record.tag none t else t
      if p.fallback = some true then setHoldOnce .strokeBasis i.furnace i.record.tag p.divisor u else u := rfl

/-- Settles O34: the class, the lane and the pair test by the stages' own equations; the operands by which of the
four is absent; the marks of the computation by the hold it finds. -/
theorem operandsAndPairTest : Obligations.OperandsAndPairTest := by
  refine ⟨fun b t => classOf_ordered t, ⟨?lanes, ?conditions⟩, ⟨fun g m o => pairTest_passed_iff, ?pair⟩, ?absent,
    ?nominals, ?flag, ?marks⟩
  case lanes =>
    intro i o ho short test
    obtain ⟨lane, ran, result⟩ := PlaceInput.compute_pairing ho
    refine ⟨fun hk hs => ?_, fun hk hs ht => ?_, fun n hk hs ht => ?_, fun hk => ?_, fun hk hl => ?_,
      fun n hk hl ht => ?_, fun hk hl => ?_⟩
    · have long : ¬ isShort i.geometry o.length.value = true := isShort_iff.not.2 hs
      rw [lane, ran, PlaceInput.laneOf_provisional hk, PlaceInput.pairOutcome_provisional hk, if_neg long, if_neg long]
      exact ⟨rfl, rfl⟩
    · have passed : i.pairOutcome o = some .passed := by
        rw [PlaceInput.pairOutcome_provisional hk, if_pos (isShort_iff.2 hs)]
        exact congrArg some ht
      rw [lane, ran, PlaceInput.laneOf_provisional hk, if_pos (isShort_iff.2 hs), if_pos ht]
      exact ⟨rfl, passed, result.2 passed⟩
    · have failed : i.pairOutcome o = some (.failed n) := by
        rw [PlaceInput.pairOutcome_provisional hk, if_pos (isShort_iff.2 hs)]
        exact congrArg some ht
      have other : pairTest i.geometry i.map o ≠ .passed := fun h => PairOutcome.noConfusion (ht.symm.trans h)
      rw [lane, ran, Ne, result, failed, PlaceInput.laneOf_provisional hk, if_pos (isShort_iff.2 hs), if_neg other]
      exact ⟨rfl, rfl, fun h => PairOutcome.noConfusion (Option.some.inj h)⟩
    · rw [lane, PlaceInput.laneOf_final hk]
    · rw [ran, PlaceInput.pairOutcome_final hk, if_pos hl]
    · rw [Ne, result, PlaceInput.pairOutcome_final hk, if_pos hl]
      exact fun h => PairOutcome.noConfusion (ht.symm.trans (Option.some.inj h))
    · rw [ran, Ne, result, PlaceInput.pairOutcome_final hk, if_neg hl]
      exact ⟨rfl, nofun⟩
  case conditions =>
    exact fun g m o => ⟨pairTest_noRow, fun r hr n _ => pairTest_failed_iff hr⟩
  case pair =>
    intro i o r ho hfinal hprov passed hr
    have ran : i.pairOutcome o = some .passed := by
      cases hk : i.kind with
      | final => rw [PlaceInput.pairOutcome_final hk, if_pos (hfinal hk), passed]
      | provisional => rw [PlaceInput.pairOutcome_provisional hk, if_pos (isShort_iff.2 (hprov hk)), passed]
    have lane : i.laneOf o = .b := by
      cases hk : i.kind with
      | final => rw [PlaceInput.laneOf_final hk, hfinal hk]
      | provisional => rw [PlaceInput.laneOf_provisional hk, if_pos (isShort_iff.2 (hprov hk)), if_pos passed]
    have last : i.map.last = some r := hr
    rw [PlaceInput.compute_of_passed ho ran, last]
    exact ⟨rfl, rfl, rfl, rfl, congrArg some lane⟩
  case absent =>
    intro i
    refine ⟨fun n hn => ?_, ?_, fun w l t g hw hl ht hg => ?_⟩
    · rw [PlaceInput.compute_of_absent hn]
      exact ⟨rfl, rfl, rfl⟩
    · intro bare noWidth noLength noThickness
      have first := i.operands_absent _ rfl _ rfl _ rfl
      rw [Ne, Ne, Ne, operandOf_nominals_eq_none, operandOf_nominals_eq_none, operandOf_nominals_eq_none,
        PlaceInput.maySubstitute_eq_false, PlaceInput.mayStandLength_eq_false] at first
      exact first
    · exact PlaceInput.operands_ok (by rw [hw]; rfl) (by rw [hl]; rfl) (by rw [ht]; rfl) hg
  case nominals =>
    intro i n grp hn hg fill
    have filled (x : Option Int) (f : Nominals → Int) :
        operandOf true x (i.record.nominals.map f) = some (fill x (f n)) := by
      rw [hn]
      cases x <;> rfl
    have trapped (h : i.geometry.policy = .trap) : i.maySubstitute = false := PlaceInput.maySubstitute_eq_false.2 h
    have first := i.operands_absent _ rfl _ rfl _ rfl
    rw [Ne, Ne, Ne, operandOf_nominals_eq_none, operandOf_nominals_eq_none, operandOf_nominals_eq_none,
      PlaceInput.maySubstitute_eq_false, PlaceInput.mayStandLength_eq_false] at first
    obtain ⟨-, noLength, noThickness, -⟩ := first
    refine ⟨fun hp => ?_, fun w t hp hk hw ht => ?_, fun w hp hk hw hl => ?_, fun w l hp hw hl ht => ?_⟩
    · have may : i.maySubstitute = true := PlaceInput.maySubstitute_iff.2 hp
      have mayLength : i.mayStandLength = true := by rw [PlaceInput.mayStandLength, may]; rfl
      exact PlaceInput.operands_ok (by rw [may]; exact filled ..) (by rw [mayLength]; exact filled ..)
        (by rw [may]; exact filled ..) hg
    · have mayLength : i.mayStandLength = true := by rw [PlaceInput.mayStandLength, hk, Bool.or_eq_true]; exact .inr rfl
      exact PlaceInput.operands_ok (by rw [hw]; rfl) (by rw [mayLength]; exact filled ..) (by rw [ht]; rfl) hg
    · exact noLength (by simp [hw]) ⟨hl, .inr ⟨hp, hk⟩⟩
    · exact noThickness (by simp [hw]) (by simp [hl]) ⟨ht, .inr hp⟩
  case flag =>
    intro i
    unfold PlaceInput.substitutes
    cases i.operands with
    | error n => simp
    | ok o => simp [substitutionUsed, or_assoc]
  case marks =>
    intro i s hfall k flagged
    have marked := placementMarks_eq i i.compute s
    dsimp only at marked
    rw [if_neg hfall] at marked
    refine ⟨fun h => ?_, fun h hset => ?_, fun h hclear => ?_⟩
    · rw [marked, h]
      rfl
    · rw [marked, h, if_pos rfl]
      exact setHoldOnce_of_set hset
    · rw [marked, h, if_pos rfl]
      exact setHoldOnce_of_clear hclear

end Sys2Proof.Machine
end

section
/-! Proof of the statement on the room behind the last row, the strokes and the targets. First the divisor and what
stages 5 to 10 can end with; then the statement. -/

namespace Sys2Proof.Machine

/-! ### The stroke count and its divisor (R41) -/

/-- R41: the quotient rounded up is the least count of strokes that makes up the difference. -/
theorem ceilDiv_least {a b : Int} (h : 0 < b) : a ≤ ceilDiv a b * b ∧ (ceilDiv a b - 1) * b < a := by
  have split := Int.emod_add_mul_ediv (a + b - 1) b
  have nonneg := Int.emod_nonneg (a + b - 1) h.ne'
  have below := Int.emod_lt_of_pos (a + b - 1) h
  unfold ceilDiv
  constructor <;> linarith

section
variable {i : PlaceInput} {o : Operands}

theorem PlaceInput.divisor_nominal (h : i.geometry.basis = .nominal) :
    i.divisor = i.geometry.sNom ∧ i.fallback = false := by
  unfold PlaceInput.divisor PlaceInput.fallback
  rw [h]
  exact ⟨rfl, rfl⟩

theorem PlaceInput.divisor_reported {x : Int} (h : i.geometry.basis = .lastReported) (hx : i.lastStroke = some x)
    (hne : x ≠ 0) : i.divisor = x ∧ i.fallback = false := by
  unfold PlaceInput.divisor PlaceInput.fallback
  rw [h, hx]
  refine ⟨if_neg hne, ?_⟩
  simp [hne]

theorem PlaceInput.divisor_fallback (h : i.geometry.basis = .lastReported)
    (hx : i.lastStroke = none ∨ i.lastStroke = some 0) :
    i.divisor = i.geometry.sNom ∧ i.fallback = true := by
  unfold PlaceInput.divisor PlaceInput.fallback
  rcases hx with hx | hx
  all_goals
    rw [h, hx]
    exact ⟨rfl, rfl⟩

/-! ### What the stages end with (R38 to R43) -/

/-- A computation ended with a target in the zone, no deeper than `zMax` and no shallower than `fMin`. -/
def EndsPlaced (i : PlaceInput) (fMin : Int) (q : PlacementRecord) : Prop :=
  q.result = .placed ∧ ∃ t, q.target = some t ∧ fMin ≤ t ∧ t ≤ i.geometry.zMax

/-- A computation counted strokes, and its record carries the divisor. -/
def EndsCounted (i : PlaceInput) (q : PlacementRecord) : Prop :=
  (q.result = .strokes ∨ q.result = .full) ∧ q.divisor = some i.divisor ∧ q.fallback = some i.fallback

/-- A record that carries no divisor. -/
def NoDivisor (q : PlacementRecord) : Prop := q.divisor = none ∧ q.fallback = none

theorem PlaceInput.roomStages_ends (cls : Nat) {fMin first : Int} {last : Row} {p : PlacementRecord}
    (hp : NoDivisor p) (hz : fMin ≤ i.geometry.zMax) :
    let q := i.roomStages o cls fMin first last p
    EndsPlaced i fMin q ∧ NoDivisor q ∨ EndsCounted i q := by
  unfold PlaceInput.roomStages
  dsimp only
  split
  next hroom => exact .inl ⟨⟨rfl, _, rfl, le_min hroom hz, min_le_right ..⟩, hp⟩
  next =>
    refine .inr ?_
    split
    · exact ⟨.inr rfl, rfl, rfl⟩
    · exact ⟨.inl rfl, rfl, rfl⟩

theorem PlaceInput.rowStages_ends (cls : Nat) {p : PlacementRecord} (hp : NoDivisor p) :
    let q := i.rowStages o cls p
    EndsPlaced i (fMinOf i.geometry o.width.value) q ∧ NoDivisor q
      ∨ (q.result = .noFit ∨ q.result = .mapFull) ∧ NoDivisor q ∨ EndsCounted i q := by
  intro q
  rcases lt_or_ge i.geometry.zMax (fMinOf i.geometry o.width.value) with hz | hz
  · have ends : q = _ := PlaceInput.rowStages_noFit hz
    rw [ends]
    exact .inr (.inl ⟨.inl rfl, hp⟩)
  · by_cases hrows : i.map.rows = []
    · have ends : q = _ := PlaceInput.rowStages_emptyMap hz hrows
      rw [ends]
      exact .inl ⟨⟨rfl, _, rfl, hz, le_rfl⟩, hp⟩
    · rcases lt_or_ge i.map.rows.length 64 with hlen | hlen
      · obtain ⟨first, last, hfirst, hlast⟩ := FurnaceMap.exists_first_last hrows
        have ends : q = _ := PlaceInput.rowStages_behindRow hz hfirst hlast hlen
        rw [ends]
        rcases PlaceInput.roomStages_ends (o := o) cls (first := first.front) (last := last)
          (p := { p with fMin := some (fMinOf i.geometry o.width.value) }) hp hz with placed | counted
        · exact .inl placed
        · exact .inr (.inr counted)
      · have ends : q = _ := PlaceInput.rowStages_fullMap hz hlen
        rw [ends]
        exact .inr (.inl ⟨.inr rfl, hp⟩)

/-- R37: a pair test that was run and passed is the pair test of the map. -/
theorem PlaceInput.pairTest_of_pairOutcome (h : i.pairOutcome o = some .passed) :
    pairTest i.geometry i.map o = .passed := by
  unfold PlaceInput.pairOutcome at h
  split at h
  · split at h
    · exact Option.some.inj h
    · exact nomatch h
  · split at h
    · exact Option.some.inj h
    · exact nomatch h

/-- R37 to R42: the target of a computation that ended with PLACED or PAIR, and the divisor of every other. -/
theorem PlaceInput.compute_ends :
    (i.compute.result = .placed ∨ i.compute.result = .pair) ∧ NoDivisor i.compute
        ∧ (∃ o t, i.operands = .ok o ∧ i.compute.target = some t
          ∧ fMinOf i.geometry o.width.value ≤ t ∧ t ≤ i.geometry.zMax)
      ∨ (i.compute.result = .noFit ∨ i.compute.result = .mapFull ∨ i.compute.result = .unmeasured) ∧ NoDivisor i.compute
      ∨ EndsCounted i i.compute := by
  cases ho : i.operands with
  | error n =>
    rw [PlaceInput.compute_of_absent ho]
    exact .inr (.inl ⟨.inr (.inr rfl), rfl, rfl⟩)
  | ok o =>
    by_cases hp : i.pairOutcome o = some .passed
    · obtain ⟨r, hlast, -, -, -, -, hmin, hmax⟩ := pairTest_passed_iff.1 (PlaceInput.pairTest_of_pairOutcome hp)
      have last : i.map.last = some r := hlast
      rw [PlaceInput.compute_of_passed ho hp, last]
      exact .inl ⟨.inr rfl, ⟨rfl, rfl⟩, o, r.front, rfl, rfl, hmin, hmax⟩
    · rw [PlaceInput.compute_of_not_passed ho hp]
      rcases PlaceInput.rowStages_ends (i := i) (o := o) (classOf i.bounds o.thickness.value)
        (p := i.pairStages o) ⟨rfl, rfl⟩ with ⟨⟨result, t, target, hmin, hmax⟩, bare⟩ | ⟨result, bare⟩ | counted
      · exact .inl ⟨.inl result, bare, o, t, rfl, target, hmin, hmax⟩
      · exact .inr (.inl ⟨result.imp_right .inl, bare⟩)
      · exact .inr (.inr counted)

end

/-- Settles O36: behind the last row by stages 8 to 10, whose stroke count is a quotient rounded up; the rest from
what a computation can end with. -/
theorem roomStrokesAndTargets : Obligations.RoomStrokesAndTargets := by
  refine ⟨?room, ?target, ?divisor, ?hold⟩
  case room =>
    intro i o first last ho hp hfirst hlast hlen fMin cls gap raw s hz
    have computed : i.compute = i.roomStages o cls fMin first.front last
        { i.pairStages o with fMin := some fMin } := by
      rw [PlaceInput.compute_of_not_passed ho hp]
      exact PlaceInput.rowStages_behindRow hz hfirst hlast hlen
    have stages : i.compute =
        let p := { i.pairStages o with fMin := some fMin, gap := some gap, rawTarget := some raw }
        if fMin ≤ raw then { p with result := .placed, target := some (min raw i.geometry.zMax) }
        else
          let n := ceilDiv (fMin - raw) s
          let q := { p with strokes := some n, divisor := some s, fallback := some i.fallback }
          if i.geometry.lEff < first.front + n * s then { q with result := .full }
          else { q with result := .strokes, target := some (min (raw + n * s) i.geometry.zMax) } := by
      have gaps : gapOf i.gaps cls (decide (o.group.value = last.occ.leadSlab.group)) = gap := by
        unfold gapOf
        simp only [decide_eq_true_eq]
        rfl
      rw [computed]
      unfold PlaceInput.roomStages
      rw [gaps]
    dsimp only at stages
    refine ⟨fun hroom => ?_, fun hshort hs => ⟨ceilDiv (fMin - raw) s, ?_⟩⟩
    · rw [stages, if_pos hroom]
      exact ⟨rfl, rfl⟩
    · obtain ⟨enough, least⟩ := ceilDiv_least (a := fMin - raw) hs
      rw [stages, if_neg (not_le.2 hshort)]
      refine ⟨?_, by linarith, by linarith, fun hfull => ?_, fun hfits => ?_⟩
      · split <;> rfl
      · rw [if_pos hfull]
      · rw [if_neg (not_lt.2 hfits)]
        exact ⟨rfl, rfl⟩
  case target =>
    intro i result
    rcases i.compute_ends with ⟨-, -, o, t, ho, target, hmin, hmax⟩ | ⟨other, -⟩ | ⟨other, -, -⟩
    · obtain ⟨zone, door⟩ := max_le_iff.1 hmin
      exact ⟨o, t, ho, target, zone, hmax, door⟩
    · exfalso
      rcases result with result | result <;> simp [result] at other
    · exfalso
      rcases result with result | result <;> simp [result] at other
  case divisor =>
    intro i
    refine ⟨PlaceInput.divisor_nominal, fun x => PlaceInput.divisor_reported, PlaceInput.divisor_fallback,
      fun counted => ?_, fun hstrokes hfull => ?_⟩
    · rcases i.compute_ends with ⟨other, -, -⟩ | ⟨other, -⟩ | ⟨-, divisor⟩
      · exfalso
        rcases counted with result | result <;> simp [result] at other
      · exfalso
        rcases counted with result | result <;> simp [result] at other
      · exact divisor
    · rcases i.compute_ends with ⟨-, bare, -⟩ | ⟨-, bare⟩ | ⟨counted, -⟩
      · exact bare
      · exact bare
      · exact absurd counted (not_or.2 ⟨hstrokes, hfull⟩)
  case hold =>
    intro i s hfall hsub k unflagged
    have counted : i.compute.divisor = some i.divisor ∧ i.compute.fallback = some i.fallback := by
      rcases i.compute_ends with ⟨-, bare, -⟩ | ⟨-, bare⟩ | ⟨-, divisor⟩
      · exact nomatch bare.2.symm.trans hfall
      · exact nomatch bare.2.symm.trans hfall
      · exact divisor
    have nominal : i.divisor = i.geometry.sNom := by
      have back : i.fallback = true := Option.some.inj (counted.2.symm.trans hfall)
      unfold PlaceInput.fallback at back
      simp only [Bool.and_eq_true, Bool.or_eq_true, beq_iff_eq] at back
      exact (PlaceInput.divisor_fallback back.1 back.2).1
    have marked := placementMarks_eq i i.compute s
    dsimp only at marked
    rw [if_pos hfall, hsub, if_neg Bool.false_ne_true, counted.1, nominal] at marked
    refine ⟨fun hset => ?_, fun hclear => ?_⟩
    · rw [marked]
      exact setHoldOnce_of_set hset
    · rw [marked]
      exact setHoldOnce_of_clear hclear

end Sys2Proof.Machine
end

section
/-! Settles O37: the reports of the table drive and the grant rule (R59, R60, R62, R94, R95, R97, R98). -/

namespace Sys2Proof.Machine

/-! ### What a final computation leaves to the arbiters -/

/-- The grid arbiter, the requests, the move in progress, the maps, the schedule and the loaded tables as they were. -/
structure KeepsGrants (s t : State) : Prop where
  motion : t.arb.motion = s.arb.motion
  requests : t.arb.requests = s.arb.requests
  grid : t.grid = s.grid
  maps : t.maps = s.maps
  schedule : t.schedule = s.schedule
  cfg : t.cfg = s.cfg

theorem Untouched.keepsGrants {s t : State} (h : Untouched s t) : KeepsGrants s t :=
  ⟨by rw [h.arb], by rw [h.arb], h.grid, h.maps, h.schedule, h.cfg⟩

theorem keepsGrants_finalClosed : FinalClosed KeepsGrants where
  refl s := (Untouched.refl s).keepsGrants
  trans h k := ⟨k.motion.trans h.motion, k.requests.trans h.requests, k.grid.trans h.grid, k.maps.trans h.maps,
    k.schedule.trans h.schedule, k.cfg.trans h.cfg⟩
  sendOwn p d r b s := (untouched_send.sendOwn p d r b s).keepsGrants
  holdEvent e s := (untouched_send.holdEvent e s).keepsGrants
  setTracker _ _ := ⟨rfl, rfl, rfl, rfl, rfl, rfl⟩
  setHolds _ _ := ⟨rfl, rfl, rfl, rfl, rfl, rfl⟩
  setWindows _ _ := ⟨rfl, rfl, rfl, rfl, rfl, rfl⟩
  setDue _ _ := ⟨rfl, rfl, rfl, rfl, rfl, rfl⟩
  setSeq _ _ _ _ := ⟨rfl, rfl, rfl, rfl, rfl, rfl⟩
  setHold _ _ _ := ⟨rfl, rfl, rfl, rfl, rfl, rfl⟩

/-! ### A slab held and its sequencer idle (R60, R61, R85) -/

section
variable {k : Furnace} {cause : SlabCause} {tag : Nat} {r : TableRecord} {s : State}

/-- R85: a rejected slab is not held. -/
theorem holdTag_reject (hr : s.tracker.table.find? (fun r => r.tag == tag) = some r) (hs : r.state = .reject) :
    holdTag cause tag s = s := by
  unfold holdTag State.findTag
  rw [hr]
  unfold placeHold
  dsimp only
  rw [hs]

/-- R85: the hold of any other slab: SLAB_HELD and the state of its record. -/
theorem placeHold_held (cause : SlabCause) (s : State) (hs : r.state ≠ .reject) :
    let told := raise (.slabHeld r.tag r.id (some cause) (some r.state) (r.anchor + s.travel)) s
    ∃ d, placeHold cause r s = { s with
      links := told.links
      ret := told.ret
      tracker := { s.tracker with
        table := s.tracker.table.map fun x => if x.tag = r.tag then { x with state := .held cause } else x }
      due := d } := by
  intro told
  have marked (b : Bool) (t : State) : ∃ d, markReady b (markList t) = { t with due := d } := by
    unfold markReady
    split <;> exact ⟨_, rfl⟩
  let t := updateRecord r.tag (fun x => { x with state := .held cause }) s
  obtain ⟨links, ret, -⟩ := SameLines.raise (s := s) (t := t) ⟨rfl, rfl, rfl⟩
    (.slabHeld r.tag r.id (some cause) (some r.state) (r.head s.travel))
  obtain ⟨d, hd⟩ := marked r.ready (raise (.slabHeld r.tag r.id (some cause) (some r.state) (r.head s.travel)) t)
  rw [raise_eq _ t, links, ret] at hd
  refine ⟨d, ?_⟩
  unfold placeHold
  split
  · next h => exact absurd h hs
  · rw [raise_eq _ (updateRecord ..), links, ret]
    exact hd

theorem holdTag_held (hr : s.tracker.table.find? (fun r => r.tag == tag) = some r) (hs : r.state ≠ .reject) :
    let told := raise (.slabHeld r.tag r.id (some cause) (some r.state) (r.anchor + s.travel)) s
    ∃ d, holdTag cause tag s = { s with
      links := told.links
      ret := told.ret
      tracker := { s.tracker with
        table := s.tracker.table.map fun x => if x.tag = tag then { x with state := .held cause } else x }
      due := d } := by
  have tagged : r.tag = tag := by simpa using List.find?_some hr
  have held : holdTag cause tag s = placeHold cause r s := by
    unfold holdTag State.findTag
    rw [hr]
  rw [held, ← tagged]
  exact placeHold_held cause s hs

end

/-! ### The moves (R59, R60, R97) -/

/-- R97: the arbiter after a TABLE_MOVE of charger k's grant. -/
def arbiterMoving (k : Furnace) (a : Arbiter) : Arbiter :=
  { a with motion := .positioning k a.nextMove true, nextMove := if a.nextMove < 255 then a.nextMove + 1 else 1 }

/-- R98: the state in which a move of charger k's grant and the grant have ended. -/
def grantEnded (k : Furnace) (s : State) : State :=
  { s with
    arb := { s.arb with motion := .still, requests := s.arb.requests.set k none }
    due := { s.due with tableRule := true, gridEval := true } }

theorem markList_eq (s : State) : markList s = { s with due := { s.due with tableRule := true, gridEval := true } } := rfl

theorem dropRequest_becomeStill (k : Furnace) (s : State) : dropRequest k (becomeStill s) = grantEnded k s := by
  unfold dropRequest becomeStill putRequest grantEnded
  rw [markList_eq, markList_eq]
  rfl

section
variable {k : Furnace} {c : CycleRecord} {g : TableGeometry} {q : PosRequest} {r : TableRecord} {s : State}

theorem orderMove_eq (k : Furnace) (d : Int) (s : State) :
    orderMove k d s = { sendField .tableDrive 0 (.tableMove s.arb.nextMove d) s with
      arb := arbiterMoving k s.arb, due := { s.due with gridEval := true } } := by
  have sent := sendField_linksOnly .tableDrive 0 (.tableMove s.arb.nextMove d) s
  unfold orderMove
  dsimp only
  generalize sendField .tableDrive 0 (.tableMove s.arb.nextMove d) s = t at sent ⊢
  rw [sent]
  rfl

theorem moveSuccess_eq (k : Furnace) (s : State) : moveSuccess k s = runFinal k { s with
    arb := { s.arb with
      motion := .still, requests := s.arb.requests.set k none, holds := s.arb.holds.set k true }
    seqs := s.seqs.set k { s.seqs.get k with cycle := (s.seqs.get k).cycle.map fun c => { c with timer := none } }
    due := { s.due with tableRule := true, gridEval := true } } := by
  unfold moveSuccess
  rw [dropRequest_becomeStill]
  rfl

theorem moveFailed_eq (k : Furnace) (s : State) : moveFailed k s = enterHeld k .tableFault none (grantEnded k s) := by
  unfold moveFailed
  rw [dropRequest_becomeStill]

/-- Where a telegram goes does not depend on the arbiters or the sequencers. -/
theorem sendField_alike {r : Role} {n : Nat} {b : OwnBody} {t : State} (hl : t.links = s.links)
    (hp : t.cfg.partners = s.cfg.partners) : sendField r n b t = { t with links := (sendField r n b s).links } :=
  Eq.trans (sendField_linksOnly r n b t) (by rw [sendField_congr hl hp])

theorem positionedAt_iff {d : Int} : s.positionedAt g k d = true ↔
    mag d ≤ g.positioningTolerance ∧ (s.sensors.get (doorSensor k)).taken = true := by
  unfold State.positionedAt State.present
  rw [Bool.and_eq_true, decide_eq_true_eq]
  rfl

theorem moveDistance_some (hr : s.tracker.table.find? (fun r => r.tag == q.tag) = some r) :
    s.moveDistance q = some (q.target - r.centre s.travel) := by
  unfold State.moveDistance State.findTag
  rw [hr]
  rfl

/-- R59, R60: the end of a move of a grant is tested at the distance that is left. -/
theorem moveEnded_eq (hc : (s.seqs.get k).cycle = some c) (hg : s.cfg.tableGeometry = some g)
    (hq : s.arb.requests.get k = some q) (hr : s.tracker.table.find? (fun r => r.tag == q.tag) = some r) :
    moveEnded k s =
      let d := q.target - r.centre s.travel
      if s.positionedAt g k d then moveSuccess k s
      else if c.corrective < 2 then correctMove k c.tag g d s else lastMiss k c.tag s := by
  unfold moveEnded State.cycle State.seq
  rw [hc, hg, hq, Option.bind_some, moveDistance_some hr]

/-- R60, R97: the corrective move of a grant. -/
theorem correctMove_ordered {d : Int} (hc : (s.seqs.get k).cycle = some c) (hl : s.limitsPass g d = true) :
    correctMove k c.tag g d s = { sendField .tableDrive 0 (.tableMove s.arb.nextMove d) s with
      seqs := s.seqs.set k { s.seqs.get k with cycle := some { c with corrective := c.corrective + 1 } }
      arb := arbiterMoving k s.arb, due := { s.due with gridEval := true } } := by
  unfold correctMove
  rw [updateCycle_eq _ hc]
  dsimp only
  refine (if_pos hl).trans ?_
  rw [orderMove_eq, sendField_withSeqs]

/-- R60, R97: a corrective move that fails the move limits ends as the third miss. -/
theorem correctMove_refused {d : Int} (hc : (s.seqs.get k).cycle = some c) (hl : s.limitsPass g d = false) :
    correctMove k c.tag g d s = lastMiss k c.tag { s with
      seqs := s.seqs.set k { s.seqs.get k with cycle := some { c with corrective := c.corrective + 1 } } } := by
  unfold correctMove
  rw [updateCycle_eq _ hc]
  exact if_neg (Bool.eq_false_iff.1 hl)

end

/-- R60, R97: what the third miss leaves of the state: the grant ended with no hold, the sequencer IDLE, and the slab
held where it is not rejected. -/
structure MissTaken (k : Furnace) (tag : Nat) (r : TableRecord) (s u : State) : Prop where
  arb : u.arb = { s.arb with
    motion := .still, requests := s.arb.requests.set k none, holds := s.arb.holds.set k false }
  idle : IdleFrom (s.seqs.get k) (u.seqs.get k)
  start : u.due.start.get k = true
  reject : r.state = .reject → u.tracker = s.tracker ∧ u.links = s.links
  held : r.state ≠ .reject →
    u.tracker.table = s.tracker.table.map (fun x => if x.tag = tag then { x with state := .held .position } else x)
      ∧ u.links = (raise (.slabHeld r.tag r.id (some .position) (some r.state) (r.anchor + s.travel)) s).links
  other : u.seqs.get (otherFurnace k) = s.seqs.get (otherFurnace k)
  maps : u.maps = s.maps
  schedule : u.schedule = s.schedule
  cfg : u.cfg = s.cfg
  grid : u.grid = s.grid
  place : u.place = s.place
  counters : u.counters = s.counters
  sensors : u.sensors = s.sensors
  mgmt : u.mgmt = s.mgmt

theorem lastMiss_taken (k : Furnace) {tag : Nat} {r : TableRecord} {s : State}
    (hr : s.tracker.table.find? (fun r => r.tag == tag) = some r) : MissTaken k tag r s (lastMiss k tag s) := by
  obtain ⟨d, w, start, idle⟩ := enterIdle_eq k (holdTag .position tag (grantEnded k s))
  have missed : lastMiss k tag s = enterIdle k (holdTag .position tag (grantEnded k s)) := by
    unfold lastMiss holdAndIdle
    rw [dropRequest_becomeStill]
  rw [idle] at missed
  have seqs : (holdTag .position tag (grantEnded k s)).seqs = s.seqs := (Quiet.holdTag .position tag _).seqs
  rw [seqs] at missed
  by_cases hs : r.state = .reject
  · rw [holdTag_reject (s := grantEnded k s) hr hs] at missed
    rw [missed]
    refine ⟨rfl, ?_, start, fun _ => ⟨rfl, rfl⟩, fun h => absurd hs h, PerFurnace.get_set_other .., rfl, rfl, rfl, rfl,
      rfl, rfl, rfl, rfl⟩
    dsimp only
    rw [PerFurnace.get_set]
    exact ⟨rfl, rfl, rfl, rfl, rfl⟩
  · obtain ⟨d', held⟩ := holdTag_held (cause := .position) (s := grantEnded k s) hr hs
    rw [held] at missed
    rw [missed]
    have lines : SameLines s (grantEnded k s) := ⟨rfl, rfl, rfl⟩
    refine ⟨rfl, ?_, start, fun h => absurd h hs, fun _ => ⟨rfl, (lines.raise _).links⟩, PerFurnace.get_set_other ..,
      rfl, rfl, rfl, rfl, rfl, rfl, rfl, rfl⟩
    dsimp only
    rw [PerFurnace.get_set]
    exact ⟨rfl, rfl, rfl, rfl, rfl⟩

/-- The count of corrective moves goes with the cycle. -/
theorem MissTaken.of_corrected {k : Furnace} {tag : Nat} {r : TableRecord} {s u : State} {q : Sequencer}
    (h : MissTaken k tag r { s with seqs := s.seqs.set k q } u) (hq : q.inflight = (s.seqs.get k).inflight) :
    MissTaken k tag r s u := by
  have lines : SameLines s { s with seqs := s.seqs.set k q } := ⟨rfl, rfl, rfl⟩
  obtain ⟨state, cause, waiting, cycle, inflight⟩ := h.idle
  refine ⟨h.arb, ⟨state, cause, waiting, cycle, ?_⟩, h.start, h.reject, fun hs => ?_,
    h.other.trans (PerFurnace.get_set_other ..), h.maps, h.schedule, h.cfg, h.grid, h.place, h.counters, h.sensors, h.mgmt⟩
  · rw [inflight, ← hq]
    exact congrArg Sequencer.inflight (PerFurnace.get_set ..)
  · obtain ⟨table, links⟩ := h.held hs
    exact ⟨table, links.trans (lines.raise _).links⟩

/-! ### The table report (R98) -/

section
variable {h : Hdr} {number fault : Nat} {o : MoveOutcome} {k : Furnace} {s : State}

/-- R98: a TABLE_REPORT that is taken goes to the arbiter. -/
theorem tableReport_taken (ht : FieldTaken s Kind.tableReport h .tableDrive) :
    exec (.tableReport h number (.val o) fault) s = .next (finish (takeTableReport number o s)) := by
  change powered (field (.tableReport h number (.val o) fault) Kind.tableReport h true (fromTableDrive number (.val o))) s
    = _
  rw [powered_on _ _ ht.1.1, field_of_taken (by decide) (by decide) ht]
  rfl

theorem takeTableReport_still (hm : s.arb.motion = .still) :
    takeTableReport number o s = unexpectedTable o number s := by
  unfold takeTableReport
  rw [hm]

theorem takeTableReport_manual (hm : s.arb.motion = .manual) :
    takeTableReport number o s = if number = 0 then becomeStill s else unexpectedTable o number s := by
  unfold takeTableReport
  rw [hm]

theorem takeTableReport_positioning {n : Nat} {w : Bool} (hm : s.arb.motion = .positioning k n w) :
    takeTableReport number o s = if number ≠ n then unexpectedTable o number s
      else if !w then becomeStill s else if o = .done then moveEnded k s else moveFailed k s := by
  unfold takeTableReport
  rw [hm]

/-- R59, R60: the report of a move that is wanted and done. -/
theorem takeTableReport_done (hm : s.arb.motion = .positioning k number true) :
    takeTableReport number .done s = moveEnded k s := by
  rw [takeTableReport_positioning hm, if_neg (not_not.2 rfl), if_neg (by decide), if_pos rfl]

end

/-! ### The grant rule (R94, R95) -/

/-- R95: the move of a request passes the move limits. -/
def movePasses (g : TableGeometry) (s : State) (q : PosRequest) : Bool :=
  (s.tracker.table.find? fun r => r.tag == q.tag).any fun r => s.limitsPass g (q.target - r.centre s.travel)

/-- R94: a request as the grant rule leaves it where it is not granted. -/
def checkedRequest (g : TableGeometry) (s : State) (q : PosRequest) : PosRequest :=
  { q with status := if movePasses g s q = true then .waiting else .skipped }

/-- R95: the reason a sequencer shows after its request has been checked. -/
def shownFor (g : TableGeometry) (s : State) (q : Sequencer) (r : Option PosRequest) : Sequencer :=
  { q with waiting := match r with
    | none => q.waiting
    | some r => if movePasses g s r = true then .grant else .tableBlocked }

/-- R94, R95: the state after both requests have been checked. -/
def requestsChecked (g : TableGeometry) (s : State) : State :=
  { s with
    arb := { s.arb with
      requests := ⟨s.arb.requests.f1.map (checkedRequest g s), s.arb.requests.f2.map (checkedRequest g s)⟩ }
    seqs := ⟨shownFor g s s.seqs.f1 s.arb.requests.f1, shownFor g s s.seqs.f2 s.arb.requests.f2⟩
    due := { s.due with gridEval := true } }

section
variable {k : Furnace} {g : TableGeometry} {q : PosRequest} {r : TableRecord} {s : State}

theorem requestPasses_eq (hg : s.cfg.tableGeometry = some g) : s.requestPasses q = movePasses g s q := by
  unfold State.requestPasses State.moveDistance State.findTag movePasses
  rw [hg]
  cases s.tracker.table.find? fun r => r.tag == q.tag <;> rfl

theorem checkRequest_eq (hg : s.cfg.tableGeometry = some g) (hw : ∀ q ∈ s.arb.requests.get k, q.status ≠ .granted) :
    checkRequest k s = { s with
      arb := { s.arb with requests := s.arb.requests.set k ((s.arb.requests.get k).map (checkedRequest g s)) }
      seqs := s.seqs.set k (shownFor g s (s.seqs.get k) (s.arb.requests.get k)) } := by
  unfold checkRequest
  cases hq : s.arb.requests.get k with
  | none =>
    have requests : s.arb.requests.set k (none.map (checkedRequest g s)) = s.arb.requests := by
      rw [Option.map_none, ← hq, PerFurnace.set_get]
    have seqs : s.seqs.set k (shownFor g s (s.seqs.get k) none) = s.seqs := PerFurnace.set_get ..
    rw [requests, seqs]
  | some q =>
    have waits : ¬ q.status = .granted := hw q hq
    dsimp only
    rw [if_neg waits, requestPasses_eq hg, Option.map_some, checkedRequest, shownFor]
    by_cases hp : movePasses g s q = true
    · rw [if_pos hp, if_pos hp, if_pos hp]
      rfl
    · rw [if_neg hp, if_neg hp, if_neg hp]
      rfl

/-- R94, R95: both requests are checked, that of charger 1 first. -/
theorem checkRequests_eq (hg : s.cfg.tableGeometry = some g)
    (hw : ∀ k, ∀ q ∈ s.arb.requests.get k, q.status ≠ .granted) :
    markGrid (checkRequest .f2 (checkRequest .f1 s)) = requestsChecked g s := by
  rw [checkRequest_eq (k := .f1) hg (hw .f1)]
  exact congrArg markGrid (checkRequest_eq (k := .f2) (g := g) (by exact hg) (by exact hw .f2))

theorem tableRule_busy (h : ¬ (s.arb.motion = .still ∧ s.arb.holds = ⟨false, false⟩ ∧ s.arb.gridHold = none)) :
    tableRule s = s := by
  refine if_pos ?_
  by_contra free
  simp only [Bool.or_eq_true, not_or, Bool.not_eq_true, State.chargerHold,
    Option.isSome_eq_false_iff, Option.isNone_iff_eq_none] at free
  obtain ⟨⟨still, one, two⟩, grid⟩ := free
  refine h ⟨?_, ?_, grid⟩
  · cases hm : s.arb.motion with
    | still => rfl
    | positioning k n w =>
      rw [hm] at still
      exact nomatch still
    | manual =>
      rw [hm] at still
      exact nomatch still
  · cases hh : s.arb.holds
    rw [hh] at one two
    exact congrArg₂ PerFurnace.mk one two

theorem tableRule_free (hm : s.arb.motion = .still) (hh : s.arb.holds = ⟨false, false⟩) (hgrid : s.arb.gridHold = none)
    (hg : s.cfg.tableGeometry = some g) (hw : ∀ k, ∀ q ∈ s.arb.requests.get k, q.status ≠ .granted) :
    tableRule s = match (requestsChecked g s).winner with
      | none => requestsChecked g s
      | some k => grantMove k (requestsChecked g s) := by
  unfold tableRule State.chargerHold
  rw [hm, hh, hgrid, if_neg (by decide)]
  exact congrArg (fun t : State => match t.winner with
    | none => t
    | some k => grantMove k t) (checkRequests_eq hg hw)

theorem requestsChecked_request (k : Furnace) :
    (requestsChecked g s).arb.requests.get k = (s.arb.requests.get k).map (checkedRequest g s) := by
  cases k <;> rfl

theorem requestsChecked_seq (k : Furnace) :
    (requestsChecked g s).seqs.get k = shownFor g s (s.seqs.get k) (s.arb.requests.get k) := by
  cases k <;> rfl

/-- R95: the head that stands for a charger's request, where the move of the request passes. -/
theorem eligibleHead_passes (hq : s.arb.requests.get k = some q) (hp : movePasses g s q = true)
    (hr : s.tracker.table.find? (fun r => r.tag == q.tag) = some r) :
    (requestsChecked g s).eligibleHead k = some (r.head s.travel) := by
  unfold State.eligibleHead
  rw [requestsChecked_request, hq, Option.map_some, checkedRequest, if_pos hp]
  dsimp only
  rw [if_pos rfl]
  exact congrArg (Option.map _) hr

theorem eligibleHead_skipped (h : ∀ q ∈ s.arb.requests.get k, movePasses g s q = false) :
    (requestsChecked g s).eligibleHead k = none := by
  unfold State.eligibleHead
  rw [requestsChecked_request]
  cases hq : s.arb.requests.get k with
  | none => rfl
  | some q =>
    rw [Option.map_some, checkedRequest, if_neg (by rw [h q hq]; decide)]
    rfl

/-- R95: the charger whose request passes and stands more downstream than any other that passes is granted. -/
theorem winner_of_mostDownstream (hq : s.arb.requests.get k = some q) (hp : movePasses g s q = true)
    (hr : s.tracker.table.find? (fun r => r.tag == q.tag) = some r)
    (other : ∀ q' ∈ s.arb.requests.get (otherFurnace k), movePasses g s q' = true →
      ∀ r' ∈ s.tracker.table.find? (fun r => r.tag == q'.tag), r'.anchor < r.anchor) :
    (requestsChecked g s).winner = some k := by
  have own := eligibleHead_passes hq hp hr
  have behind : ∀ x ∈ (requestsChecked g s).eligibleHead (otherFurnace k), x < r.head s.travel := by
    intro x hx
    cases hq' : s.arb.requests.get (otherFurnace k) with
    | none =>
      rw [eligibleHead_skipped (by rw [hq']; exact nofun)] at hx
      exact nomatch hx
    | some q' =>
      by_cases hp' : movePasses g s q' = true
      · obtain ⟨r', hr', -⟩ := (Option.any_eq_true ..).1 hp'
        rw [eligibleHead_passes hq' hp' hr', Option.mem_some_iff] at hx
        have := other q' hq' hp' r' hr'
        rw [← hx]
        exact Int.add_lt_add_right this _
      · rw [eligibleHead_skipped (by rw [hq']; intro y hy; cases hy; exact Bool.eq_false_iff.2 hp')] at hx
        exact nomatch hx
  unfold State.winner
  cases k with
  | f1 =>
    rw [own]
    cases hx : (requestsChecked g s).eligibleHead .f2 with
    | none => rfl
    | some x => exact if_neg (not_lt.2 (behind x hx).le)
  | f2 =>
    rw [own]
    cases hx : (requestsChecked g s).eligibleHead .f1 with
    | none => rfl
    | some x => exact if_pos (behind x hx)

/-- R59, R95: the request granted, the sequencer showing MOVE and the positioning timer started. -/
def grantStarted (g : TableGeometry) (k : Furnace) (q : PosRequest) (s : State) : State :=
  let looked := requestsChecked g s
  { looked with
    arb := { looked.arb with requests := looked.arb.requests.set k (some { q with status := .granted }) }
    seqs := looked.seqs.set k { s.seqs.get k with
      waiting := .move
      cycle := (s.seqs.get k).cycle.map fun c =>
        { c with timer := some ⟨.positioning, 1000 * (s.cfg.timing.get k).getD 0 0⟩ } } }

/-- R59, R95: the grant of a request: the move is complete at once or ordered. -/
theorem grantMove_eq (hg : s.cfg.tableGeometry = some g) (hq : s.arb.requests.get k = some q)
    (hr : s.tracker.table.find? (fun r => r.tag == q.tag) = some r) :
    grantMove k (requestsChecked g s) =
      if s.positionedAt g k (q.target - r.centre s.travel) then moveSuccess k (grantStarted g k q s)
      else orderMove k (q.target - r.centre s.travel) (grantStarted g k q s) := by
  have distance : (requestsChecked g s).moveDistance (checkedRequest g s q) = some (q.target - r.centre s.travel) :=
    moveDistance_some (s := requestsChecked g s) (q := checkedRequest g s q) hr
  have started : startTimer k .positioning (showWaiting k .move
      (putRequest k (some { q with status := .granted }) (requestsChecked g s))) = grantStarted g k q s := by
    cases k <;> rfl
  unfold grantMove
  rw [requestsChecked_request, hq]
  dsimp only [Option.map_some]
  rw [show (requestsChecked g s).cfg.tableGeometry = some g from hg]
  dsimp only
  rw [distance]
  dsimp only
  rw [show ({ checkedRequest g s q with status := .granted } : PosRequest) = { q with status := .granted } from rfl,
    started]
  rfl

theorem orderMove_grantStarted (k : Furnace) (q : PosRequest) (d : Int) :
    let looked := requestsChecked g s
    let started := grantStarted g k q s
    orderMove k d started = { sendField .tableDrive 0 (.tableMove s.arb.nextMove d) looked with
      arb := arbiterMoving k started.arb, seqs := started.seqs } := by
  intro looked started
  have sent : sendField .tableDrive 0 (.tableMove started.arb.nextMove d) started = _ :=
    sendField_alike (s := looked) rfl rfl
  rw [orderMove_eq, sent, sendField_linksOnly .tableDrive 0 (.tableMove s.arb.nextMove d) looked]
  rfl

theorem moveSuccess_grantStarted (k : Furnace) (q : PosRequest) (hm : s.arb.motion = .still) :
    let looked := requestsChecked g s
    moveSuccess k (grantStarted g k q s) = runFinal k { looked with
      arb := { looked.arb with holds := s.arb.holds.set k true, requests := looked.arb.requests.set k none }
      seqs := looked.seqs.set k { s.seqs.get k with
        waiting := .move, cycle := (s.seqs.get k).cycle.map fun c => { c with timer := none } }
      due := { s.due with tableRule := true, gridEval := true } } := by
  intro looked
  have still : looked.arb.motion = .still := hm
  have requests : (grantStarted g k q s).arb.requests.set k none = looked.arb.requests.set k none :=
    PerFurnace.set_set ..
  have seq : (grantStarted g k q s).seqs.get k = { s.seqs.get k with
      waiting := .move
      cycle := (s.seqs.get k).cycle.map fun c =>
        { c with timer := some ⟨.positioning, 1000 * (s.cfg.timing.get k).getD 0 0⟩ } } := PerFurnace.get_set ..
  have seqs (v : Sequencer) : (grantStarted g k q s).seqs.set k v = looked.seqs.set k v := PerFurnace.set_set ..
  rw [moveSuccess_eq, requests, seq, seqs, Option.map_map, ← still]
  rfl

end

/-- Settles O37: a report by what the arbiter expects; the end of a move by its distance and the corrective moves
made; the grant rule by the requests it finds to pass. -/
theorem tableReports : Obligations.TableReports := by
  refine ⟨fun h number fault o s ht => ?report, fun h k number fault c g q r s ht hm hc hcorr hg hq hr hmiss hl => ?correct,
    fun h k number fault c g q r s ht hm hc hg hq hr hd hp => ?success,
    fun h k number fault c g q r s ht hm hc hg hq htag hr hmiss hl => ?miss, fun g s hg => ?rule⟩
  case report =>
    intro answer unexpected
    have taken : answer = _ := tableReport_taken ht
    refine ⟨fun hm => ?_, fun hm hn => ?_, fun hm hn => ?_, fun k n w hm hn => ?_, fun k hm => ?_, fun k hm ho => ?_,
      fun k c g q r hm ho hc hg hq hr hd hp => ?_⟩
    · rw [taken, takeTableReport_still hm]
      rfl
    · rw [taken, takeTableReport_manual hm, if_neg hn]
      rfl
    · rw [takeTableReport_manual hm, if_pos hn] at taken
      exact ⟨_, taken, rfl, rfl, rfl, rfl, rfl, rfl, rfl, rfl, rfl, rfl, rfl, rfl, rfl, rfl⟩
    · rw [taken, takeTableReport_positioning hm, if_pos hn]
      rfl
    · rw [takeTableReport_positioning hm, if_neg (not_not.2 rfl), if_pos (by decide)] at taken
      exact ⟨_, taken, rfl, rfl, rfl, rfl, rfl, rfl, rfl, rfl, rfl, rfl, rfl, rfl, rfl, rfl⟩
    · rw [takeTableReport_positioning hm, if_neg (not_not.2 rfl), if_neg (by decide), if_neg ho, moveFailed_eq] at taken
      have entered := enterHeld_entered k .tableFault none (grantEnded k s)
      have lines : SameLines s (grantEnded k s) := ⟨rfl, rfl, rfl⟩
      have same := lines.raise (.chargerHeld k .tableFault (s.seqs.get k).state
        ((s.seqs.get k).cycle.map (·.tag)) ((s.seqs.get k).inflight.map fun _ => .uncertain) none)
      refine ⟨_, taken, entered.motion, entered.noRequest (PerFurnace.get_set ..), ?_,
        ⟨entered.links.trans same.links, entered.ret.trans same.ret⟩, entered.other, entered.accounts⟩
      rw [entered.seq]
      exact held_heldFrom ..
    · subst ho
      rw [takeTableReport_done hm, moveEnded_eq hc hg hq hr] at taken
      dsimp only at taken
      rw [if_pos (positionedAt_iff.2 ⟨hd, hp⟩), moveSuccess_eq] at taken
      have kept := keepsGrants_finalClosed.runFinal k { s with
        arb := { s.arb with
          motion := .still, requests := s.arb.requests.set k none, holds := s.arb.holds.set k true }
        seqs := s.seqs.set k { s.seqs.get k with cycle := (s.seqs.get k).cycle.map fun c => { c with timer := none } }
        due := { s.due with tableRule := true, gridEval := true } }
      refine ⟨_, taken, kept.motion, ?_, kept.maps, kept.schedule, kept.cfg, kept.grid⟩
      rw [kept.requests]
      exact PerFurnace.get_set ..
  case correct =>
    have missed : ¬ s.positionedAt g k (q.target - r.centre s.travel) = true := by
      rw [positionedAt_iff, not_and_or, not_le, Bool.not_eq_true]
      exact hmiss
    have taken := tableReport_taken (number := number) (o := .done) (fault := fault) ht
    rw [takeTableReport_done hm, moveEnded_eq hc hg hq hr] at taken
    dsimp only at taken
    rw [if_neg missed, if_pos hcorr, correctMove_ordered hc hl] at taken
    exact ⟨_, taken, rfl⟩
  case success =>
    rw [tableReport_taken ht, takeTableReport_done hm, moveEnded_eq hc hg hq hr]
    dsimp only
    rw [if_pos (positionedAt_iff.2 ⟨hd, hp⟩), moveSuccess_eq, hc]
    rfl
  case miss =>
    have missed : ¬ s.positionedAt g k (q.target - r.centre s.travel) = true := by
      rw [positionedAt_iff, not_and_or, not_le, Bool.not_eq_true]
      exact hmiss
    have taken := tableReport_taken (number := number) (o := .done) (fault := fault) ht
    rw [takeTableReport_done hm, moveEnded_eq hc hg hq hr] at taken
    dsimp only at taken
    rw [if_neg missed] at taken
    have ended : ∃ u, exec (.tableReport h number (.val .done) fault) s = .next (finish u) ∧ MissTaken k q.tag r s u := by
      by_cases hcorr : c.corrective < 2
      · have barred := hl.resolve_left (not_le.2 hcorr)
        rw [if_pos hcorr, correctMove_refused hc barred, htag] at taken
        exact ⟨_, taken, (lastMiss_taken k (by exact hr)).of_corrected rfl⟩
      · rw [if_neg hcorr, htag] at taken
        exact ⟨_, taken, lastMiss_taken k hr⟩
    obtain ⟨u, hu, e⟩ := ended
    exact ⟨u, hu, e.arb, e.idle, e.start, e.reject, e.held, e.other, e.maps, e.schedule, e.cfg, e.grid, e.place, e.counters,
      e.sensors, e.mgmt⟩
  case rule =>
    intro recordOf passes checked showing looked free waits
    refine ⟨tableRule_busy, fun hf hw hp => ?_, fun k q r hf hw hq hr hp hother => ?_⟩
    · obtain ⟨still, holds, grid⟩ := hf
      have none : (requestsChecked g s).winner = Option.none := by
        unfold State.winner
        rw [eligibleHead_skipped (hp .f1), eligibleHead_skipped (hp .f2)]
      rw [tableRule_free still holds grid hg hw, none]
      rfl
    · obtain ⟨still, holds, grid⟩ := hf
      intro d complete taken
      rw [tableRule_free still holds grid hg hw, winner_of_mostDownstream hq hp hr hother]
      dsimp only
      rw [grantMove_eq hg hq hr]
      refine ⟨fun hn => ?_, fun hy => ?_⟩
      · rw [if_neg (positionedAt_iff.not.2 hn), orderMove_grantStarted]
        rfl
      · rw [if_pos (positionedAt_iff.2 hy), moveSuccess_grantStarted _ _ still]
        rfl

end Sys2Proof.Machine
end

section
/-! A hold of the tracker: what it does to the record and what the sequencers do with it (R77, R85, R94, R99). -/

namespace Sys2Proof.Machine

/-! ### A hold handed to a sequencer (R77) -/

section
variable {k : Furnace} {c : CycleRecord} {s : State}

/-- R61: the states in which a slab is positioned for a charger. -/
theorem positionedFor_of_cycle (hc : (s.seqs.get k).cycle = some c) (tag : Nat) : s.positionedFor k tag = true ↔
    c.tag = tag ∧ ((s.seqs.get k).state = .positioning ∨ (s.seqs.get k).state = .room ∨ (s.seqs.get k).state = .pick) := by
  unfold State.positionedFor State.cycle State.seq
  rw [hc]
  cases (s.seqs.get k).state <;> simp

theorem positionedFor_none (hc : (s.seqs.get k).cycle = none) (tag : Nat) : s.positionedFor k tag = false := by
  unfold State.positionedFor State.cycle State.seq
  rw [hc]
  cases (s.seqs.get k).state <;> rfl

theorem handHold_away {tag : Nat} (h : s.positionedFor k tag = false) : handHold k tag s = s :=
  if_neg (Bool.eq_false_iff.1 h)

theorem handHold_taken {tag : Nat} (h : s.positionedFor k tag = true) : handHold k tag s = takeTrackerHold k s :=
  if_pos h

/-- R77, R94, R99: in POSITIONING the move is abandoned and the sequencer enters IDLE. -/
theorem takeTrackerHold_positioning (hs : (s.seqs.get k).state = .positioning) :
    ∃ d w, d.start.get k = true ∧ takeTrackerHold k s = { s with
      links := (haltFor k s.arb.motion .trackingLost s).links
      seqs := s.seqs.set k { s.seqs.get k with state := .idle, cause := none, waiting := .none, cycle := none }
      arb := { s.arb with
        motion := unwantedFor k s.arb.motion, requests := s.arb.requests.set k none, holds := s.arb.holds.set k false }
      due := d
      windows := w } := by
  obtain ⟨d', abandoned⟩ := abandonMove_fields k .trackingLost s
  obtain ⟨d, w, start, idle⟩ := enterIdle_eq k (abandonMove k .trackingLost s)
  have taken : takeTrackerHold k s = enterIdle k (abandonMove k .trackingLost s) := by
    unfold takeTrackerHold State.seq
    rw [hs]
  refine ⟨d, w, start, ?_⟩
  rw [taken, idle, abandoned]

/-- R77: in ROOM it enters IDLE. -/
theorem takeTrackerHold_room (hs : (s.seqs.get k).state = .room) :
    ∃ d w, d.start.get k = true ∧ takeTrackerHold k s = { s with
      seqs := s.seqs.set k { s.seqs.get k with state := .idle, cause := none, waiting := .none, cycle := none }
      arb := { s.arb with holds := s.arb.holds.set k false }
      due := d
      windows := w } := by
  obtain ⟨d, w, start, idle⟩ := enterIdle_eq k s
  have taken : takeTrackerHold k s = enterIdle k s := by
    unfold takeTrackerHold State.seq
    rw [hs]
  exact ⟨d, w, start, taken.trans idle⟩

/-- R72, R77: in PICK the drive is stopped and the sequencer enters HELD. -/
theorem takeTrackerHold_pick (hs : (s.seqs.get k).state = .pick) :
    takeTrackerHold k s = enterHeld k .trackingLost none (sendChargerStop k .trackingLost s) := by
  unfold takeTrackerHold State.seq
  rw [hs]

theorem takeTrackerHold_other (hp : (s.seqs.get k).state ≠ .positioning) (hr : (s.seqs.get k).state ≠ .room)
    (hk : (s.seqs.get k).state ≠ .pick) : takeTrackerHold k s = s := by
  unfold takeTrackerHold State.seq
  cases hs : (s.seqs.get k).state
  case positioning => exact absurd hs hp
  case room => exact absurd hs hr
  case pick => exact absurd hs hk
  all_goals rfl

end

/-! ### What no hold of the tracker touches -/

theorem takeTrackerHold_accounts (k : Furnace) (s : State) : KeepsAccounts s (takeTrackerHold k s) := by
  by_cases hp : (s.seqs.get k).state = .positioning
  · obtain ⟨d, w, -, taken⟩ := takeTrackerHold_positioning hp
    rw [taken]
    exact ⟨rfl, rfl, rfl, rfl, rfl, rfl, rfl, rfl, rfl, rfl, rfl⟩
  · by_cases hr : (s.seqs.get k).state = .room
    · obtain ⟨d, w, -, taken⟩ := takeTrackerHold_room hr
      rw [taken]
      exact ⟨rfl, rfl, rfl, rfl, rfl, rfl, rfl, rfl, rfl, rfl, rfl⟩
    · by_cases hk : (s.seqs.get k).state = .pick
      · rw [takeTrackerHold_pick hk]
        exact keepsAccounts_linksOnly (sendField_linksOnly ..) (enterHeld_entered ..).accounts
      · rw [takeTrackerHold_other hp hr hk]
        exact ⟨rfl, rfl, rfl, rfl, rfl, rfl, rfl, rfl, rfl, rfl, rfl⟩

theorem KeepsAccounts.refl (s : State) : KeepsAccounts s s := ⟨rfl, rfl, rfl, rfl, rfl, rfl, rfl, rfl, rfl, rfl, rfl⟩

theorem KeepsAccounts.trans {s t u : State} (h : KeepsAccounts s t) (g : KeepsAccounts t u) : KeepsAccounts s u := by
  obtain ⟨cfg, mgmt, schedule, grid, tracker, place, maps, counters, sensors, mode, clock⟩ := h
  obtain ⟨cfg', mgmt', schedule', grid', tracker', place', maps', counters', sensors', mode', clock'⟩ := g
  exact ⟨cfg'.trans cfg, mgmt'.trans mgmt, schedule'.trans schedule, grid'.trans grid, tracker'.trans tracker,
    place'.trans place, maps'.trans maps, counters'.trans counters, sensors'.trans sensors, mode'.trans mode,
    clock'.trans clock⟩

theorem handHold_accounts (k : Furnace) (tag : Nat) (s : State) : KeepsAccounts s (handHold k tag s) := by
  unfold handHold
  split
  · exact takeTrackerHold_accounts k s
  · exact KeepsAccounts.refl s

/-- R77: a hold handed to one sequencer leaves the other, its request and its hold on the table. -/
structure OtherKept (k : Furnace) (s t : State) : Prop where
  seq : t.seqs.get (otherFurnace k) = s.seqs.get (otherFurnace k)
  request : t.arb.requests.get (otherFurnace k) = s.arb.requests.get (otherFurnace k)
  hold : t.arb.holds.get (otherFurnace k) = s.arb.holds.get (otherFurnace k)

theorem SeqStep.otherKept {k : Furnace} {q : Sequencer} {req : Option PosRequest} {hold : Bool} {s t : State}
    (h : SeqStep k q req hold s t) : OtherKept k s t := by
  refine ⟨?_, ?_, ?_⟩
  · rw [h.seqs, PerFurnace.get_set_other]
  · rw [h.requests, PerFurnace.get_set_other]
  · rw [h.holds, PerFurnace.get_set_other]

theorem handHold_otherKept (k : Furnace) (tag : Nat) (s : State) : OtherKept k s (handHold k tag s) := by
  unfold handHold takeTrackerHold
  split
  · split
    · exact ((SeqStep.start k s).abandonMove .trackingLost).enterIdle.otherKept
    · exact (SeqStep.start k s).enterIdle.otherKept
    · obtain ⟨r, held, -⟩ := ((SeqStep.start k s).quiet (untouched_send.sendField _ _ _ _).quiet).enterHeld .trackingLost none
      exact held.otherKept
    · exact ⟨rfl, rfl, rfl⟩
  · exact ⟨rfl, rfl, rfl⟩

/-! ### The hold of a record (R85) -/

/-- The table list with one slab held. -/
def heldTable (cause : SlabCause) (tag : Nat) (l : List TableRecord) : List TableRecord :=
  l.map fun x => if x.tag = tag then { x with state := .held cause } else x

/-- What a hold of the tracker leaves, of a state in which the table list is `l`. -/
structure TrackerHeld (cause : SlabCause) (r : TableRecord) (s u : State) : Prop where
  tracker : u.tracker = { s.tracker with table := heldTable cause r.tag s.tracker.table }
  cfg : u.cfg = s.cfg
  mgmt : u.mgmt = s.mgmt
  schedule : u.schedule = s.schedule
  grid : u.grid = s.grid
  place : u.place = s.place
  maps : u.maps = s.maps
  counters : u.counters = s.counters
  sensors : u.sensors = s.sensors
  mode : u.ret.mode = s.ret.mode

section
variable {cause : SlabCause} {r : TableRecord} {s : State}

theorem trackerHold_reject (hs : r.state = .reject) : trackerHold cause r s = s := if_pos hs

theorem trackerHold_retain (hs : r.state ≠ .reject) (hm : s.ret.mode = .retain) :
    trackerHold cause r s = placeHold cause r s := by
  have mode : (placeHold cause r s).ret.mode = .retain := (Quiet.placeHold cause r s).mode.trans hm
  exact (if_neg hs).trans (if_pos mode)

theorem trackerHold_away (hs : r.state ≠ .reject) (hm : s.ret.mode ≠ .retain) :
    trackerHold cause r s = handHold .f2 r.tag (handHold .f1 r.tag (placeHold cause r s)) := by
  have mode : (placeHold cause r s).ret.mode ≠ .retain := by rwa [(Quiet.placeHold cause r s).mode]
  exact (if_neg hs).trans (if_neg mode)

theorem placeHold_trackerHeld (cause : SlabCause) (s : State) (hs : r.state ≠ .reject) :
    TrackerHeld cause r s (placeHold cause r s) := by
  have mode : (placeHold cause r s).ret.mode = s.ret.mode := (Quiet.placeHold cause r s).mode
  obtain ⟨d, held⟩ := placeHold_held cause s hs
  rw [held] at mode ⊢
  exact ⟨rfl, rfl, rfl, rfl, rfl, rfl, rfl, rfl, rfl, mode⟩

theorem TrackerHeld.handedOn {t u : State} (h : TrackerHeld cause r s t) (g : KeepsAccounts t u) :
    TrackerHeld cause r s u := by
  obtain ⟨cfg, mgmt, schedule, grid, tracker, place, maps, counters, sensors, mode, -⟩ := g
  exact ⟨tracker.trans h.tracker, cfg.trans h.cfg, mgmt.trans h.mgmt, schedule.trans h.schedule, grid.trans h.grid,
    place.trans h.place, maps.trans h.maps, counters.trans h.counters, sensors.trans h.sensors, mode.trans h.mode⟩

/-- R85: whatever the sequencers do with it, a hold of the tracker changes the record alone among the slabs. -/
theorem trackerHold_trackerHeld (cause : SlabCause) (s : State) (hs : r.state ≠ .reject) :
    TrackerHeld cause r s (trackerHold cause r s) := by
  have held := placeHold_trackerHeld cause s hs
  by_cases hm : s.ret.mode = .retain
  · rw [trackerHold_retain hs hm]
    exact held
  · rw [trackerHold_away hs hm]
    exact (held.handedOn (handHold_accounts ..)).handedOn (handHold_accounts ..)

/-- R77: a slab positioned for no charger is held with no sequencer told. -/
theorem trackerHold_unpositioned (hs : r.state ≠ .reject) (hp : s.positioned r.tag = false) :
    trackerHold cause r s = placeHold cause r s := by
  by_cases hm : s.ret.mode = .retain
  · exact trackerHold_retain hs hm
  · have seqs : (placeHold cause r s).seqs = s.seqs := (Quiet.placeHold cause r s).seqs
    have same (k : Furnace) : (placeHold cause r s).positionedFor k r.tag = s.positionedFor k r.tag := by
      unfold State.positionedFor State.cycle State.seq
      rw [seqs]
    obtain ⟨one, two⟩ := Bool.or_eq_false_iff.1 hp
    have first : handHold .f1 r.tag (placeHold cause r s) = placeHold cause r s :=
      handHold_away ((same .f1).trans one)
    rw [trackerHold_away hs hm, first]
    exact handHold_away ((same .f2).trans two)

/-- R77: the sequencer a hold is handed to takes it as if it alone were told. -/
theorem trackerHold_handed (k : Furnace) (hs : r.state ≠ .reject) (hm : s.ret.mode ≠ .retain) : ∃ t u,
    t.seqs.get k = s.seqs.get k ∧ t.arb.requests.get k = s.arb.requests.get k
      ∧ u = handHold k r.tag t
      ∧ (trackerHold cause r s).seqs.get k = u.seqs.get k
      ∧ (trackerHold cause r s).arb.requests.get k = u.arb.requests.get k
      ∧ (trackerHold cause r s).arb.holds.get k = u.arb.holds.get k := by
  have placed := Quiet.placeHold cause r s
  rw [trackerHold_away hs hm]
  cases k with
  | f1 =>
    have other := handHold_otherKept .f2 r.tag (handHold .f1 r.tag (placeHold cause r s))
    exact ⟨_, _, by rw [placed.seqs], by rw [placed.requests], rfl, other.seq, other.request, other.hold⟩
  | f2 =>
    have other := handHold_otherKept .f1 r.tag (placeHold cause r s)
    exact ⟨_, _, other.seq.trans (congrArg (·.get .f2) placed.seqs), other.request.trans (congrArg (·.get .f2) placed.requests),
      rfl, rfl, rfl, rfl⟩

end

/-! ### The sequencer that takes the hold (R77) -/

/-- R77: what a sequencer does with a tracker hold on its cycle's slab. -/
structure HoldHanded (k : Furnace) (c : CycleRecord) (s u : State) : Prop where
  positioning : (s.seqs.get k).state = .positioning →
    IdleFrom (s.seqs.get k) (u.seqs.get k) ∧ u.arb.requests.get k = none ∧ u.arb.holds.get k = false
      ∧ u.due.start.get k = true ∧ u.links = (haltFor k s.arb.motion .trackingLost s).links
      ∧ u.arb.motion = unwantedFor k s.arb.motion
  room : (s.seqs.get k).state = .room → IdleFrom (s.seqs.get k) (u.seqs.get k) ∧ u.arb.holds.get k = false
    ∧ u.due.start.get k = true ∧ u.links = s.links ∧ u.arb.motion = s.arb.motion
  pick : (s.seqs.get k).state = .pick → HeldFrom .trackingLost (s.seqs.get k) (u.seqs.get k)
    ∧ u.arb.holds.get k = false
    ∧ u.links = (raise (.chargerHeld k .trackingLost .pick (some c.tag)
        ((s.seqs.get k).inflight.map fun _ => .uncertain) none)
        (sendField (.charger k) 0 (.chargerStop c.tag .trackingLost) s)).links

theorem handHold_handed {k : Furnace} {c : CycleRecord} {s : State} (hc : (s.seqs.get k).cycle = some c) :
    HoldHanded k c s (handHold k c.tag s) := by
  have own := positionedFor_of_cycle hc c.tag
  have idle (q : Sequencer) : IdleFrom q
      { q with state := .idle, cause := none, waiting := .none, cycle := none } := ⟨rfl, rfl, rfl, rfl, rfl⟩
  refine ⟨fun hs => ?positioning, fun hs => ?room, fun hs => ?pick⟩
  case positioning =>
    obtain ⟨d, w, start, taken⟩ := takeTrackerHold_positioning hs
    rw [handHold_taken (own.2 ⟨rfl, .inl hs⟩), taken]
    dsimp only
    rw [PerFurnace.get_set, PerFurnace.get_set, PerFurnace.get_set]
    exact ⟨idle _, rfl, rfl, start, rfl, rfl⟩
  case room =>
    obtain ⟨d, w, start, taken⟩ := takeTrackerHold_room hs
    rw [handHold_taken (own.2 ⟨rfl, .inr (.inl hs)⟩), taken]
    dsimp only
    rw [PerFurnace.get_set, PerFurnace.get_set]
    exact ⟨idle _, rfl, start, rfl, rfl⟩
  case pick =>
    have sent := sendField_linksOnly (.charger k) 0 (.chargerStop (s.cycleTag k) .trackingLost) s
    have entered := enterHeld_entered k .trackingLost none (sendChargerStop k .trackingLost s)
    have seqs : (sendChargerStop k .trackingLost s).seqs = s.seqs := sent.seqs
    have tag : s.cycleTag k = c.tag := by
      unfold State.cycleTag State.cycle State.seq
      rw [hc]
      rfl
    rw [seqs, hc, hs] at entered
    rw [handHold_taken (own.2 ⟨rfl, .inr (.inr hs)⟩), takeTrackerHold_pick hs]
    refine ⟨?_, entered.holds, ?_⟩
    · rw [entered.seq, seqs]
      exact held_heldFrom ..
    · rw [entered.links, sendChargerStop, tag]
      rfl

end Sys2Proof.Machine
end

section
/-! The edges of the photocells: which candidate a head edge takes, the correction of its head, the measurement of a
length (R82, R89, R90, R91, R146, R147). -/

namespace Sys2Proof.Machine

/-! ### The nearest candidate (R90) -/

section
variable {x travel : Int} {r : TableRecord}

/-- R90: of the candidates `r` is the nearest, and the most downstream of those as near. -/
def NearestOf (x travel : Int) (r : TableRecord) (l : List TableRecord) : Prop :=
  ∀ y ∈ l, mag (r.anchor + travel - x) < mag (y.anchor + travel - x)
    ∨ (mag (r.anchor + travel - x) = mag (y.anchor + travel - x) ∧ y.anchor < r.anchor)

theorem nearer_left {y : TableRecord} (h : NearestOf x travel r [y]) : nearer x travel r y = r := by
  unfold nearer TableRecord.head moreDownstream
  rcases h y List.mem_cons_self with h | ⟨h, hy⟩
  · dsimp only
    rw [if_neg (not_lt.2 h.le), if_pos h]
  · dsimp only
    rw [h, if_neg (lt_irrefl _), if_neg (lt_irrefl _), if_neg (not_lt.2 hy.le)]

theorem nearer_right {y : TableRecord} (h : NearestOf x travel r [y]) : nearer x travel y r = r := by
  unfold nearer TableRecord.head moreDownstream
  rcases h y List.mem_cons_self with h | ⟨h, hy⟩
  · dsimp only
    rw [if_pos h]
  · dsimp only
    rw [h, if_neg (lt_irrefl _), if_neg (lt_irrefl _), if_pos hy]

theorem nearest_append {pre post : List TableRecord} (h : NearestOf x travel r (pre ++ post)) :
    nearest x travel (pre ++ r :: post) = some r := by
  induction pre with
  | nil =>
    rw [List.nil_append] at h ⊢
    unfold nearest
    split
    · rfl
    · next b hb =>
      exact congrArg some (nearer_left fun y hy => by
        rw [List.mem_singleton.1 hy]
        exact h b (nearest_mem hb))
  | cons a pre ih =>
    have rest := ih fun y hy => h y (List.mem_cons_of_mem _ hy)
    have head : NearestOf x travel r [a] := fun y hy => by
      rw [List.mem_singleton.1 hy]
      exact h a List.mem_cons_self
    rw [List.cons_append, nearest, rest]
    exact congrArg some (nearer_right head)

end

/-! ### The neighbours (R90) -/

/-- R90: the record ahead, where there is one, lies beyond `x`. -/
def clearAhead (x : Int) : Option Int → Bool
  | none => true
  | some h => decide (x < h)

/-- R90: the record behind, where there is one, lies before `x`. -/
def clearBehind (x travel : Int) : Option TableRecord → Bool
  | none => true
  | some b => decide (b.head travel < x)

theorem neighboursAllow_cons (tag : Nat) (x travel : Int) (ahead : Option Int) (r : TableRecord) (rs : List TableRecord) :
    neighboursAllow tag x travel ahead (r :: rs) = if r.tag = tag then clearAhead x ahead && clearBehind x travel rs.head?
      else neighboursAllow tag x travel (some (r.head travel)) rs := by
  cases ahead <;> cases rs <;> rfl

theorem neighboursAllow_append {x travel : Int} {r : TableRecord} {pre post : List TableRecord} (ahead : Option Int)
    (hpre : ∀ y ∈ pre, y.tag ≠ r.tag) : neighboursAllow r.tag x travel ahead (pre ++ r :: post) =
      (clearAhead x ((pre.getLast?.map (·.head travel)).or ahead) && clearBehind x travel post.head?) := by
  induction pre generalizing ahead with
  | nil =>
    rw [List.nil_append, neighboursAllow_cons, if_pos rfl]
    rfl
  | cons a pre ih =>
    rw [List.cons_append, neighboursAllow_cons, if_neg (hpre a List.mem_cons_self),
      ih _ fun y hy => hpre y (List.mem_cons_of_mem _ hy)]
    congr 2
    cases pre with
    | nil => rfl
    | cons b pre =>
      rw [List.getLast?_cons_cons, List.getLast?_eq_some_getLast (List.cons_ne_nil b pre)]
      rfl

/-- R90: the correction keeps the order of the list. -/
theorem neighboursAllow_true {x travel : Int} {r : TableRecord} {pre post : List TableRecord}
    (hn : ((pre ++ r :: post).map (·.tag)).Nodup) (ha : ∀ a, pre.getLast? = some a → x < a.anchor + travel)
    (hb : ∀ b, post.head? = some b → b.anchor + travel < x) :
    neighboursAllow r.tag x travel none (pre ++ r :: post) = true := by
  rw [neighboursAllow_append _ (tags_apart hn).1, Bool.and_eq_true, Option.or_none]
  constructor
  · cases h : pre.getLast? with
    | none => rfl
    | some a => exact decide_eq_true (ha a h)
  · cases h : post.head? with
    | none => rfl
    | some b => exact decide_eq_true (hb b h)

/-- R90: the correction would not. -/
theorem neighboursAllow_false {x travel : Int} {r : TableRecord} {pre post : List TableRecord}
    (hn : ((pre ++ r :: post).map (·.tag)).Nodup)
    (h : (∃ a, pre.getLast? = some a ∧ a.anchor + travel ≤ x) ∨ ∃ b, post.head? = some b ∧ x ≤ b.anchor + travel) :
    neighboursAllow r.tag x travel none (pre ++ r :: post) = false := by
  rw [neighboursAllow_append _ (tags_apart hn).1, Bool.and_eq_false_iff, Option.or_none]
  rcases h with ⟨a, ha, hx⟩ | ⟨b, hb, hx⟩
  · rw [ha]
    exact .inl (decide_eq_false (not_lt.2 hx))
  · rw [hb]
    exact .inr (decide_eq_false (not_lt.2 hx))

/-! ### A head edge (R90) -/

theorem candidateAt_iff {g : TableGeometry} {travel : Int} {i : SensorId} {r : TableRecord} :
    r.candidateAt g travel i = true ↔ r.seen i = false ∧ mag (r.anchor + travel - g.sensorAt i) ≤ g.trackingTolerance := by
  unfold TableRecord.candidateAt TableRecord.head
  rw [Bool.and_eq_true, decide_eq_true_eq, Bool.not_eq_true']

theorem TableRecord.mark_tag (i : SensorId) (r : TableRecord) : (r.mark i).tag = r.tag := by
  cases i <;> rfl

theorem TableRecord.mark_state (i : SensorId) (r : TableRecord) : (r.mark i).state = r.state := by
  cases i <;> rfl

theorem TableRecord.mark_id (i : SensorId) (r : TableRecord) : (r.mark i).id = r.id := by
  cases i <;> rfl

theorem TableRecord.mark_anchor (i : SensorId) (r : TableRecord) : (r.mark i).anchor = r.anchor := by
  cases i <;> rfl

section
variable {i : SensorId} {capture : Int} {g : TableGeometry} {r : TableRecord} {pre post : List TableRecord} {s : State}

/-- R90: a head edge that finds no candidate. -/
theorem headEdge_unexpected (hg : s.cfg.tableGeometry = some g)
    (hn : ∀ r ∈ s.tracker.table, ¬ r.candidateAt g (roundMm capture) i = true) :
    headEdge i capture s = raise (.unexpectedEdge i true (roundMm capture)) s := by
  have none : s.tracker.table.filter (TableRecord.candidateAt g (roundMm capture) i) = [] := List.filter_eq_nil_iff.2 hn
  unfold headEdge
  rw [hg]
  dsimp only
  rw [none]
  rfl

/-- R90: the record a head edge takes. -/
theorem headEdge_taken (hg : s.cfg.tableGeometry = some g)
    (hr : nearest (g.sensorAt i) (roundMm capture)
      (s.tracker.table.filter (TableRecord.candidateAt g (roundMm capture) i)) = some r) :
    headEdge i capture s =
      if neighboursAllow r.tag (g.sensorAt i) (roundMm capture) none s.tracker.table = true then
        acceptHead i r (g.sensorAt i) (roundMm capture) capture s
      else refuseHead i r (g.sensorAt i) (roundMm capture) s := by
  unfold headEdge
  rw [hg]
  dsimp only
  rw [hr]

/-- R90: the nearest of the candidates of a list is the nearest of its candidates. -/
theorem nearest_filter (hr : r.candidateAt g (roundMm capture) i = true)
    (near : ∀ y ∈ pre ++ post, y.candidateAt g (roundMm capture) i = true →
      mag (r.anchor + roundMm capture - g.sensorAt i) < mag (y.anchor + roundMm capture - g.sensorAt i)
        ∨ (mag (r.anchor + roundMm capture - g.sensorAt i) = mag (y.anchor + roundMm capture - g.sensorAt i)
          ∧ y.anchor < r.anchor)) :
    nearest (g.sensorAt i) (roundMm capture)
      ((pre ++ r :: post).filter (TableRecord.candidateAt g (roundMm capture) i)) = some r := by
  rw [List.filter_append, List.filter_cons_of_pos hr]
  refine nearest_append fun y hy => ?_
  rw [← List.filter_append] at hy
  obtain ⟨mem, candidate⟩ := List.mem_filter.1 hy
  exact near y mem candidate

/-- R82, R90, R91: a correction that is taken puts the head at the photocell, and at MS opens the measurement. -/
theorem acceptHead_eq {x travel : Int} (ht : s.tracker.table = pre ++ r :: post)
    (hn : (s.tracker.table.map (·.tag)).Nodup) : acceptHead i r x travel capture s = { s with
      tracker := { s.tracker with
        table := pre ++ { r.mark i with anchor := x - travel } :: post
        measuring := if i = .ms then some ⟨r.tag, capture⟩ else s.tracker.measuring }
      due := { s.due with tableRule := true, gridEval := true } } := by
  rw [ht] at hn
  have table := map_tag_append (fun y => { y.mark i with anchor := x - travel }) hn
  unfold acceptHead openMeasurement updateRecord
  rw [markList_eq, ht, table]
  split <;> rfl

/-- R90: the state in which a head edge has raised its conflict, before the record is held. -/
theorem refuseHead_eq {x travel : Int} (ht : s.tracker.table = pre ++ r :: post)
    (hn : (s.tracker.table.map (·.tag)).Nodup) :
    let told := raise (.trackingConflict r.tag i (x - (r.anchor + travel))) s
    refuseHead i r x travel s = trackerHold .tracking (r.mark i) { s with
      links := told.links, ret := told.ret
      tracker := { s.tracker with table := pre ++ r.mark i :: post } } := by
  intro told
  rw [ht] at hn
  have table := map_tag_append (TableRecord.mark i) hn
  obtain ⟨links, ret, -⟩ := SameLines.raise (s := s) (t := updateRecord r.tag (TableRecord.mark i) s) ⟨rfl, rfl, rfl⟩
    (.trackingConflict r.tag i (x - r.head travel))
  unfold refuseHead
  rw [raise_eq, links, ret]
  unfold updateRecord
  rw [ht, table]
  rfl

/-- R90: a head edge whose correction keeps the order of the list. -/
theorem headEdge_accepted (hg : s.cfg.tableGeometry = some g) (ht : s.tracker.table = pre ++ r :: post)
    (hn : (s.tracker.table.map (·.tag)).Nodup)
    (hr : nearest (g.sensorAt i) (roundMm capture)
      (s.tracker.table.filter (TableRecord.candidateAt g (roundMm capture) i)) = some r)
    (ha : ∀ a, pre.getLast? = some a → g.sensorAt i < a.anchor + roundMm capture)
    (hb : ∀ b, post.head? = some b → b.anchor + roundMm capture < g.sensorAt i) :
    headEdge i capture s = { s with
      tracker := { s.tracker with
        table := pre ++ { r.mark i with anchor := g.sensorAt i - roundMm capture } :: post
        measuring := if i = .ms then some ⟨r.tag, capture⟩ else s.tracker.measuring }
      due := { s.due with tableRule := true, gridEval := true } } := by
  have allowed := neighboursAllow_true (ht ▸ hn) ha hb
  rw [headEdge_taken hg hr, show s.tracker.table = _ from ht, if_pos allowed, acceptHead_eq ht hn]

/-- R90: a head edge whose correction would not. -/
theorem headEdge_refused (hg : s.cfg.tableGeometry = some g) (ht : s.tracker.table = pre ++ r :: post)
    (hn : (s.tracker.table.map (·.tag)).Nodup)
    (hr : nearest (g.sensorAt i) (roundMm capture)
      (s.tracker.table.filter (TableRecord.candidateAt g (roundMm capture) i)) = some r)
    (h : (∃ a, pre.getLast? = some a ∧ a.anchor + roundMm capture ≤ g.sensorAt i)
      ∨ ∃ b, post.head? = some b ∧ g.sensorAt i ≤ b.anchor + roundMm capture) :
    let told := raise (.trackingConflict r.tag i (g.sensorAt i - (r.anchor + roundMm capture))) s
    headEdge i capture s = trackerHold .tracking (r.mark i) { s with
      links := told.links, ret := told.ret
      tracker := { s.tracker with table := pre ++ r.mark i :: post } } := by
  intro told
  have barred := neighboursAllow_false (ht ▸ hn) h
  rw [headEdge_taken hg hr, show s.tracker.table = _ from ht, if_neg (by rw [barred]; exact Bool.false_ne_true),
    refuseHead_eq ht hn]

/-! ### The edge as the tracker takes it (R89, R91) -/

theorem trackEdge_reverse {rising : Bool} (hi : i = .ms ∨ i = .d1 ∨ i = .d2) :
    trackEdge i rising capture (some .reverse) s = s := by
  rcases hi with rfl | rfl | rfl <;> rfl

theorem trackEdge_head {dir : Option Direction} (hi : i = .ms ∨ i = .d1 ∨ i = .d2) (hd : dir ≠ some .reverse) :
    trackEdge i true capture dir s = headEdge i capture s := by
  rcases hi with rfl | rfl | rfl
  · exact (if_neg hd).trans (if_pos rfl)
  all_goals exact if_neg (by simpa using hd)

theorem trackEdge_tail {dir : Option Direction} (hd : dir ≠ some .reverse) :
    trackEdge .ms false capture dir s = tailEdge capture s := (if_neg hd).trans (if_neg Bool.false_ne_true)

theorem trackEdge_tail_other {dir : Option Direction} (hi : i = .d1 ∨ i = .d2) : trackEdge i false capture dir s = s := by
  rcases hi with rfl | rfl <;> exact if_pos (by simp)

end

/-! ### A change of level (R146, R147) -/

/-- R146: a transition to the other raw level with no filter time is an edge at once. -/
theorem rawTransition_taken {i : SensorId} {e : Bool} {s : State} (hp : s.power = true)
    (hf : (s.cfg.sensorSetup.get i).filterTime = 0) (he : (s.sensors.get i).electrical ≠ e)
    (hl : (e != (s.cfg.sensorSetup.get i).invert) ≠ (s.sensors.get i).taken) :
    let p : PendingChange := { level := e != (s.cfg.sensorSetup.get i).invert, held := 0, capture := s.counters.t.acc,
                               dir := s.counters.t.lastDir }
    exec (.rawTransition i e) s = .next (finish (takeChange i p (s.setSensor i { s.sensors.get i with electrical := e }))) := by
  intro p
  have taken : rawTransition i e s = takeChange i p (s.setSensor i { s.sensors.get i with electrical := e }) := by
    unfold rawTransition State.sensor
    dsimp only
    rw [if_neg he]
    exact (if_neg hl).trans (if_pos hf)
  rw [← taken]
  exact powered_on (fun s => finish (rawTransition i e s)) _ hp

theorem rawTransition_edge {i : SensorId} {e : Bool} {s : State} (hp : s.power = true)
    (hf : (s.cfg.sensorSetup.get i).filterTime = 0) (he : (s.sensors.get i).electrical ≠ e)
    (hl : (e != (s.cfg.sensorSetup.get i).invert) ≠ (s.sensors.get i).taken) :
    ∃ v, exec (.rawTransition i e) s = .next (finish (trackEdge i (e != (s.cfg.sensorSetup.get i).invert)
      s.counters.t.acc s.counters.t.lastDir { s with sensors := v })) :=
  ⟨_, rawTransition_taken hp hf he hl⟩

/-- R146: so is a rising edge that the raw level makes against the taken one. -/
theorem rawTransition_rising {i : SensorId} {s : State} (hp : s.power = true) (hi : i = .ms ∨ i = .d1 ∨ i = .d2)
    (hf : (s.cfg.sensorSetup.get i).filterTime = 0) (ht : (s.sensors.get i).taken = false)
    (he : (s.sensors.get i).electrical = (s.cfg.sensorSetup.get i).invert) (hd : s.counters.t.lastDir ≠ some .reverse) :
    ∃ v, exec (.rawTransition i (!(s.cfg.sensorSetup.get i).invert)) s =
      .next (finish (headEdge i s.counters.t.acc { s with sensors := v })) := by
  have level : ((!(s.cfg.sensorSetup.get i).invert) != (s.cfg.sensorSetup.get i).invert) = true := by
    cases (s.cfg.sensorSetup.get i).invert <;> rfl
  obtain ⟨v, edge⟩ := rawTransition_edge (e := !(s.cfg.sensorSetup.get i).invert) hp hf (by rw [he]; simp)
    (by rw [level, ht]; decide)
  rw [level, trackEdge_head hi hd] at edge
  exact ⟨v, edge⟩

/-- R146: and the falling edge at MS. -/
theorem rawTransition_falling {s : State} (hp : s.power = true) (hf : (s.cfg.sensorSetup.get .ms).filterTime = 0)
    (ht : (s.sensors.get .ms).taken = true)
    (he : (s.sensors.get .ms).electrical = !(s.cfg.sensorSetup.get .ms).invert)
    (hd : s.counters.t.lastDir ≠ some .reverse) :
    ∃ v, exec (.rawTransition .ms (s.cfg.sensorSetup.get .ms).invert) s =
      .next (finish (tailEdge s.counters.t.acc { s with sensors := v })) := by
  have level : ((s.cfg.sensorSetup.get .ms).invert != (s.cfg.sensorSetup.get .ms).invert) = false := by simp
  obtain ⟨v, edge⟩ := rawTransition_edge (i := .ms) (e := (s.cfg.sensorSetup.get .ms).invert) hp hf (by rw [he]; simp)
    (by rw [level, ht]; decide)
  rw [level, trackEdge_tail hd] at edge
  exact ⟨v, edge⟩

/-- R147: what FILTER_TIME_ELAPSED takes, where the change has held for the filter time. -/
theorem filterTimeElapsed_taken {i : SensorId} {n : Nat} {p : PendingChange} {s : State} (hp : s.power = true)
    (hc : (s.sensors.get i).pending = some p) (hf : (s.cfg.sensorSetup.get i).filterTime ≤ p.held + n) :
    let t := elapse n s
    exec (.filterTimeElapsed i n) s = .next (finish (trackEdge i p.level p.capture p.dir { t with
      sensors := t.sensors.set i { t.sensors.get i with
        taken := p.level, pending := none, latest := p.capture, previous := (t.sensors.get i).latest } })) := by
  intro t
  have sensor : t.sensors.get i = (s.sensors.get i).elapse n := by
    change (elapse n s).sensors.get i = _
    unfold elapse
    split <;> cases i <;> rfl
  have cfg : t.cfg = s.cfg := elapse_cfg n s
  have ready : t.changeReady i = some { p with held := p.held + n } := by
    have pending : (t.sensor i).pending = some { p with held := p.held + n } := by
      change (t.sensors.get i).pending = _
      rw [sensor, Sensor.elapse, hc]
      rfl
    unfold State.changeReady
    rw [pending]
    dsimp only
    rw [cfg, if_pos hf]
  change execFilterTimeElapsed i n s = _
  unfold execFilterTimeElapsed
  rw [powered_on _ _ hp]
  dsimp only
  rw [show (elapse n s).changeReady i = _ from ready]
  rfl

end Sys2Proof.Machine
end

section
/-! The examination of the records at an increase of the table travel (R87, R92). -/

namespace Sys2Proof.Machine

/-! ### One record and one photocell (R92) -/

/-- R92: a record as the examination against one photocell leaves it. -/
def TableRecord.examinedAt (g : TableGeometry) (travel : Int) (r : TableRecord) (i : SensorId) : TableRecord :=
  if r.missed g travel i = true then
    { r.mark i with state := if r.state = .reject then .reject else .held .tracking }
  else r

section
variable {g : TableGeometry} {travel : Int} {r : TableRecord} {i j : SensorId}

theorem missed_iff : r.missed g travel i = true ↔
    r.seen i = false ∧ g.sensorAt i + g.trackingTolerance < r.anchor + travel := by
  unfold TableRecord.missed TableRecord.head
  rw [Bool.and_eq_true, decide_eq_true_eq, Bool.not_eq_true']

theorem examinedAt_missed (h : r.missed g travel i = true) : r.examinedAt g travel i =
    { r.mark i with state := if r.state = .reject then .reject else .held .tracking } := if_pos h

theorem examinedAt_seen (h : ¬ r.missed g travel i = true) : r.examinedAt g travel i = r := if_neg h

theorem examinedAt_tag : (r.examinedAt g travel i).tag = r.tag := by
  unfold TableRecord.examinedAt
  split
  · exact TableRecord.mark_tag i r
  · rfl

theorem examinedAt_anchor : (r.examinedAt g travel i).anchor = r.anchor := by
  unfold TableRecord.examinedAt
  split
  · exact TableRecord.mark_anchor i r
  · rfl

theorem seen_of_mark (h : (r.mark j).seen i = false) : r.seen i = false := by
  cases j <;> cases i <;> simp_all [TableRecord.mark, TableRecord.seen]

/-- R92: the examination against one photocell makes a record missed at no other. -/
theorem missed_of_examinedAt (h : (r.examinedAt g travel j).missed g travel i = true) : r.missed g travel i = true := by
  unfold TableRecord.examinedAt at h
  split at h
  · rw [missed_iff] at h ⊢
    obtain ⟨seen, beyond⟩ := h
    refine ⟨?_, by simpa [TableRecord.mark_anchor] using beyond⟩
    exact seen_of_mark seen
  · exact h

theorem not_missed_examinedAt : ¬ (r.examinedAt g travel i).missed g travel i = true := by
  intro h
  have before := missed_of_examinedAt h
  rw [examinedAt_missed before, missed_iff] at h
  obtain ⟨seen, -⟩ := h
  cases i <;> exact nomatch seen

end

/-! ### One record and the photocells in turn (R92) -/

/-- R92: a record as the examination against photocells in turn leaves it. -/
def TableRecord.examinedBy (g : TableGeometry) (travel : Int) (l : List SensorId) (r : TableRecord) : TableRecord :=
  l.foldl (TableRecord.examinedAt g travel) r

section
variable {g : TableGeometry} {travel : Int} {r : TableRecord} {l : List SensorId}

theorem examinedBy_tag : (r.examinedBy g travel l).tag = r.tag := by
  induction l generalizing r with
  | nil => rfl
  | cons i l ih => exact (ih (r := r.examinedAt g travel i)).trans examinedAt_tag

theorem examinedBy_anchor : (r.examinedBy g travel l).anchor = r.anchor := by
  induction l generalizing r with
  | nil => rfl
  | cons i l ih => exact (ih (r := r.examinedAt g travel i)).trans examinedAt_anchor

/-- R92: a record missed nowhere is left as it is. -/
theorem examinedBy_unmissed (h : ∀ i ∈ l, ¬ r.missed g travel i = true) : r.examinedBy g travel l = r := by
  induction l with
  | nil => rfl
  | cons i l ih =>
    change (r.examinedAt g travel i).examinedBy g travel l = r
    rw [examinedAt_seen (h i List.mem_cons_self)]
    exact ih fun j hj => h j (List.mem_cons_of_mem _ hj)

theorem missed_of_examinedBy {i : SensorId} (h : (r.examinedBy g travel l).missed g travel i = true) :
    r.missed g travel i = true := by
  induction l generalizing r with
  | nil => exact h
  | cons j l ih => exact missed_of_examinedAt (ih (r := r.examinedAt g travel j) h)

/-- R92: behind the examination a record is missed at none of the photocells. -/
theorem not_missed_examinedBy {i : SensorId} (hi : i ∈ l) : ¬ (r.examinedBy g travel l).missed g travel i = true := by
  induction l generalizing r with
  | nil => exact nomatch hi
  | cons j l ih =>
    rcases List.mem_cons.1 hi with rfl | hi
    · exact fun h => not_missed_examinedAt (missed_of_examinedBy (r := r.examinedAt g travel i) (l := l) h)
    · exact ih hi

/-- R92: a record that is missed somewhere is held. -/
theorem examinedBy_held (hs : r.state ≠ .reject)
    (h : r.state = .held .tracking ∨ ∃ i ∈ l, r.missed g travel i = true) :
    (r.examinedBy g travel l).state = .held .tracking := by
  induction l generalizing r with
  | nil =>
    rcases h with h | ⟨i, hi, -⟩
    · exact h
    · exact nomatch hi
  | cons j l ih =>
    by_cases hj : r.missed g travel j = true
    · have held : (r.examinedAt g travel j).state = .held .tracking := by
        rw [examinedAt_missed hj]
        exact if_neg hs
      exact ih (r := r.examinedAt g travel j) (by rw [held]; exact SlabState.noConfusion) (.inl held)
    · have same : r.examinedAt g travel j = r := examinedAt_seen hj
      change ((r.examinedAt g travel j).examinedBy g travel l).state = _
      rw [same]
      refine ih hs (h.imp_right fun ⟨i, hi, hm⟩ => ?_)
      rcases List.mem_cons.1 hi with rfl | hi
      · exact absurd hm hj
      · exact ⟨i, hi, hm⟩

end

/-! ### The table list (R92) -/

/-- What the examination of records leaves beside the table list. -/
structure ExamineKept (s u : State) : Prop where
  maps : u.maps = s.maps
  schedule : u.schedule = s.schedule
  cfg : u.cfg = s.cfg
  sensors : u.sensors = s.sensors
  counters : u.counters = s.counters

theorem ExamineKept.refl (s : State) : ExamineKept s s := ⟨rfl, rfl, rfl, rfl, rfl⟩

theorem ExamineKept.trans {s t u : State} (h : ExamineKept s t) (k : ExamineKept t u) : ExamineKept s u :=
  ⟨k.maps.trans h.maps, k.schedule.trans h.schedule, k.cfg.trans h.cfg, k.sensors.trans h.sensors,
    k.counters.trans h.counters⟩

theorem ExamineKept.travel {s u : State} (h : ExamineKept s u) : u.travel = s.travel := by
  unfold State.travel
  rw [h.counters]

/-- The records of a list with a tag, examined. -/
def examinedTags (g : TableGeometry) (travel : Int) (l : List SensorId) (tags : List Nat) (table : List TableRecord) :
    List TableRecord :=
  table.map fun x => if x.tag ∈ tags then x.examinedBy g travel l else x

theorem examinedTags_tags {g : TableGeometry} {travel : Int} {l : List SensorId} {tags : List Nat}
    {table : List TableRecord} : (examinedTags g travel l tags table).map (·.tag) = table.map (·.tag) := by
  unfold examinedTags
  rw [List.map_map]
  refine List.map_congr_left fun x _ => ?_
  dsimp only [Function.comp_apply]
  split
  · exact examinedBy_tag
  · rfl

section
variable {g : TableGeometry} {tag : Nat} {i : SensorId} {r : TableRecord} {s : State}

theorem examine_absent (h : s.tracker.table.find? (fun r => r.tag == tag) = none) : examine g tag i s = s := by
  unfold examine State.findTag
  rw [h]

theorem examine_found (h : s.tracker.table.find? (fun r => r.tag == tag) = some r) : examine g tag i s =
    if r.missed g s.travel i = true then trackerHold .tracking (r.mark i) (raise (.missedEdge tag i (r.head s.travel))
      (updateRecord tag (TableRecord.mark i) s)) else s := by
  unfold examine State.findTag
  rw [h]

/-- R92: what the examination of one record against one photocell makes of the table list. -/
theorem examine_table (hn : (s.tracker.table.map (·.tag)).Nodup) :
    (examine g tag i s).tracker.table = examinedTags g s.travel [i] [tag] s.tracker.table
      ∧ ExamineKept s (examine g tag i s) := by
  have single : examinedTags g s.travel [i] [tag] s.tracker.table =
      s.tracker.table.map fun x => if x.tag = tag then x.examinedAt g s.travel i else x :=
    List.map_congr_left fun x _ => by simp only [List.mem_singleton]; rfl
  rw [single]
  cases hr : s.tracker.table.find? fun r => r.tag == tag with
  | none =>
    rw [examine_absent hr]
    refine ⟨(map_tag_others (fun x => x.examinedAt g s.travel i) fun x hx => ?_).symm, ExamineKept.refl s⟩
    simpa using List.find?_eq_none.1 hr x hx
  | some r =>
    obtain ⟨tagged, pre, post, ht, -⟩ := List.find?_eq_some_iff_append.1 hr
    have tagged : r.tag = tag := beq_iff_eq.1 tagged
    have tags := hn
    rw [ht] at tags
    have examined := map_tag_append (fun x => x.examinedAt g s.travel i) tags
    have marked := map_tag_append (TableRecord.mark i) tags
    rw [examine_found hr, ht, ← tagged, examined]
    split
    · next hm =>
      have lines := untouched_send.raise (.missedEdge r.tag i (r.head s.travel)) (updateRecord r.tag (TableRecord.mark i) s)
      have table : (raise (.missedEdge r.tag i (r.head s.travel)) (updateRecord r.tag (TableRecord.mark i) s)).tracker.table
          = pre ++ r.mark i :: post := by
        rw [lines.table, ← marked, ← ht]
        rfl
      by_cases hs : r.state = .reject
      · have left : r.examinedAt g s.travel i = r.mark i := by
          rw [examinedAt_missed hm, if_pos hs, ← hs, ← TableRecord.mark_state i r]
        rw [trackerHold_reject ((TableRecord.mark_state i r).trans hs), left]
        exact ⟨table, lines.maps, lines.schedule, lines.cfg, lines.sensors, lines.counters⟩
      · have held := trackerHold_trackerHeld .tracking
          (raise (.missedEdge r.tag i (r.head s.travel)) (updateRecord r.tag (TableRecord.mark i) s))
          (r := r.mark i) (by rwa [TableRecord.mark_state])
        have left : r.examinedAt g s.travel i = { r.mark i with state := .held .tracking } := by
          rw [examinedAt_missed hm, if_neg hs]
        refine ⟨?_, held.maps.trans lines.maps, held.schedule.trans lines.schedule, held.cfg.trans lines.cfg,
          held.sensors.trans lines.sensors, held.counters.trans lines.counters⟩
        have again := map_tag_append (r := r.mark i) (pre := pre) (post := post)
          (fun x => { x with state := .held .tracking }) (by simpa [TableRecord.mark_tag] using tags)
        rw [held.tracker, left]
        dsimp only
        rw [table]
        exact again
    · next hm =>
      rw [examinedAt_seen hm]
      exact ⟨ht, ExamineKept.refl s⟩

end

/-- R92: examining the records of a list of tags against further photocells. -/
theorem examinedTags_append {g : TableGeometry} {travel : Int} {l l' : List SensorId} {tag : Nat}
    {table : List TableRecord} : examinedTags g travel l' [tag] (examinedTags g travel l [tag] table) =
      examinedTags g travel (l ++ l') [tag] table := by
  unfold examinedTags
  rw [List.map_map]
  refine List.map_congr_left fun x _ => ?_
  dsimp only [Function.comp_apply]
  by_cases h : x.tag ∈ [tag]
  · rw [if_pos h, if_pos (by rwa [examinedBy_tag]), if_pos h]
    unfold TableRecord.examinedBy
    rw [List.foldl_append]
  · rw [if_neg h, if_neg h, if_neg h]

/-- R92: and the records of one more tag. -/
theorem examinedTags_cons {g : TableGeometry} {travel : Int} {l : List SensorId} {tag : Nat} {tags : List Nat}
    {table : List TableRecord} (h : tag ∉ tags) :
    examinedTags g travel l tags (examinedTags g travel l [tag] table) = examinedTags g travel l (tag :: tags) table := by
  unfold examinedTags
  rw [List.map_map]
  refine List.map_congr_left fun x _ => ?_
  dsimp only [Function.comp_apply]
  by_cases hx : x.tag = tag
  · rw [if_pos (List.mem_singleton.2 hx), if_pos (List.mem_cons.2 (.inl hx)), if_neg (by rwa [examinedBy_tag, hx])]
  · rw [if_neg (mt List.mem_singleton.1 hx)]
    simp [hx]

/-- The three tracking photocells. -/
def photocells : List SensorId := [.ms, .d1, .d2]

theorem examineRecord_table {g : TableGeometry} {tag : Nat} {s : State} (hn : (s.tracker.table.map (·.tag)).Nodup) :
    (examineRecord g tag s).tracker.table = examinedTags g s.travel photocells [tag] s.tracker.table
      ∧ ExamineKept s (examineRecord g tag s) := by
  obtain ⟨table1, kept1⟩ := examine_table (g := g) (tag := tag) (i := .ms) hn
  have tags1 : (examine g tag .ms s).tracker.table.map (·.tag) = s.tracker.table.map (·.tag) := by
    rw [table1, examinedTags_tags]
  obtain ⟨table2, kept2⟩ := examine_table (g := g) (tag := tag) (i := .d1) (s := examine g tag .ms s) (tags1 ▸ hn)
  have tags2 : (examine g tag .d1 (examine g tag .ms s)).tracker.table.map (·.tag) = s.tracker.table.map (·.tag) := by
    rw [table2, examinedTags_tags, tags1]
  obtain ⟨table3, kept3⟩ := examine_table (g := g) (tag := tag) (i := .d2)
    (s := examine g tag .d1 (examine g tag .ms s)) (tags2 ▸ hn)
  refine ⟨?_, (kept1.trans kept2).trans kept3⟩
  change (examine g tag .d2 (examine g tag .d1 (examine g tag .ms s))).tracker.table = _
  rw [table3, (kept1.trans kept2).travel, table2, kept1.travel, table1, examinedTags_append, examinedTags_append]
  rfl

/-- R92: the records examined one after the other. -/
theorem foldl_examineRecord {g : TableGeometry} {tags : List Nat} {s : State} (hd : tags.Nodup)
    (hn : (s.tracker.table.map (·.tag)).Nodup) :
    let u := tags.foldl (fun s t => examineRecord g t s) s
    u.tracker.table = examinedTags g s.travel photocells tags s.tracker.table ∧ ExamineKept s u := by
  induction tags generalizing s with
  | nil =>
    refine ⟨?_, ExamineKept.refl s⟩
    simp [examinedTags]
  | cons tag tags ih =>
    obtain ⟨fresh, rest⟩ := List.nodup_cons.1 hd
    obtain ⟨table, kept⟩ := examineRecord_table (g := g) (tag := tag) hn
    obtain ⟨table', kept'⟩ := ih (s := examineRecord g tag s) rest (by rwa [table, examinedTags_tags])
    refine ⟨?_, kept.trans kept'⟩
    rw [List.foldl_cons, table', kept.travel, table, examinedTags_cons fresh]

/-- R92: at the examination of all records, each is examined. -/
theorem examineAll_table {g : TableGeometry} {s : State} (hg : s.cfg.tableGeometry = some g)
    (hn : (s.tracker.table.map (·.tag)).Nodup) :
    (examineAll s).tracker.table = s.tracker.table.map (TableRecord.examinedBy g s.travel photocells)
      ∧ ExamineKept s (examineAll s) := by
  have all : examineAll s = (s.tracker.table.map (·.tag)).foldl (fun s t => examineRecord g t s) s := by
    unfold examineAll
    rw [hg]
  obtain ⟨table, kept⟩ := foldl_examineRecord (g := g) hn hn
  rw [all]
  refine ⟨table.trans (List.map_congr_left fun x hx => ?_), kept⟩
  exact if_pos (List.mem_map_of_mem hx)

/-! ### A change of table travel (R87, R92, R138) -/

section
variable {new : Bool × Bool} {s : State}

/-- R136, R137: a step of counter T that changes the table travel changes the counter alone. -/
theorem takeStep_moved (h : (takeStep .t new s).travel ≠ s.travel) :
    takeStep .t new s = { s with counters := (takeStep .t new s).counters } := by
  unfold takeStep at h ⊢
  split
  · rfl
  · next hp =>
    rw [if_neg hp] at h
    split
    · next hl =>
      rw [if_pos hl] at h
      refine absurd ?_ h
      unfold illegalTransition
      dsimp only
      split
      · rfl
      · rw [raise_eq]
        rfl
    · rfl

theorem encoderStep_moved (hp : s.power = true) {a b : Bool} (h : (takeStep .t (a, b) s).travel ≠ s.travel) :
    exec (.encoderStep .t a b) s = .next (finish (travelChanged s.travel (takeStep .t (a, b) s))) := by
  have moved : encoderStep .t (a, b) s = travelChanged s.travel (takeStep .t (a, b) s) := if_neg h
  exact (powered_on (fun s => finish (encoderStep .t (a, b) s)) _ hp).trans
    (congrArg (fun t => Host.Outcome.next (finish t)) moved)

end

end Sys2Proof.Machine
end

section
/-! Settles O39: the tracking photocells (R77, R82, R85, R87, R89 to R92, R147). -/

namespace Sys2Proof.Machine

/-! ### The length of a slab (R91) -/

section
variable {g : TableGeometry} {m : Measurement} {r : TableRecord} {capture : Int} {s : State}

/-- R91: a length of the range that differs from no nominal by more than the tolerance is accepted. -/
theorem lengthOutcome_accepted {tol len : Int} (h1 : 1500 ≤ len) (h2 : len ≤ 12000)
    (hn : ∀ e ∈ r.nominals, mag (len - e.length) ≤ tol) : lengthOutcome tol r len = .accepted := by
  have range : inRange 1500 12000 len = true := Bool.and_eq_true_iff.2 ⟨decide_eq_true h1, decide_eq_true h2⟩
  unfold lengthOutcome
  rw [range, if_neg (by decide)]
  cases h : r.nominals with
  | none => rfl
  | some e => exact if_neg (not_lt.2 (hn e h))

theorem lengthOutcome_offNominal {tol len : Int} (h1 : 1500 ≤ len) (h2 : len ≤ 12000)
    (hn : ∃ e, r.nominals = some e ∧ tol < mag (len - e.length)) : lengthOutcome tol r len = .offNominal := by
  have range : inRange 1500 12000 len = true := Bool.and_eq_true_iff.2 ⟨decide_eq_true h1, decide_eq_true h2⟩
  obtain ⟨e, he, far⟩ := hn
  unfold lengthOutcome
  rw [range, if_neg (by decide), he]
  exact if_pos far

theorem lengthOutcome_outOfRange {tol len : Int} (h : len < 1500 ∨ 12000 < len) :
    lengthOutcome tol r len = .outOfRange := by
  have range : inRange 1500 12000 len = false := by
    unfold inRange
    rw [Bool.and_eq_false_iff, decide_eq_false_iff_not, decide_eq_false_iff_not]
    omega
  unfold lengthOutcome
  rw [range]
  exact if_pos rfl

/-- R91: the state in which a measurement has ended. -/
def measurementClosed (s : State) : State := { s with tracker := { s.tracker with measuring := none } }

/-- R91: a tail edge ends the measurement of a record of the list. -/
theorem tailEdge_measured (hg : s.cfg.tableGeometry = some g) (hm : s.tracker.measuring = some m)
    (hr : s.tracker.table.find? (fun r => r.tag == m.tag) = some r) :
    let len := roundMm (capture - m.capture)
    let o := lengthOutcome g.lengthTolerance r len
    tailEdge capture s = raise (.lengthMeasured r.tag r.id len (r.nominals.map (·.length)) o)
      (applyLength r len o (measurementClosed s)) := by
  have found : (measurementClosed s).findTag m.tag = some r := hr
  have tolerance : (measurementClosed s).lengthTolerance = g.lengthTolerance := by
    unfold State.lengthTolerance
    rw [show (measurementClosed s).cfg.tableGeometry = some g from hg]
  unfold tailEdge
  rw [hm]
  change endMeasurement m capture s = _
  unfold endMeasurement
  dsimp only
  rw [show (s.setTracker { s.tracker with measuring := none }) = measurementClosed s from rfl, found, tolerance]

/-- R91: the records of a list, one of them with its length measured. -/
def measuredTable (tag : Nat) (len : Int) (l : List TableRecord) : List TableRecord :=
  l.map fun y => if y.tag = tag then { y with measured := some len } else y

theorem applyLength_accepted {len : Int} : applyLength r len .accepted s = { s with
    tracker := { s.tracker with table := measuredTable r.tag len s.tracker.table }
    due := { s.due with tableRule := true, gridEval := true } } := rfl

end

/-! ### A tail edge and the record (R85, R91) -/

/-- What a tail edge leaves of the state, with the table list `table`. -/
structure TailTaken (table : List TableRecord) (s u : State) : Prop where
  tracker : u.tracker = { s.tracker with table := table, measuring := none }
  maps : u.maps = s.maps
  schedule : u.schedule = s.schedule
  cfg : u.cfg = s.cfg
  counters : u.counters = s.counters

section
variable {g : TableGeometry} {m : Measurement} {r : TableRecord} {capture : Int} {s : State}

/-- R91: the table list after a measured length, by its case. -/
def lengthTable (tag : Nat) (len : Int) (l : List TableRecord) : LengthOutcome → List TableRecord
  | .outOfRange => heldTable .length tag l
  | .offNominal => heldTable .length tag (measuredTable tag len l)
  | .accepted => measuredTable tag len l

theorem tailEdge_taken (hg : s.cfg.tableGeometry = some g) (hm : s.tracker.measuring = some m)
    (hr : s.tracker.table.find? (fun r => r.tag == m.tag) = some r) (hs : r.state ≠ .reject) :
    let len := roundMm (capture - m.capture)
    TailTaken (lengthTable r.tag len s.tracker.table (lengthOutcome g.lengthTolerance r len)) s (tailEdge capture s) := by
  intro len
  have edge : tailEdge capture s = _ := tailEdge_measured (capture := capture) hg hm hr
  rw [edge]
  generalize lengthOutcome g.lengthTolerance r (roundMm (capture - m.capture)) = o
  have applied : TailTaken (lengthTable r.tag len s.tracker.table o) s (applyLength r len o (measurementClosed s)) := by
    cases o with
    | outOfRange =>
      have held := trackerHold_trackerHeld .length (measurementClosed s) hs
      exact ⟨held.tracker, held.maps, held.schedule, held.cfg, held.counters⟩
    | offNominal =>
      have held := trackerHold_trackerHeld (r := { r with measured := some len }) .length
        (applyLength r len .accepted (measurementClosed s)) hs
      exact ⟨held.tracker, held.maps, held.schedule, held.cfg, held.counters⟩
    | accepted => exact ⟨rfl, rfl, rfl, rfl, rfl⟩
  have told := raise_eq (.lengthMeasured r.tag r.id (roundMm (capture - m.capture)) (r.nominals.map (·.length)) o)
    (applyLength r len o (measurementClosed s))
  rw [told]
  exact ⟨applied.tracker, applied.maps, applied.schedule, applied.cfg, applied.counters⟩

theorem find?_heldTable {l : List TableRecord} (cause : SlabCause) {tag : Nat}
    (hr : l.find? (fun r => r.tag == tag) = some r) :
    (heldTable cause tag l).find? (fun r => r.tag == tag) = some { r with state := .held cause } := by
  have tagged : r.tag = tag := by simpa using List.find?_some hr
  unfold heldTable
  rw [find?_map_tag (fun x => by split <;> rfl) hr, if_pos tagged]

theorem find?_measuredTable {l : List TableRecord} (len : Int) {tag : Nat}
    (hr : l.find? (fun r => r.tag == tag) = some r) :
    (measuredTable tag len l).find? (fun r => r.tag == tag) = some { r with measured := some len } := by
  have tagged : r.tag = tag := by simpa using List.find?_some hr
  unfold measuredTable
  rw [find?_map_tag (fun x => by split <;> rfl) hr, if_pos tagged]

theorem lengthTable_length (tag : Nat) (len : Int) (l : List TableRecord) (o : LengthOutcome) :
    (lengthTable tag len l o).length = l.length := by
  cases o <;> simp [lengthTable, heldTable, measuredTable]

end

/-! ### The evaluation of the presence flag at a change of travel (R87) -/

/-- R87, R138: the state before the records are examined. -/
theorem travelChanged_eq (old : Int) (t : State) :
    travelChanged old t = if old < t.travel then examineAll (markGrid (evalPresence t)) else markGrid (evalPresence t) := by
  have travel : (markGrid (evalPresence t)).travel = t.travel := by
    rw [evalPresence_fields]
    rfl
  unfold travelChanged
  dsimp only
  rw [travel]

/-- Settles O39: an edge by the nearest candidate and its neighbours; the length by its case; a change of travel by
the records it examines; a hold by the state of the sequencer. -/
theorem photocellTracking : Obligations.PhotocellTracking := by
  refine ⟨fun i pre post r g s hp hi hf htaken he hd hg ht hn honly ha hb => ?accepted,
    fun i n p g s hp hi hc hf hg => ?filtered, fun m r g s hp hf htaken he hd hg hm hr hs => ?tail,
    fun i pre post r g s hp hi hf htaken he hd hg ht hn honly hs hnear => ?conflict,
    ⟨fun g tag i r s hi hr hseen => ?examine, fun a b g s hp hg hn hup => ?passed, fun a b s hp hmove => ?travel⟩,
    fun k c s hc => ?handed⟩
  case accepted =>
    obtain ⟨v, edge⟩ := rawTransition_rising hp hi hf htaken he hd
    have nearest : nearest (g.sensorAt i) (roundMm s.counters.t.acc)
        (s.tracker.table.filter (TableRecord.candidateAt g (roundMm s.counters.t.acc) i)) = some r := by
      rw [show s.tracker.table.filter (TableRecord.candidateAt g (roundMm s.counters.t.acc) i) = [r] from honly]
      rfl
    rw [headEdge_accepted (s := { s with sensors := v }) hg ht hn nearest ha hb] at edge
    exact ⟨_, edge, rfl, rfl, rfl, rfl, rfl, rfl, rfl, rfl, rfl, rfl⟩
  case filtered =>
    intro t taken done x travel away candidate
    have elapsed : done = .next (finish (trackEdge i p.level p.capture p.dir taken)) := filterTimeElapsed_taken hp hc hf
    have lines : SameLines s taken := ⟨elapse_links n s, elapse_ret n s, elapse_cfg n s⟩
    have tracker : taken.tracker = s.tracker := elapse_tracker n s
    have geometry : taken.cfg.tableGeometry = some g := (congrArg (·.tableGeometry) lines.cfg).trans hg
    refine ⟨fun hd => ?reverse, fun hl hd hn => ?unexpected, fun pre r post hl hd ht hn hr near ha hb => ?nearest,
      fun m r hms hl hd hm hr h1 h2 hnom => ?length, fun hl hms => ?other⟩
    case reverse => rw [elapsed, hd, trackEdge_reverse hi]
    case unexpected =>
      rw [elapsed, hl, trackEdge_head hi hd, headEdge_unexpected geometry]
      intro r hr hcand
      rw [tracker] at hr
      exact hn r hr (candidateAt_iff.1 hcand)
    case nearest =>
      have table : taken.tracker.table = pre ++ r :: post := (congrArg (·.table) tracker).trans ht
      have nearest := nearest_filter (pre := pre) (post := post) (candidateAt_iff.2 hr)
        fun y hy hcand => near y hy (candidateAt_iff.1 hcand)
      rw [← table] at nearest
      rw [hl, trackEdge_head hi hd, headEdge_accepted geometry table (by rwa [tracker]) nearest ha hb] at elapsed
      refine ⟨_, elapsed, ?_⟩
      rw [tracker]
    case length =>
      subst hms
      let len := roundMm (p.capture - m.capture)
      have accepted := lengthOutcome_accepted (r := r) h1 h2 hnom
      have measured : tailEdge p.capture taken = _ := tailEdge_measured (capture := p.capture) geometry (by rwa [tracker]) (by rwa [tracker])
      rw [accepted] at measured
      rw [hl, trackEdge_tail hd, measured, applyLength_accepted] at elapsed
      let ended : State := { taken with
        tracker := { taken.tracker with table := measuredTable r.tag len taken.tracker.table, measuring := none }
        due := { taken.due with tableRule := true, gridEval := true } }
      let e : Event := .lengthMeasured r.tag r.id len (r.nominals.map (·.length)) .accepted
      have told := untouched_send.raise e ended
      have record : (raise e ended).tracker = ended.tracker := by rw [raise_eq]
      have same : SameLines s ended := ⟨lines.links, lines.ret, lines.cfg⟩
      refine ⟨raise e ended, elapsed, ?_, (same.raise e).links, told.seqs, told.sensors, ?_, ?_⟩
      · rw [record]
        change ({ taken.tracker with table := measuredTable r.tag len taken.tracker.table, measuring := none } : Tracker) = _
        rw [tracker]
        rfl
      · exact told.arb.trans (elapse_arb n s)
      · exact told.maps.trans (elapse_maps n s)
    case other =>
      have hi : i = .d1 ∨ i = .d2 := hi.resolve_left hms
      rw [elapsed, hl, trackEdge_tail_other hi]
  case tail =>
    intro len off
    obtain ⟨v, edge⟩ := rawTransition_falling hp hf htaken he hd
    have taken := tailEdge_taken (capture := s.counters.t.acc) (s := { s with sensors := v }) hg hm hr hs
    rw [show r.tag = m.tag by simpa using List.find?_some hr] at taken
    refine ⟨_, edge, by rw [taken.tracker], fun hlen => ?_, fun h1 h2 hoff => ?_, fun h1 h2 hon => ?_, ?_, taken.maps,
      taken.schedule, taken.cfg, taken.counters⟩
    · rw [taken.tracker, lengthOutcome_outOfRange hlen, lengthTable]
      exact find?_heldTable .length hr
    · rw [taken.tracker, lengthOutcome_offNominal h1 h2 hoff, lengthTable]
      exact find?_heldTable .length (find?_measuredTable len hr)
    · have near : ∀ e ∈ r.nominals, mag (len - e.length) ≤ g.lengthTolerance :=
        fun e he => not_lt.1 fun far => hon ⟨e, he, far⟩
      rw [taken.tracker, lengthOutcome_accepted h1 h2 near, lengthTable]
      exact find?_measuredTable len hr
    · rw [taken.tracker]
      exact lengthTable_length ..
  case conflict =>
    intro told
    obtain ⟨v, edge⟩ := rawTransition_rising hp hi hf htaken he hd
    have nearest : nearest (g.sensorAt i) (roundMm s.counters.t.acc)
        (s.tracker.table.filter (TableRecord.candidateAt g (roundMm s.counters.t.acc) i)) = some r := by
      rw [show s.tracker.table.filter (TableRecord.candidateAt g (roundMm s.counters.t.acc) i) = [r] from honly]
      rfl
    let e : Event := .trackingConflict r.tag i (g.sensorAt i - (r.anchor + roundMm s.counters.t.acc))
    have lines : SameLines s { s with sensors := v } := ⟨rfl, rfl, rfl⟩
    have conflict := lines.raise (.trackingConflict r.tag i (g.sensorAt i - (r.anchor + roundMm s.counters.t.acc)))
    let t : State := { s with
      sensors := v, links := (raise e s).links, ret := (raise e s).ret
      tracker := { s.tracker with table := pre ++ r.mark i :: post } }
    have refused : exec (.rawTransition i (!(s.cfg.sensorSetup.get i).invert)) s =
        .next (finish (trackerHold .tracking (r.mark i) t)) := by
      rw [edge, headEdge_refused (s := { s with sensors := v }) hg ht hn nearest hnear]
      dsimp only
      rw [conflict.links, conflict.ret]
    have same : SameLines (raise e s) t := ⟨rfl, rfl, by rw [raise_eq]⟩
    have state : (r.mark i).state ≠ .reject := by rwa [TableRecord.mark_state]
    have held := trackerHold_trackerHeld .tracking t state
    have mode : t.ret.mode = s.ret.mode := (untouched_send.raise e s).mode
    refine ⟨_, refused, ?_, fun haway => ?_, fun k c hm hc htag => ?_, held.maps, held.schedule, held.cfg, held.grid,
      held.counters, held.place⟩
    · rw [held.tracker]
      rw [ht] at hn
      have again := map_tag_append (r := r.mark i) (pre := pre) (post := post)
        (fun x => { x with state := .held .tracking }) (by simpa [TableRecord.mark_tag] using hn)
      exact congrArg (fun l => ({ s.tracker with table := l } : Tracker)) again
    · have away : t.positioned (r.mark i).tag = false := by
        rw [TableRecord.mark_tag]
        exact haway
      obtain ⟨d, placed⟩ := placeHold_held (r := r.mark i) .tracking t state
      have event : (Event.slabHeld (r.mark i).tag (r.mark i).id (some .tracking) (some (r.mark i).state)
          ((r.mark i).anchor + t.travel)) = .slabHeld r.tag r.id (some .tracking) (some r.state) (r.anchor + s.travel) := by
        rw [TableRecord.mark_tag, TableRecord.mark_id, TableRecord.mark_state, TableRecord.mark_anchor]
        rfl
      rw [event] at placed
      have both := same.raise (.slabHeld r.tag r.id (some .tracking) (some r.state) (r.anchor + s.travel))
      rw [trackerHold_unpositioned state away, placed]
      exact ⟨both.links, both.ret, rfl, rfl⟩
    · obtain ⟨w, u, seq, request, handed, seqs, requests, holds⟩ :=
        trackerHold_handed (cause := .tracking) (s := t) k state (by rwa [mode])
      have seq : w.seqs.get k = s.seqs.get k := seq
      have took := handHold_handed (s := w) (c := c) (by rw [seq]; exact hc)
      rw [htag, ← TableRecord.mark_tag i r, ← handed] at took
      rw [seqs, requests, holds, ← seq]
      refine ⟨fun hstate => ?_, fun hstate => ?_, fun hstate => ?_⟩
      · rcases hstate with hstate | hstate
        · obtain ⟨idle, -, hold, -⟩ := took.positioning hstate
          exact ⟨idle, hold⟩
        · obtain ⟨idle, hold, -⟩ := took.room hstate
          exact ⟨idle, hold⟩
      · obtain ⟨-, gone, -⟩ := took.positioning hstate
        exact gone
      · obtain ⟨held, hold, -⟩ := took.pick hstate
        exact ⟨held, hold⟩
  case examine =>
    intro marked
    refine ⟨fun hbeyond => ?_, fun hshort => ?_⟩
    · exact (examine_found hr).trans (if_pos (missed_iff.2 ⟨hseen, hbeyond⟩))
    · exact (examine_found hr).trans (if_neg fun hm => not_lt.2 hshort (missed_iff.1 hm).2)
  case passed =>
    intro travel missed
    have done := encoderStep_moved hp hup.ne'
    have step := takeStep_moved hup.ne'
    let t := takeStep .t (a, b) s
    let w := markGrid (evalPresence t)
    rw [travelChanged_eq, if_pos hup] at done
    have presence : w = markGrid (evalPresence t) := rfl
    rw [evalPresence_fields, show t = _ from step] at presence
    have table : w.tracker.table = s.tracker.table := by rw [presence]; rfl
    have moved : w.travel = travel := by rw [presence]; rfl
    have maps : w.maps = s.maps := by rw [presence]; rfl
    have schedule : w.schedule = s.schedule := by rw [presence]; rfl
    have cfg : w.cfg = s.cfg := by rw [presence]; rfl
    have sensors : w.sensors = s.sensors := by rw [presence]; rfl
    obtain ⟨examined, kept⟩ := examineAll_table (g := g) (s := w) (by rw [cfg]; exact hg) (by rwa [table])
    rw [table, moved] at examined
    have mem {i : SensorId} (hi : i = .ms ∨ i = .d1 ∨ i = .d2) : i ∈ photocells := by
      rcases hi with rfl | rfl | rfl <;> decide
    refine ⟨_, done, ?anchors, fun r hr i hm => ?none, fun r hr hm hs => ?held, fun r hr hm => ?left, kept.maps.trans maps,
      kept.schedule.trans schedule, kept.cfg.trans cfg, kept.sensors.trans sensors⟩
    case anchors =>
      rw [show (examineAll (markGrid (evalPresence (takeStep .t (a, b) s)))).tracker.table = _ from examined, List.map_map]
      refine List.map_congr_left fun x _ => ?_
      rw [Function.comp_apply, examinedBy_tag, examinedBy_anchor]
    case none =>
      rw [show (examineAll (markGrid (evalPresence (takeStep .t (a, b) s)))).tracker.table = _ from examined] at hr
      obtain ⟨x, -, rfl⟩ := List.mem_map.1 hr
      exact not_missed_examinedBy (mem hm.1) (missed_iff.2 hm.2)
    case held =>
      obtain ⟨i, hi, hm⟩ := hm
      rw [show (examineAll (markGrid (evalPresence (takeStep .t (a, b) s)))).tracker.table = _ from examined]
      exact ⟨_, List.mem_map_of_mem hr, examinedBy_tag, examinedBy_held hs (.inr ⟨i, mem hi, missed_iff.2 hm⟩)⟩
    case left =>
      rw [show (examineAll (markGrid (evalPresence (takeStep .t (a, b) s)))).tracker.table = _ from examined]
      refine List.mem_map.2 ⟨r, hr, examinedBy_unmissed fun i hi hmiss => hm i ⟨?_, missed_iff.1 hmiss⟩⟩
      simpa [photocells] using hi
  case travel =>
    intro t flagged watched marked done
    have step : t = { s with counters := t.counters } := takeStep_moved hmove
    have changed : done = _ := encoderStep_moved hp hmove
    have presence : evalPresence t = watched := by
      have clear : (!t.sensors.gp.taken || t.zoneTaken) = true ↔ s.sensors.gp.taken = false ∨ t.zoneTaken = true := by
        rw [Bool.or_eq_true, Bool.not_eq_true', step]
      have quiet : (t.grid.grant.isSome || t.tracker.unidentified) = true ↔
          s.grid.grant.isSome = true ∨ s.tracker.unidentified = true := by
        rw [Bool.or_eq_true, step]
      change (if (!t.sensors.gp.taken || t.zoneTaken) = true then flagged false t
        else if (t.grid.grant.isSome || t.tracker.unidentified) = true then t
        else raise (.unidentifiedOnGrid t.travel) (flagged true t)) = watched
      simp only [clear, quiet]
      rfl
    rw [travelChanged_eq, show evalPresence (takeStep .t (a, b) s) = watched from presence] at changed
    have cfg : watched.cfg = s.cfg := by
      rw [← presence, evalPresence_fields, step]
    have table : watched.tracker.table = s.tracker.table := by
      rw [← presence, evalPresence_fields, step]
    refine ⟨step, fun hdown => ?_, fun hg => ?_, fun g hup hg => ?_⟩
    · rw [if_neg (not_lt.2 (le_of_lt hdown))] at changed
      exact changed
    · have unexamined : examineAll (markGrid watched) = markGrid watched := by
        unfold examineAll
        rw [show (markGrid watched).cfg.tableGeometry = none from (congrArg (·.tableGeometry) cfg).trans hg]
      rw [unexamined, ite_self] at changed
      exact changed
    · have examined : examineAll (markGrid watched) = (s.tracker.table.map (·.tag)).foldl
          (fun u tag => examineRecord g tag u) (markGrid watched) := by
        unfold examineAll
        rw [show (markGrid watched).cfg.tableGeometry = some g from (congrArg (·.tableGeometry) cfg).trans hg,
          show (markGrid watched).tracker.table = s.tracker.table from table]
      rw [if_pos hup, examined] at changed
      exact changed
  case handed =>
    intro q u
    have own := handHold_handed hc
    refine ⟨own.positioning, own.room, own.pick, fun hp hr hk => ?_, fun tag htag => ?_, (handHold_otherKept ..).seq,
      handHold_accounts ..⟩
    · exact handHold_away (Bool.eq_false_iff.2 fun h => by
        rcases ((positionedFor_of_cycle hc c.tag).1 h).2 with h | h | h
        · exact hp h
        · exact hr h
        · exact hk h)
    · exact handHold_away (Bool.eq_false_iff.2 fun h => htag ((positionedFor_of_cycle hc tag).1 h).1.symm)

end Sys2Proof.Machine
end

section
/-! Settles O40: ACCEPT_SLAB, REJECT_SLAB and REMOVE_SLAB (R85, R87, R103, R104). -/

namespace Sys2Proof.Machine

/-- An event raised in a state that has the queues of another goes as it would in that one. -/
theorem raise_alike {s t : State} (h : SameLines s t) (e : Event) :
    raise e t = { t with links := (raise e s).links, ret := (raise e s).ret } := by
  obtain ⟨links, ret, -⟩ := h.raise e
  rw [raise_eq e t, links, ret]

/-! ### The fields of ACCEPT_SLAB (R103, R171) -/

theorem byteRead_range (x : Option Nat) :
    rangeWhereGiven 0 15 ((byteRead x).map Int.ofNat) = true ↔ ∀ y ∈ x, y = 255 ∨ y ≤ 15 := by
  cases x with
  | none => simp [rangeWhereGiven, byteRead]
  | some v => by_cases h : v = 255 <;> simp [rangeWhereGiven, byteRead, h, inRange]

/-- R103: the ranges of the fields that are there. -/
theorem acceptRangesOk_iff (w l th : Option Int) (grp : Option Nat) :
    acceptRangesOk (figureRead w) (figureRead l) (figureRead th) (byteRead grp) = true ↔
      (∀ x ∈ w, x = absentFigure ∨ (800 ≤ x ∧ x ≤ 2800)) ∧ (∀ x ∈ l, x = absentFigure ∨ (1500 ≤ x ∧ x ≤ 12000))
        ∧ (∀ x ∈ th, x = absentFigure ∨ (100 ≤ x ∧ x ≤ 500)) ∧ (∀ x ∈ grp, x = 255 ∨ x ≤ 15) := by
  unfold acceptRangesOk figuresInRange
  rw [Bool.and_eq_true, Bool.and_eq_true, Bool.and_eq_true, rangeWhereGiven_figureRead, rangeWhereGiven_figureRead,
    rangeWhereGiven_figureRead, byteRead_range]
  tauto

theorem given_eq_or {α : Type} (x old : Option α) : given x old = x.or old := by
  cases x <;> rfl

/-- R171: a figure in its range is there. -/
theorem figureRead_of_range {x : Option Int} {a b : Int} (ha : 0 ≤ a) (h : ∀ y ∈ x, a ≤ y ∧ y ≤ b) : figureRead x = x := by
  refine if_neg fun e => ?_
  obtain ⟨low, -⟩ := h _ e
  exact absurd (ha.trans low) (by decide)

theorem byteRead_of_range {x : Option Nat} (h : ∀ y ∈ x, y ≤ 15) : byteRead x = x := by
  refine if_neg fun e => ?_
  exact absurd (h _ e) (by decide)

theorem codeRead_isNone {α : Type} (x : Option (Code α)) :
    (codeRead x).isNone = true ↔ x = none ∨ x = some (.bad 255) := by
  unfold codeRead
  split
  · simp
  · next h =>
    have other : x ≠ some (.bad 255) := h
    simp [other]

/-! ### The checks (R103, R104) -/

section
variable {tag : Nat} {r : TableRecord} {s : State} {f : TableRecord → CommandResult}

theorem forTag_unknown (ht : tag ≠ 0) (h : ∀ r ∈ s.tracker.table, r.tag ≠ tag) :
    forTag tag s f = .error (.unknownTag, .none) := by
  have none : s.findTag tag = none := List.find?_eq_none.2 fun r hr => by simpa using h r hr
  unfold forTag tagGiven
  rw [if_neg (by simpa using ht), none]
  rfl

theorem forTag_found (ht : tag ≠ 0) (hr : s.tracker.table.find? (fun r => r.tag == tag) = some r) :
    forTag tag s f = f r := by
  unfold forTag tagGiven
  rw [if_neg (by simpa using ht), show s.findTag tag = some r from hr]

theorem acceptSlab_found {w l th : Option Int} {grp : Option Nat} {dest : Option (Code Furnace)} (ht : tag ≠ 0)
    (hr : s.tracker.table.find? (fun r => r.tag == tag) = some r) (hp : s.positioned tag = false) :
    ownAcceptSlab tag w l th grp dest s =
      if acceptRangesOk (figureRead w) (figureRead l) (figureRead th) (byteRead grp) = true then
        if goodWhereGiven (codeRead dest) = true then
          if r.dest = none ∧ (dest = none ∨ dest = some (.bad 255)) then .error (.illegalValue, .none)
          else
            let r' := r.accepted (figureRead w) (figureRead l) (figureRead th) (byteRead grp) (givenCode (codeRead dest))
            .ok (.accepted r'.tag (r'.head s.travel) r', acceptRecord r')
        else .error (.illegalValue, .none)
      else .error (.outOfRange, .none) := by
  have undirected : (r.dest.isNone && (codeRead dest).isNone) = true ↔
      r.dest = none ∧ (dest = none ∨ dest = some (.bad 255)) := by
    rw [Bool.and_eq_true, Option.isNone_iff_eq_none, codeRead_isNone]
  unfold ownAcceptSlab acceptFields
  rw [forTag_found ht hr, if_neg (by rw [hp]; exact Bool.false_ne_true)]
  simp only [undirected, Bool.not_eq_true', ← Bool.not_eq_true, ite_not]
  rfl

theorem forFreeRecord_found {g : TableRecord → State → State} (ht : tag ≠ 0)
    (hr : s.tracker.table.find? (fun r => r.tag == tag) = some r) (hp : s.positioned tag = false) :
    forFreeRecord tag s g = .ok (.tagIdentity r.tag r.id, g r) := by
  unfold forFreeRecord
  rw [forTag_found ht hr, if_neg (by rw [hp]; exact Bool.false_ne_true)]

theorem forFreeRecord_busy {g : TableRecord → State → State} (ht : tag ≠ 0)
    (hr : s.tracker.table.find? (fun r => r.tag == tag) = some r) (hp : s.positioned tag = true) :
    forFreeRecord tag s g = .error (.busy, .none) := by
  unfold forFreeRecord
  rw [forTag_found ht hr, if_pos hp]
  rfl

theorem acceptSlab_busy {w l th : Option Int} {grp : Option Nat} {dest : Option (Code Furnace)} (ht : tag ≠ 0)
    (hr : s.tracker.table.find? (fun r => r.tag == tag) = some r) (hp : s.positioned tag = true) :
    ownAcceptSlab tag w l th grp dest s = .error (.busy, .none) := by
  unfold ownAcceptSlab acceptFields
  rw [forTag_found ht hr, if_pos hp]
  rfl

end

/-! ### What the commands do (R85, R103, R104) -/

/-- R103: the record is accepted, with SLAB_READY, and both sequencers have an occasion. -/
theorem acceptRecord_fields (r : TableRecord) (s : State) :
    let told := raise (.slabReady r.tag r.id r.dest) s
    ∃ d, d.start = ⟨true, true⟩ ∧ acceptRecord r s = { s with
      links := told.links
      ret := told.ret
      tracker := { s.tracker with table := s.tracker.table.map fun x => if x.tag = r.tag then r else x }
      due := d } := by
  intro told
  have lines : SameLines s (updateRecord r.tag (fun _ => r) s) := ⟨rfl, rfl, rfl⟩
  unfold acceptRecord
  rw [raise_alike lines, markList_eq]
  exact ⟨_, rfl, rfl⟩

/-- R104: the record is rejected, with SLAB_HELD. -/
theorem rejectRecord_fields (r : TableRecord) (s : State) :
    let told := raise (.slabHeld r.tag r.id none (some r.state) (r.anchor + s.travel)) s
    ∃ d, rejectRecord r s = { s with
      links := told.links
      ret := told.ret
      tracker := { s.tracker with
        table := s.tracker.table.map fun x => if x.tag = r.tag then { x with state := .reject, dest := none } else x }
      due := d } := by
  intro told
  have lines : SameLines s (updateRecord r.tag (fun x => { x with state := .reject, dest := none }) s) := ⟨rfl, rfl, rfl⟩
  unfold rejectRecord
  rw [raise_alike lines, markList_eq]
  unfold markReady
  split <;> exact ⟨_, rfl⟩

/-- R87, R104: the state in which the record has left, before the presence flag is evaluated. -/
theorem removeRecord_before (r : TableRecord) (s : State) : ∃ d, revertLink r.link (deleteRecord r s) = { s with
    tracker := { s.tracker with
      table := s.tracker.table.filter fun x => x.tag != r.tag
      measuring := dropMeasurement r.tag s.tracker.measuring }
    schedule := s.schedule.map fun e => if some e.seq = r.link then { e with state := .planned } else e
    due := d } := by
  obtain ⟨d, deleted⟩ := deleteRecord_due r s
  rw [revertLink_fields, deleted]
  exact ⟨d, rfl⟩

/-- R87: a record other than that with a tag lies on the grid zone. -/
theorem zoneTaken_without {tag : Nat} {s t : State} (hc : t.cfg = s.cfg) (ht : t.travel = s.travel)
    (h : t.tracker.table = s.tracker.table.filter fun x => x.tag != tag) : t.zoneTaken = true ↔
      ∃ g, s.cfg.tableGeometry = some g ∧ ∃ x ∈ s.tracker.table, x.tag ≠ tag
        ∧ x.tail s.travel ≤ g.xGE ∧ g.xGS ≤ x.anchor + s.travel := by
  unfold State.zoneTaken
  rw [hc, ht, h]
  cases s.cfg.tableGeometry with
  | none => simp
  | some g =>
    simp only [TableRecord.onZone, List.any_filter, List.any_eq_true, Bool.and_eq_true, bne_iff_ne,
      decide_eq_true_eq, Option.some.injEq, exists_eq_left']
    rfl

/-- Settles O40: each command by its checks in their order and by the record it changes; a removal by what the presence
flag then finds. -/
theorem slabRecordCommands : Obligations.SlabRecordCommands := by
  refine ⟨fun h tag w l th grp dest r s hm hf ht hr hp hw hl hth hgrp hdest => ?accept, fun h tag r s hm ht hr hp => ?free,
    fun h s hm => ⟨?missing, fun tag ht hn => ?unknown, fun tag r ht hr hp => ?busy,
      fun tag r w l th grp dest ht hr hp => ?fields⟩⟩
  case accept =>
    intro r' told
    have tagged : r.tag = tag := by simpa using List.find?_some hr
    have record : r.accepted w l th grp dest = r' := by
      unfold TableRecord.accepted
      rw [given_eq_or, given_eq_or, given_eq_or, given_eq_or, given_eq_or]
    have ranges : acceptRangesOk w l th grp = true := by
      have all := (acceptRangesOk_iff w l th grp).2 ⟨fun x hx => .inr (hw x hx), fun x hx => .inr (hl x hx),
        fun x hx => .inr (hth x hx), fun x hx => .inr (hgrp x hx)⟩
      rwa [figureRead_of_range (by decide) hw, figureRead_of_range (by decide) hl, figureRead_of_range (by decide) hth,
        byteRead_of_range hgrp] at all
    have good : goodWhereGiven (dest.map Code.val) = true := by cases dest <;> rfl
    have directed : ¬ (r.dest = none ∧ (dest.map Code.val = none ∨ dest.map Code.val = some (.bad 255))) := by
      rintro ⟨none, absent⟩
      refine hdest none ?_
      cases dest with
      | none => rfl
      | some k => simp at absent
    have code : givenCode (dest.map Code.val) = dest := by cases dest <;> rfl
    have own := acceptSlab_found (w := w) (l := l) (th := th) (grp := grp) (dest := dest.map Code.val) ht hr hp
    rw [figureRead_of_range (by decide) hw, figureRead_of_range (by decide) hl, figureRead_of_range (by decide) hth,
      byteRead_of_range hgrp, codeRead_val, code, if_pos ranges, if_pos good, if_neg directed, record] at own
    let answered := respond h Kind.command .ok none (.accepted tag (r.anchor + s.travel) r') s
    have same : r'.tag = tag := tagged
    have taken : exec (.acceptSlab h tag w l th grp (dest.map .val)) s = .next (finish (acceptRecord r' answered)) := by
      have done := command_taken (c := .acceptSlab h tag w l th grp (dest.map .val)) hm hf own
      rw [same] at done
      exact done
    obtain ⟨d, start, accepted⟩ := acceptRecord_fields r' answered
    have answer := respond_linksOnly h Kind.command .ok none (.accepted tag (r.anchor + s.travel) r') s
    rw [same] at accepted
    rw [accepted] at taken
    refine ⟨_, taken, ?_, rfl, rfl, ?_, ?_, answer.seqs, answer.arb, answer.grid, answer.maps, answer.schedule, answer.cfg,
      answer.mgmt, answer.counters⟩
    · change ({ answered.tracker with table := _ } : Tracker) = _
      rw [show answered.tracker = s.tracker from answer.tracker]
    · exact congrArg PerFurnace.f1 start
    · exact congrArg PerFurnace.f2 start
  case free =>
    intro answered rejected onZone watched told
    have tagged : r.tag = tag := by simpa using List.find?_some hr
    have answer := respond_linksOnly h Kind.command .ok none (.tagIdentity tag r.id) s
    refine ⟨rfl, fun hf => ?reject, fun hf => ?remove⟩
    case reject =>
      have taken : exec (.rejectSlab h tag) s = .next (finish (rejectRecord r answered)) := by
        have done := command_taken (c := .rejectSlab h tag) (own := ownRejectSlab tag) hm hf
          (forFreeRecord_found (g := rejectRecord) ht hr hp)
        rw [tagged] at done
        exact done
      obtain ⟨d, done⟩ := rejectRecord_fields r answered
      rw [tagged] at done
      have travel : answered.travel = s.travel := by unfold State.travel; rw [answer.counters]
      rw [travel] at done
      rw [done] at taken
      refine ⟨_, taken, rfl, rfl, ?_, answer.seqs, answer.arb, answer.grid, answer.maps, answer.schedule, answer.cfg,
        answer.mgmt, answer.counters⟩
      change ({ answered.tracker with table := _ } : Tracker) = _
      rw [show answered.tracker = s.tracker from answer.tracker]
    case remove =>
      obtain ⟨d, before⟩ := removeRecord_before r answered
      let t := revertLink r.link (deleteRecord r answered)
      have taken : exec (.removeSlab h tag) s = .next (finish (evalPresence t)) := by
        have done := command_taken (c := .removeSlab h tag) (own := ownRemoveSlab tag) hm hf
          (forFreeRecord_found (g := removeRecord) ht hr hp)
        rw [tagged] at done
        exact done
      have left : t = _ := before
      rw [tagged, answer.tracker, answer.schedule] at left
      have tracker : t.tracker = { s.tracker with
          table := s.tracker.table.filter (fun x => x.tag != tag)
          measuring := dropMeasurement tag s.tracker.measuring } := by rw [left]
      have grid : t.grid = s.grid := by rw [left]; exact answer.grid
      have cfg : t.cfg = s.cfg := by rw [left]; exact answer.cfg
      have sensors : t.sensors = s.sensors := by rw [left]; exact answer.sensors
      have travel : t.travel = s.travel := by rw [left]; exact congrArg (fun c => roundMm c.t.acc) answer.counters
      have lines : SameLines answered t := by rw [left]; exact ⟨rfl, rfl, rfl⟩
      have zone : t.zoneTaken = true ↔ onZone := zoneTaken_without cfg travel (by rw [tracker])
      have seen : (t.sensors.gp.taken && !t.zoneTaken) = true ↔ watched := by
        rw [Bool.and_eq_true, Bool.not_eq_true', ← Bool.not_eq_true, zone, sensors]
      have told' := presenceTold_lines (x := s.travel) (b := newlyUnidentified t) lines travel rfl
      have newly : newlyUnidentified t = true ↔ watched ∧ s.grid.grant = none ∧ s.tracker.unidentified = false := by
        unfold newlyUnidentified
        rw [Bool.and_eq_true, Bool.and_eq_true, seen, grid, tracker, Bool.not_eq_true', Option.isNone_iff_eq_none]
        tauto
      have fields := evalPresence_fields t
      dsimp only at fields
      have unidentified : (evalPresence t).tracker.unidentified =
          ((t.sensors.gp.taken && !t.zoneTaken) && (s.tracker.unidentified || s.grid.grant.isNone)) := by
        rw [fields, tracker, grid]
      refine ⟨_, taken, ?table, ?dropped, ?kept, fun hw hg hu => ?newly, fun hquiet => ?quiet, fun hw => ?unwatched,
        fun hw hquiet => ?watched, ?schedule, ?seqs, ?arb, ?grid, ?maps, ?cfg, ?mgmt, ?counters⟩
      case table => rw [fields, tracker]
      case dropped =>
        intro x hx
        rw [fields, tracker] at hx
        dsimp only at hx
        rw [dropMeasurement_eq] at hx
        split at hx
        · exact nomatch hx
        · next hne => exact ⟨hx, fun e => hne (by rw [hx, ← e]; rfl)⟩
      case kept =>
        intro x hx hne
        rw [fields, tracker]
        dsimp only
        rw [dropMeasurement_eq, hx, Option.map_some, if_neg (by simpa using hne)]
      case newly =>
        obtain ⟨links, ret⟩ := told'
        rw [if_pos (newly.2 ⟨hw, hg, hu⟩)] at links ret
        refine ⟨?_, by rw [fields]; exact links, by rw [fields]; exact ret⟩
        rw [unidentified, seen.2 hw, hg]
        exact Bool.or_true _
      case quiet =>
        obtain ⟨links, ret⟩ := told'
        have none : ¬ newlyUnidentified t = true := by
          rw [newly]
          rintro ⟨hw, hg, hu⟩
          rcases hquiet with h | h | h
          · exact h hw
          · rw [hg] at h
            exact nomatch h
          · exact nomatch hu.symm.trans h
        rw [if_neg none] at links ret
        refine ⟨by rw [fields]; exact links, ?_⟩
        rw [fields]
        exact ret.trans answer.ret
      case unwatched => rw [unidentified, Bool.eq_false_iff.2 (mt seen.1 hw), Bool.false_and]
      case watched =>
        rw [unidentified, seen.2 hw, Bool.true_and]
        rcases hquiet with h | h
        · rw [Option.isNone_eq_false_iff.2 h, Bool.or_false]
        · rw [h]
          rfl
      case schedule => rw [fields, left]
      case seqs => rw [fields, left]; exact answer.seqs
      case arb => rw [fields, left]; exact answer.arb
      case grid => rw [fields]; exact grid
      case maps => rw [fields, left]; exact answer.maps
      case cfg => rw [fields]; exact cfg
      case mgmt => rw [fields, left]; exact answer.mgmt
      case counters => rw [fields, left]; exact answer.counters
  case missing =>
    refine ⟨fun hf => ?_, fun hf => ?_, fun w l th grp dest hf => ?_⟩
    · exact command_refused (own := ownRejectSlab 0) hm hf rfl
    · exact command_refused (own := ownRemoveSlab 0) hm hf rfl
    · exact command_refused (own := ownAcceptSlab 0 w l th grp dest) hm hf rfl
  case unknown =>
    refine ⟨fun hf => ?_, fun hf => ?_, fun w l th grp dest hf => ?_⟩
    · exact command_refused (own := ownRejectSlab tag) hm hf (forTag_unknown ht hn)
    · exact command_refused (own := ownRemoveSlab tag) hm hf (forTag_unknown ht hn)
    · exact command_refused (own := ownAcceptSlab tag w l th grp dest) hm hf (forTag_unknown ht hn)
  case busy =>
    refine ⟨fun hf => ?_, fun hf => ?_, fun w l th grp dest hf => ?_⟩
    · exact command_refused (own := ownRejectSlab tag) hm hf (forFreeRecord_busy ht hr hp)
    · exact command_refused (own := ownRemoveSlab tag) hm hf (forFreeRecord_busy ht hr hp)
    · exact command_refused hm hf (acceptSlab_busy ht hr hp)
  case fields =>
    intro ranges
    have own := acceptSlab_found (w := w) (l := l) (th := th) (grp := grp) (dest := dest) ht hr hp
    have judged : acceptRangesOk (figureRead w) (figureRead l) (figureRead th) (byteRead grp) = true ↔ ranges :=
      acceptRangesOk_iff ..
    refine ⟨fun hn hf => ?_, fun raw hy hraw hdest hf => ?_, fun hy hnone hdest hf => ?_⟩
    · rw [if_neg (judged.not.2 hn)] at own
      exact command_refused hm hf own
    · have bad : ¬ goodWhereGiven (codeRead dest) = true := by
        rw [goodWhereGiven_codeRead]
        exact fun all => hraw (all raw hdest)
      rw [if_pos (judged.2 hy), if_neg bad] at own
      exact command_refused hm hf own
    · have good : goodWhereGiven (codeRead dest) = true := by
        rw [goodWhereGiven_codeRead]
        rintro raw rfl
        simpa using hdest
      rw [if_pos (judged.2 hy), if_pos good, if_pos ⟨hnone, hdest⟩] at own
      exact command_refused hm hf own

end Sys2Proof.Machine
end

section
/-! Settles O41: ENTER_SLAB (R84, R88, R105, R118 to R120). -/

namespace Sys2Proof.Machine

/-! ### The record of a deposit (R88, R118 to R120) -/

section
variable {id : Identity} {w th mass : Int} {g : TableGeometry} {s : State}

theorem depositRecord_linksOnly {t : State} (h : LinksOnly s t) :
    t.depositRecord id w th mass = s.depositRecord id w th mass := by
  rw [h]
  unfold State.depositRecord newRecord
  rw [State.freshTag_links]
  rfl

theorem figureInRange_of_range {lo hi x : Int} (h1 : lo ≤ x) (h2 : x ≤ hi) : figureInRange lo hi x = some x :=
  if_pos (Bool.and_eq_true_iff.2 ⟨decide_eq_true h1, decide_eq_true h2⟩)

/-- R88: the mass 0 stands for an absent one. -/
theorem figureInRange_mass {x : Int} (h1 : 0 ≤ x) (h2 : x ≤ 200000) :
    figureInRange 1 200000 x = if x = 0 then none else some x := by
  split
  · next h =>
    rw [h]
    rfl
  · exact figureInRange_of_range (by omega) h2

/-- R88: what a match leaves of the record of a deposit. -/
theorem depositRecord_kept (hg : s.cfg.tableGeometry = some g) : (s.depositRecord id w th mass).tag = s.freshTag
    ∧ (s.depositRecord id w th mass).id = id ∧ (s.depositRecord id w th mass).anchor + s.travel = g.xG
    ∧ (s.depositRecord id w th mass).measured = none
    ∧ (s.depositRecord id w th mass).width = figureInRange 800 2800 w
    ∧ (s.depositRecord id w th mass).thickness = figureInRange 100 500 th
    ∧ (s.depositRecord id w th mass).mass = figureInRange 1 200000 mass
    ∧ (s.depositRecord id w th mass).seenMS = false ∧ (s.depositRecord id w th mass).seenD1 = false
    ∧ (s.depositRecord id w th mass).seenD2 = false ∧ (s.depositRecord id w th mass).substituted = false
    ∧ (s.depositRecord id w th mass).state ≠ .reject := by
  have anchor : (newRecord s s.freshTag id w th mass).anchor + s.travel = g.xG := by
    unfold newRecord
    rw [hg]
    exact Int.sub_add_cancel ..
  have matched (k : Furnace) (n : Nat) : matchState s k n ≠ .reject := by
    unfold matchState
    split
    · exact SlabState.noConfusion
    · split <;> exact SlabState.noConfusion
  unfold State.depositRecord matchRecord
  split
  · exact ⟨rfl, rfl, anchor, rfl, rfl, rfl, rfl, rfl, rfl, rfl, rfl, SlabState.noConfusion⟩
  · exact ⟨rfl, rfl, anchor, rfl, rfl, rfl, rfl, rfl, rfl, rfl, rfl, matched _ _⟩

/-- R118: an identity that no PLANNED entry has. -/
theorem plannedEntry_none (h : ∀ e ∈ s.schedule, e.id = id → e.state ≠ .planned) : plannedEntry id s.schedule = none := by
  refine List.find?_eq_none.2 fun e he => ?_
  unfold ScheduleEntry.planned
  simpa using h e he

theorem matchRecord_none {r : TableRecord} (h : plannedEntry r.id s.schedule = none) : matchRecord s r =
    { r with link := none, nominals := none, group := none, dest := none, state := .held .unscheduled } := by
  unfold matchRecord
  rw [h]

theorem matchRecord_some {r : TableRecord} {e : ScheduleEntry} (h : plannedEntry r.id s.schedule = some e) :
    matchRecord s r =
      { r with
        link := some e.seq, nominals := some ⟨e.width, e.length, e.thickness⟩, group := some e.group
        dest := some (resolveDest s e.dest), state := matchState s (resolveDest s e.dest) e.seq } := by
  unfold matchRecord
  rw [h]

theorem depositRecord_unscheduled (h : plannedEntry id s.schedule = none) :
    let r := s.depositRecord id w th mass
    r.link = none ∧ r.dest = none ∧ r.state = .held .unscheduled ∧ matchSchedule r s.schedule = s.schedule := by
  intro r
  have same : r.id = id := State.depositRecord_id ..
  have unmatched := matchRecord_none (s := s) (r := newRecord s s.freshTag id w th mass) h
  refine ⟨?_, ?_, ?_, ?_⟩
  · exact congrArg TableRecord.link unmatched
  · exact congrArg TableRecord.dest unmatched
  · exact congrArg TableRecord.state unmatched
  · unfold matchSchedule
    rw [same, h]

/-- R119, R120: the destination and the state that a match gives. -/
theorem matchedTo_of_match {e : ScheduleEntry} {r : TableRecord} (hd : r.dest = some (resolveDest s e.dest))
    (hs : r.state = matchState s (resolveDest s e.dest) e.seq) : MatchedTo s e r := by
  refine ⟨_, hd, fun k he => by rw [he]; rfl, fun he => ?_, ?_⟩
  · rw [he, resolveDest]
    cases h1 : s.armed .f1 <;> cases h2 : s.armed .f2 <;>
      simp_all [State.armed, State.seq, PerFurnace.get]
  · rw [hs, matchState]
    cases h : s.armed (resolveDest s e.dest) with
    | false => rw [if_pos (by decide), if_pos ((armed_false ..).1 h)]
    | true => rw [if_neg (by decide), if_neg ((armed_true ..).1 h)]; rfl

theorem depositRecord_matched {e : ScheduleEntry} (h : plannedEntry id s.schedule = some e) :
    let r := s.depositRecord id w th mass
    r.link = some e.seq ∧ r.group = some e.group ∧ r.nominals = some ⟨e.width, e.length, e.thickness⟩ ∧ MatchedTo s e r
      ∧ matchSchedule r s.schedule =
        s.schedule.map fun x => if x.seq = e.seq then { x with state := .deposited r.tag } else x := by
  intro r
  have same : r.id = id := State.depositRecord_id ..
  have matched := matchRecord_some (s := s) (r := newRecord s s.freshTag id w th mass) h
  refine ⟨congrArg TableRecord.link matched, congrArg TableRecord.group matched, congrArg TableRecord.nominals matched,
    matchedTo_of_match (congrArg TableRecord.dest matched) (congrArg TableRecord.state matched), ?_⟩
  unfold matchSchedule
  rw [same, h]
  rfl

/-! ### A record created (R87, R88, R120) -/

/-- R88, R120: the state in which a created record has raised its event, before the presence flag is evaluated. -/
def recordCreated (r : TableRecord) (s : State) : State :=
  let told := raise (creationEvent r s.travel) s
  { s with
    links := told.links
    ret := told.ret
    tracker := { s.tracker with table := s.tracker.table ++ [r], nextTag := nextTagAfter r.tag }
    schedule := matchSchedule r s.schedule }

/-- R120: the event of a created record that is READY or held. -/
theorem creationEvent_eq {r : TableRecord} {travel x : Int} (hs : r.state ≠ .reject) (hx : r.anchor + travel = x) :
    creationEvent r travel = match r.state with
      | .held cause => .slabHeld r.tag r.id (some cause) none x
      | _ => .slabReady r.tag r.id r.dest := by
  unfold creationEvent TableRecord.head
  rw [hx]
  cases h : r.state with
  | ready => rfl
  | held c => rfl
  | reject => exact absurd h hs

theorem createRecord_fields (id : Identity) (w th mass : Int) (s : State) : ∃ d, createRecord id w th mass s =
    { evalPresence (recordCreated (s.depositRecord id w th mass) s) with due := d } := by
  have marked (b : Bool) (t : State) : ∃ d, markReady b (markList t) = { t with due := d } := by
    unfold markReady
    split <;> exact ⟨_, rfl⟩
  have lines : SameLines s (s.withRecord (s.depositRecord id w th mass)) := ⟨rfl, rfl, rfl⟩
  have raised := raise_alike lines (creationEvent (s.depositRecord id w th mass) s.travel)
  obtain ⟨d, hd⟩ := marked (s.depositRecord id w th mass).ready
    (evalPresence (recordCreated (s.depositRecord id w th mass) s))
  refine ⟨d, Eq.trans ?_ hd⟩
  rw [createRecord_eq]
  exact congrArg (fun t => markReady _ (markList (evalPresence t))) raised

/-- R87: where the new record lies on the grid zone, the presence is identified. -/
theorem evalPresence_onZone {r : TableRecord} (hg : s.cfg.tableGeometry = some g) (hr : r ∈ s.tracker.table)
    (h1 : r.tail s.travel ≤ g.xGE) (h2 : g.xGS ≤ r.anchor + s.travel) :
    evalPresence s = { s with tracker := { s.tracker with unidentified := false } } := by
  have zone : s.zoneTaken = true := by
    unfold State.zoneTaken
    rw [hg]
    exact List.any_eq_true.2 ⟨r, hr, Bool.and_eq_true_iff.2 ⟨decide_eq_true h1, decide_eq_true h2⟩⟩
  exact if_pos (by rw [zone, Bool.or_true])

/-- R82: an assumed length that is not negative puts the tail behind the head. -/
theorem tail_le_head {r : TableRecord} {travel : Int} (h : 0 ≤ r.assumed) : r.tail travel ≤ r.anchor + travel :=
  Int.sub_le_self _ h

end

/-! ### The checks (R105) -/

section
variable {id : Identity} {w th mass : Int} {g : TableGeometry} {s : State}

theorem enterRangesOk_iff : enterRangesOk w th mass = true ↔
    800 ≤ w ∧ w ≤ 2800 ∧ 100 ≤ th ∧ th ≤ 500 ∧ 0 ≤ mass ∧ mass ≤ 200000 := by
  simp only [enterRangesOk, inRange, Bool.and_eq_true, decide_eq_true_eq]
  tauto

theorem tailsClear_iff (hg : s.cfg.tableGeometry = some g) :
    s.tailsClear = true ↔ ∀ r ∈ s.tracker.table, g.xGE < r.tail s.travel := by
  unfold State.tailsClear
  rw [hg]
  simp

theorem enterBusy_iff (hg : s.cfg.tableGeometry = some g) : enterBusy s = true ↔ s.sensors.gp.taken = false
    ∨ s.grid.grant.isSome = true ∨ 8 ≤ s.tracker.table.length ∨ ∃ r ∈ s.tracker.table, r.tail s.travel ≤ g.xGE := by
  have tails : (!s.tailsClear) = true ↔ ∃ r ∈ s.tracker.table, r.tail s.travel ≤ g.xGE := by
    rw [Bool.not_eq_true', ← Bool.not_eq_true, tailsClear_iff hg]
    push Not
    rfl
  unfold enterBusy State.present State.sensor
  rw [Bool.or_eq_true, Bool.or_eq_true, Bool.or_eq_true, tails, decide_eq_true_eq, Bool.not_eq_true', or_assoc, or_assoc]
  rfl

/-- R105: the checks of ENTER_SLAB in their order, where the part is in RUN and configured. -/
theorem ownEnterSlab_checked (hm : s.ret.mode = .run) (hg : s.cfg.tableGeometry = some g) :
    ownEnterSlab id w th mass s =
      if w = absentFigure ∨ th = absentFigure then .error (.illegalValue, .none)
      else if ¬ (800 ≤ w ∧ w ≤ 2800 ∧ 100 ≤ th ∧ th ≤ 500 ∧ 0 ≤ mass ∧ mass ≤ 200000) then .error (.outOfRange, .none)
      else if idCharsOk id = false then .error (.illegalValue, .none)
      else if s.idHeld id = true then .error (.duplicate, .none)
      else if enterBusy s = true then .error (.busy, .none)
      else .ok (.entered (s.depositRecord id w th mass).tag (s.depositRecord id w th mass).state,
        createRecord id w th mass) := by
  have absent : (!(figureGiven w && figureGiven th)) = true ↔ w = absentFigure ∨ th = absentFigure := by
    unfold figureGiven
    rw [Bool.not_eq_true', Bool.and_eq_false_iff]
    simp
  have ranges : (!enterRangesOk w th mass) = true ↔
      ¬ (800 ≤ w ∧ w ≤ 2800 ∧ 100 ≤ th ∧ th ≤ 500 ∧ 0 ≤ mass ∧ mass ≤ 200000) := by
    rw [Bool.not_eq_true', ← Bool.not_eq_true, enterRangesOk_iff]
  unfold ownEnterSlab
  rw [hm, hg]
  simp only [absent, ranges, Bool.not_eq_true']
  rfl

end

/-! ### The fresh tag (R84) -/

theorem tagHeld_iff_account {s : State} {t : Nat} : s.tagHeld t = true ↔ t ∈ s.account (·.tag) (·.tag) := by
  unfold State.tagHeld State.account Sequencer.inflightAny
  cases s.seqs.f1.inflight <;> cases s.seqs.f2.inflight <;> simp [or_assoc, eq_comm (a := t)]

/-- R84: the search passes over the values that are held. -/
theorem freshTagFrom_value {s : State} {value : Nat → Nat} (next : ∀ j, nextTagAfter (value j) = value (j + 1)) {n : Nat}
    (free : s.tagHeld (value n) = false) {j fuel : Nat} (held : ∀ i, j ≤ i → i < n → s.tagHeld (value i) = true) (hj : j ≤ n)
    (hf : n < j + fuel) : freshTagFrom s fuel (value j) = value n := by
  induction fuel generalizing j with
  | zero => omega
  | succ fuel ih =>
    unfold freshTagFrom
    by_cases h : j = n
    · rw [h, if_neg (by rw [free]; exact Bool.false_ne_true)]
    · rw [if_pos (held j le_rfl (by omega)), next]
      exact ih (fun i hi hn => held i (by omega) hn) (by omega) (by omega)

/-- Settles O41: the created record by its match; the refusals by the checks in their order; the fresh tag by the
search from the next-tag value on. -/
theorem enterSlab : Obligations.EnterSlab := by
  refine ⟨fun h id w th mass g s hm hf hmode hg hw1 hw2 ht1 ht2 hm1 hm2 hid hheld hgp hgrant hlen htails => ?entered,
    fun h id w th mass s hm hf => ?refused, fun t => rfl, fun n s hn h1 h2 => ?fresh⟩
  case entered =>
    let r := s.depositRecord id w th mass
    let answered := respond h Kind.command .ok none (.entered r.tag r.state) s
    have answer := respond_linksOnly h Kind.command .ok none (.entered r.tag r.state) s
    have room : ¬ enterBusy s = true := by
      rw [enterBusy_iff hg, hgp, hgrant]
      rintro (h | h | h | ⟨x, hx, hle⟩)
      · exact nomatch h
      · exact nomatch h
      · omega
      · exact absurd (htails x hx) (not_lt.2 hle)
    have given : ¬ (w = absentFigure ∨ th = absentFigure) := by
      unfold absentFigure
      omega
    have own := ownEnterSlab_checked (id := id) (w := w) (th := th) (mass := mass) hmode hg
    rw [if_neg given, if_neg (not_not.2 ⟨hw1, hw2, ht1, ht2, hm1, hm2⟩), if_neg (by rw [hid]; decide),
      if_neg (by rw [hheld]; decide), if_neg room] at own
    have taken : exec (.enterSlab h id w th mass) s = .next (finish (createRecord id w th mass answered)) :=
      command_taken (c := .enterSlab h id w th mass) hm hf own
    obtain ⟨d, created⟩ := createRecord_fields id w th mass answered
    rw [depositRecord_linksOnly answer] at created
    rw [created] at taken
    have travel : answered.travel = s.travel := by unfold State.travel; rw [answer.counters]
    obtain ⟨tag, rid, anchor, measured, width, thickness, rmass, ms, d1, d2, substituted, state⟩ :=
      depositRecord_kept (id := id) (w := w) (th := th) (mass := mass) hg
    let t := recordCreated r answered
    have tracker : t.tracker = { s.tracker with table := s.tracker.table ++ [r], nextTag := nextTagAfter r.tag } := by
      change ({ answered.tracker with table := answered.tracker.table ++ [r], nextTag := _ } : Tracker) = _
      rw [show answered.tracker = s.tracker from answer.tracker]
    have schedule : t.schedule = matchSchedule r s.schedule := congrArg (matchSchedule r) answer.schedule
    have fields := evalPresence_fields t
    dsimp only at fields
    refine ⟨_, r, taken, ?table, tag, ?nextTag, rid, anchor, measured, ?width, ?thickness, ?mass, ms, d1, d2, substituted,
      fun hn => ?unscheduled, fun e he => ?matched, fun hz1 hz2 hassumed => ?told, ?seqs, ?arb, ?grid, ?maps, ?cfg, ?mgmt,
      ?counters⟩
    case table => rw [fields, tracker]
    case nextTag => rw [fields, tracker, show r.tag = s.freshTag from tag]
    case width => rw [width, figureInRange_of_range hw1 hw2]
    case thickness => rw [thickness, figureInRange_of_range ht1 ht2]
    case mass => rw [rmass, figureInRange_mass hm1 hm2]
    case unscheduled =>
      obtain ⟨link, dest, held, unmatched⟩ := depositRecord_unscheduled (w := w) (th := th) (mass := mass) (plannedEntry_none hn)
      refine ⟨link, dest, held, ?_⟩
      rw [fields]
      exact schedule.trans unmatched
    case matched =>
      obtain ⟨link, group, nominals, matched, changed⟩ := depositRecord_matched (w := w) (th := th) (mass := mass)
        (show plannedEntry id s.schedule = some e from he)
      refine ⟨link, group, nominals, matched, ?_⟩
      rw [fields]
      exact schedule.trans changed
    case told =>
      have config : t.cfg = s.cfg := answer.cfg
      have moved : t.travel = s.travel := travel
      have head : r.anchor + s.travel = g.xG := anchor
      have tail := tail_le_head (travel := t.travel) hassumed
      rw [moved, head] at tail
      have zone := evalPresence_onZone (s := t) (r := r) (g := g) (by rw [config]; exact hg)
        (by rw [tracker]; exact List.mem_append_right _ (List.mem_singleton_self r))
        (by rw [moved]; exact tail.trans hz2) (by rw [moved, head]; exact hz1)
      have event := creationEvent_eq state ((congrArg (r.anchor + ·) travel).trans anchor)
      rw [show evalPresence (recordCreated r answered) = _ from zone]
      exact ⟨rfl, congrArg (fun e => (raise e answered).links) event⟩
    case seqs => rw [fields]; exact answer.seqs
    case arb => rw [fields]; exact answer.arb
    case grid => rw [fields]; exact answer.grid
    case maps => rw [fields]; exact answer.maps
    case cfg => rw [fields]; exact answer.cfg
    case mgmt => rw [fields]; exact answer.mgmt
    case counters => rw [fields]; exact answer.counters
  case refused =>
    intro refused ranges
    refine ⟨fun hmode => ?_, fun hmode hg => ?_, fun g hmode hg => ?_⟩
    · exact command_refused hm hf (own := ownEnterSlab id w th mass) (if_pos hmode)
    · have own : ownEnterSlab id w th mass s = .error (.notConfigured, .none) := by
        unfold ownEnterSlab
        rw [if_neg (not_not.2 hmode), hg]
        rfl
      exact command_refused hm hf own
    · have own := ownEnterSlab_checked (id := id) (w := w) (th := th) (mass := mass) hmode hg
      have given (hy : ranges) : ¬ (w = absentFigure ∨ th = absentFigure) := by
        obtain ⟨h1, -, h3, -⟩ := hy
        unfold absentFigure
        omega
      refine ⟨fun habs => ?_, fun hw ht hn => ?_, fun hy hid => ?_, fun hy hid hheld => ?_, fun hy hid hheld hbusy => ?_⟩
      · rw [if_pos habs] at own
        exact command_refused hm hf own
      · rw [if_neg (not_or.2 ⟨hw, ht⟩), if_pos hn] at own
        exact command_refused hm hf own
      · rw [if_neg (given hy), if_neg (not_not.2 hy), if_pos hid] at own
        exact command_refused hm hf own
      · rw [if_neg (given hy), if_neg (not_not.2 hy), if_neg (by rw [hid]; decide), if_pos hheld] at own
        exact command_refused hm hf own
      · rw [if_neg (given hy), if_neg (not_not.2 hy), if_neg (by rw [hid]; decide), if_neg (by rw [hheld]; decide),
          if_pos ((enterBusy_iff hg).2 hbusy)] at own
        exact command_refused hm hf own
  case fresh =>
    intro value held free before
    have next (j : Nat) : nextTagAfter (value j) = value (j + 1) := by
      change (if (s.tracker.nextTag - 1 + j) % 65535 + 1 < 65535 then (s.tracker.nextTag - 1 + j) % 65535 + 1 + 1 else 1)
        = (s.tracker.nextTag - 1 + (j + 1)) % 65535 + 1
      split <;> omega
    have first : value 0 = s.tracker.nextTag := by
      change (s.tracker.nextTag - 1 + 0) % 65535 + 1 = s.tracker.nextTag
      omega
    have found := freshTagFrom_value (s := s) (value := value) next (n := n) (j := 0) (fuel := 65535)
      (Bool.eq_false_iff.2 (mt tagHeld_iff_account.1 free)) (fun i _ hi => tagHeld_iff_account.2 (before i hi))
      (Nat.zero_le n) (by omega)
    rw [first] at found
    exact found

end Sys2Proof.Machine
end

section
/-! Settles O42: an observed REMOVAL_REPORT (R72, R76, R99, R106). -/

namespace Sys2Proof.Machine

/-! ### A removal handed to a sequencer (R72, R76, R99) -/

/-- R72, R76, R99: what a sequencer sends before it is held for a removed slab. -/
def removalSent (k : Furnace) (state : SeqState) (tag : Nat) (m : Motion) (s : State) : State :=
  match state with
  | .positioning => haltFor k m .slabRemoved s
  | .pick => sendField (.charger k) 0 (.chargerStop tag .slabRemoved) s
  | _ => s

/-- R76: CHARGER_HELD for a removed slab. -/
def removalEvent (k : Furnace) (q : Sequencer) (tag : Nat) : Event :=
  .chargerHeld k .slabRemoved q.state (some tag) (q.inflight.map fun _ => .uncertain) none

/-- R76: what the removal of its slab leaves of a sequencer and of the rest. -/
structure RemovalHanded (k : Furnace) (tag : Nat) (s t : State) : Prop where
  seq : t.seqs.get k = (s.seqs.get k).held .slabRemoved
  hold : t.arb.holds.get k = false
  request : (s.seqs.get k).state = .positioning → t.arb.requests.get k = none
  unwanted : (s.seqs.get k).state = .positioning → t.arb.motion = unwantedFor k s.arb.motion
  motion : (s.seqs.get k).state ≠ .positioning → t.arb.motion = s.arb.motion
  links : t.links = (raise (removalEvent k (s.seqs.get k) tag)
    (removalSent k (s.seqs.get k).state tag s.arb.motion s)).links

section
variable {k : Furnace} {tag : Nat} {s : State}

theorem handRemoval_away (h : s.positionedFor k tag = false) : handRemoval k tag s = s :=
  if_neg (Bool.eq_false_iff.1 h)

/-- R61: the cycle and the state of a sequencer that a slab is positioned for. -/
theorem exists_cycle_of_positionedFor (h : s.positionedFor k tag = true) :
    ∃ c, (s.seqs.get k).cycle = some c ∧ c.tag = tag
      ∧ ((s.seqs.get k).state = .positioning ∨ (s.seqs.get k).state = .room ∨ (s.seqs.get k).state = .pick) := by
  cases hc : (s.seqs.get k).cycle with
  | none => exact nomatch (positionedFor_none hc tag).symm.trans h
  | some c =>
    obtain ⟨htag, state⟩ := (positionedFor_of_cycle hc tag).1 h
    exact ⟨c, rfl, htag, state⟩

theorem handRemoval_handed (h : s.positionedFor k tag = true) : RemovalHanded k tag s (handRemoval k tag s) := by
  have taken : handRemoval k tag s = takeRemovedSlab k s := if_pos h
  obtain ⟨c, hc, htag, hs⟩ := exists_cycle_of_positionedFor h
  unfold takeRemovedSlab State.seq at taken
  rw [taken]
  rcases hs with hs | hs | hs
  · have held := enterHeld_abandoning k .slabRemoved .slabRemoved none s
    rw [hs]
    refine ⟨held.seq, held.holds, fun _ => held.request, fun _ => held.motion, fun h => absurd hs h, ?_⟩
    rw [held.links, hc, Option.map_some, htag]
    unfold removalSent removalEvent
    rw [hs]
  · have held := enterHeld_entered k .slabRemoved none s
    rw [hs]
    refine ⟨held.seq, held.holds, fun h => (nomatch hs.symm.trans h), fun h => (nomatch hs.symm.trans h), fun _ => held.motion, ?_⟩
    rw [held.links, hc, Option.map_some, htag]
    unfold removalSent removalEvent
    rw [hs]
  · have held := enterHeld_entered k .slabRemoved none (sendChargerStop k .slabRemoved s)
    have sent := sendField_linksOnly (.charger k) 0 (.chargerStop (s.cycleTag k) .slabRemoved) s
    have seqs : (sendChargerStop k .slabRemoved s).seqs = s.seqs := sent.seqs
    have arb : (sendChargerStop k .slabRemoved s).arb = s.arb := sent.arb
    have cycleTag : s.cycleTag k = tag := by
      unfold State.cycleTag State.cycle State.seq
      rw [hc, ← htag]
      rfl
    rw [hs]
    refine ⟨by rw [held.seq, seqs], held.holds, fun h => (nomatch hs.symm.trans h), fun h => (nomatch hs.symm.trans h),
      fun _ => held.motion.trans (by rw [arb]), ?_⟩
    rw [held.links, seqs, hc, Option.map_some, htag]
    unfold removalSent removalEvent sendChargerStop
    rw [hs, cycleTag]

theorem handRemoval_accounts (k : Furnace) (tag : Nat) (s : State) : KeepsAccounts s (handRemoval k tag s) := by
  unfold handRemoval takeRemovedSlab
  split
  · split
    · exact (enterHeld_abandoning ..).accounts
    · exact (enterHeld_entered ..).accounts
    · exact keepsAccounts_linksOnly (sendField_linksOnly ..) (enterHeld_entered ..).accounts
    · exact KeepsAccounts.refl s
  · exact KeepsAccounts.refl s

theorem handRemoval_otherKept (k : Furnace) (tag : Nat) (s : State) : OtherKept k s (handRemoval k tag s) := by
  unfold handRemoval takeRemovedSlab
  split
  · split
    · obtain ⟨r, held, -⟩ := ((SeqStep.start k s).abandonMove .slabRemoved).enterHeld .slabRemoved none
      exact held.otherKept
    · obtain ⟨r, held, -⟩ := (SeqStep.start k s).enterHeld .slabRemoved none
      exact held.otherKept
    · obtain ⟨r, held, -⟩ := ((SeqStep.start k s).quiet (untouched_send.sendField _ _ _ _).quiet).enterHeld .slabRemoved none
      exact held.otherKept
    · exact ⟨rfl, rfl, rfl⟩
  · exact ⟨rfl, rfl, rfl⟩

/-- What is sent before a removal is held for goes the same way in states with the same queues. -/
theorem removalSent_lines {state : SeqState} {m : Motion} {t : State} (h : SameLines s t) :
    SameLines (removalSent k state tag m s) (removalSent k state tag m t) := by
  have sent (r : Role) (n : Nat) (b : OwnBody) : SameLines (sendField r n b s) (sendField r n b t) := by
    have alike := sendField_alike (r := r) (n := n) (b := b) h.links (by rw [h.cfg])
    rw [alike, sendField_linksOnly r n b s]
    exact ⟨rfl, h.ret, h.cfg⟩
  unfold removalSent
  split
  · unfold haltFor
    split
    · split
      · exact sent ..
      · exact h
    · exact h
  · exact sent ..
  · exact h

end

/-! ### Both sequencers (R76) -/

/-- R76: a removal handed to both sequencers. -/
def handRemovals (tag : Nat) (s : State) : State := handRemoval .f2 tag (handRemoval .f1 tag s)

theorem positionedFor_congr {k : Furnace} {tag : Nat} {s t : State} (h : t.seqs.get k = s.seqs.get k) :
    t.positionedFor k tag = s.positionedFor k tag := by
  unfold State.positionedFor State.cycle State.seq
  rw [h]

section
variable {k : Furnace} {tag : Nat} {s : State}

theorem handRemovals_accounts (tag : Nat) (s : State) : KeepsAccounts s (handRemovals tag s) :=
  (handRemoval_accounts ..).trans (handRemoval_accounts ..)

/-- R76: what becomes of one sequencer is what its own removal makes of it. -/
theorem handRemovals_seq (k : Furnace) (tag : Nat) (s : State) : ∃ t, t.seqs.get k = s.seqs.get k
    ∧ (handRemovals tag s).seqs.get k = (handRemoval k tag t).seqs.get k
    ∧ (handRemovals tag s).arb.holds.get k = (handRemoval k tag t).arb.holds.get k := by
  cases k with
  | f1 =>
    have other := handRemoval_otherKept .f2 tag (handRemoval .f1 tag s)
    exact ⟨s, rfl, other.seq, other.hold⟩
  | f2 => exact ⟨handRemoval .f1 tag s, (handRemoval_otherKept .f1 tag s).seq, rfl, rfl⟩

/-- R76: a removal that one sequencer alone has to do with. -/
theorem handRemovals_single (h : s.positionedFor (otherFurnace k) tag = false) :
    handRemovals tag s = handRemoval k tag s := by
  cases k with
  | f1 =>
    have other : (handRemoval .f1 tag s).positionedFor .f2 tag = s.positionedFor .f2 tag :=
      positionedFor_congr (handRemoval_otherKept .f1 tag s).seq
    exact handRemoval_away (other.trans h)
  | f2 => exact congrArg (handRemoval .f2 tag) (handRemoval_away h)

theorem handRemovals_none (h : s.positioned tag = false) : handRemovals tag s = s := by
  obtain ⟨one, two⟩ := Bool.or_eq_false_iff.1 h
  exact (handRemovals_single (k := .f1) two).trans (handRemoval_away one)

end

/-! ### The statement -/

theorem exec_removalReport {h : Hdr} {n : Nat} {id : Identity} {c : Crane} {s : State}
    (ho : FieldObserved s Kind.removalReport h (.crane c)) : exec (.removalReport h n id) s =
      .next (finish (takeRemoval id (forwardTo (otherPort h.port) (.removalReport h n id) s))) := by
  change execRemovalReport h n id s = _
  unfold execRemovalReport
  rw [powered_on _ _ ho.1.1, field_of_observed ho]
  rfl

/-- R87: with no presence at GP the flag is cleared and nothing is told. -/
theorem evalPresence_absent {s : State} (h : s.sensors.gp.taken = false) :
    evalPresence s = { s with tracker := { s.tracker with unidentified := false } } := by
  have absent : s.present .gp = false := h
  exact if_pos (by rw [absent]; rfl)

/-- Settles O42: the record leaves the list and its entry returns to PLANNED; then each sequencer takes the removal
by its state. -/
theorem removalReport : Obligations.RemovalReport := by
  intro h n id c s ho
  let copy := forwardTo (otherPort h.port) (.removalReport h n id) s
  have report := exec_removalReport (n := n) (id := id) ho
  refine ⟨fun hn => ?unknown, fun r hr => ?known⟩
  case unknown =>
    have none : copy.findId id = Option.none := List.find?_eq_none.2 fun r hr => by simpa using hn r hr
    have idle : takeRemoval id copy = copy := by
      unfold takeRemoval
      rw [none]
    rw [report, idle]
  case known =>
    let left := revertLink r.link (deleteRecord r copy)
    obtain ⟨d, gone⟩ := removeRecord_before r copy
    have gone : left = _ := gone
    have found : copy.findId id = some r := hr
    have taken : takeRemoval id copy = evalPresence (handRemovals r.tag left) := by
      unfold takeRemoval
      rw [found]
      rfl
    rw [taken] at report
    have seqs : left.seqs = s.seqs := by rw [gone]; rfl
    have arb : left.arb = s.arb := by rw [gone]; rfl
    have lines : SameLines copy left := by rw [gone]; exact ⟨rfl, rfl, rfl⟩
    have positioned (k : Furnace) : left.positionedFor k r.tag = s.positionedFor k r.tag :=
      positionedFor_congr (by rw [seqs])
    obtain ⟨cfg, -, schedule, grid, tracker, place, maps, counters, sensors, -, -⟩ := handRemovals_accounts r.tag left
    have fields := evalPresence_fields (handRemovals r.tag left)
    dsimp only at fields
    refine ⟨_, report, ?table, ?schedule, fun k hk => ?held, fun k hk => ?beside, fun k hk hother => ?alone,
      fun hnone hgp => ?none, ?maps, ?cfg, ?grid, ?counters, ?place⟩
    case table => rw [fields, tracker, gone]; rfl
    case schedule => rw [fields, schedule, gone]; rfl
    case held =>
      obtain ⟨t, seq, become, hold⟩ := handRemovals_seq k r.tag left
      have seq : t.seqs.get k = s.seqs.get k := seq.trans (by rw [seqs])
      have handed := handRemoval_handed (s := t) ((positionedFor_congr seq).trans hk)
      rw [fields]
      refine ⟨?_, hold.trans handed.hold⟩
      rw [become, handed.seq, seq]
      exact held_heldFrom ..
    case beside =>
      obtain ⟨t, seq, become, -⟩ := handRemovals_seq k r.tag left
      have seq : t.seqs.get k = s.seqs.get k := seq.trans (by rw [seqs])
      rw [fields]
      rw [become, handRemoval_away ((positionedFor_congr seq).trans hk), seq]
    case alone =>
      intro q copy' sent
      have handed := handRemoval_handed (s := left) ((positioned k).trans hk)
      rw [handRemovals_single ((positioned _).trans hother)] at fields ⊢
      have state : left.seqs.get k = s.seqs.get k := by rw [seqs]
      refine ⟨fun hs => ?_, fun hs => ?_, fun hgp => ?_⟩
      · rw [fields]
        exact ⟨handed.request (by rw [state]; exact hs), by rw [← arb]; exact handed.unwanted (by rw [state]; exact hs)⟩
      · rw [fields]
        exact (handed.motion (by rw [state]; exact hs)).trans (by rw [arb])
      · have dark : (handRemoval k r.tag left).sensors.gp.taken = false := by
          rw [handRemovals_single ((positioned _).trans hother)] at sensors
          rw [sensors, gone]
          exact hgp
        have event := (removalSent_lines (k := k) (tag := r.tag) (state := q.state) (m := s.arb.motion) lines).raise
          (removalEvent k q r.tag)
        have told : removalSent k q.state r.tag s.arb.motion copy = sent := by
          unfold removalSent
          cases hq : q.state <;> simp only [sent, hq] <;> rfl
        rw [evalPresence_absent dark]
        have links := handed.links
        rw [state, arb] at links
        rw [links, ← told]
        exact event.links
    case none =>
      have dark : left.sensors.gp.taken = false := by rw [gone]; exact hgp
      have away : left.positioned r.tag = false := by
        unfold State.positioned at hnone ⊢
        rw [positioned, positioned]
        exact hnone
      rw [handRemovals_none away, evalPresence_absent dark]
      exact lines.links
    case maps => rw [fields, maps, gone]; rfl
    case cfg => rw [fields, cfg, gone]; rfl
    case grid => rw [fields, grid, gone]; rfl
    case counters => rw [fields, counters, gone]; rfl
    case place => rw [fields, place, gone]; rfl

end Sys2Proof.Machine
end

section
/-! Settles O44: GRID_REQUEST and the grant evaluation (R82, R87, R101, R122, R123, R125, R126). -/

namespace Sys2Proof.Machine

/-! ### The grid clear and the arbiter's permission (R87, R101) -/

theorem gridClear_iff (s : State) : s.gridClear = true ↔ s.sensors.gp.taken = false
    ∧ ((s.cfg.tableGeometry = none ∧ s.tracker.table = [])
      ∨ ∃ g, s.cfg.tableGeometry = some g ∧ ∀ r ∈ s.tracker.table, g.xGE < r.tail s.travel) := by
  unfold State.gridClear
  rw [Bool.and_eq_true, Bool.not_eq_true']
  refine and_congr Iff.rfl ?_
  cases hg : s.cfg.tableGeometry with
  | none => simp [State.tailsClear, hg]
  | some g => simp [tailsClear_iff hg]

theorem requestStands_iff (s : State) (k : Furnace) :
    s.requestStands k = true ↔ ∃ q, s.arb.requests.get k = some q ∧ q.status = .waiting := by
  unfold State.requestStands
  cases s.arb.requests.get k <;> simp

theorem moving_eq_false_iff (m : Motion) : m.moving = false ↔ m = .still := by
  cases m <;> simp [Motion.moving]

theorem permitsGrid_iff (s : State) : s.permitsGrid = true ↔ s.arb.motion = .still
    ∧ (s.arb.holds.f1 = true ∨ s.arb.holds.f2 = true
      ∨ ∀ k q, s.arb.requests.get k = some q → q.status ≠ .waiting) := by
  have nobody : (s.requestStands .f1 || s.requestStands .f2) = false
      ↔ ∀ k q, s.arb.requests.get k = some q → q.status ≠ .waiting := by
    rw [Bool.or_eq_false_iff, ← Bool.not_eq_true, ← Bool.not_eq_true, requestStands_iff, requestStands_iff]
    refine ⟨fun ⟨h1, h2⟩ k q hq hw => ?_, fun h => ⟨fun ⟨q, hq, hw⟩ => h _ _ hq hw, fun ⟨q, hq, hw⟩ => h _ _ hq hw⟩⟩
    cases k
    · exact h1 ⟨q, hq, hw⟩
    · exact h2 ⟨q, hq, hw⟩
  unfold State.permitsGrid State.chargerHold
  rw [Bool.and_eq_true, Bool.not_eq_true', moving_eq_false_iff, Bool.or_eq_true, Bool.not_eq_true', nobody,
    Bool.or_eq_true, or_assoc]

/-! ### The grant evaluation (R125, R126) -/

/-- R125: the requests whose identity has not become held. -/
def keptRequests (s : State) : List GridRequest := s.grid.queue.filter fun q => !s.idHeld q.id

theorem foldl_linksOnly {α : Type} {f : State → α → State} (hf : ∀ s x, LinksOnly s (f s x)) (l : List α) (s : State) :
    LinksOnly s (l.foldl f s) := by
  induction l generalizing s with
  | nil => exact .refl s
  | cons x l ih => exact (hf s x).trans (ih _)

theorem dropHeld_linksOnly (s : State) :
    LinksOnly { s with grid := { s.grid with queue := keptRequests s } } (dropHeld s) :=
  foldl_linksOnly (fun _ _ => sendField_linksOnly ..) ..

/-- R125: where no identity has become held nothing is dropped. -/
theorem dropHeld_of_clear {s : State} (h : ∀ q ∈ s.grid.queue, s.idHeld q.id = false) : dropHeld s = s := by
  have all : (s.grid.queue.filter fun q => !s.idHeld q.id) = s.grid.queue :=
    List.filter_eq_self.2 fun q hq => by rw [h q hq]; rfl
  have none : (s.grid.queue.filter fun q => s.idHeld q.id) = [] :=
    List.filter_eq_nil_iff.2 fun q hq => by rw [h q hq]; exact Bool.false_ne_true
  unfold dropHeld
  rw [all, none]
  rfl

/-- R125: what a grant waits for. -/
def GrantFree (s : State) : Prop :=
  s.grid.grant = none ∧ s.mgmt.supervision ≠ .lost ∧ s.ret.mode = .run
    ∧ s.gridClear = true ∧ s.tracker.table.length < 8 ∧ s.permitsGrid = true

theorem supervision_isOk_iff (x : Supervision) : x.isOk = true ↔ x ≠ .lost := by
  cases x <;> simp [Supervision.isOk]

theorem grantConditions_all_iff (s : State) : s.grantConditions.all = true ↔ s.mgmt.supervision ≠ .lost
    ∧ s.ret.mode = .run ∧ s.gridClear = true ∧ s.tracker.table.length < 8 ∧ s.permitsGrid = true := by
  simp only [GrantConditions.all, State.grantConditions, Bool.and_eq_true, supervision_isOk_iff, beq_iff_eq,
    decide_eq_true_eq, and_assoc]

theorem grantFree_iff (s : State) : GrantFree s ↔ (s.grid.grant.isNone && s.grantConditions.all) = true := by
  unfold GrantFree
  rw [Bool.and_eq_true, grantConditions_all_iff, Option.isNone_iff_eq_none]

theorem grantFree_dropHeld (s : State) : GrantFree (dropHeld s) ↔ GrantFree s := by
  unfold GrantFree
  rw [dropHeld_linksOnly s]
  exact Iff.rfl

theorem gridOrder_dropHeld (s : State) : (dropHeld s).gridOrder = grantOrder s.schedule (keptRequests s) := by
  rw [dropHeld_linksOnly s]
  rfl

theorem gridEval_barred {s : State} (h : ¬ GrantFree s) : gridEval s = dropHeld s :=
  if_neg fun free => h ((grantFree_dropHeld s).1 ((grantFree_iff _).2 free))

theorem gridEval_free {s : State} (h : GrantFree s) : gridEval s =
    match grantOrder s.schedule (keptRequests s) with
    | [] => dropHeld s
    | q :: _ => makeGrant q (dropHeld s) := by
  rw [← gridOrder_dropHeld]
  exact if_pos ((grantFree_iff _).1 ((grantFree_dropHeld s).2 h))

/-- R125: a request that comes before every other stands first in the grant order. -/
theorem grantOrder_first {l : List ScheduleEntry} {qs : List GridRequest} {q : GridRequest} (hq : q ∈ qs)
    (h : ∀ x ∈ qs, x ≠ q → keyBefore (grantKey l q) (grantKey l x) = true) : ∃ rest, grantOrder l qs = q :: rest := by
  have perm := grantOrder_perm l qs
  have sorted := grantOrder_sorted l qs
  cases order : grantOrder l qs with
  | nil =>
    rw [order] at perm
    exact absurd hq (perm.symm.eq_nil ▸ List.not_mem_nil)
  | cons y rest =>
    rw [order] at perm sorted
    obtain ⟨least, -⟩ := List.pairwise_cons.1 sorted
    refine ⟨rest, congrArg (· :: rest) (by_contra fun hy => ?_)⟩
    have before := h y (perm.mem_iff.1 List.mem_cons_self) hy
    rcases List.mem_cons.1 (perm.mem_iff.2 hq) with rfl | hrest
    · exact hy rfl
    · exact Bool.false_ne_true ((least q hrest).symm.trans before)

/-- R125: a PLANNED identity's sequence number comes before every arrival rank. -/
theorem keyBefore_grantKey {l : List ScheduleEntry} {x y : GridRequest}
    (h : match (plannedEntry x.id l).map (·.seq), (plannedEntry y.id l).map (·.seq) with
      | some a, some b => a < b
      | some _, none => True
      | none, some _ => False
      | none, none => x.rank < y.rank) : keyBefore (grantKey l x) (grantKey l y) = true := by
  rw [keyBefore_iff]
  unfold grantKey
  cases hx : plannedEntry x.id l <;> cases hy : plannedEntry y.id l <;> rw [hx, hy] at h <;> dsimp only
  · exact .inr ⟨rfl, h⟩
  · exact h.elim
  · exact .inl Nat.zero_lt_one
  · exact .inr ⟨rfl, h⟩

/-! ### The checks of a request (R123) -/

section
variable {h : Hdr} {crane : Nat} {id : Identity} {c : Crane} {s : State}

/-- R123: the identity is held, or claimed by another crane. -/
def GridClaimed (c : Crane) (id : Identity) (s : State) : Prop :=
  s.idHeld id = true ∨ (∃ q ∈ s.grid.queue, q.crane ≠ c ∧ q.id = id)
    ∨ (∃ g, s.grid.grant = some g ∧ g.crane ≠ c ∧ g.id = id)

theorem gridClaimed_iff : GridClaimed c id s ↔ (s.idHeld id || s.claimedByOther c id) = true := by
  unfold GridClaimed State.claimedByOther
  cases s.grid.grant <;> simp

theorem gridRequestCheck_unformed (hf : ¬ (crane = Crane.number c ∧ idRulesOk id = true)) :
    gridRequestCheck c crane id s = some .illegalValue := by
  refine if_pos ?_
  rwa [not_and_or, Bool.not_eq_true] at hf

variable (hf : crane = Crane.number c ∧ idRulesOk id = true)
include hf

theorem gridRequestCheck_formed : gridRequestCheck c crane id s =
    if s.ret.mode ≠ .run then some .wrongMode
    else if s.cfg.tableGeometry.isNone then some .notConfigured
    else if s.idHeld id || s.claimedByOther c id then some .duplicate
    else none := by
  refine if_neg ?_
  rw [not_or, not_not, Bool.not_eq_false]
  exact hf

theorem gridRequestCheck_claimed (hm : s.ret.mode = .run) (hg : s.cfg.tableGeometry.isSome = true) (hc : GridClaimed c id s) :
    gridRequestCheck c crane id s = some .duplicate := by
  rw [gridRequestCheck_formed hf, if_neg (not_not.2 hm), if_neg (by rw [← Option.not_isSome, hg]; exact Bool.false_ne_true),
    if_pos (gridClaimed_iff.1 hc)]

theorem gridRequestCheck_passed (hm : s.ret.mode = .run) (hg : s.cfg.tableGeometry.isSome = true) (hc : ¬ GridClaimed c id s) :
    gridRequestCheck c crane id s = none := by
  rw [gridRequestCheck_formed hf, if_neg (not_not.2 hm), if_neg (by rw [← Option.not_isSome, hg]; exact Bool.false_ne_true),
    if_neg fun h => hc (gridClaimed_iff.2 h)]

end

/-! ### GRID_REQUEST (R122, R123) -/

section
variable {h : Hdr} {crane : Nat} {id : Identity} {c : Crane} {s : State}

theorem gridRequest_taken (ht : FieldTaken s Kind.gridRequest h (.crane c)) :
    exec (.gridRequest h crane id) s = .next (finish (takeGridRequest h crane id c s)) := by
  change powered (field (.gridRequest h crane id) Kind.gridRequest h true (fromCrane (takeGridRequest h crane id))) s = _
  rw [powered_on _ _ ht.1.1, field_of_taken (by decide) (by decide) ht]
  rfl

theorem gridRequest_refused (ht : FieldTaken s Kind.gridRequest h (.crane c)) {reason : RespCode}
    (hc : gridRequestCheck c crane id s = some reason) : exec (.gridRequest h crane id) s =
      .next (finish (answerCrane c (some id) h.reference (.refused reason) s)) := by
  rw [gridRequest_taken ht, takeGridRequest, hc]

theorem holds_iff : s.holds c = true ↔ ∃ g, s.grid.grant = some g ∧ g.crane = c := by
  unfold State.holds
  cases s.grid.grant <;> simp

variable (ht : FieldTaken s Kind.gridRequest h (.crane c)) (hc : gridRequestCheck c crane id s = none)
include ht hc

theorem gridRequest_again (hg : s.holds c = true) : exec (.gridRequest h crane id) s =
    .next (finish (answerCrane c (some id) h.reference .granted s)) := by
  rw [gridRequest_taken ht, takeGridRequest, hc]
  exact congrArg (fun t => Host.Outcome.next (finish t)) (if_pos hg)

theorem gridRequest_queued (hg : s.holds c = false) : exec (.gridRequest h crane id) s =
    .next (finish (answerQueued c id h.reference (gridEval (queueRequest c id h.reference s)))) := by
  rw [gridRequest_taken ht, takeGridRequest, hc]
  exact congrArg (fun t => Host.Outcome.next (finish t)) (if_neg (Bool.eq_false_iff.1 hg))

end

/-- R126: the state that a grant leaves is answered GRANTED. -/
theorem makeGrant_eq (q : GridRequest) (s : State) : makeGrant q s =
    answerCrane q.crane (some q.id) q.reference .granted { s with
      grid := { s.grid with
        queue := s.grid.queue.filter fun x => x.crane != q.crane
        grant := some { crane := q.crane, id := q.id, reference := q.reference,
                        phase := .active (1000 * s.cfg.settings.grantTimeout) } }
      arb := { s.arb with gridHold := some q.crane } } := rfl

theorem holds_answerCrane (d : Crane) (id : Option Identity) (n : Nat) (a : GridAnswer) (c : Crane) (s : State) :
    (answerCrane d id n a s).holds c = s.holds c := by
  have only : LinksOnly s (answerCrane d id n a s) := sendField_linksOnly ..
  unfold State.holds
  rw [only.grid]

theorem holds_makeGrant (q : GridRequest) (s : State) : (makeGrant q s).holds q.crane = true := by
  rw [makeGrant_eq, holds_answerCrane, holds_iff]
  exact ⟨_, rfl, rfl⟩

theorem dropHeld_queueRequest {c : Crane} {id : Identity} {n : Nat} {s : State} (hid : s.idHeld id = false)
    (h : ∀ q ∈ s.grid.queue, q.crane ≠ c → s.idHeld q.id = false) :
    dropHeld (queueRequest c id n s) = queueRequest c id n s := by
  refine dropHeld_of_clear fun q hq => ?_
  rcases List.mem_append.1 hq with hq | hq
  · obtain ⟨mem, other⟩ := List.mem_filter.1 hq
    exact h q mem (bne_iff_ne.1 other)
  · rw [List.mem_singleton.1 hq]
    exact hid

/-- Settles O44: through the checks of a request and the grant evaluation over the kept queue. -/
theorem gridRequest : Obligations.GridRequest := by
  unfold Obligations.GridRequest
  refine ⟨fun h crane id c s ht => ?request, fun s => ?eval, fun s => ⟨gridClear_iff s, permitsGrid_iff s⟩,
    fun r travel => ⟨rfl, fun l hl => ?_, fun n hl hn => ?_, fun hl hn => ?_⟩⟩
  case request =>
    intro done answer formed claimed passes
    have passed (hp : passes) : gridRequestCheck c crane id s = none := by
      obtain ⟨hf, hm, hg, hc⟩ := hp
      exact gridRequestCheck_passed hf hm hg hc
    refine ⟨fun hf => gridRequest_refused ht (gridRequestCheck_unformed hf), fun hf hm => ?_, fun hf hm hg => ?_,
      fun hf hm hg hc => gridRequest_refused ht (gridRequestCheck_claimed hf hm hg hc),
      fun hp hg => gridRequest_again ht (passed hp) (holds_iff.2 hg), fun hp hn hq hsup hclear hroom hperm => ?_,
      fun hp hn hb hk => ?_⟩
    · refine gridRequest_refused ht ?_
      rw [gridRequestCheck_formed hf, if_pos hm]
    · refine gridRequest_refused ht ?_
      rw [gridRequestCheck_formed hf, if_neg (not_not.2 hm), hg]
      rfl
    · have free : s.holds c = false := by unfold State.holds; rw [hn]
      have hm : s.ret.mode = .run := hp.2.1
      have hc : ¬ claimed := hp.2.2.2
      have hid : s.idHeld id = false := Bool.eq_false_iff.2 fun h => hc (.inl h)
      have dropped : dropHeld (queueRequest c id h.reference s) = queueRequest c id h.reference s :=
        dropHeld_queueRequest hid fun q hmem => absurd (hq ▸ hmem) List.not_mem_nil
      have single : (queueRequest c id h.reference s).grid.queue = [⟨c, id, h.reference, s.grid.nextRank⟩] := by
        change s.grid.queue.filter _ ++ _ = _
        rw [hq]
        rfl
      have emptied : ((queueRequest c id h.reference s).grid.queue.filter fun x => x.crane != c) = [] := by
        rw [single]
        cases c <;> rfl
      have kept : keptRequests (queueRequest c id h.reference s) = [⟨c, id, h.reference, s.grid.nextRank⟩] := by
        have unheld : (queueRequest c id h.reference s).idHeld id = false := hid
        rw [keptRequests, single, List.filter_cons_of_pos (by rw [unheld]; rfl)]
        rfl
      have granted := gridEval_free (s := queueRequest c id h.reference s)
        ⟨hn, (supervision_isOk_iff _).1 hsup, hm, hclear, hroom, hperm⟩
      rw [kept, dropped] at granted
      refine (gridRequest_queued ht (passed hp) free).trans (congrArg (fun t => Host.Outcome.next (finish t)) ?_)
      rw [granted]
      dsimp only [grantOrder, insertRequest]
      refine (if_pos (holds_makeGrant ..)).trans ?_
      rw [makeGrant_eq, emptied]
      rfl
    · intro queue
      have free : s.holds c = false := by
        rw [← Bool.not_eq_true, holds_iff]
        exact fun ⟨g, hg, hcrane⟩ => hn g hg hcrane
      have hid : s.idHeld id = false := Bool.eq_false_iff.2 fun h => hp.2.2.2 (.inl h)
      have dropped := dropHeld_queueRequest (n := h.reference) hid hk
      have barred : ¬ GrantFree (queueRequest c id h.reference s) := by
        rw [grantFree_iff]
        change ¬ (s.grid.grant.isNone && s.grantConditions.all) = true
        rcases hb with hb | hb
        · rw [← Option.not_isSome, hb]
          exact Bool.false_ne_true
        · rw [hb, Bool.and_false]
          exact Bool.false_ne_true
      have unheld : (queueRequest c id h.reference s).holds c = false := free
      refine (gridRequest_queued ht (passed hp) free).trans (congrArg (fun t => Host.Outcome.next (finish t)) ?_)
      rw [gridEval_barred barred, dropped, answerQueued, unheld]
      rfl
  case eval =>
    intro kept left told free seqOf before
    refine ⟨fun h => ?_, fun q hq hf hfirst => ?_⟩
    · by_cases hf : GrantFree s
      · have nil : keptRequests s = [] := h.resolve_right (not_not.2 hf)
        rw [gridEval_free hf, nil]
        rfl
      · exact gridEval_barred hf
    · obtain ⟨rest, first⟩ := grantOrder_first (l := s.schedule) (qs := keptRequests s) hq fun x hx hne =>
        keyBefore_grantKey (hfirst x hx hne)
      have granted : gridEval s = _ := gridEval_free hf
      rw [first] at granted
      refine granted.trans ?_
      have only : LinksOnly { s with grid := { s.grid with queue := kept } } told := dropHeld_linksOnly s
      change makeGrant q told = _
      clear_value told
      rw [makeGrant_eq, only]
  · unfold TableRecord.assumed
    rw [hl]
  · unfold TableRecord.assumed
    rw [hl, hn]
  · unfold TableRecord.assumed
    rw [hl, hn]

end Sys2Proof.Machine
end

section
/-! Settles O45: GRID_RELEASE, the expiry of the grant timer and the edges at GP (R87, R121, R124, R129, R130). -/

namespace Sys2Proof.Machine

/-! ### The end of a grant (R129) -/

/-- R129: a state whose grant and grid hold are gone. -/
def ungranted (s : State) : State :=
  { s with grid := { s.grid with grant := none }, arb := { s.arb with gridHold := none } }

theorem endGrant_eq (s : State) : endGrant s = { ungranted s with
    links := (presenceTold (ungranted s)).links
    ret := (presenceTold (ungranted s)).ret
    tracker := { s.tracker with unidentified := s.sensors.gp.taken && !s.zoneTaken }
    due := { s.due with tableRule := true, gridEval := true } } := by
  have flag : (s.sensors.gp.taken && !s.zoneTaken)
      = ((ungranted s).sensors.gp.taken && !(ungranted s).zoneTaken
        && ((ungranted s).tracker.unidentified || (ungranted s).grid.grant.isNone)) := by
    change _ = (s.sensors.gp.taken && !s.zoneTaken && (s.tracker.unidentified || true))
    rw [Bool.or_true, Bool.and_true]
  rw [flag]
  exact congrArg markList (evalPresence_fields (ungranted s))

theorem endGrant_absent {s : State} (h : s.sensors.gp.taken = false) : endGrant s = { ungranted s with
    tracker := { s.tracker with unidentified := false }
    due := { s.due with tableRule := true, gridEval := true } } :=
  congrArg markList (evalPresence_absent (s := ungranted s) h)

/-! ### GRID_RELEASE (R124) -/

section
variable {h : Hdr} {crane : Nat} {c : Crane} {s : State}

theorem gridRelease_taken (ht : FieldTaken s Kind.gridRelease h (.crane c)) :
    exec (.gridRelease h crane) s = .next (finish (takeGridRelease h crane c s)) := by
  change powered (field (.gridRelease h crane) Kind.gridRelease h true (fromCrane (takeGridRelease h crane))) s = _
  rw [powered_on _ _ ht.1.1, field_of_taken (by decide) (by decide) ht]
  rfl

theorem takeGridRelease_otherwise (hc : crane = Crane.number c) (hg : ∀ g, s.grid.grant = some g → g.crane ≠ c) :
    takeGridRelease h crane c s = releaseQueued h c s := by
  unfold takeGridRelease
  rw [if_neg (not_not.2 hc)]
  split
  · rfl
  · rename_i g grant
    exact if_neg (hg g grant)

theorem takeGridRelease_holder (hc : crane = Crane.number c) {g : Grant} (hg : s.grid.grant = some g) (ho : g.crane = c) :
    takeGridRelease h crane c s = endGrant (answerCrane c (some g.id) h.reference .released s) := by
  unfold takeGridRelease
  rw [if_neg (not_not.2 hc), hg]
  exact if_pos ho

end

/-! ### GRANT_TIMEOUT (R130) -/

section
variable {n : Nat} {s : State}

theorem elapse_grid (h : s.ret.mode ≠ .retain) :
    (elapse n s).grid = { s.grid with grant := s.grid.grant.map fun g => { g with phase := g.phase.elapse n } } := by
  unfold elapse
  rw [if_neg h]
  rfl

theorem elapse_gp (n : Nat) (s : State) : (elapse n s).sensors.gp.taken = s.sensors.gp.taken := by
  unfold elapse
  split <;> rfl

theorem grantTimeout_expired (hp : s.power = true) {g : Grant} {left : Nat} (hm : s.ret.mode ≠ .retain)
    (hg : s.grid.grant = some g) (hl : g.phase = .active left) (hn : left ≤ n) :
    exec (.grantTimeout n) s = .next (finish (takeGrantTimeout { g with phase := .active 0 } (elapse n s))) := by
  have grant : (elapse n s).grid.grant = some { g with phase := .active 0 } := by
    rw [elapse_grid hm, hg, Option.map_some, hl, GrantPhase.elapse, Nat.sub_eq_zero_of_le hn]
  have out : (elapse n s).grantRunOut = some { g with phase := .active 0 } := by
    unfold State.grantRunOut
    rw [grant]
    exact if_pos ⟨rfl, by rw [elapse_ret]; exact hm⟩
  change execGrantTimeout n s = _
  unfold execGrantTimeout
  rw [powered_on _ _ hp]
  dsimp only
  rw [out]

theorem grantTimeout_early (hp : s.power = true) (h : (elapse n s).grantRunOut = none) :
    exec (.grantTimeout n) s = .next (elapse n s) := by
  change execGrantTimeout n s = _
  unfold execGrantTimeout
  rw [powered_on _ _ hp]
  dsimp only
  rw [h]

theorem grantRunOut_retain (h : s.ret.mode = .retain) : s.grantRunOut = none := by
  unfold State.grantRunOut
  split
  · rfl
  · split
    · exact if_neg fun out => out.2 h
    · rfl

theorem grantRunOut_none (h : s.grid.grant = none) : s.grantRunOut = none := by
  unfold State.grantRunOut
  rw [h]

theorem grantRunOut_running {g : Grant} (h : s.grid.grant = some g)
    (hr : g.phase = .overdue ∨ ∃ left, g.phase = .active left ∧ 0 < left) : s.grantRunOut = none := by
  unfold State.grantRunOut
  rw [h]
  dsimp only
  rcases hr with hr | ⟨left, hr, hl⟩
  · rw [hr]
  · rw [hr]
    exact if_neg fun out => hl.ne' out.1

end

/-! ### The edges at GP (R87, R130) -/

theorem zoneTaken_iff (s : State) : s.zoneTaken = true ↔ ∃ g, s.cfg.tableGeometry = some g
    ∧ ∃ r ∈ s.tracker.table, r.tail s.travel ≤ g.xGE ∧ g.xGS ≤ r.anchor + s.travel := by
  unfold State.zoneTaken
  cases s.cfg.tableGeometry with
  | none => simp
  | some g =>
    simp only [List.any_eq_true, TableRecord.onZone, Bool.and_eq_true, decide_eq_true_eq, Option.some.injEq, exists_eq_left']
    rfl

/-- R146, R147: with no filter time a transition to the other raw level is taken at once. -/
theorem rawTransition_shown {i : SensorId} {b : Bool} {s : State} (hp : s.power = true)
    (hf : (s.cfg.sensorSetup.get i).filterTime = 0) (ht : (s.sensors.get i).taken = !b)
    (he : (s.sensors.get i).electrical = ((!b) != (s.cfg.sensorSetup.get i).invert)) :
    exec (.rawTransition i (b != (s.cfg.sensorSetup.get i).invert)) s =
      .next (finish (trackEdge i b s.counters.t.acc s.counters.t.lastDir { s with
        sensors := s.sensors.set i
          { electrical := b != (s.cfg.sensorSetup.get i).invert, taken := b, pending := none, latest := s.counters.t.acc
            previous := (s.sensors.get i).latest } })) := by
  have level : ((b != (s.cfg.sensorSetup.get i).invert) != (s.cfg.sensorSetup.get i).invert) = b := by
    generalize (s.cfg.sensorSetup.get i).invert = inv
    cases b <;> cases inv <;> rfl
  refine (rawTransition_taken hp hf ?_ ?_).trans ?_
  · rw [he]
    generalize (s.cfg.sensorSetup.get i).invert = inv
    cases b <;> cases inv <;> decide
  · rw [level, ht]
    cases b <;> decide
  · rw [level]
    cases i <;> rfl

/-- The flag of a presence without a record, as an edge at GP leaves it. -/
def flaggedPresence (v : Bool) (t : State) : State := { t with tracker := { t.tracker with unidentified := v } }

section
variable {t : State} {x : Int}

theorem gpEdge_identified (h : t.zoneTaken = true) : gpEdge true x t = markList (flaggedPresence false t) :=
  congrArg markList (if_pos (by rw [h, Bool.or_true]))

theorem gpEdge_told (hp : t.sensors.gp.taken = true) (hz : t.zoneTaken = false) (hg : t.grid.grant = none)
    (hu : t.tracker.unidentified = false) :
    gpEdge true x t = markList (raise (.unidentifiedOnGrid x) (flaggedPresence true t)) := by
  have present : t.present .gp = true := hp
  exact congrArg markList ((if_neg (by rw [present, hz]; decide)).trans (if_neg (by rw [hg, hu]; decide)))

theorem gpEdge_known (hp : t.sensors.gp.taken = true) (hz : t.zoneTaken = false)
    (h : t.grid.grant.isSome = true ∨ t.tracker.unidentified = true) : gpEdge true x t = markList t := by
  have present : t.present .gp = true := hp
  exact congrArg markList ((if_neg (by rw [present, hz]; decide)).trans (if_pos (Bool.or_eq_true_iff.2 h)))

theorem gpEdge_absent (hp : t.sensors.gp.taken = false) :
    gpEdge false x t = overdueGone x (markList (flaggedPresence false t)) := by
  have absent : t.present .gp = false := hp
  exact congrArg (fun t => overdueGone x (markList t)) (if_pos (by rw [absent]; rfl))

theorem overdueGone_none (h : ∀ g, t.grid.grant = some g → g.phase ≠ .overdue) : overdueGone x t = t := by
  unfold overdueGone
  split
  · rfl
  · rename_i g grant
    exact if_neg (h g grant)

theorem overdueGone_overdue {g : Grant} (h : t.grid.grant = some g) (ho : g.phase = .overdue) :
    overdueGone x t = raise (.unidentifiedAfterGrant g.crane g.id x) (withdrawGrant g t) := by
  unfold overdueGone
  rw [h]
  exact if_pos ho

end

/-- R129: the end of a grant by the part, with no presence at GP. -/
theorem withdrawGrant_absent (g : Grant) {t : State} (hp : t.sensors.gp.taken = false) :
    withdrawGrant g t = { t with
      links := (answerCrane g.crane (some g.id) g.reference .withdrawnTimeout t).links
      grid := { t.grid with grant := none }
      arb := { t.arb with gridHold := none }
      tracker := { t.tracker with unidentified := false }
      due := { t.due with tableRule := true, gridEval := true } } := by
  have only : LinksOnly t (answerCrane g.crane (some g.id) g.reference .withdrawnTimeout t) := sendField_linksOnly ..
  unfold withdrawGrant
  generalize answerCrane g.crane (some g.id) g.reference .withdrawnTimeout t = a at only ⊢
  rw [endGrant_absent (by rw [only.sensors]; exact hp), only]
  rfl

/-- Settles O45: each command through the end of the grant or the edge at GP that it brings. -/
theorem gridReleaseAndTimeout : Obligations.GridReleaseAndTimeout := by
  unfold Obligations.GridReleaseAndTimeout
  refine ⟨⟨fun h crane c s ht => ?release, fun n s hp => ?timeout⟩, fun s => zoneTaken_iff s, ?edges⟩
  case release =>
    refine ⟨fun hc => ?_, fun hc g hg ho => ?_, fun hc hg q hq => ?_, fun hc hg hq => ?_⟩
    · exact (gridRelease_taken ht).trans (congrArg (fun t => Host.Outcome.next (finish t)) (if_pos hc))
    · have done := gridRelease_taken (crane := crane) ht
      rw [takeGridRelease_holder hc hg ho] at done
      have only : LinksOnly s (answerCrane c (some g.id) h.reference .released s) := sendField_linksOnly ..
      generalize answerCrane c (some g.id) h.reference .released s = a at only done ⊢
      have travel : (ungranted a).travel = s.travel := by rw [only]; rfl
      have newly : newlyUnidentified (ungranted a)
          = (s.sensors.gp.taken && !s.zoneTaken && !s.tracker.unidentified) := by
        rw [only]
        exact Bool.and_true _
      have lines := presenceTold_lines (s := a) (t := ungranted a) ⟨rfl, rfl, rfl⟩ travel newly
      rw [endGrant_eq] at done
      refine ⟨_, done, ?_, ?_, ?_, lines.1, ?_, ?_, ?_, ?_, ?_, ?_, ?_⟩
      all_goals
        rw [only]
        rfl
    · have done := gridRelease_taken (crane := crane) ht
      rw [takeGridRelease_otherwise hc hg, releaseQueued, hq] at done
      refine done.trans ?_
      have only : LinksOnly s (answerCrane c (some q.id) h.reference .released s) := sendField_linksOnly ..
      have alike : answerCrane c (some q.id) h.reference .released
          (s.setGrid { s.grid with queue := s.grid.queue.filter fun x => x.crane != c })
          = { s.setGrid { s.grid with queue := s.grid.queue.filter fun x => x.crane != c } with
            links := (answerCrane c (some q.id) h.reference .released s).links } := sendField_alike rfl rfl
      dsimp only
      rw [alike]
      generalize answerCrane c (some q.id) h.reference .released s = a at only ⊢
      rw [only]
      rfl
    · have done := gridRelease_taken (crane := crane) ht
      have unqueued : (s.grid.queue.find? fun q => q.crane == c) = none :=
        List.find?_eq_none.2 fun q hm => by rw [beq_iff_eq]; exact hq q hm
      rw [takeGridRelease_otherwise hc hg, releaseQueued, unqueued] at done
      exact done
  case timeout =>
    intro done t
    refine ⟨fun g left hm hg hl hn hgp => ?_, fun g left hm hg hl hn hgp => ?_, fun h => ?_⟩
    · have present : (elapse n s).present .gp = true := (elapse_gp n s).trans hgp
      refine (grantTimeout_expired hp hm hg hl hn).trans ?_
      rw [takeGrantTimeout, if_pos present]
      change Host.Outcome.next (finish { t with grid := { t.grid with grant := some { g with phase := .overdue } } }) = _
      rw [show t.grid = _ from elapse_grid hm]
    · have absent : (elapse n s).present .gp = false := (elapse_gp n s).trans hgp
      refine ⟨_, grantTimeout_expired hp hm hg hl hn, ?_⟩
      rw [takeGrantTimeout, if_neg (Bool.eq_false_iff.1 absent), withdrawGrant_absent _ absent]
      have told : (answerCrane g.crane (some g.id) g.reference .withdrawnTimeout (elapse n s)).links
          = (answerCrane g.crane (some g.id) g.reference .withdrawnTimeout s).links :=
        sendField_congr (elapse_links n s) (congrArg _ (elapse_cfg n s))
      have elapsed : elapse n s = elapseBackup n (elapseMain n s) := if_neg hm
      refine ⟨?_, ?_, ?_, told, rfl, ?_, ?_, elapse_cfg n s⟩
      all_goals
        rw [elapsed]
        rfl
    · refine grantTimeout_early hp ?_
      by_cases hm : s.ret.mode = .retain
      · exact grantRunOut_retain ((elapse_ret ..).symm ▸ hm)
      · rcases h.resolve_left hm with hg | ⟨g, hg, hr⟩
        · refine grantRunOut_none ?_
          rw [elapse_grid hm, hg]
          rfl
        · have grant : (elapse n s).grid.grant = some { g with phase := g.phase.elapse n } := by
            rw [elapse_grid hm, hg]
            rfl
          refine grantRunOut_running grant ?_
          rcases hr with hr | ⟨left, hr, hl⟩
          · exact .inl (by rw [hr]; rfl)
          · exact .inr ⟨left - n, by rw [hr]; rfl, Nat.sub_pos_of_lt hl⟩
  case edges =>
    intro marked flagged rises falls
    have rising {done : Host.Outcome State Fault Refusal} {t : State} {travel : Int} (hgp : t.sensors.gp.taken = true)
        (h : done = .next (finish (gpEdge true travel t))) : rises done t travel := by
      refine ⟨fun hz => ?_, fun hz hg hu => ?_, fun hz hk => ?_⟩
      · rw [h, gpEdge_identified hz]
        rfl
      · rw [h, gpEdge_told hgp hz hg hu]
        rfl
      · rw [h, gpEdge_known hgp hz hk]
        rfl
    have falling {done : Host.Outcome State Fault Refusal} {t : State} {travel : Int} (hgp : t.sensors.gp.taken = false)
        (h : done = .next (finish (gpEdge false travel t))) : falls done t travel := by
      rw [gpEdge_absent hgp] at h
      refine ⟨fun hg => ?_, fun g hg ho => ?_⟩
      · rw [h, overdueGone_none (t := markList (flaggedPresence false t)) hg]
        rfl
      · rw [h, overdueGone_overdue (t := markList (flaggedPresence false t)) hg ho,
          withdrawGrant_absent g (t := markList (flaggedPresence false t)) hgp]
        have only : LinksOnly (flaggedPresence false t)
          (answerCrane g.crane (some g.id) g.reference .withdrawnTimeout (flaggedPresence false t)) := sendField_linksOnly ..
        have told : (answerCrane g.crane (some g.id) g.reference .withdrawnTimeout (markList (flaggedPresence false t))).links
          = (answerCrane g.crane (some g.id) g.reference .withdrawnTimeout (flaggedPresence false t)).links :=
          sendField_congr rfl rfl
        rw [told]
        change _ = Host.Outcome.next (finish (raise _ (marked { answerCrane g.crane (some g.id) g.reference .withdrawnTimeout
          (flaggedPresence false t) with grid := { t.grid with grant := none }, arb := { t.arb with gridHold := none } })))
        generalize answerCrane g.crane (some g.id) g.reference .withdrawnTimeout (flaggedPresence false t) = a at only ⊢
        rw [only]
        rfl
    refine ⟨fun s hp hf => ?_, fun n p s hp hc hf => ?_⟩
    · intro inv shown
      refine ⟨fun ht he => rising rfl ?_, fun ht he => falling rfl ?_⟩
      · have shows := rawTransition_shown (i := .gp) (b := true) hp hf ht (he.trans (Bool.false_bne inv).symm)
        rw [← Bool.true_bne inv]
        exact shows
      · have shows := rawTransition_shown (i := .gp) (b := false) hp hf ht (he.trans (Bool.true_bne inv).symm)
        rw [← Bool.false_bne inv]
        exact shows
    · intro t shown done
      have taken := filterTimeElapsed_taken hp hc hf
      refine ⟨fun hl => rising hl ?_, fun hl => falling hl ?_⟩
      all_goals
        refine Eq.trans taken ?_
        change Host.Outcome.next (finish (gpEdge p.level (roundMm p.capture) shown)) = _
        rw [hl]

end Sys2Proof.Machine
end

section
/-! Settles O46: an observed DEPOSIT_REPORT (R88, R118 to R120, R127 to R129). -/

namespace Sys2Proof.Machine

section
variable {h : Hdr} {crane : Nat} {id : Identity} {w th mass : Int} {c : Crane} {s : State}

theorem exec_depositReport (ho : FieldObserved s Kind.depositReport h (.crane c)) :
    exec (.depositReport h crane id w th mass) s = .next (finish (takeDeposit h crane id w th mass c
      (forwardTo (otherPort h.port) (.depositReport h crane id w th mass) s))) := by
  change execDepositReport h crane id w th mass s = _
  unfold execDepositReport
  rw [powered_on _ _ ho.1.1, field_of_observed ho]
  rfl

/-- R127: a deposit that a check refuses. -/
theorem takeDeposit_refused {o : DepositOutcome} (hc : depositCheck c id s = some o) :
    takeDeposit h crane id w th mass c s =
      raise (.depositRefused crane id o) (sendField (.crane c) h.reference (.depositAck c id o 0 none none) s) := by
  unfold takeDeposit
  rw [hc]
  rfl

theorem takeDeposit_accepted (hc : depositCheck c id s = none) :
    takeDeposit h crane id w th mass c s = acceptDeposit h id w th mass c s := by
  unfold takeDeposit
  rw [hc]

/-- R127: the checks of a crane that holds the grid. -/
theorem depositCheck_holder (hh : s.holds c = true) : depositCheck c id s =
    if !idRulesOk id then some .illegalId else if s.idHeld id then some .duplicateId else none :=
  if_neg (by rw [hh]; decide)

end

/-- R88: a figure is kept where it lies in its range. -/
theorem figureInRange_eq (lo hi x : Int) : figureInRange lo hi x = if lo ≤ x ∧ x ≤ hi then some x else none := by
  unfold figureInRange inRange
  rw [← Bool.decide_and]
  simp only [decide_eq_true_eq]

theorem forwardTo_linksOnly (p : Port) (i : Instr) (s : State) : LinksOnly s (forwardTo p i s) := rfl

/-- R129: the end of a grant while a record lies on the grid zone. -/
theorem endGrant_onZone {s : State} {g : TableGeometry} {r : TableRecord} (hg : s.cfg.tableGeometry = some g)
    (hr : r ∈ s.tracker.table) (h1 : r.tail s.travel ≤ g.xGE) (h2 : g.xGS ≤ r.anchor + s.travel) :
    endGrant s = { ungranted s with
      tracker := { s.tracker with unidentified := false }
      due := { s.due with tableRule := true, gridEval := true } } :=
  congrArg markList (evalPresence_onZone (s := ungranted s) hg hr h1 h2)

/-- What a deposit leaves beside the list, the schedule, the grid and the queues. -/
theorem endGrant_createRecord_fields (id : Identity) (w th mass : Int) (s : State) :
    let r := s.depositRecord id w th mass
    let t := endGrant (createRecord id w th mass s)
    t.tracker.table = s.tracker.table ++ [r] ∧ t.tracker.nextTag = nextTagAfter r.tag
      ∧ t.schedule = matchSchedule r s.schedule
      ∧ t.grid = { s.grid with grant := none } ∧ t.arb = { s.arb with gridHold := none }
      ∧ t.seqs = s.seqs ∧ t.maps = s.maps ∧ t.cfg = s.cfg ∧ t.mgmt = s.mgmt
      ∧ t.counters = s.counters ∧ t.sensors = s.sensors := by
  intro r t
  obtain ⟨d, created⟩ := createRecord_fields id w th mass s
  have fields : t = _ := endGrant_eq (createRecord id w th mass s)
  rw [fields, created, evalPresence_fields]
  exact ⟨rfl, rfl, rfl, rfl, rfl, rfl, rfl, rfl, rfl, rfl, rfl⟩

/-- Settles O46: the checks in their order; the accepted record through its creation and the end of the grant. -/
theorem depositReport : Obligations.DepositReport := by
  intro h crane id w th mass c s ho done copy holder refused
  have report : done = .next (finish (takeDeposit h crane id w th mass c copy)) := exec_depositReport ho
  have only : LinksOnly s copy := forwardTo_linksOnly ..
  have holding (hh : holder) : copy.holds c = true := holds_iff.2 hh
  refine ⟨fun hn => ?_, fun hh hid => ?_, fun hh hid hheld => ?_, fun g hh hid hheld hg => ?accepted⟩
  · have unheld : ¬ copy.holds c = true := fun hh => hn (holds_iff.1 hh)
    rw [report, takeDeposit_refused (if_pos (by rw [Bool.eq_false_iff.2 unheld]; rfl))]
  · have check := depositCheck_holder (id := id) (holding hh)
    rw [if_pos (by rw [hid]; rfl)] at check
    rw [report, takeDeposit_refused check]
  · have held : copy.idHeld id = true := hheld
    have check := depositCheck_holder (id := id) (holding hh)
    rw [if_neg (by rw [hid]; decide), if_pos held] at check
    rw [report, takeDeposit_refused check]
  case accepted =>
    have unheld : copy.idHeld id = false := hheld
    have check := depositCheck_holder (id := id) (holding hh)
    rw [if_neg (by rw [hid]; decide), if_neg (by rw [unheld]; decide)] at check
    rw [takeDeposit_accepted check] at report
    let r := s.depositRecord id w th mass
    let t := endGrant (createRecord id w th mass copy)
    have same : copy.depositRecord id w th mass = r := depositRecord_linksOnly only
    have accepted : acceptDeposit h id w th mass c copy =
        sendField (.crane c) h.reference (.depositAck c id .accepted r.tag (some r.state) r.dest) t := by
      unfold acceptDeposit
      rw [same]
    have sent : LinksOnly t (acceptDeposit h id w th mass c copy) := by rw [accepted]; exact sendField_linksOnly ..
    obtain ⟨table, nextTag, schedule, grid, arb, seqs, maps, cfg, mgmt, counters, sensors⟩ :=
      endGrant_createRecord_fields id w th mass copy
    rw [same] at table nextTag schedule
    obtain ⟨tag, rid, anchor, measured, width, thickness, rmass, ms, d1, d2, substituted, state⟩ :=
      depositRecord_kept (id := id) (w := w) (th := th) (mass := mass) hg
    refine ⟨_, r, report, ?_, tag, ?_, rid, anchor, measured, ?_, ?_, ?_, ms, d1, d2, substituted, fun hn => ?unscheduled,
      fun e he => ?matched, fun hz1 hz2 hassumed => ?told, sent.grid.trans grid, sent.arb.trans arb, sent.seqs.trans seqs,
      sent.maps.trans maps, sent.cfg.trans cfg, sent.mgmt.trans mgmt, sent.counters.trans counters,
      sent.sensors.trans sensors⟩
    · rw [sent.tracker]
      exact table
    · rw [sent.tracker]
      exact nextTag.trans (congrArg nextTagAfter tag)
    · rw [width, figureInRange_eq]
    · rw [thickness, figureInRange_eq]
    · rw [rmass, figureInRange_eq]
    case unscheduled =>
      obtain ⟨link, dest, held, unmatched⟩ := depositRecord_unscheduled (w := w) (th := th) (mass := mass) (plannedEntry_none hn)
      exact ⟨link, dest, held, sent.schedule.trans (schedule.trans unmatched)⟩
    case matched =>
      obtain ⟨link, group, nominals, matched, changed⟩ := depositRecord_matched (w := w) (th := th) (mass := mass)
        (show plannedEntry id s.schedule = some e from he)
      exact ⟨link, group, nominals, matched, sent.schedule.trans (schedule.trans changed)⟩
    case told =>
      intro created
      have head : r.anchor + s.travel = g.xG := anchor
      have tail := tail_le_head (travel := s.travel) hassumed
      rw [head] at tail
      have listed : r ∈ (recordCreated r copy).tracker.table := List.mem_append_right _ (List.mem_singleton_self r)
      obtain ⟨d, made⟩ := createRecord_fields id w th mass copy
      rw [same, evalPresence_onZone (s := recordCreated r copy) (g := g) hg listed (tail.trans hz2) (hz1.trans head.ge)]
        at made
      have ended : t = _ := endGrant_onZone (s := createRecord id w th mass copy) (r := r) (g := g) (by rw [made]; exact hg)
        (by rw [made]; exact listed) (by rw [made]; exact tail.trans hz2) (by rw [made]; exact hz1.trans head.ge)
      rw [made] at ended
      have event : creationEvent r copy.travel = created := creationEvent_eq state anchor
      refine ⟨?_, ?_⟩
      · rw [sent.tracker, ended]
      · rw [accepted]
        refine sendField_congr ?_ ?_
        · rw [ended, ← event]
          rfl
        · rw [cfg, raise_eq]

end Sys2Proof.Machine
end

section
/-! The operations of a SCHEDULE_EDIT, one by one (R115 to R117). -/

namespace Sys2Proof.Machine

/-! ### What the fields have to be (R115, R171) -/

section
variable {n : Nat} {id : Identity} {d : Option (Code SchedDest)} {g : Option Nat} {w l t : Option Int}

/-- R115, check 2: a sequence number. -/
def SeqNumbered (n : Nat) : Prop := 1 ≤ n ∧ n ≤ 65535

/-- R115, R171: a destination code that is left out or names a destination. -/
def DestCoded (d : Option (Code SchedDest)) : Prop := ∀ raw, d = some (.bad raw) → raw = 255

/-- R115, R171: the figures that are there lie in their ranges. -/
def FiguresRanged (g : Option Nat) (w l t : Option Int) : Prop :=
  (∀ x ∈ g, x = 255 ∨ x ≤ 15)
    ∧ (∀ x ∈ w, x = absentFigure ∨ (800 ≤ x ∧ x ≤ 2800))
    ∧ (∀ x ∈ l, x = absentFigure ∨ (1500 ≤ x ∧ x ≤ 12000))
    ∧ (∀ x ∈ t, x = absentFigure ∨ (100 ≤ x ∧ x ≤ 500))

/-- R171: a destination that is left out. -/
def DestOut (d : Option (Code SchedDest)) : Prop := d = none ∨ d = some (.bad 255)

/-- R171: a group that is left out. -/
def GroupOut (g : Option Nat) : Prop := g = none ∨ g = some 255

/-- R171: a figure that is left out. -/
def FigureOut (x : Option Int) : Prop := x = none ∨ x = some absentFigure

theorem seqInRange_iff : seqInRange n = true ↔ SeqNumbered n := by
  simp [seqInRange, SeqNumbered]

theorem figuresInRange_iff :
    figuresInRange (byteRead g) (figureRead w) (figureRead l) (figureRead t) = true ↔ FiguresRanged g w l t := by
  unfold figuresInRange
  rw [Bool.and_eq_true, Bool.and_eq_true, Bool.and_eq_true, rangeWhereGiven_figureRead, rangeWhereGiven_figureRead,
    rangeWhereGiven_figureRead, byteRead_range, and_assoc, and_assoc]
  rfl

theorem destOut_iff : codeRead d = none ↔ DestOut d := by
  rw [← Option.isNone_iff_eq_none, codeRead_isNone]
  rfl

theorem groupOut_iff : byteRead g = none ↔ GroupOut g := by
  unfold byteRead GroupOut
  split <;> simp_all

theorem figureOut_iff {x : Option Int} : figureRead x = none ↔ FigureOut x := by
  unfold figureRead FigureOut
  split <;> simp_all

end

/-! ### APPEND and INSERT (R115, R116) -/

/-- R115, R116: an operation that makes a new entry, which `put` places. -/
def newOperation (put : ScheduleEntry → Except RespCode (List ScheduleEntry)) (n : Nat) (id : Identity)
    (d : Option (Code SchedDest)) (g : Option Nat) (w l t : Option Int) : Except RespCode (List ScheduleEntry) :=
  match newEntryFields n id (codeRead d) (byteRead g) (figureRead w) (figureRead l) (figureRead t) with
  | .error c => .error c
  | .ok () =>
    match newEntry n id (codeRead d) (byteRead g) (figureRead w) (figureRead l) (figureRead t) with
    | none => .error .illegalValue
    | some e => put e

section
variable {put : ScheduleEntry → Except RespCode (List ScheduleEntry)} {n : Nat} {id : Identity}
  {d : Option (Code SchedDest)} {g : Option Nat} {w l t : Option Int}

theorem scheduleOp_append (held : Identity → Bool) (x : List ScheduleEntry) :
    scheduleOp held (.append n id d g w l t) x = newOperation (appendEntry held · x) n id d g w l t := by
  unfold scheduleOp newOperation
  rfl

theorem scheduleOp_insert (held : Identity → Bool) (x : List ScheduleEntry) :
    scheduleOp held (.insert n id d g w l t) x = newOperation (insertNewEntry held · x) n id d g w l t := by
  unfold scheduleOp newOperation
  rfl

/-- R115: the checks of a new entry's fields in their order. -/
theorem newOperation_refused {c : RespCode}
    (h : newEntryFields n id (codeRead d) (byteRead g) (figureRead w) (figureRead l) (figureRead t) = .error c) :
    newOperation put n id d g w l t = .error c := by
  unfold newOperation
  rw [h]

theorem newOperation_unnumbered (hn : ¬ SeqNumbered n) : newOperation put n id d g w l t = .error .outOfRange :=
  newOperation_refused (if_pos (by rw [Bool.not_eq_true', ← Bool.not_eq_true, seqInRange_iff]; exact hn))

section
variable (hn : SeqNumbered n)
include hn

theorem newEntryFields_numbered : newEntryFields n id d g w l t =
    if !idRulesOk id then .error .illegalValue
    else if !goodWhereGiven d then .error .illegalValue
    else if !figuresInRange g w l t then .error .outOfRange
    else .ok () :=
  if_neg (by rw [seqInRange_iff.2 hn]; decide)

theorem newOperation_unnamed (hid : idRulesOk id = false) : newOperation put n id d g w l t = .error .illegalValue :=
  newOperation_refused ((newEntryFields_numbered hn).trans (if_pos (by rw [hid]; rfl)))

variable (hid : idRulesOk id = true)
include hid

theorem newEntryFields_named : newEntryFields n id d g w l t =
    if !goodWhereGiven d then .error .illegalValue
    else if !figuresInRange g w l t then .error .outOfRange
    else .ok () :=
  (newEntryFields_numbered hn).trans (if_neg (by rw [hid]; decide))

theorem newOperation_uncoded (hd : ¬ DestCoded d) : newOperation put n id d g w l t = .error .illegalValue :=
  newOperation_refused ((newEntryFields_named hn hid).trans
    (if_pos (by rw [Bool.not_eq_true', ← Bool.not_eq_true, goodWhereGiven_codeRead]; exact hd)))

theorem newOperation_unranged (hd : DestCoded d) (hr : ¬ FiguresRanged g w l t) :
    newOperation put n id d g w l t = .error .outOfRange :=
  newOperation_refused ((newEntryFields_named hn hid).trans
    ((if_neg (by rw [(goodWhereGiven_codeRead d).2 hd]; decide)).trans
      (if_pos (by rw [Bool.not_eq_true', ← Bool.not_eq_true, figuresInRange_iff]; exact hr))))

theorem newOperation_formed (hd : DestCoded d) (hr : FiguresRanged g w l t) :
    newOperation put n id d g w l t =
      match newEntry n id (codeRead d) (byteRead g) (figureRead w) (figureRead l) (figureRead t) with
      | none => .error .illegalValue
      | some e => put e := by
  have fields : newEntryFields n id (codeRead d) (byteRead g) (figureRead w) (figureRead l) (figureRead t) = .ok () :=
    (newEntryFields_named hn hid).trans
      ((if_neg (by rw [(goodWhereGiven_codeRead d).2 hd]; decide)).trans (if_neg (by rw [figuresInRange_iff.2 hr]; decide)))
  unfold newOperation
  rw [fields]

/-- R116: a required field is left out. -/
theorem newOperation_missing (hd : DestCoded d) (hr : FiguresRanged g w l t)
    (hm : DestOut d ∨ GroupOut g ∨ FigureOut w ∨ FigureOut l ∨ FigureOut t) :
    newOperation put n id d g w l t = .error .illegalValue := by
  have missing : newEntry n id (codeRead d) (byteRead g) (figureRead w) (figureRead l) (figureRead t) = none := by
    rw [← destOut_iff, ← groupOut_iff, ← figureOut_iff, ← figureOut_iff, ← figureOut_iff] at hm
    unfold newEntry
    split
    · next hd hg hw hl ht =>
      rw [hg, hw, hl, ht] at hm
      rcases hm with hm | hm | hm | hm | hm
      · rw [hm] at hd
        exact nomatch hd
      all_goals exact nomatch hm
    · rfl
  rw [newOperation_formed hn hid hd hr, missing]

end

/-- R115, R116: an entry whose figures lie in their ranges. -/
structure EntryFits (e : ScheduleEntry) : Prop where
  numbered : SeqNumbered e.seq
  named : idRulesOk e.id = true
  group : e.group ≤ 15
  width : 800 ≤ e.width ∧ e.width ≤ 2800
  length : 1500 ≤ e.length ∧ e.length ≤ 12000
  thickness : 100 ≤ e.thickness ∧ e.thickness ≤ 500

/-- R115, R116: an operation that carries every field of an entry. -/
theorem newOperation_complete {e : ScheduleEntry} (he : EntryFits e) :
    newOperation put e.seq e.id (some (.val e.dest)) (some e.group) (some e.width) (some e.length) (some e.thickness)
      = put { e with state := .planned } := by
  have ranged : FiguresRanged (some e.group) (some e.width) (some e.length) (some e.thickness) := by
    refine ⟨?_, ?_, ?_, ?_⟩ <;> rintro x ⟨⟩
    · exact .inr he.group
    · exact .inr he.width
    · exact .inr he.length
    · exact .inr he.thickness
  rw [newOperation_formed he.numbered he.named (by rintro raw ⟨⟩) ranged,
    byteRead_of_range (by rintro x ⟨⟩; exact he.group),
    figureRead_of_range (x := some e.width) (a := 800) (b := 2800) (by decide) (by rintro x ⟨⟩; exact he.width),
    figureRead_of_range (x := some e.length) (a := 1500) (b := 12000) (by decide) (by rintro x ⟨⟩; exact he.length),
    figureRead_of_range (x := some e.thickness) (a := 100) (b := 500) (by decide) (by rintro x ⟨⟩; exact he.thickness)]
  rfl

end

/-! ### The place of a new entry (R116) -/

section
variable {held : Identity → Bool} {e : ScheduleEntry} {l pre post : List ScheduleEntry}

theorem insertEntry_between (hpre : ∀ x ∈ pre, x.seq < e.seq) (hpost : ∀ x ∈ post, e.seq < x.seq) :
    insertEntry e (pre ++ post) = pre ++ e :: post := by
  induction pre with
  | nil =>
    cases post with
    | nil => rfl
    | cons x post => exact if_pos (hpost x List.mem_cons_self)
  | cons x pre ih =>
    have behind : ¬ e.seq < x.seq := Nat.lt_asymm (hpre x List.mem_cons_self)
    exact (if_neg behind).trans (congrArg (x :: ·) (ih fun y hy => hpre y (List.mem_cons_of_mem _ hy)))

theorem addEntry_held (h : (∃ x ∈ l, x.id = e.id) ∨ held e.id = true) : addEntry held e l = .error .duplicate := by
  unfold addEntry
  split
  · rfl
  · next fresh =>
    refine if_pos (h.resolve_left fun ⟨x, hx, he⟩ => fresh (List.any_eq_true.2 ⟨x, hx, ?_⟩))
    rw [he]
    exact beq_self_eq_true _

theorem addEntry_fresh (h : ¬ ((∃ x ∈ l, x.id = e.id) ∨ held e.id = true)) :
    addEntry held e l = if 256 ≤ l.length then .error .scheduleFull else .ok (insertEntry e l) := by
  obtain ⟨fresh, unheld⟩ := not_or.1 h
  unfold addEntry
  rw [if_neg (by simpa using fresh), if_neg unheld]

theorem appendEntry_last (h : ∀ x ∈ l.getLast?, x.seq < e.seq) : appendEntry held e l = addEntry held e l := by
  unfold appendEntry
  split
  · rfl
  · next x hx => exact if_pos (h x hx)

theorem appendEntry_misplaced (h : ¬ ∀ x ∈ l.getLast?, x.seq < e.seq) : appendEntry held e l = .error .illegalValue := by
  unfold appendEntry
  split
  · next hx =>
    rw [hx] at h
    exact absurd (fun _ hx => nomatch hx) h
  · next x hx =>
    refine if_neg fun hlt => h ?_
    rw [hx]
    rintro y ⟨⟩
    exact hlt

theorem insertNewEntry_taken (h : ¬ ∀ x ∈ l, x.seq ≠ e.seq) : insertNewEntry held e l = .error .duplicate := by
  push Not at h
  obtain ⟨x, hx, he⟩ := h
  refine if_pos (List.any_eq_true.2 ⟨x, hx, ?_⟩)
  rw [he]
  exact beq_self_eq_true _

theorem insertNewEntry_fresh (h : ∀ x ∈ l, x.seq ≠ e.seq) : insertNewEntry held e l = addEntry held e l :=
  if_neg (by simpa using h)

end

/-! ### DELETE and MODIFY (R117) -/

section
variable {held : Identity → Bool} {n : Nat} {x : List ScheduleEntry} {e : ScheduleEntry} {c : RespCode}

theorem editableEntry_unknown (h : ∀ e ∈ x, e.seq ≠ n) : editableEntry n x = .error .unknownTag := by
  have none : entryOf n x = none := List.find?_eq_none.2 fun e he => by simpa using h e he
  unfold editableEntry
  rw [none]

theorem editableEntry_deposited (hf : x.find? (fun e => e.seq == n) = some e) (hs : e.state ≠ .planned) :
    editableEntry n x = .error .busy := by
  unfold editableEntry
  rw [show entryOf n x = some e from hf]
  exact if_neg (by rw [ScheduleEntry.planned, beq_iff_eq]; exact hs)

theorem editableEntry_planned (hf : x.find? (fun e => e.seq == n) = some e) (hs : e.state = .planned) :
    editableEntry n x = .ok () := by
  unfold editableEntry
  rw [show entryOf n x = some e from hf]
  exact if_pos (by rw [ScheduleEntry.planned, beq_iff_eq]; exact hs)

theorem scheduleOp_delete_unnumbered (hn : ¬ SeqNumbered n) : scheduleOp held (.delete n) x = .error .outOfRange :=
  if_pos (by rw [Bool.not_eq_true', ← Bool.not_eq_true, seqInRange_iff]; exact hn)

theorem scheduleOp_delete_refused (hn : SeqNumbered n) (h : editableEntry n x = .error c) :
    scheduleOp held (.delete n) x = .error c := by
  refine (if_neg (by rw [seqInRange_iff.2 hn]; decide)).trans ?_
  unfold deleteEntry
  rw [h]

theorem scheduleOp_delete_taken (hn : SeqNumbered n) (h : editableEntry n x = .ok ()) :
    scheduleOp held (.delete n) x = .ok (x.filter fun e => e.seq != n) := by
  refine (if_neg (by rw [seqInRange_iff.2 hn]; decide)).trans ?_
  unfold deleteEntry
  rw [h]

variable {d : Option (Code SchedDest)} {g : Option Nat} {w l t : Option Int}

theorem scheduleOp_modify_unnumbered (hn : ¬ SeqNumbered n) :
    scheduleOp held (.modify n d g w l t) x = .error .outOfRange :=
  if_pos (by rw [Bool.not_eq_true', ← Bool.not_eq_true, seqInRange_iff]; exact hn)

variable (hn : SeqNumbered n)
include hn

theorem scheduleOp_modify_uncoded (hd : ¬ DestCoded d) : scheduleOp held (.modify n d g w l t) x = .error .illegalValue :=
  (if_neg (by rw [seqInRange_iff.2 hn]; decide)).trans
    (if_pos (by rw [Bool.not_eq_true', ← Bool.not_eq_true, goodWhereGiven_codeRead]; exact hd))

variable (hd : DestCoded d)
include hd

theorem scheduleOp_modify_unranged (hr : ¬ FiguresRanged g w l t) :
    scheduleOp held (.modify n d g w l t) x = .error .outOfRange :=
  (if_neg (by rw [seqInRange_iff.2 hn]; decide)).trans ((if_neg (by rw [(goodWhereGiven_codeRead d).2 hd]; decide)).trans
    (if_pos (by rw [Bool.not_eq_true', ← Bool.not_eq_true, figuresInRange_iff]; exact hr)))

variable (hr : FiguresRanged g w l t)
include hr

theorem scheduleOp_modify_formed : scheduleOp held (.modify n d g w l t) x =
    modifyEntry n (codeRead d) (byteRead g) (figureRead w) (figureRead l) (figureRead t) x :=
  (if_neg (by rw [seqInRange_iff.2 hn]; decide)).trans ((if_neg (by rw [(goodWhereGiven_codeRead d).2 hd]; decide)).trans
    (if_neg (by rw [figuresInRange_iff.2 hr]; decide)))

theorem scheduleOp_modify_refused (h : editableEntry n x = .error c) :
    scheduleOp held (.modify n d g w l t) x = .error c := by
  rw [scheduleOp_modify_formed hn hd hr]
  unfold modifyEntry
  rw [h]

theorem scheduleOp_modify_taken (h : editableEntry n x = .ok ()) : scheduleOp held (.modify n d g w l t) x =
    if (codeRead d).isNone && (byteRead g).isNone && (figureRead w).isNone && (figureRead l).isNone
      && (figureRead t).isNone then .error .illegalValue
    else .ok (x.map fun e => if e.seq = n then
      e.modified (givenCode (codeRead d)) (byteRead g) (figureRead w) (figureRead l) (figureRead t) else e) := by
  rw [scheduleOp_modify_formed hn hd hr]
  unfold modifyEntry
  rw [h]

/-- R117: a MODIFY that carries no field. -/
theorem scheduleOp_modify_empty (h : editableEntry n x = .ok ()) (h1 : DestOut d) (h2 : GroupOut g) (h3 : FigureOut w)
    (h4 : FigureOut l) (h5 : FigureOut t) : scheduleOp held (.modify n d g w l t) x = .error .illegalValue := by
  rw [scheduleOp_modify_taken hn hd hr h, destOut_iff.2 h1, groupOut_iff.2 h2, figureOut_iff.2 h3, figureOut_iff.2 h4,
    figureOut_iff.2 h5]
  rfl

end

/-! ### An entry amid a schedule in order (R110) -/

section
variable {e : ScheduleEntry} {pre post : List ScheduleEntry}

theorem seq_ne_of_ordered (h : ScheduleOrdered (pre ++ e :: post)) :
    (∀ x ∈ pre, x.seq ≠ e.seq) ∧ ∀ x ∈ post, x.seq ≠ e.seq := by
  obtain ⟨-, behind, before⟩ := List.pairwise_append.1 h.1
  obtain ⟨ahead, -⟩ := List.pairwise_cons.1 behind
  exact ⟨fun x hx => (before x hx e List.mem_cons_self).ne, fun x hx => (ahead x hx).ne'⟩

variable (hpre : ∀ x ∈ pre, x.seq ≠ e.seq) (hpost : ∀ x ∈ post, x.seq ≠ e.seq)
include hpre

theorem find?_seq_amid : (pre ++ e :: post).find? (fun x => x.seq == e.seq) = some e := by
  rw [List.find?_append, List.find?_eq_none.2 fun x hx => by simpa using hpre x hx]
  exact List.find?_cons_of_pos (p := fun x : ScheduleEntry => x.seq == e.seq) (beq_self_eq_true e.seq)

include hpost

theorem filter_seq_amid : (pre ++ e :: post).filter (fun x => x.seq != e.seq) = pre ++ post := by
  rw [List.filter_append, List.filter_cons_of_neg (by simp), List.filter_eq_self.2 fun x hx => bne_iff_ne.2 (hpre x hx),
    List.filter_eq_self.2 fun x hx => bne_iff_ne.2 (hpost x hx)]

theorem map_seq_amid (f : ScheduleEntry → ScheduleEntry) :
    (pre ++ e :: post).map (fun x => if x.seq = e.seq then f x else x) = pre ++ f e :: post := by
  have same {l : List ScheduleEntry} (h : ∀ x ∈ l, x.seq ≠ e.seq) :
      l.map (fun x => if x.seq = e.seq then f x else x) = l :=
    (List.map_congr_left fun x hx => if_neg (h x hx)).trans (List.map_id' l)
  rw [List.map_append, List.map_cons, same hpre, same hpost, if_pos rfl]

end

end Sys2Proof.Machine
end

section
/-! Settles O47: SCHEDULE_EDIT (R114 to R117). -/

namespace Sys2Proof.Machine

/-- R114: what an accepted SCHEDULE_EDIT leaves. -/
def scheduleAccepted (h : Hdr) (l : List ScheduleEntry) (s : State) : Host.Outcome State Fault Refusal :=
  .next (finish
    { respond h Kind.scheduleEdit .ok none (.scheduleCounts l.length (l.filter fun e => e.state == .planned).length) s with
      schedule := l
      due := { s.due with gridEval := true } })

section
variable {h : Hdr} {s : State} (hm : Managed s h) (hl : s.mgmt.latch = none)
include hm hl

section
variable {ops : List SchedOp} (hf : formFits (.scheduleEdit h ops) = true)
include hf

theorem exec_scheduleEdit : exec (.scheduleEdit h ops) s = .next (
    if ops.length = 0 ∨ 8 < ops.length then refuseAndLatch h Kind.scheduleEdit (.schedule none) .outOfRange (some 0) s
    else match scheduleOps s.idHeld 0 ops s.schedule with
      | .error (c, i) => refuseAndLatch h Kind.scheduleEdit (.schedule (failingOp ops i)) c (some i) s
      | .ok l => putSchedule l
          (respond h Kind.scheduleEdit .ok none (.scheduleCounts l.length (plannedCount l)) s)) := by
  refine (powered_on _ _ hm.1.1).trans (congrArg _ ?_)
  rw [manage_of_managed (by decide) hm, hf, takeScheduleEdit, hl]
  rfl

theorem exec_scheduleEdit_uncounted (hn : ops = [] ∨ 8 < ops.length) : exec (.scheduleEdit h ops) s =
    .next (refuseAndLatch h Kind.scheduleEdit (.schedule none) .outOfRange (some 0) s) := by
  rw [exec_scheduleEdit hm hl hf, if_pos (hn.imp_left List.length_eq_zero_iff.2)]

variable (h0 : ops ≠ []) (h8 : ops.length ≤ 8)
include h0 h8

theorem exec_scheduleEdit_counted : exec (.scheduleEdit h ops) s = .next (
    match scheduleOps s.idHeld 0 ops s.schedule with
      | .error (c, i) => refuseAndLatch h Kind.scheduleEdit (.schedule (failingOp ops i)) c (some i) s
      | .ok l => putSchedule l
          (respond h Kind.scheduleEdit .ok none (.scheduleCounts l.length (plannedCount l)) s)) :=
  (exec_scheduleEdit hm hl hf).trans (congrArg _ (if_neg
    (not_or.2 ⟨fun e => h0 (List.length_eq_zero_iff.1 e), not_lt.2 h8⟩)))

theorem exec_scheduleEdit_accepted {l : List ScheduleEntry} (ok : scheduleOps s.idHeld 0 ops s.schedule = .ok l) :
    exec (.scheduleEdit h ops) s = scheduleAccepted h l s := by
  have only := respond_linksOnly h Kind.scheduleEdit .ok none (.scheduleCounts l.length (plannedCount l)) s
  rw [exec_scheduleEdit_counted hm hl hf h0 h8, ok]
  change Host.Outcome.next (putSchedule l (respond h Kind.scheduleEdit .ok none (.scheduleCounts l.length (plannedCount l)) s))
    = Host.Outcome.next (finish { respond h Kind.scheduleEdit .ok none (.scheduleCounts l.length (plannedCount l)) s with
      schedule := l, due := { s.due with gridEval := true } })
  rw [← only.due]
  rfl

theorem exec_scheduleEdit_refused {c : RespCode} {i : Nat} (err : scheduleOps s.idHeld 0 ops s.schedule = .error (c, i)) :
    exec (.scheduleEdit h ops) s =
      .next (refuseAndLatch h Kind.scheduleEdit (.schedule (ops[i]?.map SchedOp.code)) c (some i) s) := by
  rw [exec_scheduleEdit_counted hm hl hf h0 h8, err]
  rfl

end

section
variable {op : SchedOp} (hf : formFits (.scheduleEdit h [op]) = true)
include hf

/-- R114: a SCHEDULE_EDIT of one operation that is accepted. -/
theorem operation_accepted {l : List ScheduleEntry} (ok : scheduleOp s.idHeld op s.schedule = .ok l) :
    exec (.scheduleEdit h [op]) s = scheduleAccepted h l s := by
  refine exec_scheduleEdit_accepted hm hl hf (List.cons_ne_nil op []) (by simp) ?_
  unfold scheduleOps
  rw [ok]
  rfl

/-- R114: a SCHEDULE_EDIT of one operation that is refused. -/
theorem operation_refused {oc : SchedOpCode} {c : RespCode} (ho : SchedOp.code op = oc)
    (err : scheduleOp s.idHeld op s.schedule = .error c) : exec (.scheduleEdit h [op]) s = OperationRefused h oc c s := by
  have ops : scheduleOps s.idHeld 0 [op] s.schedule = .error (c, 0) := by
    unfold scheduleOps
    rw [err]
  have only := respond_linksOnly h Kind.scheduleEdit c (some 0) .none s
  rw [exec_scheduleEdit_refused hm hl hf (List.cons_ne_nil op []) (by simp) ops, ← ho, OperationRefused, ← only.mgmt]
  rfl

end
end

/-- Settles O47: the edit through its count and its operations; each operation through its checks in their order. -/
theorem scheduleEdit : Obligations.ScheduleEdit := by
  unfold Obligations.ScheduleEdit
  refine ⟨fun h s hm hl => ?taken, fun h s hm hl => ?refused⟩
  case taken =>
    intro accepted
    refine ⟨fun ops hf h0 h8 => ⟨fun l ok => exec_scheduleEdit_accepted hm hl hf h0 h8 ok,
        fun code i err => exec_scheduleEdit_refused hm hl hf h0 h8 err⟩,
      fun ops hf hn => exec_scheduleEdit_uncounted hm hl hf hn,
      fun e ordered h1 h2 hid hg hw1 hw2 hl1 hl2 ht1 ht2 hs hne hheld hlen => ?added,
      fun e pre post ordered h1 h2 split hs => ?edited⟩
    case added =>
      intro append insert
      have fits : EntryFits e := ⟨⟨h1, h2⟩, hid, hg, ⟨hw1, hw2⟩, ⟨hl1, hl2⟩, ⟨ht1, ht2⟩⟩
      have same : { e with state := .planned } = e := by rw [← hs]
      have room : addEntry s.idHeld e s.schedule = .ok (insertEntry e s.schedule) := by
        rw [addEntry_fresh (not_or.2 ⟨fun ⟨x, hx, he⟩ => hne x hx he, by rw [hheld]; decide⟩), if_neg (not_le.2 hlen)]
      refine ⟨fun hf hlast => operation_accepted hm hl hf ?_,
        fun pre post hf split hpre hpost => operation_accepted hm hl hf ?_⟩
      · have last := insertEntry_between (post := []) hlast (fun x hx => absurd hx List.not_mem_nil)
        rw [List.append_nil] at last
        rw [scheduleOp_append, newOperation_complete fits, same, appendEntry_last fun x hx => hlast x (List.mem_of_getLast? hx),
          room, last]
      · have fresh : ∀ x ∈ s.schedule, x.seq ≠ e.seq := fun x hx => by
          rcases List.mem_append.1 (split ▸ hx) with hx | hx
          · exact (hpre x hx).ne
          · exact (hpost x hx).ne'
        rw [scheduleOp_insert, newOperation_complete fits, same, insertNewEntry_fresh fresh, room, split,
          insertEntry_between hpre hpost]
    case edited =>
      have inOrder := (scheduleInOrder_iff s).1 ordered
      rw [split] at inOrder
      obtain ⟨hpre, hpost⟩ := seq_ne_of_ordered inOrder
      have found : s.schedule.find? (fun x => x.seq == e.seq) = some e := by rw [split, find?_seq_amid hpre]
      have editable := editableEntry_planned found hs
      refine ⟨fun hf => operation_accepted hm hl hf ?_,
        fun dest grp w l th hg hw hlen ht hsome hf => operation_accepted hm hl hf ?_⟩
      · rw [scheduleOp_delete_taken ⟨h1, h2⟩ editable, split, filter_seq_amid hpre hpost]
      · have coded : DestCoded (dest.map .val) := by
          cases dest <;> rintro raw ⟨⟩
        have ranged : FiguresRanged grp w l th := ⟨fun x hx => .inr (hg x hx), fun x hx => .inr (hw x hx),
          fun x hx => .inr (hlen x hx), fun x hx => .inr (ht x hx)⟩
        have carried : ¬ ((dest.map Code.val).isNone && grp.isNone && w.isNone && l.isNone && th.isNone) = true := by
          intro none
          simp only [Bool.and_eq_true, Option.isNone_iff_eq_none, Option.map_eq_none_iff] at none
          obtain ⟨⟨⟨⟨nd, ng⟩, nw⟩, nl⟩, nt⟩ := none
          exact hsome ⟨nd, ng, nw, nl, nt⟩
        rw [scheduleOp_modify_taken ⟨h1, h2⟩ coded ranged editable, codeRead_val, byteRead_of_range hg,
          figureRead_of_range (by decide) hw, figureRead_of_range (by decide) hlen, figureRead_of_range (by decide) ht,
          if_neg carried, split, map_seq_amid hpre hpost, givenCode_val]
        rfl
  case refused =>
    intro refused numbered coded ranged leftOut noGroup noDest
    refine ⟨fun raw hf => operation_refused hm hl hf rfl rfl, fun n id d g w l t => ?fields,
      fun e hn hid hg hw1 hw2 hl1 hl2 ht1 ht2 => ?places, fun n => ?edits⟩
    case fields =>
      intro both
      have made {c : RespCode} (err : ∀ put, newOperation put n id d g w l t = .error c) : both c :=
        ⟨fun hf => operation_refused hm hl hf rfl ((scheduleOp_append ..).trans (err _)),
          fun hf => operation_refused hm hl hf rfl ((scheduleOp_insert ..).trans (err _))⟩
      exact ⟨fun hn => made fun _ => newOperation_unnumbered hn, fun hn hid => made fun _ => newOperation_unnamed hn hid,
        fun hn hid hd => made fun _ => newOperation_uncoded hn hid hd,
        fun hn hid hd hr => made fun _ => newOperation_unranged hn hid hd hr,
        fun hn hid hd hr hm => made fun _ => newOperation_missing hn hid hd hr hm⟩
    case places =>
      intro append insert last fresh held
      have fits : EntryFits e := ⟨hn, hid, hg, ⟨hw1, hw2⟩, ⟨hl1, hl2⟩, ⟨ht1, ht2⟩⟩
      let new : ScheduleEntry := { e with state := .planned }
      have appended {c : RespCode} (err : appendEntry s.idHeld new s.schedule = .error c) : append c := fun hf =>
        operation_refused hm hl hf rfl ((scheduleOp_append ..).trans ((newOperation_complete fits).trans err))
      have inserted {c : RespCode} (err : insertNewEntry s.idHeld new s.schedule = .error c) : insert c := fun hf =>
        operation_refused hm hl hf rfl ((scheduleOp_insert ..).trans ((newOperation_complete fits).trans err))
      have full (hh : ¬ held) (hc : 256 ≤ s.schedule.length) : addEntry s.idHeld new s.schedule = .error .scheduleFull :=
        (addEntry_fresh (e := new) hh).trans (if_pos hc)
      exact ⟨fun h => appended (appendEntry_misplaced (e := new) h), fun h => inserted (insertNewEntry_taken (e := new) h),
        fun h hh => appended ((appendEntry_last (e := new) h).trans (addEntry_held (e := new) hh)),
        fun h hh => inserted ((insertNewEntry_fresh (e := new) h).trans (addEntry_held (e := new) hh)),
        fun h hh hc => appended ((appendEntry_last (e := new) h).trans (full hh hc)),
        fun h hh hc => inserted ((insertNewEntry_fresh (e := new) h).trans (full hh hc))⟩
    case edits =>
      intro delete unknown deposited
      have deleted {c : RespCode} (err : scheduleOp s.idHeld (.delete n) s.schedule = .error c) : delete c := fun hf =>
        operation_refused hm hl hf rfl err
      have busy (h : deposited) : editableEntry n s.schedule = .error .busy := by
        obtain ⟨e, hf, hs⟩ := h
        exact editableEntry_deposited hf hs
      refine ⟨fun hn => deleted (scheduleOp_delete_unnumbered hn),
        fun hn h => deleted (scheduleOp_delete_refused hn (editableEntry_unknown h)),
        fun hn h => deleted (scheduleOp_delete_refused hn (busy h)), fun d g w l t => ?_⟩
      intro modify
      have modified {c : RespCode} (err : scheduleOp s.idHeld (.modify n d g w l t) s.schedule = .error c) : modify c :=
        fun hf => operation_refused hm hl hf rfl err
      refine ⟨fun hn => modified (scheduleOp_modify_unnumbered hn), fun hn hd => modified (scheduleOp_modify_uncoded hn hd),
        fun hn hd hr => modified (scheduleOp_modify_unranged hn hd hr),
        fun hn hd hr h => modified (scheduleOp_modify_refused hn hd hr (editableEntry_unknown h)),
        fun hn hd hr h => modified (scheduleOp_modify_refused hn hd hr (busy h)), fun e hn hf hs h1 h2 h3 h4 h5 => modified ?_⟩
      have coded : DestCoded d := by
        rcases h1 with rfl | rfl <;> rintro raw ⟨⟩
        rfl
      have out {x : Option Int} {a b : Int} (h : FigureOut x) : ∀ y ∈ x, y = absentFigure ∨ (a ≤ y ∧ y ≤ b) := by
        rcases h with rfl | rfl <;> rintro y ⟨⟩
        exact .inl rfl
      have ranged : FiguresRanged g w l t := by
        refine ⟨?_, out h3, out h4, out h5⟩
        rcases h2 with rfl | rfl <;> rintro y ⟨⟩
        exact .inl rfl
      exact scheduleOp_modify_empty hn coded ranged (editableEntry_planned hf hs) h1 h2 h3 h4 h5

end Sys2Proof.Machine
end

section
/-! Settles O48: the guarded telegrams (R102, R180 to R183). -/

namespace Sys2Proof.Machine

section
variable {h : Hdr} {payload : List Byte} {s : State}

/-- R175, R178: a telegram that is not for the part passes by the action of its kind. -/
theorem arrive_passing {c : Instr} {kind : Nat} {b : Bool} {m : State → State} {act : Role → State → State}
    (hr : Received s h) (hd : s.links.station ≠ some h.dest) : arrive c kind h b m act s = passBy c kind h b act s :=
  (arrive_of_received hr).trans (if_neg hd)

theorem exec_manualTableMove (hr : Received s h) (hd : s.links.station ≠ some h.dest)
    (ha : actionOf s.cfg.passage Kind.manualTableMove = .guardTable) : exec (.manualTableMove h payload) s =
      .next (guardTable (.manualTableMove h payload) Kind.manualTableMove h s) := by
  refine (powered_on _ _ hr.1).trans (congrArg _ ?_)
  rw [arrive_passing hr hd, passBy, ha]

theorem exec_manualStroke (hr : Received s h) (hd : s.links.station ≠ some h.dest)
    (ha : actionOf s.cfg.passage Kind.manualStroke = .guardStroke) : exec (.manualStroke h payload) s =
      .next (guardStroke (.manualStroke h payload) Kind.manualStroke h s) := by
  refine (powered_on _ _ hr.1).trans (congrArg _ ?_)
  rw [arrive_passing hr hd, passBy, ha]

theorem hasPlace_iff (p : PortState) : p.hasPlace = true ↔ p.up = true ∧ p.queue.length < 20 := by
  simp [PortState.hasPlace]

theorem toTableDrive_iff : toTableDrive s h = true ↔ s.cfg.partners.map (·.tableDrive) = some h.dest := by
  unfold toTableDrive
  cases s.cfg.partners <;> simp

theorem manualAllowed_iff : s.manualAllowed = true ↔ s.arb.motion = .still ∧ s.arb.holds.f1 = false
    ∧ s.arb.holds.f2 = false ∧ s.arb.gridHold = none := by
  unfold State.manualAllowed State.chargerHold
  rw [Bool.and_eq_true, Bool.and_eq_true, Bool.not_eq_true', Bool.not_eq_true', moving_eq_false_iff, Bool.or_eq_false_iff,
    Option.isNone_iff_eq_none, and_assoc, and_assoc]

/-- R181: the furnace of the beam drive that a telegram is for. -/
theorem beamDrive_iff (k : Furnace) : beamDrive s h = some k ↔ ∃ p, s.cfg.partners = some p
    ∧ ((k = .f1 ∧ p.beam1 = h.dest) ∨ (k = .f2 ∧ p.beam1 ≠ h.dest ∧ p.beam2 = h.dest)) := by
  unfold beamDrive
  cases s.cfg.partners with
  | none => simp
  | some p =>
    dsimp only
    split
    · next h1 => cases k <;> simp [h1]
    · next h1 =>
      split
      · next h2 => cases k <;> simp [h1, h2]
      · next h2 => cases k <;> simp [h1, h2]

end

/-- Settles O48: each guard by its checks in their order. -/
theorem guardedTelegrams : Obligations.GuardedTelegrams := by
  intro h payload s hr hd port place blocked overrun
  have room : (s.links.port port).hasPlace = true ↔ place := hasPlace_iff _
  refine ⟨fun ha => ?table, fun ha => ?stroke⟩
  case table =>
    intro done kind toDrive free
    have passed : done = _ := exec_manualTableMove hr hd ha
    refine ⟨fun hn => ?_, fun hy hn => ?_, fun hy hp hn => ?_, fun hy hp hf => ?_⟩
    · have away : toTableDrive s h = false := Bool.eq_false_iff.2 (mt toTableDrive_iff.1 hn)
      rw [passed, guardTable, if_pos (by rw [away]; rfl)]
      rfl
    · have full : (s.links.port (otherPort h.port)).hasPlace = false := Bool.eq_false_iff.2 (mt room.1 hn)
      rw [passed, guardTable, if_neg (by rw [toTableDrive_iff.2 hy]; decide), if_pos (by rw [full]; rfl)]
      rfl
    · have barred : s.manualAllowed = false := Bool.eq_false_iff.2 (mt manualAllowed_iff.1 hn)
      rw [passed, guardTable, if_neg (by rw [toTableDrive_iff.2 hy]; decide), if_neg (by rw [room.2 hp]; decide),
        if_pos (by rw [barred]; rfl)]
      rfl
    · rw [passed, guardTable, if_neg (by rw [toTableDrive_iff.2 hy]; decide), if_neg (by rw [room.2 hp]; decide),
        if_neg (by rw [manualAllowed_iff.2 hf]; decide)]
      rfl
  case stroke =>
    intro done kind toBeam charging
    have passed : done = _ := exec_manualStroke hr hd ha
    have drive {k : Furnace} (hk : toBeam k) : beamDrive s h = some k := (beamDrive_iff k).2 hk
    refine ⟨fun hn => ?_, fun k hk hc => ?_, fun k hk hc hn => ?_, fun k hk hc hp => ?_⟩
    · have none : beamDrive s h = none := Option.eq_none_iff_forall_ne_some.2 fun k hk => hn k ((beamDrive_iff k).1 hk)
      rw [passed, guardStroke, none]
      rfl
    all_goals rw [passed, guardStroke, drive hk]
    · exact congrArg _ (if_pos ((charging_iff _).2 hc))
    · have full : (s.links.port (otherPort h.port)).hasPlace = false := Bool.eq_false_iff.2 (mt room.1 hn)
      exact congrArg _ ((if_neg (mt (charging_iff _).1 hc)).trans (if_pos (by rw [full]; rfl)))
    · exact congrArg _ ((if_neg (mt (charging_iff _).1 hc)).trans (if_neg (by rw [room.2 hp]; decide)))

end Sys2Proof.Machine
end

section
/-! Settles O49: the telegrams by their form (R169 to R171, R174 to R179). -/

namespace Sys2Proof.Machine

/-! ### The passage table and the roles (R174, R177, R178) -/

theorem actionOf_entry {kind : Nat} {a : Action} {pre post : List (Option (Nat × Action))}
    (h : ∀ b, some (kind, b) ∉ pre) : actionOf (pre ++ some (kind, a) :: post) kind = a := by
  unfold actionOf
  rw [List.find?_append, List.find?_eq_none.2, Option.none_or, List.find?_cons_of_pos (by simp)]
  rintro (_ | ⟨k, b⟩) he
  · simp
  · rw [beq_iff_eq]
    rintro rfl
    exact h b he

theorem actionOf_absent {kind : Nat} {table : List (Option (Nat × Action))} (h : ∀ a, some (kind, a) ∉ table) :
    actionOf table kind = .forward := by
  unfold actionOf
  rw [List.find?_eq_none.2]
  rintro (_ | ⟨k, b⟩) he
  · simp
  · rw [beq_iff_eq]
    rintro rfl
    exact h b he

section
variable {kind : Nat} {h : Hdr} {s : State} {ps : Partners}

theorem roleOf_unpartnered (hp : s.cfg.partners = none) : roleOf s kind h = .error .noPartner := by
  unfold roleOf
  rw [hp]

theorem roleOf_found (hp : s.cfg.partners = some ps) {r : Role}
    (hr : (rolesOf kind).find? (fun r => ps.station r == h.source) = some r) :
    roleOf s kind h = if r.port = h.port then .ok r else .error .wrongPort := by
  unfold roleOf
  rw [hp]
  dsimp only
  rw [hr]

theorem roleOf_unfound (hp : s.cfg.partners = some ps)
    (hr : (rolesOf kind).find? (fun r => ps.station r == h.source) = none) : roleOf s kind h = .error .noPartner := by
  unfold roleOf
  rw [hp]
  dsimp only
  rw [hr]

theorem rolesOf_yard {r : Role} (hr : r ∈ rolesOf kind) : r.port = .yard := by
  unfold rolesOf at hr
  split at hr
  · fin_cases hr <;> rfl
  split at hr
  · fin_cases hr
    rfl
  split at hr
  · fin_cases hr <;> rfl
  split at hr
  · fin_cases hr <;> rfl
  split at hr
  · fin_cases hr <;> rfl
  · exact absurd hr List.not_mem_nil

/-- R174, R177: the role among those of a kind. -/
theorem roleOf_among (hp : s.cfg.partners = some ps) {roles : List (Nat × Role)}
    (hroles : roles = (rolesOf kind).map fun r => (ps.station r, r)) :
    (∀ pre x post, roles = pre ++ x :: post → x.1 = h.source → (∀ y ∈ pre, y.1 ≠ h.source) →
      (h.port = .yard → roleOf s kind h = .ok x.2) ∧ (h.port = .plant → roleOf s kind h = .error .wrongPort))
    ∧ ((∀ x ∈ roles, x.1 ≠ h.source) → roleOf s kind h = .error .noPartner) := by
  refine ⟨fun pre x post split hx hpre => ?_, fun hn => ?_⟩
  · obtain ⟨rs, rest, all, rfl, tail⟩ := List.map_eq_append_iff.1 (hroles.symm.trans split)
    obtain ⟨r, rest', rfl, rfl, -⟩ := List.map_eq_cons_iff.1 tail
    have found : (rolesOf kind).find? (fun r => ps.station r == h.source) = some r := by
      rw [all, List.find?_append, List.find?_eq_none.2 fun y hy => ?_, Option.none_or,
        List.find?_cons_of_pos (by rw [beq_iff_eq]; exact hx)]
      rw [beq_iff_eq]
      exact hpre _ (List.mem_map_of_mem hy)
    have yard : r.port = .yard := rolesOf_yard (kind := kind) (by rw [all]; simp)
    exact ⟨fun hport => (roleOf_found hp found).trans (if_pos (yard.trans hport.symm)),
      fun hport => (roleOf_found hp found).trans (if_neg (by rw [yard, hport]; decide))⟩
  · refine roleOf_unfound hp (List.find?_eq_none.2 fun r hr => ?_)
    rw [beq_iff_eq]
    exact hn _ (hroles ▸ List.mem_map_of_mem (f := fun r => (ps.station r, r)) hr)

end

/-! ### The passage of a telegram (R170, R175 to R179) -/

section
variable {c : Instr} {kind : Nat} {h : Hdr} {b : Bool} {m : State → State} {act : Role → State → State} {s : State}

theorem arrive_malformed (hu : (s.links.port h.port).up = true)
    (hm : 120 < h.length ∨ h.truncated = true ∨ h.source = 63 ∨ s.links.station = some h.source) :
    arrive c kind h b m act s = stray h kind .malformed s := by
  have received : received s h.port = true := hu
  have bad : malformed s h = true := by
    simpa [malformed, or_assoc] using hm
  unfold arrive
  rw [if_neg (by rw [received]; decide), if_pos bad]

theorem arrive_addressed (hr : Received s h) (hd : s.links.station = some h.dest) :
    arrive c kind h b m act s = takeAddressed kind h b m act s :=
  (arrive_of_received hr).trans (if_pos hd)

theorem fromRole_stranger {reason : StrayReason} (hr : roleOf s kind h = .error reason) :
    fromRole kind h b act s = stray h kind reason s := by
  unfold fromRole
  rw [hr]

theorem fromRole_misshapen {r : Role} (hr : roleOf s kind h = .ok r) : fromRole kind h false act s = stray h kind .format s := by
  unfold fromRole
  rw [hr]
  rfl

theorem takeAddressed_taken (hm : isManagement kind = false) (hk : isFieldTaken kind = true) :
    takeAddressed kind h b m act s = fromRole kind h b act s := by
  unfold takeAddressed
  rw [if_neg (by rw [hm]; decide), if_pos hk]

theorem takeAddressed_other (hm : isManagement kind = false) (hk : isFieldTaken kind = false) :
    takeAddressed kind h b m act s = stray h kind .wrongKind s := by
  unfold takeAddressed
  rw [if_neg (by rw [hm]; decide), if_neg (by rw [hk]; decide)]

theorem passBy_observe (ha : actionOf s.cfg.passage kind = .observe) :
    passBy c kind h b act s = fromRole kind h b act (forwardTo (otherPort h.port) c s) := by
  unfold passBy
  rw [ha]

theorem passBy_forward (ha : actionOf s.cfg.passage kind = .forward) :
    passBy c kind h b act s = forwardTo (otherPort h.port) c s := by
  unfold passBy
  rw [ha]

theorem passBy_drop (ha : actionOf s.cfg.passage kind = .drop) : passBy c kind h b act s = s := by
  unfold passBy
  rw [ha]

theorem lengthFits_false (hl : fieldLength kind ≠ some h.length) : lengthFits kind h = false := by
  unfold lengthFits
  rw [beq_eq_false_iff_ne]
  exact hl

end

/-- A command that brings a field telegram: how its kind and form are judged. -/
def BringsField (i : Instr) (kind : Nat) (h : Hdr) (s : State) : Prop :=
  ∃ b act, exec i s = powered (field i kind h b act) s

namespace BringsField

variable {i : Instr} {kind : Nat} {h : Hdr} {s : State} (hi : BringsField i kind h s) (hr : Received s h)
include hi hr

/-- R171, R175, R177: one addressed to the part, of a kind it takes. -/
theorem taken (hd : s.links.station = some h.dest) (hm : isManagement kind = false) (hk : isFieldTaken kind = true) :
    (∀ reason, roleOf s kind h = .error reason → exec i s = .next (stray h kind reason s))
      ∧ (∀ r, roleOf s kind h = .ok r → fieldLength kind ≠ some h.length → exec i s = .next (stray h kind .format s)) := by
  obtain ⟨b, act, done⟩ := hi
  rw [powered_on _ _ hr.1, field, arrive_addressed hr hd, takeAddressed_taken hm hk] at done
  refine ⟨fun reason hs => ?_, fun r hs hl => ?_⟩
  · rw [done, fromRole_stranger hs]
  · rw [done, lengthFits_false hl, Bool.false_and, fromRole_misshapen hs]

/-- R175: one addressed to the part, of a kind it does not take. -/
theorem untaken (hd : s.links.station = some h.dest) (hm : isManagement kind = false) (hk : isFieldTaken kind = false) :
    exec i s = .next (stray h kind .wrongKind s) := by
  obtain ⟨b, act, done⟩ := hi
  rw [done, powered_on _ _ hr.1, field, arrive_addressed hr hd, takeAddressed_other hm hk]

variable (hd : s.links.station ≠ some h.dest)
include hd

/-- R179: one that is observed in passing. -/
theorem observed (ha : actionOf s.cfg.passage kind = .observe) :
    (∀ reason, roleOf s kind h = .error reason →
        exec i s = .next (stray h kind reason (forwardTo (otherPort h.port) i s)))
      ∧ (∀ r, roleOf s kind h = .ok r → fieldLength kind ≠ some h.length →
        exec i s = .next (stray h kind .format (forwardTo (otherPort h.port) i s))) := by
  obtain ⟨b, act, done⟩ := hi
  rw [powered_on _ _ hr.1, field, arrive_passing hr hd, passBy_observe ha] at done
  refine ⟨fun reason hs => ?_, fun r hs hl => ?_⟩
  · rw [done, fromRole_stranger (by rw [roleOf_forwardTo]; exact hs)]
  · rw [done, lengthFits_false hl, Bool.false_and, fromRole_misshapen (by rw [roleOf_forwardTo]; exact hs)]

/-- R179: one that passes by FORWARD or DROP. -/
theorem passed : (actionOf s.cfg.passage kind = .forward → exec i s = .next (forwardTo (otherPort h.port) i s))
    ∧ (actionOf s.cfg.passage kind = .drop → exec i s = .next s) := by
  obtain ⟨b, act, done⟩ := hi
  rw [powered_on _ _ hr.1, field, arrive_passing hr hd] at done
  refine ⟨fun ha => ?_, fun ha => ?_⟩
  · rw [done, passBy_forward ha]
  · rw [done, passBy_drop ha]

end BringsField

section
variable {t : RawTel} {s : State}

theorem exec_malformedTelegram (hp : s.power = true) :
    exec (.malformedTelegram t) s = .next (rawTelegram (.malformedTelegram t) t s) := powered_on _ _ hp

theorem exec_passingTelegram (hr : Received s t.hdr) (hd : s.links.station ≠ some t.hdr.dest) :
    exec (.passingTelegram t) s = .next (passBy (.passingTelegram t) t.kind t.hdr false (fun _ s => s) s) :=
  (powered_on _ _ hr.1).trans (congrArg _ (arrive_passing hr hd))

end

/-- Settles O49: each clause through the branch of the passage that its telegram takes. -/
theorem telegramsByForm : Obligations.TelegramsByForm := by
  refine ⟨fun p s => ?_, fun p dst src type bytes s hp => powered_on _ _ hp, fun t s hp hu hm => ?_, fun t s hr hd hk hn => ?_,
    fun t s hr hd hy h1 h2 => ?_, fun t s hr hd => ⟨fun ha => ?_, fun ha => ?_⟩,
    fun table kind => ⟨fun pre a post ht hpre => ht ▸ actionOf_entry hpre, actionOf_absent⟩,
    fun kind h s => ⟨roleOf_unpartnered, fun ps hps => ?roles⟩,
    fun h crane tag fault number count raw id id' w th mass x o body s hr => ?fields⟩
  · exact (powered_next (fun s => s) s).trans (congrArg _ (ite_self s))
  · exact (exec_malformedTelegram hp).trans (congrArg _ (arrive_malformed hu hm))
  · have unmanaged : isManagement t.kind = false := by
      unfold isManagement
      rw [Bool.and_eq_false_iff, decide_eq_false_iff_not, decide_eq_false_iff_not]
      omega
    have untaken : isFieldTaken t.kind = false := by
      simpa [isFieldTaken, and_assoc] using hn
    refine (powered_on _ _ hr.1).trans (congrArg _ ?_)
    rw [rawTelegram, arrive_addressed hr hd, takeAddressed_other unmanaged untaken]
    rfl
  · have managed : isManagement t.kind = true := by
      unfold isManagement
      rw [decide_eq_true h1, decide_eq_true h2]
      rfl
    refine (powered_on _ _ hr.1).trans (congrArg _ ?_)
    rw [rawTelegram, arrive_addressed hr hd, takeAddressed, if_pos managed, hy]
    rfl
  · rw [exec_passingTelegram hr hd, passBy_forward ha]
  · rw [exec_passingTelegram hr hd, passBy_drop ha]
  case roles =>
    intro among
    refine ⟨fun hk => roleOf_among hps ?_, fun hk => roleOf_among hps ?_, fun hk => roleOf_among hps ?_,
      fun hk => roleOf_among hps ?_, fun hk => roleOf_among hps ?_⟩
    · fin_cases hk <;> rfl
    all_goals
      rw [hk]
      rfl
  case fields =>
    intro stray taken observed
    have takenField {i : Instr} {kind : Nat} (hi : (i, kind) ∈ taken) :
        BringsField i kind h s ∧ isManagement kind = false ∧ isFieldTaken kind = true := by
      unfold taken at hi
      fin_cases hi <;> exact ⟨⟨_, _, rfl⟩, rfl, rfl⟩
    have observedField {i : Instr} {kind : Nat} (hi : (i, kind) ∈ observed) :
        BringsField i kind h s ∧ isManagement kind = false ∧ isFieldTaken kind = false := by
      unfold observed at hi
      fin_cases hi <;> exact ⟨⟨_, _, rfl⟩, rfl, rfl⟩
    refine ⟨fun hd => ⟨fun i kind reason hi hs => ?_, fun i kind r hi hs hl => ?_, fun r hs => ?_, fun kind hk => ?_,
      fun i kind hi => ?_⟩, fun hd => ⟨fun i kind reason hi ha hs => ?_, fun i kind r hi ha hs hl => ?_, fun r ha hs => ?_,
      fun kind ha => ⟨fun reason hs => ?_, fun r hs => ?_⟩, fun i kind hi => ?_⟩⟩
    · obtain ⟨brings, hm, hk⟩ := takenField hi
      exact (brings.taken hr hd hm hk).1 reason hs
    · obtain ⟨brings, hm, hk⟩ := takenField hi
      exact (brings.taken hr hd hm hk).2 r hs hl
    · refine (powered_on _ _ hr.1).trans (congrArg _ ?_)
      rw [field, arrive_addressed hr hd, takeAddressed_taken (by decide) (by decide), Code.good, Bool.and_false,
        fromRole_misshapen hs]
      rfl
    · have kinds : isManagement kind = false ∧ isFieldTaken kind = true := by
        fin_cases hk <;> exact ⟨rfl, rfl⟩
      have shapeless : exec (.malformedTelegram ⟨h, kind, body⟩) s = .next (fromRole kind h false (fun _ s => s) s) := by
        refine (exec_malformedTelegram hr.1).trans (congrArg _ ?_)
        rw [rawTelegram, arrive_addressed hr hd, takeAddressed_taken kinds.1 kinds.2]
      refine ⟨fun reason hs => ?_, fun r hs => ?_⟩
      · exact shapeless.trans (congrArg _ (fromRole_stranger hs))
      · exact shapeless.trans (congrArg _ (fromRole_misshapen hs))
    · obtain ⟨brings, hm, hk⟩ := observedField hi
      exact brings.untaken hr hd hm hk
    · exact ((observedField hi).1.observed hr hd ha).1 reason hs
    · exact ((observedField hi).1.observed hr hd ha).2 r hs hl
    · refine (powered_on _ _ hr.1).trans (congrArg _ ?_)
      rw [field, arrive_passing hr hd, passBy_observe ha, show figureGiven absentFigure = false from rfl, Bool.and_false,
        fromRole_misshapen (by rw [roleOf_forwardTo]; exact hs)]
      rfl
    · refine (exec_passingTelegram (t := ⟨h, kind, body⟩) hr hd).trans (congrArg _ ?_)
      exact (passBy_observe ha).trans (fromRole_stranger (by rw [roleOf_forwardTo]; exact hs))
    · refine (exec_passingTelegram (t := ⟨h, kind, body⟩) hr hd).trans (congrArg _ ?_)
      exact (passBy_observe ha).trans (fromRole_misshapen (by rw [roleOf_forwardTo]; exact hs))
    · have brings : BringsField i kind h s :=
        (List.mem_append.1 hi).elim (fun hi => (takenField hi).1) fun hi => (observedField hi).1
      exact brings.passed hr hd

end Sys2Proof.Machine
end

section
/-! Settles O50: the ports and their queues (R183, R184, R186). -/

namespace Sys2Proof.Machine

theorem setPort_self (l : Links) (p : Port) : l.setPort p (l.port p) = l := by
  cases p <;> rfl

theorem any_forwarded (q : List Frame) : (q.any fun f => !f.isOwn) =
    q.any fun f => match f with | .forwarded _ => true | .own _ => false :=
  congrArg q.any (funext fun f => by cases f <;> rfl)

theorem any_own (q : List Frame) : q.any Frame.isOwn =
    q.any fun f => match f with | .forwarded _ => false | .own _ => true :=
  congrArg q.any (funext fun f => by cases f <;> rfl)

theorem forward_eq (p : PortState) (c : Instr) : p.forward c =
    if p.up = true ∧ p.queue.length < 20 then { p with queue := p.queue ++ [.forwarded c] }
    else { p with linkOverrun := true } :=
  if_congr (hasPlace_iff p) rfl rfl

/-- Settles O50: what a port does with a frame and with its link. -/
theorem portsAndQueues : Obligations.PortsAndQueues := by
  intro p s
  refine ⟨fun c => ?_, fun hp => powered_on (fun s => s.setLinks (s.links.setPort p (s.links.port p).sent)) _ hp,
    fun hp hu => ?_, fun hp hu => ?_, fun hp => ?_, fun hp hu hm => ?_,
    fun hp hm => ?_, fun hu hm => ?_⟩
  · rw [← forward_eq]
    rfl
  · have down : (s.links.port p).down = _ := if_pos hu
    rw [any_forwarded, any_own] at down
    refine (powered_on _ _ hp).trans (congrArg _ ?_)
    rw [linkDown, down]
    rfl
  · have down : (s.links.port p).down = _ := if_neg (by rw [hu]; decide)
    refine (powered_on _ _ hp).trans (congrArg _ ?_)
    rw [linkDown, down]
    rfl
  · exact ⟨powered_off _ _ hp, powered_off _ _ hp⟩
  · have up : (s.links.port p).comeUp = _ := if_neg (by rw [hu]; decide)
    refine (powered_on _ _ hp).trans (congrArg _ ?_)
    rw [linkUp, if_neg hm, up]
    rfl
  · refine (powered_on _ _ hp).trans (congrArg _ ?_)
    rw [linkUp, if_pos hm]
    rfl
  · have up : (s.links.port p).comeUp = s.links.port p := if_pos hu
    have stays : linkUp p s = s := by
      rw [linkUp, if_neg hm, up, setPort_self]
      rfl
    refine (powered_next (linkUp p) s).trans (congrArg _ ?_)
    rw [stays, ite_self]

end Sys2Proof.Machine
end

section
/-! Settles O51: CLEAR_HOLDS, CLEAR_ERROR and CLEAR_LINK (R46, R149, R185, R191). -/

namespace Sys2Proof.Machine

/-! ### The holds a selection names (R46) -/

/-- R46: whether a selection names a placement hold of a furnace. -/
def selectsPlacement (sel : HoldSelection) (k : Furnace) (n : HoldName) : Bool :=
  match sel with
  | .all => true
  | .furnace (.val x) .all => decide (x = k)
  | .furnace (.val x) (.set l) => decide (x = k) && l.contains n
  | _ => false

/-- R46: whether a selection names a hold of a counter. -/
def selectsCounter (sel : HoldSelection) (c : CounterId) (n : HoldName) : Bool :=
  match sel with
  | .all => true
  | .counter (.val x) .all => decide (x = c)
  | .counter (.val x) (.set l) => decide (x = c) && l.contains n
  | _ => false

/-- Every placement hold of the part, in the order of R46. -/
def everyPlacement : List (Furnace × HoldName) := [Furnace.f1, .f2].flatMap fun k => placementHoldNames.map fun n => (k, n)

/-- Every counter hold of the part, in the order of R46. -/
def everyCounter : List (CounterId × HoldName) := [CounterId.t, .c1, .c2].flatMap fun c => counterHoldNames.map fun n => (c, n)

/-- Pairs with one first part among those of several. -/
theorem filter_pairs {α : Type} [DecidableEq α] {p : HoldName → Bool} {names : List HoldName} (x : α) {all : List α}
    (nodup : all.Nodup) (hx : x ∈ all) :
    (all.flatMap fun y => names.map fun n => (y, n)).filter (fun z => decide (x = z.1) && p z.2)
      = (names.filter p).map (x, ·) := by
  induction all with
  | nil => exact absurd hx List.not_mem_nil
  | cons y all ih =>
    obtain ⟨fresh, nodup⟩ := List.nodup_cons.1 nodup
    rw [List.flatMap_cons, List.filter_append]
    have others {l : List α} (h : x ∉ l) :
        (l.flatMap fun y => names.map fun n => (y, n)).filter (fun z => decide (x = z.1) && p z.2) = [] := by
      refine List.filter_eq_nil_iff.2 fun z hz => ?_
      obtain ⟨y, hy, hz⟩ := List.mem_flatMap.1 hz
      obtain ⟨n, -, rfl⟩ := List.mem_map.1 hz
      have other : ¬ x = y := fun e => h (e ▸ hy)
      rw [decide_eq_false other]
      exact Bool.false_ne_true
    by_cases h : x = y
    · subst h
      rw [others fresh, List.append_nil, List.filter_map]
      refine congrArg _ (List.filter_congr fun n _ => ?_)
      exact (congrArg (· && p n) (decide_eq_true rfl)).trans (Bool.true_and _)
    · have mine := others (l := [y]) (by simpa using h)
      rw [List.flatMap_singleton] at mine
      rw [mine, List.nil_append]
      exact ih nodup ((List.mem_cons.1 hx).resolve_left h)

theorem selectedPlacement_eq (sel : HoldSelection) :
    selectedPlacement sel = everyPlacement.filter fun x => selectsPlacement sel x.1 x.2 := by
  have none : everyPlacement.filter (fun _ => false) = [] := List.filter_eq_nil_iff.2 fun _ _ => Bool.false_ne_true
  have member (k : Furnace) : k ∈ [Furnace.f1, .f2] := by cases k <;> decide
  cases sel with
  | all => rfl
  | furnace c names =>
    cases c with
    | bad raw => exact none.symm
    | val k =>
      cases names with
      | all =>
        have one := filter_pairs (p := fun _ => true) (names := placementHoldNames) k (by decide) (member k)
        simp only [Bool.and_true, List.filter_true] at one
        exact one.symm
      | set l => exact (filter_pairs (p := fun n => l.contains n) (names := placementHoldNames) k (by decide) (member k)).symm
  | counter c names => exact none.symm
  | badForm raw => exact none.symm

theorem selectedCounter_eq (sel : HoldSelection) :
    selectedCounter sel = everyCounter.filter fun x => selectsCounter sel x.1 x.2 := by
  have none : everyCounter.filter (fun _ => false) = [] := List.filter_eq_nil_iff.2 fun _ _ => Bool.false_ne_true
  have member (c : CounterId) : c ∈ [CounterId.t, .c1, .c2] := by cases c <;> decide
  cases sel with
  | all => rfl
  | furnace c names => exact none.symm
  | counter c names =>
    cases c with
    | bad raw => exact none.symm
    | val k =>
      cases names with
      | all =>
        have one := filter_pairs (p := fun _ => true) (names := counterHoldNames) k (by decide) (member k)
        simp only [Bool.and_true, List.filter_true] at one
        exact one.symm
      | set l => exact (filter_pairs (p := fun n => l.contains n) (names := counterHoldNames) k (by decide) (member k)).symm
  | badForm raw => exact none.symm

theorem mem_everyPlacement (k : Furnace) {n : HoldName} (hn : n ∈ placementHoldNames) : (k, n) ∈ everyPlacement :=
  List.mem_flatMap.2 ⟨k, by cases k <;> decide, List.mem_map_of_mem hn⟩

theorem mem_everyCounter (c : CounterId) {n : HoldName} (hn : n ∈ counterHoldNames) : (c, n) ∈ everyCounter :=
  List.mem_flatMap.2 ⟨c, by cases c <;> decide, List.mem_map_of_mem hn⟩

theorem contains_selectedPlacement (sel : HoldSelection) (k : Furnace) {n : HoldName} (hn : n ∈ placementHoldNames) :
    (selectedPlacement sel).contains (k, n) = selectsPlacement sel k n := by
  rw [Bool.eq_iff_iff, List.contains_iff_mem, selectedPlacement_eq, List.mem_filter]
  exact and_iff_right (mem_everyPlacement k hn)

theorem contains_selectedCounter (sel : HoldSelection) (c : CounterId) {n : HoldName} (hn : n ∈ counterHoldNames) :
    (selectedCounter sel).contains (c, n) = selectsCounter sel c n := by
  rw [Bool.eq_iff_iff, List.contains_iff_mem, selectedCounter_eq, List.mem_filter]
  exact and_iff_right (mem_everyCounter c hn)

/-! ### Holds cleared (R46, R149) -/

theorem PlacementHolds.get_put_false (x : PlacementHolds) (m n : HoldName) :
    (x.put m false).get n = (x.get n && !decide (n = m)) := by
  cases m <;> cases n <;> simp [PlacementHolds.get, PlacementHolds.put]

theorem pair_beq {α : Type} [DecidableEq α] (a : α) (n m : HoldName) : ((a, n) == (a, m)) = decide (n = m) := by
  rw [Bool.eq_iff_iff, beq_iff_eq, decide_eq_true_eq, Prod.mk.injEq]
  exact and_iff_right rfl

theorem putHold_place (s : State) (j k : Furnace) (m : HoldName) (v : Bool) : (s.putHold j m v).place.get k =
    if k = j then { s.place.get k with holds := (s.place.get k).holds.put m v } else s.place.get k := by
  cases j <;> cases k <;> rfl

theorem clearHold_counters (s : State) (b c : CounterId) (m : HoldName) :
    (s.setCounter b ((s.counter b).clearHold m)).counters.get c =
      if c = b then (s.counters.get c).clearHold m else s.counters.get c := by
  cases b <;> cases c <;> rfl

theorem clearPlacement_place (l : List (Furnace × HoldName)) (s : State) (k : Furnace) :
    ((clearPlacement l s).place.get k).lastStroke = (s.place.get k).lastStroke
      ∧ ∀ n, ((clearPlacement l s).place.get k).holds.get n = ((s.place.get k).holds.get n && !l.contains (k, n)) := by
  unfold clearPlacement
  induction l generalizing s with
  | nil => exact ⟨rfl, fun n => by simp⟩
  | cons x l ih =>
    obtain ⟨stroke, holds⟩ := ih (s.putHold x.1 x.2 false)
    rw [putHold_place] at stroke holds
    refine ⟨stroke.trans ?_, fun n => (holds n).trans ?_⟩
    · split <;> rfl
    · rw [List.contains_cons]
      split
      · next h =>
        obtain ⟨j, m⟩ := x
        obtain rfl : k = j := h
        rw [pair_beq, Bool.not_or, ← Bool.and_assoc]
        exact congrArg (· && _) (PlacementHolds.get_put_false ..)
      · next h =>
        have other : ((k, n) == x) = false := beq_false_of_ne fun e => h (congrArg Prod.fst e)
        rw [other, Bool.false_or]

theorem clearCounter_counters (l : List (CounterId × HoldName)) (s : State) (c : CounterId) :
    (clearCounter l s).counters.get c = { s.counters.get c with
      encoderError := (s.counters.get c).encoderError && !l.contains (c, .encoderError)
      homeDeviation := (s.counters.get c).homeDeviation && !l.contains (c, .homeDeviation) } := by
  unfold clearCounter
  induction l generalizing s with
  | nil => simp
  | cons x l ih =>
    rw [List.foldl_cons, ih, clearHold_counters, List.contains_cons, List.contains_cons]
    split
    · next h =>
      obtain ⟨y, m⟩ := x
      obtain rfl : c = y := h
      rw [pair_beq, pair_beq]
      cases m <;> simp [Counter.clearHold]
    · next h =>
      have other (n : HoldName) : ((c, n) == x) = false := beq_false_of_ne fun e => h (congrArg Prod.fst e)
      rw [other, other, Bool.false_or, Bool.false_or]

theorem clearPlacement_counters (l : List (Furnace × HoldName)) (s : State) : (clearPlacement l s).counters = s.counters := by
  obtain ⟨p, hp⟩ := clearPlacement_eq l s
  rw [hp]
  rfl

theorem clearCounter_place (l : List (CounterId × HoldName)) (s : State) : (clearCounter l s).place = s.place := by
  obtain ⟨p, hp⟩ := clearCounter_eq l s
  rw [hp]
  rfl

/-- R46: the selected holds that are set, as the RESPONSE lists them. -/
theorem selectedSet_eq (s : State) (sel : HoldSelection) : selectedSet s sel =
    (everyPlacement.filter fun x => selectsPlacement sel x.1 x.2 && (s.place.get x.1).holds.get x.2).map
        (fun x => ClearedHold.placement x.1 x.2)
      ++ (everyCounter.filter fun x => selectsCounter sel x.1 x.2 && (s.counters.get x.1).hold x.1 x.2).map
        (fun x => ClearedHold.counter x.1 x.2) := by
  unfold selectedSet
  rw [selectedPlacement_eq, selectedCounter_eq, List.filter_filter, List.filter_filter]
  simp only [Bool.and_comm]
  rfl

end Sys2Proof.Machine
end

section
/-! Settles O51: CLEAR_HOLDS, CLEAR_ERROR and CLEAR_LINK. -/

namespace Sys2Proof.Machine

/-- R46: a selection that CLEAR_HOLDS takes. -/
theorem holdSelection_legal_iff (sel : HoldSelection) : HoldSelection.legal sel = true ↔ match sel with
    | .all => True
    | .furnace (.val _) .all => True
    | .furnace (.val _) (.set l) => l ≠ [] ∧ ∀ n ∈ l, n ∈ placementHoldNames
    | .counter (.val _) .all => True
    | .counter (.val _) (.set l) => l ≠ [] ∧ ∀ n ∈ l, n ∈ counterHoldNames
    | _ => False := by
  cases sel with
  | all => exact iff_of_true rfl trivial
  | furnace c names =>
    cases c with
    | bad raw => simp [HoldSelection.legal, Code.good]
    | val k => cases names <;> simp [HoldSelection.legal, Code.good, HoldNames.legal]
  | counter c names =>
    cases c with
    | bad raw => simp [HoldSelection.legal, Code.good]
    | val k => cases names <;> simp [HoldSelection.legal, Code.good, HoldNames.legal]
  | badForm raw => simp [HoldSelection.legal]

/-- R187: a command that its owning rule refuses ILLEGAL_VALUE is answered so whatever its form. -/
theorem command_illegal {c : Instr} {h : Hdr} {own : State → CommandResult} {s : State} (hm : Managed s h)
    (ho : own s = .error (.illegalValue, .none)) : powered (manage c Kind.command h (takeCommand h own)) s =
      .next (respond h Kind.command .illegalValue none .none s) := by
  cases hf : formFits c with
  | false => exact command_unfit hm hf
  | true => exact command_refused hm hf ho

/-- R46: what the clearing of a selection leaves. -/
theorem clearSelected_eq (sel : HoldSelection) (s : State) : clearSelected sel s =
    { s with place := (clearSelected sel s).place, counters := (clearSelected sel s).counters } := by
  unfold clearSelected
  obtain ⟨c, hc⟩ := clearCounter_eq (selectedCounter sel) (clearPlacement (selectedPlacement sel) s)
  obtain ⟨p, hp⟩ := clearPlacement_eq (selectedPlacement sel) s
  rw [hc, hp]
  rfl

/-- Settles O51: the holds through the list of a selection, the latch and the flags by their fields. -/
theorem clearCommands : Obligations.ClearCommands := by
  intro h s hm placement counter
  refine ⟨fun sel => ?holds, fun hf => ?latch, fun sel hf => ?links, fun raw => command_illegal hm rfl⟩
  case holds =>
    intro taken ofFurnace ofCounter isSet cleared answered
    have legal : HoldSelection.legal sel = true ↔ taken := holdSelection_legal_iff sel
    refine ⟨fun hf ht => ?_, fun hn => command_illegal hm (if_pos ?_)⟩
    · have set (c : CounterId) (n : HoldName) : (s.counters.get c).hold c n = isSet c n := by
        cases n with
        | homeDeviation => cases c <;> rfl
        | _ => rfl
      have listed : selectedSet s sel = cleared := by
        rw [selectedSet_eq]
        simp only [set]
        rfl
      have own : ownClearHolds sel s = .ok (.clearedHolds cleared, clearSelected sel) := by
        rw [← listed]
        exact if_neg (by rw [legal.2 ht]; decide)
      have only := respond_linksOnly h Kind.command .ok none (.clearedHolds cleared) s
      refine ⟨_, command_taken hm hf own, clearSelected_eq .., fun k => ?_, fun c => ?_⟩
      · obtain ⟨stroke, holds⟩ := clearPlacement_place (selectedPlacement sel) answered k
        unfold clearSelected
        rw [clearCounter_place]
        refine ⟨stroke.trans (by rw [only.place]), fun n hn => (holds n).trans ?_⟩
        rw [contains_selectedPlacement sel k hn, only.place]
        rfl
      · have cleared := clearCounter_counters (selectedCounter sel) (clearPlacement (selectedPlacement sel) answered) c
        rw [clearPlacement_counters, only.counters, contains_selectedCounter sel c (by decide),
          contains_selectedCounter sel c (by decide)] at cleared
        exact cleared
    · rw [Bool.not_eq_true', ← Bool.not_eq_true, legal]
      exact hn
  case latch =>
    have only := respond_linksOnly h Kind.command .ok none (.clearedLatch s.mgmt.latch) s
    refine (command_taken hm hf (own := ownClearError) rfl).trans ?_
    rw [setLatch, only.mgmt]
    rfl
  case links =>
    refine ⟨_, command_taken hm hf (own := ownClearLink (.val sel)) rfl, rfl, ?_, ?_, ?_⟩
    · have station := respond_station h Kind.command .ok none (.clearedFlags (flagsOf sel s.links)) s
      cases sel <;> exact station
    · cases sel <;> rfl
    · cases sel <;> rfl

end Sys2Proof.Machine
end

section
/-! Settles O52: HEARTBEAT, the supervision and status timers, the seconds clock and the STATUS (R194 to R196). -/

namespace Sys2Proof.Machine

/-! ### HEARTBEAT (R194) -/

section
variable {h : Hdr} {s : State}

theorem formFits_heartbeat (h : Hdr) : formFits (.heartbeat h) = (h.length == 0) := by
  unfold formFits
  simp [Instr.fieldsLength, Instr.fields, Instr.parts, Instr.entriesStand, Instr.fieldsOpen, fieldBytes, tel]

theorem exec_heartbeat (hm : Managed s h) : exec (.heartbeat h) s = .next (takeHeartbeat h (h.length == 0) s) := by
  refine (powered_on _ _ hm.1.1).trans (congrArg _ ?_)
  rw [manage_of_managed (by decide) hm, formFits_heartbeat]

theorem exec_rawHeartbeat (hm : Managed s h) (body : RawBody) :
    exec (.malformedTelegram ⟨h, Kind.heartbeat, body⟩) s = .next (takeHeartbeat h (h.length == 0) s) := by
  obtain ⟨hr, port, hd⟩ := hm
  refine (exec_malformedTelegram hr.1).trans (congrArg _ ?_)
  refine (arrive_addressed hr hd).trans ?_
  unfold takeAddressed
  rw [if_pos (show isManagement Kind.heartbeat = true by decide), port]
  rfl

theorem beat_ok (hs : s.mgmt.supervision ≠ .lost) : beat s = putSupervision s.freshSupervision s := by
  unfold beat
  cases h : s.mgmt.supervision with
  | ok p l => rfl
  | lost => exact absurd h hs

theorem beat_lost (hs : s.mgmt.supervision = .lost) :
    beat s = finish (markGrid (markStarts (raise .supervisionOk (putSupervision s.freshSupervision s)))) := by
  unfold beat
  rw [hs]

end

/-! ### The timers (R194, R195) -/

section
variable {n : Nat} {s : State}

theorem elapse_mgmt (h : s.ret.mode ≠ .retain) : (elapse n s).mgmt = { s.mgmt with
    supervision := s.mgmt.supervision.elapse n, statusTimer := s.mgmt.statusTimer.map (· - n) } := by
  unfold elapse
  rw [if_neg h]
  rfl

theorem supervisionOut_retain (h : s.ret.mode = .retain) : supervisionOut s = none := by
  unfold supervisionOut
  split
  · rfl
  · exact if_neg fun out => out.2 h

theorem supervisionOut_elapse (h : s.ret.mode ≠ .retain) (p : Nat) : supervisionOut (elapse n s) = some p ↔
    ∃ left, s.mgmt.supervision = .ok p left ∧ left ≤ n := by
  unfold supervisionOut
  rw [elapse_mgmt h, elapse_ret]
  cases s.mgmt.supervision with
  | lost => simp [Supervision.elapse]
  | ok q left => simp [Supervision.elapse, h, Nat.sub_eq_zero_iff_le, and_comm]

theorem exec_supervisionTimeout_out (hp : s.power = true) {p : Nat} (h : supervisionOut (elapse n s) = some p) :
    exec (.supervisionTimeout n) s = .next (finish (takeSupervisionExpiry p (elapse n s))) := by
  change execSupervisionTimeout n s = _
  unfold execSupervisionTimeout
  rw [powered_on _ _ hp]
  dsimp only
  rw [h]

theorem exec_supervisionTimeout_early (hp : s.power = true) (h : supervisionOut (elapse n s) = none) :
    exec (.supervisionTimeout n) s = .next (elapse n s) := by
  change execSupervisionTimeout n s = _
  unfold execSupervisionTimeout
  rw [powered_on _ _ hp]
  dsimp only
  rw [h]

theorem statusDue_elapse : statusDue (elapse n s) = true ↔
    s.ret.mode ≠ .retain ∧ ∃ left, s.mgmt.statusTimer = some left ∧ left ≤ n := by
  unfold statusDue
  rw [elapse_ret, Bool.and_eq_true, bne_iff_ne, and_comm]
  refine and_congr_right fun h => ?_
  rw [elapse_mgmt h]
  cases s.mgmt.statusTimer with
  | none => simp
  | some left => simp [Nat.sub_eq_zero_iff_le]

theorem exec_statusTimerExpiry (hp : s.power = true) : exec (.statusTimerExpiry n) s =
    .next (if statusDue (elapse n s) then takeStatusExpiry (elapse n s) else elapse n s) := by
  change execStatusTimerExpiry n s = _
  unfold execStatusTimerExpiry
  rw [powered_on _ _ hp]

end

/-! ### The quantities (R196) -/

/-- R25: a row holds one slab, or two side by side. -/
theorem slabCount_eq (m : FurnaceMap) : (m.slabCount : Int) = m.rows.length
    + (m.rows.filter fun r => match r.occ with | .ab .. => true | _ => false).length := by
  have rows (l : List Row) : (l.flatMap Row.slabs).length = l.length
      + (l.filter fun r => match r.occ with | .ab .. => true | _ => false).length := by
    induction l with
    | nil => rfl
    | cons r l ih =>
      rw [List.flatMap_cons, List.length_append, ih, List.filter_cons]
      cases h : r.occ <;> simp [Row.slabs, Occupancy.slabs, h] <;> omega
  exact_mod_cast rows m.rows

theorem firstFront_eq (m : FurnaceMap) :
    m.firstFront = match m.rows.head? with | none => 0 | some r => r.front := by
  unfold FurnaceMap.firstFront
  cases m.rows <;> rfl

theorem chargeEnd_eq (m : FurnaceMap) :
    m.chargeEnd = match m.rows.getLast? with | none => 0 | some r => r.front - r.extent := by
  unfold FurnaceMap.chargeEnd FurnaceMap.last
  cases m.rows.getLast? <;> rfl

theorem supervisionOk_eq (x : Supervision) : x.isOk = decide (x ≠ .lost) := by
  cases x <;> simp [Supervision.isOk]

/-- Settles O52: HEARTBEAT by the supervision it finds, the timers by their time left, the header and the quantities
field by field. -/
theorem supervisionStatusAndClock : Obligations.SupervisionStatusAndClock := by
  refine ⟨⟨fun h s hm => ?beats, fun n s hp => ?timers⟩, fun s => ⟨?header, ?quantities⟩⟩
  case beats =>
    intro answered fresh
    have only : LinksOnly s answered := respond_linksOnly ..
    have period : answered.freshSupervision = fresh := congrArg
      (fun p => Supervision.ok p (1000 * p)) (congrArg (fun c => c.settings.supervisionPeriod) only.cfg)
    have beats (h0 : h.length = 0) : exec (.heartbeat h) s = .next (beat answered) := by
      rw [exec_heartbeat hm, takeHeartbeat, h0]
      rfl
    refine ⟨fun h0 hs => ?_, fun h0 hs => ?_, fun h0 => ?_, fun body => ?_⟩
    · rw [beats h0, beat_ok (by rw [only.mgmt]; exact hs), putSupervision, period, only.mgmt]
      rfl
    · rw [beats h0, beat_lost (by rw [only.mgmt]; exact hs), putSupervision, period, only.mgmt]
      let w : State := { answered with mgmt := { s.mgmt with supervision := fresh } }
      have due : (raise .supervisionOk w).due = s.due := by
        rw [raise_eq]
        exact only.due
      change Host.Outcome.next (finish { raise .supervisionOk w with
        due := { (raise .supervisionOk w).due with start := ⟨true, true⟩, gridEval := true } }) = _
      rw [due]
    · have some : (h.length == 0) = false := beq_false_of_ne h0
      rw [exec_heartbeat hm, takeHeartbeat, some]
      rfl
    · rw [exec_rawHeartbeat hm, exec_heartbeat hm]
  case timers =>
    intro t
    refine ⟨fun p left hm hs hn => ?_, fun h => ?_, fun left hm hs hn => ?_, fun h => ?_, ?_⟩
    · exact exec_supervisionTimeout_out hp ((supervisionOut_elapse hm p).2 ⟨left, hs, hn⟩)
    · refine exec_supervisionTimeout_early hp ?_
      by_cases hm : s.ret.mode = .retain
      · exact supervisionOut_retain ((elapse_ret ..).symm ▸ hm)
      · refine Option.eq_none_iff_forall_ne_some.2 fun p hout => ?_
        obtain ⟨left, hs, hn⟩ := (supervisionOut_elapse hm p).1 hout
        rcases h.resolve_left hm with hl | ⟨q, l, hl, hlt⟩
        · exact nomatch hs.symm.trans hl
        · obtain ⟨rfl, rfl⟩ := Supervision.ok.inj (hs.symm.trans hl)
          omega
    · rw [exec_statusTimerExpiry hp, if_pos (statusDue_elapse.2 ⟨hm, left, hs, hn⟩)]
      have only : LinksOnly t (sendStatus t) := sendOwn_linksOnly ..
      have cfg : t.cfg = s.cfg := elapse_cfg n s
      rw [← cfg]
      change Host.Outcome.next { sendStatus t with
        mgmt := { (sendStatus t).mgmt with statusTimer := some (sendStatus t).cfg.settings.statusPeriod } } = _
      rw [only.mgmt, only.cfg]
      rfl
    · rw [exec_statusTimerExpiry hp, if_neg]
      rw [statusDue_elapse]
      rintro ⟨hm, left, hs, hn⟩
      rcases h.resolve_left hm with hl | ⟨l, hl, hlt⟩
      · exact nomatch hs.symm.trans hl
      · obtain rfl := Option.some.inj (hs.symm.trans hl)
        omega
    · change execSecondsClockStep n s = _
      unfold execSecondsClockStep
      rw [powered_on _ _ hp]
      dsimp only
      rw [elapse_ret]
      rfl
  case header =>
    rw [← supervisionOk_eq]
    rfl
  case quantities =>
    intro depth rows slabs first trailing
    have slabs_eq (m : FurnaceMap) : slabs m = m.slabCount := (slabCount_eq m).symm
    have first_eq (m : FurnaceMap) : first m = m.firstFront := (firstFront_eq m).symm
    have trailing_eq (m : FurnaceMap) : trailing m = m.chargeEnd := (chargeEnd_eq m).symm
    rw [slabs_eq, slabs_eq, first_eq, first_eq, trailing_eq, trailing_eq]
    rfl

end Sys2Proof.Machine
end

section
/-! Settles O54: the marker edges and the speed gates (R140, R141, R143). -/

namespace Sys2Proof.Machine

section
variable {k : Furnace} {rising : Bool} {s : State}

theorem directionFits_iff (d : HomeDirection) (x : Option Direction) : directionFits d x = true ↔ match d with
    | .positive => x = some .forward
    | .negative => x = some .reverse
    | .either => True := by
  rcases d with _ | _ | _ <;> rcases x with _ | _ | _ <;> simp [directionFits]

theorem qualifies_iff (setup : CounterSetup) (x : Counter) : qualifies setup x rising = true ↔
    setup.markerUse = .home ∧ setup.edgeRising = rising ∧ directionFits setup.homeDirection x.lastDir = true := by
  unfold qualifies
  rw [Bool.and_eq_true, Bool.and_eq_true, beq_iff_eq, beq_iff_eq, and_assoc]

theorem markerEdge_taken (c : CounterId) (hp : s.power = true) :
    exec (.markerEdge c rising) s = .next (finish (takeMarker c rising s)) :=
  powered_on (fun s => finish (takeMarker c rising s)) _ hp

theorem takeMarker_carriage : takeMarker (carriage k) rising s =
    if qualifies (s.cfg.counterSetup.get (carriage k)) (s.counters.get (carriage k)) rising then
      if (s.counters.get (carriage k)).homed then homeAgain (carriage k) (s.cfg.counterSetup.get (carriage k)) s
      else homeFirst (carriage k) k (s.cfg.counterSetup.get (carriage k)) s
    else s := by
  have furnace : furnaceOf (carriage k) = some k := by cases k <;> rfl
  unfold takeMarker State.counter
  rw [furnace]
  dsimp only
  cases qualifies (s.cfg.counterSetup.get (carriage k)) (s.counters.get (carriage k)) rising <;> rfl

end

section
variable {c : CounterId} {n : Nat} {s : State}

theorem exec_gateEnd (hp : s.power = true) : exec (.gateEnd c n) s =
    .next (if gateOver c (elapse n s) then finish (takeGateEnd c (elapse n s)) else elapse n s) := by
  change execGateEnd c n s = _
  unfold execGateEnd
  rw [powered_on _ _ hp]

theorem gateOver_elapse : gateOver c (elapse n s) = true ↔ (s.counters.get c).gateLeft ≤ n := by
  have left : ((elapse n s).counters.get c).gateLeft = (s.counters.get c).gateLeft - n := by
    unfold elapse
    split <;> cases c <;> rfl
  unfold gateOver State.counter
  rw [left, beq_iff_eq, Nat.sub_eq_zero_iff_le]

end

/-- Settles O54: the marker by whether its edge qualifies and the counter is HOMED, the gate by its time left. -/
theorem markerAndGate : Obligations.MarkerAndGate := by
  refine ⟨fun k rising s hp => ?marker, fun c n s hp => ?gate⟩
  case marker =>
    intro c x setup home fits qualifies loaded d
    have qualified : Machine.qualifies setup x rising = true ↔ qualifies :=
      (qualifies_iff ..).trans (and_congr_right fun _ => and_congr_right fun _ => directionFits_iff ..)
    have taken : exec (.markerEdge c rising) s = _ := markerEdge_taken c hp
    rw [takeMarker_carriage] at taken
    refine ⟨fun hq hh => ?_, fun hq hh ht => ?_, fun hq hh ht => ?_, fun hq => ?_, ?_⟩
    · rw [taken, if_pos (qualified.2 hq), if_neg (Bool.eq_false_iff.1 hh)]
      rfl
    · have again : homeAgain c setup s = _ := if_neg (not_lt.2 ht)
      rw [taken, if_pos (qualified.2 hq), if_pos hh, again]
      rfl
    · have again : homeAgain c setup s = _ := if_pos ht
      rw [taken, if_pos (qualified.2 hq), if_pos hh, again]
      rfl
    · rw [taken, if_neg (mt qualified.1 hq)]
    · exact markerEdge_taken .t hp
  case gate =>
    intro t x period
    refine ⟨fun h => ?_, fun h => ?_⟩
    · rw [exec_gateEnd hp, if_pos (gateOver_elapse.2 h)]
      have same : (t.cfg.counterSetup.get c).gatePeriod = period := by rw [elapse_cfg]
      change Host.Outcome.next (finish (t.setCounter c (x.endGate (t.cfg.counterSetup.get c).gatePeriod))) = _
      rw [same]
      rfl
    · rw [exec_gateEnd hp, if_neg (mt gateOver_elapse.1 (not_le.2 h))]

end Sys2Proof.Machine
end

section
/-! Settles O55: the transitions of the sensor inputs (R100, R146, R147). -/

namespace Sys2Proof.Machine

/-! ### What an edge leaves unchanged -/

namespace BlockClosed

variable {R : State → State → Prop} (c : BlockClosed R)
include c

theorem headEdge (i : SensorId) (capture : Int) (s : State) : R s (Machine.headEdge i capture s) := by
  unfold Machine.headEdge Machine.acceptHead Machine.refuseHead Machine.openMeasurement
  dsimp only
  split
  · exact c.raise ..
  · split
    · exact c.raise ..
    · split
      · split
        · exact c.trans (c.trans (c.updateRecord ..) (c.setTracker ..)) (c.markList _)
        · exact c.trans (c.updateRecord ..) (c.markList _)
      · exact c.trans (c.trans (c.updateRecord ..) (c.raise ..)) (c.trackerHold ..)

theorem tailEdge (capture : Int) (s : State) : R s (Machine.tailEdge capture s) := by
  have length (r : TableRecord) (len : Int) (o : LengthOutcome) (t : State) : R t (Machine.applyLength r len o t) := by
    unfold Machine.applyLength
    split
    · exact c.trackerHold ..
    · exact c.trans (c.trans (c.updateRecord ..) (c.markList _)) (c.trackerHold ..)
    · exact c.trans (c.updateRecord ..) (c.markList _)
  unfold Machine.tailEdge Machine.endMeasurement
  dsimp only
  split
  · exact c.raise ..
  · split
    · exact c.setTracker ..
    · exact c.trans (c.trans (c.setTracker ..) (length ..)) (c.raise ..)

theorem gpEdge (rising : Bool) (travel : Int) (s : State) : R s (Machine.gpEdge rising travel s) := by
  have watched : R s (Machine.markList (Machine.evalPresenceAt travel s)) := c.trans (c.evalPresenceAt ..) (c.markList _)
  unfold Machine.gpEdge Machine.overdueGone
  dsimp only
  split
  · exact watched
  · split
    · exact watched
    · split
      · exact c.trans (c.trans watched (c.withdrawGrant ..)) (c.raise ..)
      · exact watched

theorem trackEdge (i : SensorId) (rising : Bool) (capture : Int) (dir : Option Direction) (s : State) :
    R s (Machine.trackEdge i rising capture dir s) := by
  cases i with
  | gp => exact c.gpEdge ..
  | te =>
    unfold Machine.trackEdge Machine.teEdge
    dsimp only
    split
    · exact c.tableEnd ..
    · exact c.refl s
  | ms =>
    unfold Machine.trackEdge
    dsimp only
    split
    · exact c.refl s
    · split
      · exact c.headEdge ..
      · exact c.tailEdge ..
  | d1 | d2 =>
    unfold Machine.trackEdge
    dsimp only
    split
    · exact c.refl s
    · exact c.headEdge ..

end BlockClosed

/-- R147: the parts of a state that no edge changes. -/
structure EdgeKept (s t : State) : Prop where
  sensors : t.sensors = s.sensors
  maps : t.maps = s.maps
  schedule : t.schedule = s.schedule
  cfg : t.cfg = s.cfg
  counters : t.counters = s.counters
  mgmt : t.mgmt = s.mgmt

theorem EdgeKept.trans {s t u : State} (h : EdgeKept s t) (g : EdgeKept t u) : EdgeKept s u :=
  ⟨g.sensors.trans h.sensors, g.maps.trans h.maps, g.schedule.trans h.schedule, g.cfg.trans h.cfg,
    g.counters.trans h.counters, g.mgmt.trans h.mgmt⟩

theorem edgeKept_blockClosed : BlockClosed EdgeKept where
  refl s := ⟨rfl, rfl, rfl, rfl, rfl, rfl⟩
  trans h g := h.trans g
  sendOwn p d r b s := by
    have only := sendOwn_linksOnly p d r b s
    exact ⟨only.sensors, only.maps, only.schedule, only.cfg, only.counters, only.mgmt⟩
  holdEvent e s := by
    unfold holdEvent
    split <;> exact ⟨rfl, rfl, rfl, rfl, rfl, rfl⟩
  setGrid _ _ := ⟨rfl, rfl, rfl, rfl, rfl, rfl⟩
  setTracker _ _ := ⟨rfl, rfl, rfl, rfl, rfl, rfl⟩
  setArb _ _ := ⟨rfl, rfl, rfl, rfl, rfl, rfl⟩
  setSeqs _ _ := ⟨rfl, rfl, rfl, rfl, rfl, rfl⟩
  setPlace _ _ := ⟨rfl, rfl, rfl, rfl, rfl, rfl⟩
  setWindows _ _ := ⟨rfl, rfl, rfl, rfl, rfl, rfl⟩
  setDue _ _ := ⟨rfl, rfl, rfl, rfl, rfl, rfl⟩

/-! ### A transition and the filter (R146) -/

section
variable {i : SensorId} {e : Bool} {s : State}

theorem rawTransition_done (hp : s.power = true) :
    exec (.rawTransition i e) s = .next (finish (rawTransition i e s)) :=
  powered_on (fun s => finish (rawTransition i e s)) _ hp

theorem rawTransition_same (h : (s.sensors.get i).electrical = e) : rawTransition i e s = s := if_pos h

theorem rawTransition_changed (h : (s.sensors.get i).electrical ≠ e) : rawTransition i e s =
    if (e != (s.cfg.sensorSetup.get i).invert) = (s.sensors.get i).taken then
      s.setSensor i { s.sensors.get i with electrical := e, pending := none }
    else if (s.cfg.sensorSetup.get i).filterTime = 0 then
      takeChange i { level := e != (s.cfg.sensorSetup.get i).invert, held := 0, capture := s.counters.t.acc,
                     dir := s.counters.t.lastDir } (s.setSensor i { s.sensors.get i with electrical := e })
    else s.setSensor i { s.sensors.get i with electrical := e
                                              pending := some { level := e != (s.cfg.sensorSetup.get i).invert, held := 0,
                                                                capture := s.counters.t.acc, dir := s.counters.t.lastDir } } :=
  if_neg h

theorem filterTimeElapsed_early {n : Nat} (hp : s.power = true)
    (h : ∀ p, (s.sensors.get i).pending = some p → p.held + n < (s.cfg.sensorSetup.get i).filterTime) :
    exec (.filterTimeElapsed i n) s = .next (elapse n s) := by
  have sensor : ((elapse n s).sensor i).pending = (s.sensors.get i).pending.map fun p => { p with held := p.held + n } := by
    unfold elapse State.sensor
    split <;> cases i <;> rfl
  have none : (elapse n s).changeReady i = none := by
    unfold State.changeReady
    rw [sensor]
    cases hq : (s.sensors.get i).pending with
    | none => rfl
    | some p =>
      rw [elapse_cfg]
      exact if_neg (not_le.2 (h p hq))
  change execFilterTimeElapsed i n s = _
  unfold execFilterTimeElapsed
  rw [powered_on _ _ hp]
  dsimp only
  rw [none]

end

/-! ### The edges at TE (R100) -/

section
variable {u : State} {travel : Int}

theorem teEdge_rises (hm : u.ret.mode ≠ .retain) : teEdge true travel u = tableEnd travel u :=
  if_pos (by rw [Bool.true_and, bne_iff_ne]; exact hm)

theorem teEdge_retain (hm : u.ret.mode = .retain) : teEdge true travel u = u :=
  if_neg (by rw [hm]; decide)

theorem tableEnd_still (h : u.arb.motion = .still) : tableEnd travel u = raise (.tableEnd travel u.arb.motion) u := by
  have motion : (raise (.tableEnd travel u.arb.motion) u).arb.motion = .still := by rw [raise_eq]; exact h
  unfold tableEnd sendHalt
  rw [motion]
  rfl

theorem tableEnd_moving (h : u.arb.motion ≠ .still) : tableEnd travel u =
    sendField .tableDrive 0 (.tableHalt u.arb.motion.number .tableEnd) (raise (.tableEnd travel u.arb.motion) u) := by
  have motion : (raise (.tableEnd travel u.arb.motion) u).arb.motion = u.arb.motion := by rw [raise_eq]
  have moving : u.arb.motion.moving = true := by
    rw [← Bool.not_eq_false, moving_eq_false_iff]
    exact h
  unfold tableEnd sendHalt
  rw [motion, moving]
  rfl

end

/-- Settles O55: the transition by what it does to the pending change, the edges at TE by the motion. -/
theorem sensorTransitions : Obligations.SensorTransitions := by
  refine ⟨fun i e s hp => ?raw, fun i n s hp => ?filter, ?table⟩
  case raw =>
    intro setup x level done
    have taken : done = _ := rawTransition_done hp
    refine ⟨fun he => ?_, fun he hl => ?_, fun he hl hf => ?_, fun he hl hf => ?_⟩
    · rw [taken, rawTransition_same he]
    all_goals rw [rawTransition_changed he] at taken
    · rw [taken, if_pos hl]
      rfl
    · rw [taken, if_neg hl, if_neg hf]
      rfl
    · rw [if_neg hl, if_pos hf] at taken
      have kept := edgeKept_blockClosed.trackEdge i level s.counters.t.acc s.counters.t.lastDir { s with
        sensors := (s.sensors.set i { x with electrical := e }).set i
          { (s.sensors.set i { x with electrical := e }).get i with
            taken := level, pending := none, latest := s.counters.t.acc
            previous := ((s.sensors.set i { x with electrical := e }).get i).latest } }
      refine ⟨_, taken, kept.sensors.trans ?_, kept.maps, kept.schedule, kept.cfg, kept.counters, kept.mgmt⟩
      cases i <;> rfl
  case filter =>
    intro t x
    refine ⟨fun p hq hf => ?_, fun h => filterTimeElapsed_early hp h⟩
    have kept := edgeKept_blockClosed.trackEdge i p.level p.capture p.dir { t with
      sensors := t.sensors.set i { x with taken := p.level, pending := none, latest := p.capture, previous := x.latest } }
    refine ⟨_, filterTimeElapsed_taken hp hq hf, kept.sensors, kept.maps.trans ?_, kept.schedule.trans ?_,
      kept.cfg.trans (elapse_cfg n s), kept.counters, kept.mgmt⟩
    · exact elapse_maps n s
    · exact elapse_schedule n s
  case table =>
    intro rises
    have rising {done : Host.Outcome State Fault Refusal} {u : State} {travel : Int}
        (h : done = .next (finish (teEdge true travel u))) : rises done u travel := by
      refine ⟨fun hm hs => ?_, fun hm hs => ?_, fun k n w hm hs => ?_, fun hm => ?_⟩
      · rw [h, teEdge_rises hm, tableEnd_still hs]
      · rw [h, teEdge_rises hm, tableEnd_moving (by rw [hs]; exact Motion.noConfusion), hs]
        rfl
      · rw [h, teEdge_rises hm, tableEnd_moving (by rw [hs]; exact Motion.noConfusion), hs]
        rfl
      · rw [h, teEdge_retain hm]
    refine ⟨fun s hp hf => ?_, fun n p s hp hq hf => ?_⟩
    · intro inv shown
      refine ⟨fun ht he => rising ?_, fun ht he => ?_⟩
      · have shows := rawTransition_shown (i := .te) (b := true) hp hf ht (he.trans (Bool.false_bne inv).symm)
        rw [← Bool.true_bne inv]
        exact shows
      · have shows := rawTransition_shown (i := .te) (b := false) hp hf ht (he.trans (Bool.true_bne inv).symm)
        rw [← Bool.false_bne inv]
        exact shows
    · intro t shown done
      have taken : done = .next (finish (teEdge p.level (roundMm p.capture) shown)) := filterTimeElapsed_taken hp hq hf
      refine ⟨fun hl => rising ?_, fun hl => ?_⟩
      · rw [taken, hl]
      · rw [taken, hl]
        rfl

end Sys2Proof.Machine
end

section
/-! Settles O56: the levels of the lines (R153, R155, R156, R158, R160). -/

namespace Sys2Proof.Machine

/-! ### A window (R155, R158) -/

section
variable {x : LineSettings} {depth speed : Int} {st : SeqState} {target : Option Int} {w : Window}

/-- R155: the states in the order of their places in a state mask. -/
def maskStates : List SeqState := [.idle, .positioning, .room, .pick, .carry, .lower, .retract]

theorem maskPlace_iff (n : Nat) : maskPlace st = some n ↔ maskStates[n]? = some st := by
  rcases n with _ | _ | _ | _ | _ | _ | _ | n <;> cases st <;> simp [maskPlace, maskStates]

theorem inMask_iff (mask : BitVec 16) : inMask mask st = true ↔ ∃ n, maskStates[n]? = some st ∧ mask.getLsbD n = true := by
  unfold inMask
  cases h : maskPlace st with
  | none =>
    refine iff_of_false Bool.false_ne_true ?_
    rintro ⟨n, hn, -⟩
    exact nomatch h.symm.trans ((maskPlace_iff n).2 hn)
  | some m =>
    refine ⟨fun hm => ⟨m, (maskPlace_iff m).1 h, hm⟩, ?_⟩
    rintro ⟨n, hn, hl⟩
    obtain rfl := Option.some.inj (h.symm.trans ((maskPlace_iff n).2 hn))
    exact hl

theorem speedHolds_iff (c : SpeedCondition) : speedHolds x speed c = true ↔
    (c = .still → mag speed ≤ x.vStill) ∧ (c = .slow → mag speed ≤ x.vSlow) := by
  cases c <;> simp [speedHolds]

theorem spanBase_iff (basis : EdgeBasis) (b : Int) : spanBase target basis = some b ↔
    (basis = .fixed → b = 0) ∧ (basis = .target → target = some b) := by
  cases basis <;> simp [spanBase, eq_comm]

theorem satisfied_iff : w.satisfied x depth speed st target = true ↔ ∃ b n,
    (w.basis = .fixed → b = 0) ∧ (w.basis = .target → target = some b)
      ∧ b + w.on ≤ testedDepth x depth speed w ∧ testedDepth x depth speed w < b + w.off
      ∧ (w.speed = .still → mag speed ≤ x.vStill) ∧ (w.speed = .slow → mag speed ≤ x.vSlow)
      ∧ maskStates[n]? = some st ∧ w.mask.getLsbD n = true := by
  unfold Window.satisfied
  cases h : spanBase target w.basis with
  | none =>
    refine iff_of_false Bool.false_ne_true ?_
    rintro ⟨b, n, hf, ht, -⟩
    exact nomatch h.symm.trans ((spanBase_iff ..).2 ⟨hf, ht⟩)
  | some c =>
    simp only [Bool.and_eq_true, decide_eq_true_eq, speedHolds_iff, inMask_iff]
    constructor
    · rintro ⟨⟨⟨on, off⟩, still, slow⟩, n, state, bit⟩
      obtain ⟨hf, ht⟩ := (spanBase_iff ..).1 h
      exact ⟨c, n, hf, ht, on, off, still, slow, state, bit⟩
    · rintro ⟨b, n, hf, ht, on, off, still, slow, state, bit⟩
      obtain rfl := Option.some.inj (h.symm.trans ((spanBase_iff ..).2 ⟨hf, ht⟩))
      exact ⟨⟨⟨on, off⟩, still, slow⟩, n, state, bit⟩

end

/-! ### A line (R153, R156) -/

section
variable {s : State} {k : Furnace} {j : Nat}

theorem getElem?_lineLevels (h : j < 8) : (s.lineLevels k)[j]? = some (s.lineLevel k j) := by
  unfold State.lineLevels
  rw [List.getElem?_map, List.getElem?_range h]
  rfl

theorem mem_lineWindows (w : Window) : w ∈ s.lineWindows k j ↔
    ∃ i, i ∈ ((s.cfg.sets.get k)[8 * (s.seqs.get k).windowSet + j]?).getD [] ∧ s.cfg.pool[i]? = some (some w) := by
  unfold State.lineWindows State.seq
  rw [List.mem_filterMap, List.getD_eq_getElem?_getD]
  refine exists_congr fun i => and_congr_right fun _ => ?_
  rw [List.getD_eq_getElem?_getD]
  cases s.cfg.pool[i]? <;> simp

theorem target_eq_some (q : Sequencer) (b : Int) : q.target = some b ↔ ∃ c, q.cycle = some c ∧ c.target = some b :=
  Option.bind_eq_some_iff

theorem windowResult_iff : s.windowResult k j = true ↔ ∃ w ∈ s.lineWindows k j,
    w.satisfied (s.cfg.lineSettings.get k) (s.depth k) (s.counters.get (carriage k)).speed (s.seqs.get k).state
      (s.seqs.get k).target = true := List.any_eq_true

theorem lineLevel_stopped (h : s.ret.mode ≠ .run) : s.lineLevel k j = false := if_pos h

theorem lineLevel_offline (h : (s.seqs.get k).state = .offline) : s.lineLevel k j = false := by
  unfold State.lineLevel
  split
  · rfl
  · exact if_pos h

theorem lineLevel_unhomed (h : (s.counters.get (carriage k)).homed = false) : s.lineLevel k j = false := by
  have unhomed : s.homed k = false := h
  unfold State.lineLevel
  split
  · rfl
  split
  · rfl
  · exact if_pos (by rw [unhomed]; rfl)

theorem lineLevel_running (hm : s.ret.mode = .run) (hh : (s.counters.get (carriage k)).homed = true)
    (ho : (s.seqs.get k).state ≠ .offline) : s.lineLevel k j =
      if (s.seqs.get k).state = .held then (match (s.windows.get k).stopped with | none => false | some l => l.getD j false)
      else s.windowResult k j := by
  have homed : s.homed k = true := hh
  refine (if_neg (not_not.2 hm)).trans ((if_neg ho).trans ((if_neg ?_).trans rfl))
  rw [homed]
  decide

end

/-! ### The stopped levels (R160) -/

theorem releaseHold_windows (k : Furnace) (s : State) : (releaseHold k s).windows = s.windows := by
  unfold releaseHold
  split <;> rfl

theorem withdrawWaiting_windows (k : Furnace) (s : State) : (withdrawWaiting k s).windows = s.windows := by
  unfold withdrawWaiting
  split <;> rfl

theorem enterHeld_windows (k : Furnace) (cause : HeldCause) (fault : Option Nat) (s : State) :
    (enterHeld k cause fault s).windows =
      s.windows.set k { s.windows.get k with stopped := some (s.stoppedLevels k) } := by
  unfold enterHeld
  dsimp only
  rw [raise_eq]
  exact (withdrawWaiting_windows ..).trans (releaseHold_windows ..)

/-- Settles O56: the level by the first case that applies, the stopped levels at the entry into HELD. -/
theorem lineLevels : Obligations.LineLevels := by
  refine ⟨fun s k j hj => ?level, fun k cause fault s => ?stopped⟩
  case level =>
    intro q cc level x listed depth shift
    have here : level = some (s.lineLevel k j) := getElem?_lineLevels hj
    refine ⟨fun hm => ?_, fun ho => ?_, fun hh => ?_, fun hm hh hs l hl => ?_, fun hm hh ho hs => ?_⟩
    · rw [here, lineLevel_stopped hm]
    · rw [here, lineLevel_offline ho]
    · rw [here, lineLevel_unhomed hh]
    · have online : q.state ≠ .offline := fun h => nomatch hs.symm.trans h
      rw [here, lineLevel_running hm hh online, if_pos hs, hl]
    · rw [here, lineLevel_running hm hh ho, if_neg hs, Option.some.injEq, windowResult_iff]
      constructor
      · rintro ⟨w, hw, sat⟩
        obtain ⟨i, hi, hp⟩ := (mem_lineWindows w).1 hw
        obtain ⟨b, n, hf, ht, on, off, still, slow, state, bit⟩ := satisfied_iff.1 sat
        exact ⟨i, w, b, n, hi, hp, hf, fun h => (target_eq_some q b).1 (ht h), on, off, still, slow, state, bit⟩
      · rintro ⟨i, w, b, n, hi, hp, hf, ht, on, off, still, slow, state, bit⟩
        exact ⟨w, (mem_lineWindows w).2 ⟨i, hi, hp⟩,
          satisfied_iff.2 ⟨b, n, hf, fun h => (target_eq_some q b).2 (ht h), on, off, still, slow, state, bit⟩⟩
  case stopped =>
    rw [enterHeld_windows, PerFurnace.get_set]
    refine congrArg some (congrArg _ (congrArg (List.range 8).map (funext fun j => ?_)))
    cases (s.cfg.lineSettings.get k).stops.getD j .off <;> rfl

end Sys2Proof.Machine
end

section
/-! Settles O60: COLD_START (R151, R173, R186, R206). -/

namespace Sys2Proof.Machine

/-! ### What sending leaves of the links (R173, R186) -/

/-- R173, R186: the station address and whether each port is UP are the same. -/
structure LinksStand (s t : State) : Prop where
  station : t.links.station = s.links.station
  up : ∀ p, (t.links.port p).up = (s.links.port p).up

theorem LinksStand.refl (s : State) : LinksStand s s := ⟨rfl, fun _ => rfl⟩

theorem LinksStand.trans {s t u : State} (h : LinksStand s t) (g : LinksStand t u) : LinksStand s u :=
  ⟨g.station.trans h.station, fun p => (g.up p).trans (h.up p)⟩

theorem sendOwn_linksStand (p : Port) (d r : Nat) (b : OwnBody) (s : State) : LinksStand s (sendOwn p d r b s) := by
  refine ⟨sendOwn_station .., fun q => ?_⟩
  unfold sendOwn
  split
  · rfl
  · next st _ =>
    change ((s.links.setPort p ((s.links.port p).sendOwn _)).port q).up = _
    by_cases h : q = p
    · subst h
      rw [Links.port_setPort_self, PortState.sendOwn_up]
    · rw [Links.port_setPort_of_ne _ h]

theorem sendField_linksStand (r : Role) (n : Nat) (b : OwnBody) (s : State) : LinksStand s (sendField r n b s) := by
  unfold sendField
  split
  · exact .refl s
  · exact sendOwn_linksStand ..

theorem raise_linksStand (e : Event) (s : State) : LinksStand s (raise e s) := by
  by_cases hm : s.ret.mode = .run
  · rw [raise_run hm]
    exact sendOwn_linksStand ..
  · rw [raise_away hm]
    unfold holdEvent
    split <;> exact ⟨rfl, fun _ => rfl⟩

theorem presenceTold_linksStand (s : State) : LinksStand s (presenceTold s) := by
  unfold presenceTold
  split
  · exact raise_linksStand ..
  · exact .refl s

/-- R201: in RUN an event is sent, and the retention part stays as it is. -/
theorem raise_ret_run {e : Event} {s : State} (h : s.ret.mode = .run) : (raise e s).ret = s.ret := by
  rw [raise_run h]
  exact (sendOwn_linksOnly ..).ret

theorem presenceTold_ret_run {s : State} (h : s.ret.mode = .run) : (presenceTold s).ret = s.ret := by
  unfold presenceTold
  split
  · exact raise_ret_run h
  · rfl

end Sys2Proof.Machine

namespace Sys2Proof

open Machine

/-- Settles O60: the cold values, and the grid watch evaluated over them. -/
theorem coldStart : Obligations.ColdStart := by
  intro i s
  let w : State := { State.cold i with pending := s.pending }
  have fields := evalPresence_fields w
  dsimp only at fields
  have told := presenceTold_linksStand w
  have ret : (presenceTold w).ret = w.ret := presenceTold_ret_run rfl
  refine ⟨evalPresence w, rfl, ?_⟩
  rw [fields]
  refine ⟨rfl, rfl, ret, told.station, told.up .plant, told.up .yard, rfl, rfl, rfl, rfl, rfl, ?_, rfl, rfl, rfl, rfl, rfl,
    rfl, rfl, fun hgp => ?_⟩
  · have flag : (w.sensors.gp.taken && !w.zoneTaken && (w.tracker.unidentified || w.grid.grant.isNone)) = i.gp := by
      change (i.gp && true && true) = i.gp
      rw [Bool.and_true, Bool.and_true]
    rw [flag]
    rfl
  · have quiet : presenceTold w = w := if_neg (by
      change ¬ (i.gp && !w.zoneTaken && !w.tracker.unidentified && w.grid.grant.isNone) = true
      rw [hgp]
      exact Bool.false_ne_true)
    rw [quiet]
    exact ⟨rfl, rfl, rfl⟩

end Sys2Proof
end

section
/-! Settles O58: RESUME (R183, R203). -/

namespace Sys2Proof.Machine

theorem foldl_sendEvent_linksOnly (es : List Stamped) (s : State) :
    LinksOnly s (es.foldl (fun t e => sendEvent e t) s) :=
  foldl_linksOnly (fun _ _ => sendOwn_linksOnly ..) es s

section
variable {h : Hdr} {s : State}

/-- R183, R187: the RESPONSE takes a place of the plant queue where there is one. -/
theorem respond_queue (hm : Managed s h) (n : Nat) (c : RespCode) (x : Option Nat) (d : RespData) :
    (respond h n c x d s).links.plant.queue.length
        = s.links.plant.queue.length + min 1 (24 - s.links.plant.queue.length)
      ∧ (respond h n c x d s).links.plant.up = true := by
  obtain ⟨⟨-, up, -⟩, port, station⟩ := hm
  rw [port] at up
  have stand : (respond h n c x d s).links.plant.up = s.links.plant.up := (sendOwn_linksStand ..).up .plant
  refine ⟨?_, stand.trans up⟩
  unfold respond sendOwn
  rw [station]
  exact (PortState.sendOwns [_] s.links.plant up).1

/-- R203: RESUME in RESTORED. -/
theorem ownResume_restored (hr : s.ret.mode = .restored) :
    ownResume s = .ok (.resumed s.heldDelivered s.ret.overflow, resumeRun) := by
  unfold ownResume
  rw [hr]

theorem ownResume_refused (hr : s.ret.mode ≠ .restored) : ownResume s = .error (.wrongMode, .none) := by
  unfold ownResume
  cases h : s.ret.mode with
  | run => rfl
  | retain => rfl
  | restored => exact absurd h hr

end

/-- R203: the state that a RESUME leaves, behind its RESPONSE. -/
theorem resumeRun_eq {s t : State} (hl : LinksOnly s t) (hr : s.ret.mode = .restored) : resumeRun t =
    { sendEvent ⟨.modeChanged .restored .run s.ret.startKind, s.ret.clock⟩
        { s.ret.held.foldl (fun t e => sendEvent e t) t with
          ret := { s.ret with mode := .run, held := [], overflow := false } } with
      due := { s.due with start := ⟨true, true⟩, gridEval := true } } := by
  have delivered : deliverHeld t = s.ret.held.foldl (fun t e => sendEvent e t) t := by
    unfold deliverHeld
    rw [hl.ret]
  have only : LinksOnly s (deliverHeld t) := hl.trans (foldl_sendEvent_linksOnly ..)
  unfold resumeRun
  rw [← delivered]
  generalize deliverHeld t = u at only ⊢
  let w : State := { u with ret := { s.ret with mode := .run, held := [], overflow := false } }
  have sent : changeMode .run (clearHeldList u) = sendEvent ⟨.modeChanged .restored .run s.ret.startKind, s.ret.clock⟩ w := by
    unfold changeMode clearHeldList
    rw [raise_run rfl]
    change sendEvent ⟨.modeChanged u.ret.mode .run u.ret.startKind, u.ret.clock⟩
      { u with ret := { u.ret with mode := .run, held := [], overflow := false } } = _
    rw [only.ret, hr]
  have due : (sendEvent ⟨.modeChanged .restored .run s.ret.startKind, s.ret.clock⟩ w).due = s.due :=
    (sendOwn_linksOnly ..).due.trans only.due
  rw [sent, ← due]
  rfl

/-- Settles O58: the places of the plant queue counted, and the entry into RUN behind the entries. -/
theorem resume : Obligations.Resume := by
  intro h s hm hf
  refine ⟨fun hr => command_refused hm hf (ownResume_refused hr), fun hr => ?_⟩
  intro queued number answered delivered
  have only : LinksOnly s answered := respond_linksOnly ..
  obtain ⟨length, up⟩ := respond_queue hm Kind.command .ok none (.resumed number s.ret.overflow)
  have station : answered.links.station = some h.dest := (respond_station ..).trans hm.2.2
  obtain ⟨sent, discarded⟩ := PortState.sendOwns (s.ret.held.map fun e =>
    ownTelegram .plant h.dest answered.reportStation 0 (.event e)) answered.links.plant up
  have plant : delivered.links.plant = (s.ret.held.map fun e =>
      ownTelegram .plant h.dest answered.reportStation 0 (.event e)).foldl PortState.sendOwn answered.links.plant :=
    congrArg Links.plant (sendEvents_links s.ret.held answered station)
  rw [← plant, List.length_map] at sent discarded
  have grown : queued answered = queued s + min 1 (24 - queued s) := length
  have total : queued delivered = queued answered + min s.ret.held.length (24 - queued answered) := sent
  have free : 24 - queued answered = 23 - queued s := by omega
  rw [free] at total
  refine ⟨total, fun hn => ?_, fun hq h16 => ?_, ?_⟩
  · have lost : 24 - answered.links.plant.queue.length < s.ret.held.length := by
      have : number = min s.ret.held.length (23 - queued s) := rfl
      change 24 - queued answered < _
      omega
    rw [discarded, decide_eq_true lost, Bool.or_true]
  · have : number = min s.ret.held.length (23 - queued s) := rfl
    exact ⟨by omega, by omega⟩
  · refine (command_taken hm hf (ownResume_restored hr)).trans ?_
    exact congrArg (fun t => Host.Outcome.next (finish t)) (resumeRun_eq only hr)

end Sys2Proof.Machine
end

section
/-! Settles O59: RESET_TRACKING and RESET_ALL (R109, R134, R149, R186, R198, R204, R205). -/

namespace Sys2Proof.Machine

/-! ### What a reset sends (R109, R134) -/

/-- R204: the RESPONSE of a reset. -/
def resetAnswered (h : Hdr) (s : State) : State := respond h Kind.command .ok none .none s

/-- R134: the holder of a grant answered WITHDRAWN, behind the RESPONSE. -/
def resetHolder (h : Hdr) (s : State) : State :=
  match s.grid.grant with
  | none => resetAnswered h s
  | some g => answerCrane g.crane (some g.id) g.reference .withdrawnReset (resetAnswered h s)

/-- R134: the queued requests answered WITHDRAWN in grant order. -/
def resetQueued (h : Hdr) (s : State) : State :=
  (grantOrder s.schedule s.grid.queue).foldl
    (fun t q => answerCrane q.crane (some q.id) q.reference .withdrawnReset t) (resetHolder h s)

/-- R109: the halt of a reset behind the answers. -/
def resetSent (h : Hdr) (s : State) : State :=
  match s.arb.motion with
  | .still => resetQueued h s
  | .positioning _ n _ => sendField .tableDrive 0 (.tableHalt n .reset) (resetQueued h s)
  | .manual => sendField .tableDrive 0 (.tableHalt 0 .reset) (resetQueued h s)

section
variable (h : Hdr) (s : State)

theorem resetAnswered_linksOnly : LinksOnly s (resetAnswered h s) := respond_linksOnly ..

theorem resetHolder_linksOnly : LinksOnly s (resetHolder h s) := by
  unfold resetHolder
  split
  · exact resetAnswered_linksOnly h s
  · exact (resetAnswered_linksOnly h s).trans (sendField_linksOnly ..)

theorem resetQueued_linksOnly : LinksOnly s (resetQueued h s) :=
  (resetHolder_linksOnly h s).trans (foldl_linksOnly (fun _ _ => sendField_linksOnly ..) ..)

theorem resetSent_linksOnly : LinksOnly s (resetSent h s) := by
  unfold resetSent
  split
  · exact resetQueued_linksOnly h s
  · exact (resetQueued_linksOnly h s).trans (sendField_linksOnly ..)
  · exact (resetQueued_linksOnly h s).trans (sendField_linksOnly ..)

theorem foldl_linksStand {α : Type} {f : State → α → State} (hf : ∀ s x, LinksStand s (f s x)) (l : List α) (s : State) :
    LinksStand s (l.foldl f s) := by
  induction l generalizing s with
  | nil => exact .refl s
  | cons x l ih => exact (hf s x).trans (ih _)

theorem resetSent_linksStand : LinksStand s (resetSent h s) := by
  have answered : LinksStand s (resetAnswered h s) := sendOwn_linksStand ..
  have holder : LinksStand s (resetHolder h s) := by
    unfold resetHolder
    split
    · exact answered
    · exact answered.trans (sendField_linksStand ..)
  have queued : LinksStand s (resetQueued h s) :=
    holder.trans (foldl_linksStand (fun _ _ => sendField_linksStand ..) ..)
  unfold resetSent
  split
  · exact queued
  · exact queued.trans (sendField_linksStand ..)
  · exact queued.trans (sendField_linksStand ..)

theorem sendResetNotices_eq : sendResetNotices (resetAnswered h s) = resetSent h s := by
  have holder : withdrawHolder (resetAnswered h s) = resetHolder h s := by
    unfold withdrawHolder resetHolder
    cases hg : s.grid.grant <;> rw [(resetAnswered_linksOnly h s).grid, hg]
  have only := resetHolder_linksOnly h s
  have queued : withdrawQueued (resetHolder h s) = resetQueued h s := by
    unfold withdrawQueued State.gridOrder resetQueued
    rw [only.schedule, only.grid]
  unfold sendResetNotices
  rw [holder, queued]
  unfold sendHalt resetSent
  rw [(resetQueued_linksOnly h s).arb]
  cases s.arb.motion <;> rfl

end

/-! ### The checks of a reset (R204) -/

theorem resetRefused_iff (s : State) : resetRefused s = true ↔
    ∃ k, (s.seqs.get k).state ∈ [SeqState.pick, .carry, .lower, .retract] := by
  have busy (x : SeqState) : x.chargeBusy = true ↔ x ∈ [SeqState.pick, .carry, .lower, .retract] := by
    cases x <;> decide
  unfold resetRefused State.seq
  rw [Bool.or_eq_true, busy, busy]
  refine ⟨fun h => h.elim (fun h => ⟨.f1, h⟩) fun h => ⟨.f2, h⟩, fun ⟨k, h⟩ => ?_⟩
  cases k
  · exact .inl h
  · exact .inr h

/-! ### The presence flag behind a reset (R87) -/

/-- R87: with an empty list and no grant a fresh presence at GP is told. -/
theorem newlyUnidentified_empty {w : State} (ht : w.tracker.table = []) (hu : w.tracker.unidentified = false)
    (hg : w.grid.grant = none) : newlyUnidentified w = w.sensors.gp.taken ∧ w.zoneTaken = false := by
  have zone : w.zoneTaken = false := by
    unfold State.zoneTaken
    split
    · rfl
    · rw [ht]
      rfl
  refine ⟨?_, zone⟩
  unfold newlyUnidentified
  rw [zone, hu, hg]
  exact (Bool.and_true _).trans ((Bool.and_true _).trans (Bool.and_true _))

theorem evalPresence_reset {w : State} (ht : w.tracker.table = []) (hu : w.tracker.unidentified = false)
    (hg : w.grid.grant = none) : evalPresence w = { w with
      links := (presenceTold w).links, ret := (presenceTold w).ret
      tracker := { w.tracker with unidentified := w.sensors.gp.taken } } := by
  obtain ⟨-, zone⟩ := newlyUnidentified_empty ht hu hg
  have fields := evalPresence_fields w
  dsimp only at fields
  rw [zone, hu, hg] at fields
  have flag : (w.sensors.gp.taken && !false && (false || (Option.isNone (none : Option Grant)))) = w.sensors.gp.taken :=
    (Bool.and_true _).trans (Bool.and_true _)
  rw [flag] at fields
  exact fields

/-- R201: an event leaves the held list a beginning of the new one. -/
theorem held_prefix_raise (e : Event) (s : State) : s.ret.held <+: (raise e s).ret.held := by
  by_cases hm : s.ret.mode = .run
  · rw [raise_ret_run hm]
  · rw [raise_away hm]
    unfold holdEvent
    split
    · exact List.prefix_append ..
    · exact List.prefix_rfl

/-- R87, R201: what the event of a presence leaves of the retention part. -/
theorem presenceTold_retention (w : State) : (presenceTold w).ret.mode = w.ret.mode
    ∧ (presenceTold w).ret.clock = w.ret.clock ∧ (presenceTold w).ret.startKind = w.ret.startKind
    ∧ (presenceTold w).ret.backup = w.ret.backup ∧ w.ret.held <+: (presenceTold w).ret.held := by
  unfold presenceTold
  split
  · exact ⟨raise_mode .., raise_clock .., raise_startKind .., raise_backup .., held_prefix_raise ..⟩
  · exact ⟨rfl, rfl, rfl, rfl, List.prefix_rfl⟩

/-! ### RESET_TRACKING (R204) -/

section
variable (h : Hdr) (s : State)

/-- R204: the state that RESET_TRACKING leaves before the grid watch. -/
def trackingReset : State := clearCounterHolds (clearTracking (revertAll (resetSent h s)))

theorem trackingReset_eq : trackingReset h s = { s with
    links := (resetSent h s).links
    schedule := s.schedule.map fun e => { e with state := .planned }
    maps := ⟨.empty, .empty⟩
    tracker := { Tracker.cold with nextTag := s.tracker.nextTag }
    seqs := ⟨.offline, .offline⟩
    grid := .cold
    arb := { Arbiter.cold with nextMove := s.arb.nextMove }
    place := ⟨.cold, .cold⟩
    windows := ⟨{ s.windows.f1 with stopped := none }, { s.windows.f2 with stopped := none }⟩
    due := .none
    counters := (trackingReset h s).counters } := by
  obtain ⟨c, hc⟩ := clearCounter_eq (selectedCounter .all) (clearTracking (revertAll (resetSent h s)))
  unfold trackingReset clearCounterHolds
  rw [hc, resetSent_linksOnly h s]
  rfl

theorem trackingReset_counters (c : CounterId) : (trackingReset h s).counters.get c =
    { s.counters.get c with encoderError := false, homeDeviation := false } := by
  have cleared := clearCounter_counters (selectedCounter .all) (clearTracking (revertAll (resetSent h s))) c
  rw [contains_selectedCounter .all c (by decide), contains_selectedCounter .all c (by decide)] at cleared
  have kept : (clearTracking (revertAll (resetSent h s))).counters = s.counters := (resetSent_linksOnly h s).counters
  rw [kept] at cleared
  refine cleared.trans ?_
  change ({ s.counters.get c with
    encoderError := (s.counters.get c).encoderError && false
    homeDeviation := (s.counters.get c).homeDeviation && false } : Counter) = _
  rw [Bool.and_false, Bool.and_false]

end

/-! ### RESET_ALL (R205) -/

section
variable (h : Hdr) (s : State)

/-- R205: the state that RESET_ALL leaves before the grid watch. -/
def allReset : State := runAgain (coldBlocks (resetSent h s))

/-- R205: the queues behind RESET_ALL, its flags cleared, with the retention part it leaves. -/
def allCleared : State :=
  { resetSent h s with
    cfg := .default
    ret := { mode := .run, startKind := .cold, backup := s.ret.backup, clock := 0, held := [], overflow := false }
    links := { (resetSent h s).links with
      plant := { (resetSent h s).links.plant with linkOverrun := false, ownDiscarded := false }
      yard := { (resetSent h s).links.yard with linkOverrun := false, ownDiscarded := false } } }

/-- R205: MODE_CHANGED where the mode changes. -/
def allChanged : State :=
  if s.ret.mode = .run then allCleared h s else raise (.modeChanged s.ret.mode .run .cold) (allCleared h s)

theorem allReset_eq : allReset h s = { coldBlocks s with
    links := (allChanged h s).links
    ret := (allCleared h s).ret } := by
  have only := resetSent_linksOnly h s
  have ret : (resetSent h s).ret = s.ret := only.ret
  have blocks : coldBlocks (resetSent h s) = { coldBlocks s with links := (allCleared h s).links } := by
    unfold allCleared
    generalize resetSent h s = t at only ⊢
    rw [only]
    rfl
  have mode : (coldBlocks (resetSent h s)).ret.mode = s.ret.mode := by rw [blocks]; rfl
  unfold allReset runAgain allChanged
  rw [mode]
  split
  · next hm =>
    rw [blocks]
    unfold allCleared
    rw [← hm]
    rfl
  · next hm =>
    have lines : SameLines (allCleared h s) (putMode .run (coldBlocks (resetSent h s))) := by
      rw [blocks]
      exact ⟨rfl, rfl, rfl⟩
    have raised := raise_alike lines (.modeChanged s.ret.mode .run .cold)
    rw [raise_ret_run (s := allCleared h s) rfl] at raised
    have start : (coldBlocks (resetSent h s)).ret.startKind = .cold := rfl
    unfold changeMode
    rw [mode, start, raised, blocks]
    rfl

theorem allChanged_linksStand : LinksStand s (allChanged h s) := by
  have stand := resetSent_linksStand h s
  have cleared : LinksStand s (allCleared h s) :=
    stand.trans ⟨rfl, fun p => by cases p <;> rfl⟩
  unfold allChanged
  split
  · exact cleared
  · exact cleared.trans (raise_linksStand ..)

end

/-- Settles O59: what is sent, the state that is cleared, and the grid watch behind both. -/
theorem resets : Obligations.Resets := by
  intro h s hm hf hfa busy answered holder queued sent
  have notices : sendResetNotices answered = resetSent h s := sendResetNotices_eq h s
  have same : sent = resetSent h s := rfl
  have refused : resetRefused s = true ↔ busy := resetRefused_iff s
  have only := resetSent_linksOnly h s
  have stand := resetSent_linksStand h s
  refine ⟨fun hb => ?busy, fun hb => ?tracking, fun hb => ?all⟩
  case busy =>
    exact ⟨command_refused hm hf (own := ownResetTracking) (if_pos (refused.2 hb)),
      command_refused hm hfa (own := ownResetAll) (if_pos (refused.2 hb))⟩
  case tracking =>
    have taken := command_taken hm hf (own := ownResetTracking) (if_neg (mt refused.1 hb))
    have done : resetTracking answered = evalPresence (trackingReset h s) := by
      unfold resetTracking trackingReset
      rw [notices]
    have eq := trackingReset_eq h s
    have table : (trackingReset h s).tracker.table = [] := by rw [eq]; rfl
    have flag : (trackingReset h s).tracker.unidentified = false := by rw [eq]; rfl
    have grant : (trackingReset h s).grid.grant = none := by rw [eq]; rfl
    have fields := evalPresence_reset table flag grant
    have lines : SameLines sent (trackingReset h s) := by
      rw [eq, same]
      exact ⟨rfl, only.ret.symm, only.cfg.symm⟩
    have travel : (trackingReset h s).travel = s.travel := by
      unfold State.travel
      rw [show (trackingReset h s).counters.t = _ from trackingReset_counters h s .t]
      rfl
    have sensors : (trackingReset h s).sensors = s.sensors := by rw [eq]
    have newly := (newlyUnidentified_empty table flag grant).1
    rw [sensors] at newly
    obtain ⟨links, ret⟩ := presenceTold_lines lines travel newly
    have ret0 : (trackingReset h s).ret = s.ret := by rw [eq]
    obtain ⟨mode, clock, start, -, held⟩ := presenceTold_retention (trackingReset h s)
    rw [ret0] at mode clock start held
    have station := (presenceTold_linksStand (trackingReset h s)).station
    have sentLinks : (trackingReset h s).links = sent.links := by rw [eq, same]
    have kept := untouched_send.evalPresence (trackingReset h s)
    have tracker : (evalPresence (trackingReset h s)).tracker =
        { Tracker.cold with nextTag := s.tracker.nextTag, unidentified := s.sensors.gp.taken } := by
      rw [fields, sensors, eq]
    have mgmt : (evalPresence (trackingReset h s)).mgmt = s.mgmt := by rw [fields, eq]
    have told : (evalPresence (trackingReset h s)).links = (presenceTold (trackingReset h s)).links
        ∧ (evalPresence (trackingReset h s)).ret = (presenceTold (trackingReset h s)).ret := by
      rw [fields]
      exact ⟨rfl, rfl⟩
    rw [← done] at kept tracker mgmt told
    rw [← told.2] at mode clock start held ret
    rw [← told.1] at station links
    refine ⟨_, taken, kept.maps.trans ?_, kept.seqs.trans ?_, tracker, kept.schedule.trans ?_, kept.grid.trans ?_,
      kept.arb.trans ?_, kept.place.trans ?_, fun c => ?_, fun k => ?_, kept.cfg.trans ?_, mgmt, kept.sensors.trans sensors,
      mode, clock, start, held, ?_, links, ret⟩
    case refine_7 =>
      rw [kept.counters]
      exact trackingReset_counters h s c
    case refine_8 =>
      rw [kept.windows, eq]
      cases k <;> rfl
    case refine_10 => exact station.trans ((congrArg Links.station sentLinks).trans stand.station)
    all_goals rw [eq]
  case all =>
    have taken := command_taken hm hfa (own := ownResetAll) (if_neg (mt refused.1 hb))
    have done : resetAll answered = evalPresence (allReset h s) := by
      unfold resetAll allReset
      rw [notices]
    have eq := allReset_eq h s
    have table : (allReset h s).tracker.table = [] := by rw [eq]; rfl
    have flag : (allReset h s).tracker.unidentified = false := by rw [eq]; rfl
    have grant : (allReset h s).grid.grant = none := by rw [eq]; rfl
    have fields := evalPresence_reset table flag grant
    have lines : SameLines (allChanged h s) (allReset h s) := by
      have ret : (allChanged h s).ret = (allCleared h s).ret := by
        unfold allChanged
        split
        · rfl
        · exact raise_ret_run rfl
      have cfg : (allChanged h s).cfg = (allCleared h s).cfg := by
        unfold allChanged
        split
        · rfl
        · exact raise_cfg ..
      rw [eq]
      exact ⟨rfl, ret.symm, cfg.symm⟩
    have travel : (allReset h s).travel = 0 := by rw [eq]; rfl
    have newly := (newlyUnidentified_empty table flag grant).1
    have gp : (allReset h s).sensors.gp.taken = s.sensors.gp.electrical := by rw [eq]; rfl
    rw [gp] at newly
    obtain ⟨links, -⟩ := presenceTold_lines lines travel newly
    have ret : (presenceTold (allReset h s)).ret = (allCleared h s).ret :=
      (presenceTold_ret_run (by rw [eq]; rfl)).trans (by rw [eq])
    have links0 : (allReset h s).links = (allChanged h s).links := by rw [eq]
    have standing := (presenceTold_linksStand (allReset h s))
    have changed := allChanged_linksStand h s
    have up (p : Port) : ((presenceTold (allReset h s)).links.port p).up = (s.links.port p).up :=
      (standing.up p).trans ((congrArg (fun l => (Links.port l p).up) links0).trans (changed.up p))
    have kept := untouched_send.evalPresence (allReset h s)
    have tracker : (evalPresence (allReset h s)).tracker = { Tracker.cold with unidentified := s.sensors.gp.electrical } := by
      rw [fields, gp, eq]
      rfl
    have mgmt : (evalPresence (allReset h s)).mgmt = .cold := by
      rw [fields, eq]
      rfl
    have told : (evalPresence (allReset h s)).links = (presenceTold (allReset h s)).links
        ∧ (evalPresence (allReset h s)).ret = (presenceTold (allReset h s)).ret := by
      rw [fields]
      exact ⟨rfl, rfl⟩
    have station := standing.station.trans ((congrArg Links.station links0).trans changed.station)
    rw [← done] at kept tracker mgmt told
    rw [← told.2] at ret
    rw [← told.1] at up station links
    refine ⟨_, taken, ret, kept.cfg.trans ?_, mgmt, kept.schedule.trans ?_, kept.grid.trans ?_, kept.arb.trans ?_, tracker,
      kept.seqs.trans ?_, kept.place.trans ?_, kept.maps.trans ?_, fun c => ?_, fun i => ?_, kept.windows.trans ?_, station,
      up .plant, up .yard, ?_⟩
    case refine_8 =>
      rw [kept.counters, eq]
      cases c <;> rfl
    case refine_9 =>
      rw [kept.sensors, eq]
      cases i <;> rfl
    case refine_11 =>
      intro clear cleared changed
      have cleared_eq : cleared = allCleared h s := by
        change ({ allCleared h s with ret := (resetAll answered).ret } : State) = _
        rw [ret]
      have changed_eq : changed = allChanged h s := by
        unfold allChanged
        rw [← cleared_eq]
      rw [changed_eq]
      exact links
    all_goals
      rw [eq]
      rfl

end Sys2Proof.Machine
end

section
/-! The part that holds its events (R201), and the loss of supply (R199, R186). -/

namespace Sys2Proof.Machine

/-! ### Held events (R201) -/

/-- R201: an event that the part holds. -/
def holdIn (r : Retention) (e : Event) : Retention :=
  if r.held.length < 16 then { r with held := r.held ++ [⟨e, r.clock⟩] } else { r with overflow := true }

/-- R201: one retention part behind another that has held events since. -/
structure HeldBehind (r q : Retention) : Prop where
  mode : q.mode = r.mode
  startKind : q.startKind = r.startKind
  clock : q.clock = r.clock
  backup : q.backup = r.backup
  held : r.held <+: q.held

theorem HeldBehind.refl (r : Retention) : HeldBehind r r := ⟨rfl, rfl, rfl, rfl, List.prefix_rfl⟩

theorem HeldBehind.trans {r q x : Retention} (h : HeldBehind r q) (g : HeldBehind q x) : HeldBehind r x :=
  ⟨g.mode.trans h.mode, g.startKind.trans h.startKind, g.clock.trans h.clock, g.backup.trans h.backup, h.held.trans g.held⟩

theorem holdIn_behind (r : Retention) (e : Event) : HeldBehind r (holdIn r e) := by
  unfold holdIn
  split
  · exact ⟨rfl, rfl, rfl, rfl, List.prefix_append ..⟩
  · exact ⟨rfl, rfl, rfl, rfl, List.prefix_rfl⟩

theorem foldl_holdIn_behind (l : List Event) (r : Retention) : HeldBehind r (l.foldl holdIn r) := by
  induction l generalizing r with
  | nil => exact .refl r
  | cons e l ih => exact (holdIn_behind r e).trans (ih _)

theorem holdIn_held {r : Retention} (e : Event) (h : r.held.length < 16) : (holdIn r e).held = r.held ++ [⟨e, r.clock⟩] :=
  congrArg Retention.held (if_pos h)

/-- R201: outside RUN an event changes the retention part alone. -/
theorem raise_held {e : Event} {s : State} (h : s.ret.mode ≠ .run) : raise e s = { s with ret := holdIn s.ret e } := by
  rw [raise_away h]
  unfold holdEvent holdIn
  dsimp only
  split <;> rfl

theorem foldl_raise_held (l : List Event) {s : State} (h : s.ret.mode ≠ .run) :
    l.foldl (fun t e => raise e t) s = { s with ret := l.foldl holdIn s.ret } := by
  induction l generalizing s with
  | nil => rfl
  | cons e l ih =>
    rw [List.foldl_cons, raise_held h, ih fun g => h ((holdIn_behind s.ret e).mode.symm.trans g)]
    rfl

/-! ### The lines of a HELD sequencer (R161) -/

theorem darken_eq (k : Furnace) (s : State) : darken k s = { s with windows := (darken k s).windows } := by
  unfold darken
  split <;> rfl

/-- R161: the stopped levels of the HELD sequencers become OFF, and nothing else changes. -/
theorem darken_both (s : State) : ∃ w, darken .f2 (darken .f1 s) = { s with windows := w }
    ∧ ∀ k, (s.seqs.get k).state = .held → (w.get k).stopped = some (List.replicate 8 false) := by
  have eq : darken .f2 (darken .f1 s) = { s with windows := (darken .f2 (darken .f1 s)).windows } := by
    rw [darken_eq .f2, darken_eq .f1]
  have kept : (darken .f1 s).seqs = s.seqs := by rw [darken_eq]
  refine ⟨_, eq, fun k hk => ?_⟩
  cases k with
  | f2 =>
    have held : ((darken .f1 s).seq .f2).state = .held := by
      rw [State.seq, kept]
      exact hk
    unfold darken at held ⊢
    rw [if_pos held]
    rfl
  | f1 =>
    have first : ((darken .f1 s).windows.get .f1).stopped = some (List.replicate 8 false) := by
      unfold darken
      rw [if_pos (show (s.seq .f1).state = .held from hk)]
      rfl
    have second (t : State) : (darken .f2 t).windows.get .f1 = t.windows.get .f1 := by
      unfold darken
      split <;> rfl
    rw [second]
    exact first

/-! ### The entry into RETAIN (R199) -/

/-- R199, R186, R195, R134, R109: the state at the entry into RETAIN, before the grid watch. -/
def retainEntry (s : State) : State :=
  { s with
    ret := holdIn { s.ret with mode := .retain } (.modeChanged s.ret.mode .retain s.ret.startKind)
    links := { s.links with
      plant := { s.links.plant with up := false, queue := [] }
      yard := { s.links.yard with up := false, queue := [] } }
    mgmt := { s.mgmt with statusTimer := none }
    grid := { s.grid with grant := none, queue := [] }
    arb := { Arbiter.cold with nextMove := s.arb.nextMove } }

/-- R87: GP is taken while a grant ends and no record lies on the entry zone. -/
def watchedAtLoss (s : State) : Bool := s.grid.grant.isSome && s.sensors.gp.taken && !s.zoneTaken

/-- R87, R199: the retention part behind the grid watch at the entry into RETAIN. -/
def retainRet (s : State) : Retention :=
  if (watchedAtLoss s && !s.tracker.unidentified) = true then holdIn (retainEntry s).ret (.unidentifiedOnGrid s.travel)
  else (retainEntry s).ret

theorem retainEntry_behind (s : State) : HeldBehind { s.ret with mode := .retain } (retainEntry s).ret :=
  holdIn_behind ..

theorem retainEntry_away (s : State) : (retainEntry s).ret.mode ≠ .run := by
  rw [(retainEntry_behind s).mode]
  nofun

theorem retainRet_behind (s : State) : HeldBehind (retainEntry s).ret (retainRet s) := by
  unfold retainRet
  split
  · exact holdIn_behind ..
  · exact .refl _

/-- R134, R109, R87: what the loss of main supply leaves before the lines. -/
theorem dropMotion_retain (s : State) :
    dropMotion (stopStatusTimer (changePorts PortState.retained (changeMode .retain s))) =
      { retainEntry s with
        ret := retainRet s
        tracker := { s.tracker with
          unidentified := if s.grid.grant.isSome then watchedAtLoss s else s.tracker.unidentified } } := by
  have entry : dropMotion (stopStatusTimer (changePorts PortState.retained (changeMode .retain s))) =
      if s.grid.grant.isSome then evalPresence (retainEntry s) else retainEntry s := by
    unfold changeMode
    rw [raise_held (s := putMode .retain s) nofun]
    rfl
  rw [entry]
  unfold retainRet watchedAtLoss
  cases s.grid.grant.isSome with
  | false => rfl
  | true =>
    have fields := evalPresence_fields (retainEntry s)
    have told : presenceTold (retainEntry s) = { retainEntry s with
        ret := if (s.sensors.gp.taken && !s.zoneTaken && !s.tracker.unidentified) = true then
            holdIn (retainEntry s).ret (.unidentifiedOnGrid s.travel)
          else (retainEntry s).ret } := by
      have newly : newlyUnidentified (retainEntry s) =
        (s.sensors.gp.taken && !s.zoneTaken && !s.tracker.unidentified) := Bool.and_true _
      unfold presenceTold
      rw [newly]
      split
      · exact raise_held (retainEntry_away s)
      · rfl
    have flag : ((retainEntry s).sensors.gp.taken && !(retainEntry s).zoneTaken
        && ((retainEntry s).tracker.unidentified || (retainEntry s).grid.grant.isNone)) =
        (s.sensors.gp.taken && !s.zoneTaken) :=
      (congrArg (s.sensors.gp.taken && !s.zoneTaken && ·) (Bool.or_true _)).trans (Bool.and_true _)
    dsimp only at fields
    rw [if_pos rfl, fields, flag, told]
    rfl

/-- R199: what the entry into RETAIN leaves. -/
theorem enterRetain_eq (s : State) : ∃ w, enterRetain s =
      { retainEntry s with
        ret := retainRet s
        tracker := { s.tracker with
          unidentified := if s.grid.grant.isSome then watchedAtLoss s else s.tracker.unidentified }
        windows := w }
    ∧ ∀ k, (s.seqs.get k).state = .held → (w.get k).stopped = some (List.replicate 8 false) := by
  unfold enterRetain
  rw [dropMotion_retain]
  exact darken_both _

/-- R199, R201: the told state of the statement and what GP adds to it. -/
theorem retainRet_told (s : State) : retainRet s =
    (if (watchedAtLoss s && !s.tracker.unidentified) = true then
      raise (.unidentifiedOnGrid s.travel) (raise (.modeChanged s.ret.mode .retain s.ret.startKind)
        { s with ret := { s.ret with mode := .retain } })
     else raise (.modeChanged s.ret.mode .retain s.ret.startKind) { s with ret := { s.ret with mode := .retain } }).ret := by
  have first : raise (.modeChanged s.ret.mode .retain s.ret.startKind) { s with ret := { s.ret with mode := .retain } } =
      { s with ret := (retainEntry s).ret } := raise_held nofun
  unfold retainRet
  rw [first]
  split
  · rw [raise_held (s := { s with ret := (retainEntry s).ret }) (retainEntry_away s)]
  · rfl

/-! ### Loss of supply (R199) -/

section
variable {s : State}

theorem mainSupplyLost_backed (hp : s.power = true) (hm : s.ret.mode ≠ .retain) (hb : s.ret.backup = true) :
    exec .mainSupplyLost s = .next (finish (enterRetain s)) :=
  (powered_on mainLost s hp).trans (congrArg _ ((if_neg hm).trans (if_pos hb)))

theorem mainSupplyLost_dark (hp : s.power = true) (hm : s.ret.mode ≠ .retain) (hb : s.ret.backup = false) :
    exec .mainSupplyLost s = .next (powerOff s) :=
  (powered_on mainLost s hp).trans (congrArg _ ((if_neg hm).trans (if_neg (by rw [hb]; decide))))

theorem backupSupplyLost_retain (hp : s.power = true) (hm : s.ret.mode = .retain) :
    exec .backupSupplyLost s = .next (powerOff s) :=
  (powered_on backupLost s hp).trans (congrArg _ (if_pos hm))

theorem mainSupplyLost_retain (hm : s.ret.mode = .retain) : exec .mainSupplyLost s = .next s := by
  have same : mainLost s = s := if_pos hm
  refine (powered_next mainLost s).trans (congrArg _ ?_)
  rw [same]
  exact ite_self s

theorem backupSupplyLost_idle (hm : s.ret.mode ≠ .retain) : exec .backupSupplyLost s = .next s := by
  have same : backupLost s = s := if_neg hm
  refine (powered_next backupLost s).trans (congrArg _ ?_)
  rw [same]
  exact ite_self s

/-- R199: with no supply a command has no effect, but for COLD_START. -/
theorem exec_unpowered {c : Instr} (hp : s.power = false) (hc : ∀ i, c ≠ .coldStart i) : exec c s = .next s := by
  have off : ¬ s.power = true := by
    rw [hp]
    decide
  cases c with
  | coldStart i => exact absurd rfl (hc i)
  | _ => exact if_neg off

end

end Sys2Proof.Machine
end

section
/-! The return of main supply (R202, R81): the restore tables of the sequencers and of the table list. -/

namespace Sys2Proof.Machine

/-! ### The restore table of a sequencer (R81) -/

/-- R81: the sequencer enters HELD. -/
def restoreStops (s : State) (k : Furnace) : Bool :=
  match (s.seqs.get k).state with
  | .pick | .carry | .lower => true
  | .retract => !s.armsClear k
  | _ => false

/-- R81: the sequencer enters IDLE. -/
def restoreIdles (s : State) (k : Furnace) : Bool :=
  match (s.seqs.get k).state with
  | .positioning | .room => true
  | .retract => s.armsClear k
  | _ => false

/-- R51, R81: what the restore of a sequencer tells. -/
def restoreTold (s : State) (k : Furnace) : List Event :=
  if restoreStops s k then
    [.chargerHeld k .restored (s.seqs.get k).state ((s.seqs.get k).cycle.map (·.tag))
      ((s.seqs.get k).inflight.map fun _ => .uncertain) none]
  else []

theorem restoreSequencer_split (k : Furnace) (s : State) : restoreSequencer k s =
    if restoreStops s k then enterHeld k .restored none s else if restoreIdles s k then enterIdle k s else s := by
  unfold restoreSequencer restoreStops restoreIdles State.seq
  cases (s.seqs.get k).state with
  | retract => cases s.armsClear k <;> rfl
  | _ => rfl

/-- R81: what the restore table says of sequencer k. -/
structure SequencerPlaced (s : State) (k : Furnace) (q : Sequencer) (w : WindowState) : Prop where
  stays : restoreStops s k = false → restoreIdles s k = false → q = s.seqs.get k
  idle : restoreStops s k = false → restoreIdles s k = true → IdleFrom (s.seqs.get k) q
  held : restoreStops s k = true → HeldFrom .restored (s.seqs.get k) q ∧ w.stopped = some (List.replicate 8 false)

/-- R81: the restore of sequencer k: its event, its state and nothing of the other furnace. -/
structure SequencerRestored (k : Furnace) (s t : State) : Prop where
  only : t = { s with
    ret := (restoreTold s k).foldl holdIn s.ret
    seqs := t.seqs, arb := t.arb, due := t.due, windows := t.windows }
  other : t.seqs.get (otherFurnace k) = s.seqs.get (otherFurnace k)
  window : t.windows.get (otherFurnace k) = s.windows.get (otherFurnace k)
  placed : SequencerPlaced s k (t.seqs.get k) (t.windows.get k)

theorem enterIdle_windows (k : Furnace) (s : State) :
    (enterIdle k s).windows = s.windows.set k { s.windows.get k with stopped := none } := by
  unfold enterIdle
  exact releaseHold_windows ..

theorem restoreSequencer_restored (k : Furnace) {s : State} (hm : s.ret.mode = .restored) :
    SequencerRestored k s (restoreSequencer k s) := by
  have away : s.ret.mode ≠ .run := by
    rw [hm]
    nofun
  rw [restoreSequencer_split]
  cases stops : restoreStops s k with
  | true =>
    have told : restoreTold s k = _ := if_pos stops
    have entered := enterHeld_entered k .restored none s
    have levels : s.stoppedLevels k = List.replicate 8 false := if_pos hm
    refine ⟨?_, entered.other, ?_, fun h => (nomatch stops.symm.trans h), fun h => (nomatch stops.symm.trans h), fun _ => ⟨?_, ?_⟩⟩
    · obtain ⟨d, w, h⟩ := enterHeld_eq k .restored none s
      rw [if_pos rfl, h, raise_held, told]
      · rfl
      · exact away
    · rw [if_pos rfl, enterHeld_windows, PerFurnace.get_set_other]
    · rw [if_pos rfl, entered.seq]
      exact held_heldFrom ..
    · rw [if_pos rfl, enterHeld_windows, PerFurnace.get_set, levels]
  | false =>
    have told : restoreTold s k = [] := if_neg (by rw [stops]; decide)
    rw [if_neg Bool.false_ne_true]
    cases idles : restoreIdles s k with
    | true =>
      obtain ⟨d, w, -, h⟩ := enterIdle_eq k s
      refine ⟨?_, enterIdle_seqs_other k s, ?_, fun _ h => (nomatch idles.symm.trans h), fun _ _ => enterIdle_idleFrom k s,
        fun h => (nomatch stops.symm.trans h)⟩
      · rw [if_pos rfl, h, told]
        rfl
      · rw [if_pos rfl, enterIdle_windows, PerFurnace.get_set_other]
    | false =>
      refine ⟨?_, rfl, rfl, fun _ _ => rfl, fun _ h => (nomatch idles.symm.trans h), fun h => (nomatch stops.symm.trans h)⟩
      rw [if_neg Bool.false_ne_true, told]
      rfl

/-- R81: both sequencers are restored. -/
structure BothRestored (s t : State) : Prop where
  only : t = { s with
    ret := (restoreTold s .f1 ++ restoreTold s .f2).foldl holdIn s.ret
    seqs := t.seqs, arb := t.arb, due := t.due, windows := t.windows }
  placed : ∀ k, SequencerPlaced s k (t.seqs.get k) (t.windows.get k)

/-- The restore table reads the sequencer, the geometry and the counters. -/
theorem restoreTable_congr {s t : State} {k : Furnace} (hq : t.seqs.get k = s.seqs.get k) (hc : t.cfg = s.cfg)
    (hx : t.counters = s.counters) : restoreStops t k = restoreStops s k ∧ restoreIdles t k = restoreIdles s k
      ∧ restoreTold t k = restoreTold s k := by
  have arms : t.armsClear k = s.armsClear k := by
    unfold State.armsClear State.geometry State.depth State.counter
    rw [hc, hx]
  have stops : restoreStops t k = restoreStops s k := by
    unfold restoreStops
    rw [hq, arms]
  have idles : restoreIdles t k = restoreIdles s k := by
    unfold restoreIdles
    rw [hq, arms]
  refine ⟨stops, idles, ?_⟩
  unfold restoreTold
  rw [stops, hq]

theorem restoreSequencers_restored {s : State} (hm : s.ret.mode = .restored) :
    BothRestored s (restoreSequencer .f2 (restoreSequencer .f1 s)) := by
  have first := restoreSequencer_restored .f1 hm
  generalize restoreSequencer .f1 s = t at first ⊢
  have seq : t.seqs.get .f2 = s.seqs.get .f2 := first.other
  have cfg : t.cfg = s.cfg := by rw [first.only]
  have counters : t.counters = s.counters := by rw [first.only]
  have ret : t.ret = (restoreTold s .f1).foldl holdIn s.ret := by rw [first.only]
  obtain ⟨stops, idles, told⟩ := restoreTable_congr seq cfg counters
  have second := restoreSequencer_restored .f2 (s := t) (by rw [ret, (foldl_holdIn_behind ..).mode, hm])
  generalize restoreSequencer .f2 t = u at second ⊢
  refine ⟨?_, fun k => ?_⟩
  · rw [second.only, told, ret, List.foldl_append, first.only]
  · cases k with
    | f1 =>
      rw [show u.seqs.get .f1 = t.seqs.get .f1 from second.other, show u.windows.get .f1 = t.windows.get .f1 from second.window]
      exact first.placed
    | f2 =>
      obtain ⟨stays, idle, held⟩ := second.placed
      rw [stops, idles, seq] at stays
      rw [stops, idles, seq] at idle
      rw [stops, seq] at held
      exact ⟨stays, idle, held⟩

/-! ### The restore hold of a slab (R81, R85) -/

/-- R81, R85: a record that the restore hold may set to HELD(TRACKING). -/
def holdTracked (tag : Option Nat) (r : TableRecord) : TableRecord :=
  if tag = some r.tag then { r with state := .held .tracking } else r

/-- R85: what the restore hold tells. -/
def trackedTold (s : State) (tag : Option Nat) : List Event :=
  match tag.bind s.findTag with
  | some r => [.slabHeld r.tag r.id (some .tracking) (some r.state) (r.anchor + s.travel)]
  | none => []

theorem holdTracked_tag (tag : Option Nat) (r : TableRecord) : (holdTracked tag r).tag = r.tag := by
  unfold holdTracked
  split <;> rfl

theorem holdTracked_other {tag : Option Nat} {r : TableRecord} (h : tag ≠ some r.tag) : holdTracked tag r = r := if_neg h

theorem holdTracked_both (p1 p2 : Option Nat) (r : TableRecord) : holdTracked p2 (holdTracked p1 r) =
    if p1 = some r.tag ∨ p2 = some r.tag then { r with state := .held .tracking } else r := by
  unfold holdTracked
  by_cases h1 : p1 = some r.tag <;> by_cases h2 : p2 = some r.tag <;> simp [h1, h2]

theorem restoreHold_eq (tag : Option Nat) {s : State} (hm : s.ret.mode ≠ .run) : restoreHold tag s = { s with
    ret := (trackedTold s tag).foldl holdIn s.ret
    tracker := { s.tracker with table := s.tracker.table.map (holdTracked tag) } } := by
  have same (h : ∀ r ∈ s.tracker.table, tag ≠ some r.tag) : s.tracker.table.map (holdTracked tag) = s.tracker.table :=
    (List.map_congr_left fun r hr => holdTracked_other (h r hr)).trans (List.map_id _)
  unfold restoreHold trackedTold
  cases tag with
  | none =>
    rw [same fun _ _ => nofun]
    rfl
  | some x =>
    cases found : s.findTag x with
    | none =>
      have absent : ∀ r ∈ s.tracker.table, some x ≠ some r.tag := by
        intro r hr e
        have off := List.find?_eq_none.1 found r hr
        exact off (beq_iff_eq.2 (Option.some.inj e).symm)
      rw [same absent, Option.bind_some, found]
      rfl
    | some r =>
      have tag : r.tag = x := beq_iff_eq.1 (List.find?_some (p := fun r : TableRecord => r.tag == x) found)
      have mapped : (updateRecord r.tag (fun y => { y with state := .held .tracking }) s) =
          { s with tracker := { s.tracker with table := s.tracker.table.map (holdTracked (some x)) } } := by
        unfold updateRecord State.setTracker
        refine congrArg (fun l => { s with tracker := { s.tracker with table := l } }) (List.map_congr_left fun y _ => ?_)
        unfold holdTracked
        rw [tag]
        by_cases h : y.tag = x
        · rw [if_pos h, if_pos (congrArg some h.symm)]
        · rw [if_neg h, if_neg fun e => h (Option.some.inj e).symm]
      rw [Option.bind_some, found]
      exact (congrArg (raise _) mapped).trans (raise_held hm)

/-- R85: the other slab's record is found as it was. -/
theorem trackedTold_behind {s t : State} {p1 p2 : Option Nat} (h : ∀ x ∈ p1, ∀ y ∈ p2, x ≠ y)
    (ht : t.tracker.table = s.tracker.table.map (holdTracked p1)) (hx : t.counters = s.counters) :
    trackedTold t p2 = trackedTold s p2 := by
  have found : p2.bind t.findTag = p2.bind s.findTag := by
    cases p2 with
    | none => rfl
    | some y =>
      rw [Option.bind_some, Option.bind_some]
      unfold State.findTag
      rw [ht, List.find?_map]
      have test : ((fun r : TableRecord => r.tag == y) ∘ holdTracked p1) = fun r => r.tag == y := by
        funext r
        exact congrArg (· == y) (holdTracked_tag p1 r)
      rw [test]
      cases hr : s.tracker.table.find? fun r => r.tag == y with
      | none => rfl
      | some r =>
        have tag : r.tag = y := beq_iff_eq.1 (List.find?_some (p := fun r : TableRecord => r.tag == y) hr)
        exact congrArg some (holdTracked_other fun e => h r.tag e y rfl tag)
  unfold trackedTold State.travel
  rw [found, hx]

/-! ### Supervision (R194) -/

/-- R194: what the loss of supervision tells. -/
def supervisionTold (s : State) : List Event :=
  match s.mgmt.supervision with
  | .ok period _ => [.supervisionLost period]
  | .lost => []

theorem loseSupervision_eq {s : State} (hm : s.ret.mode ≠ .run) : loseSupervision s = { s with
    ret := (supervisionTold s).foldl holdIn s.ret
    mgmt := { s.mgmt with supervision := .lost } } := by
  unfold loseSupervision supervisionTold
  cases hs : s.mgmt.supervision with
  | lost =>
    have same : { s.mgmt with supervision := .lost } = s.mgmt := by rw [← hs]
    exact congrArg (fun m => { s with mgmt := m }) same.symm
  | ok period left =>
    exact raise_held (s := putSupervision .lost s) hm

end Sys2Proof.Machine
end

section
/-! Settles O57: the loss and the return of supply (R199, R202, R81, R186, R195). -/

namespace Sys2Proof.Machine

/-! ### The entry into RESTORED (R202) -/

/-- R202, R186: the state at the entry into RESTORED, before the restore tables. -/
def restoredEntry (s : State) : State :=
  { s with
    ret := holdIn { s.ret with mode := .restored, startKind := .restored } (.modeChanged .retain .restored .restored)
    links := { s.links with
      plant := { s.links.plant with up := s.links.plant.link, queue := [] }
      yard := { s.links.yard with up := s.links.yard.link, queue := [] } } }

/-- R81: the cycle record of a sequencer that stands in PICK. -/
def pickedCycle (s : State) (k : Furnace) : Option CycleRecord :=
  if (s.seqs.get k).state = .pick then (s.seqs.get k).cycle else none

/-- R81: the two slabs that the restore hold sets are not the same. -/
def PicksApart (s : State) : Prop := ∀ c1 ∈ pickedCycle s .f1, ∀ c2 ∈ pickedCycle s .f2, c1.tag ≠ c2.tag

/-- R81: the table list behind both restore holds. -/
def restoredTable (s : State) : List TableRecord :=
  s.tracker.table.map fun r =>
    if (pickedCycle s .f1).map (·.tag) = some r.tag ∨ (pickedCycle s .f2).map (·.tag) = some r.tag then
      { r with state := .held .tracking }
    else r

theorem pickedTag_eq (s : State) (k : Furnace) : pickedTag s k = (pickedCycle s k).map (·.tag) := by
  unfold pickedTag pickedCycle State.seq State.cycle
  split <;> rfl

theorem pickedTag_apart {s : State} (h : PicksApart s) : ∀ x ∈ pickedTag s .f1, ∀ y ∈ pickedTag s .f2, x ≠ y := by
  intro x hx y hy
  rw [pickedTag_eq] at hx hy
  obtain ⟨c1, h1, rfl⟩ := Option.map_eq_some_iff.1 hx
  obtain ⟨c2, h2, rfl⟩ := Option.map_eq_some_iff.1 hy
  exact h c1 h1 c2 h2

theorem restoredEntry_mode (s : State) : (restoredEntry s).ret.mode = .restored := (holdIn_behind ..).mode

theorem changePorts_restored {s : State} (hm : s.ret.mode = .retain) :
    changePorts PortState.restored (changeMode .restored (putStart .restored s)) = restoredEntry s := by
  have mode : (putStart .restored s).ret.mode = .retain := hm
  unfold changeMode
  rw [mode, raise_held (s := putMode .restored (putStart .restored s)) nofun]
  rfl

/-- R202: what the entry into RESTORED leaves. -/
structure Restored (s t u : State) (second : List Event) : Prop where
  both : BothRestored (restoredEntry s) t
  apart : PicksApart s → second = trackedTold s (pickedTag s .f2)
  fields : u = { t with
    ret := (trackedTold s (pickedTag s .f1) ++ second ++ supervisionTold s).foldl holdIn t.ret
    tracker := { s.tracker with table := restoredTable s }
    mgmt := { s.mgmt with supervision := .lost } }

theorem restoredTable_eq (s : State) :
    (s.tracker.table.map (holdTracked (pickedTag s .f1))).map (holdTracked (pickedTag s .f2)) = restoredTable s := by
  rw [List.map_map, pickedTag_eq, pickedTag_eq]
  exact List.map_congr_left fun r _ => holdTracked_both ..

theorem enterRestored_restored {s : State} (hm : s.ret.mode = .retain) : ∃ t second, Restored s t (enterRestored s) second := by
  have both := restoreSequencers_restored (restoredEntry_mode s)
  have eq : enterRestored s = loseSupervision (restoreHold (pickedTag s .f2) (restoreHold (pickedTag s .f1)
      (restoreSequencer .f2 (restoreSequencer .f1 (restoredEntry s))))) := by
    rw [← changePorts_restored hm]
    rfl
  rw [eq]
  generalize restoreSequencer .f2 (restoreSequencer .f1 (restoredEntry s)) = t at both ⊢
  have mode : t.ret.mode = .restored := by
    rw [both.only, (foldl_holdIn_behind ..).mode, restoredEntry_mode]
  have tracker : t.tracker = s.tracker := by
    rw [both.only]
    rfl
  have counters : t.counters = s.counters := by
    rw [both.only]
    rfl
  have mgmt : t.mgmt = s.mgmt := by
    rw [both.only]
    rfl
  have first : trackedTold t (pickedTag s .f1) = trackedTold s (pickedTag s .f1) := by
    unfold trackedTold State.findTag State.travel
    rw [tracker, counters]
  have away (l : List Event) : (l.foldl holdIn t.ret).mode ≠ .run := by
    rw [(foldl_holdIn_behind ..).mode, mode]
    nofun
  have one := restoreHold_eq (pickedTag s .f1) (away [])
  rw [first, tracker] at one
  generalize restoreHold (pickedTag s .f1) t = t1 at one ⊢
  have two := restoreHold_eq (pickedTag s .f2) (s := t1) (by
    rw [one]
    exact away _)
  refine ⟨t, trackedTold t1 (pickedTag s .f2), both, fun h => ?_, ?_⟩
  · exact trackedTold_behind (pickedTag_apart h) (by rw [one]) (by rw [one, counters])
  · generalize trackedTold t1 (pickedTag s .f2) = l at two ⊢
    have lost : supervisionTold t = supervisionTold s := by
      unfold supervisionTold
      rw [mgmt]
    have later : t1.ret = (trackedTold s (pickedTag s .f1)).foldl holdIn t.ret := by rw [one]
    have out := loseSupervision_eq (s := restoreHold (pickedTag s .f2) t1) (by
      rw [two, later, ← List.foldl_append]
      exact away _)
    rw [out, two, one, List.foldl_append, List.foldl_append, ← lost, ← restoredTable_eq, ← mgmt]
    rfl

/-! ### The restore table in the words of the states (R81) -/

section
variable {s : State} {k : Furnace}

theorem armsClear_iff {g : FurnaceGeometry} (hg : s.cfg.geometry.get k = some g) :
    s.armsClear k = true ↔ s.depth k ≤ g.retractClear := by
  unfold State.armsClear State.geometry
  rw [hg]
  exact decide_eq_true_iff

theorem armsClear_false_iff : s.armsClear k = false ↔ ∀ g, s.cfg.geometry.get k = some g → g.retractClear < s.depth k := by
  unfold State.armsClear State.geometry
  cases s.cfg.geometry.get k with
  | none => exact iff_of_true rfl nofun
  | some g => exact decide_eq_false_iff_not.trans (not_le.trans ⟨fun h x e => Option.some.inj e ▸ h, fun h => h g rfl⟩)

theorem restoreStops_iff : restoreStops s k = true ↔ (s.seqs.get k).state = .pick ∨ (s.seqs.get k).state = .carry
    ∨ (s.seqs.get k).state = .lower ∨ ((s.seqs.get k).state = .retract
      ∧ ∀ g, s.cfg.geometry.get k = some g → g.retractClear < s.depth k) := by
  rw [← armsClear_false_iff]
  unfold restoreStops
  cases (s.seqs.get k).state <;> simp

theorem restoreIdles_iff : restoreIdles s k = true ↔ (s.seqs.get k).state = .positioning ∨ (s.seqs.get k).state = .room
    ∨ ((s.seqs.get k).state = .retract ∧ s.armsClear k = true) := by
  unfold restoreIdles
  cases (s.seqs.get k).state <;> simp

theorem restoreStops_false_of_idles (h : restoreIdles s k = true) : restoreStops s k = false := by
  unfold restoreIdles at h
  unfold restoreStops
  cases hs : (s.seqs.get k).state <;> simp_all

theorem restore_untouched (h : (s.seqs.get k).state = .offline ∨ (s.seqs.get k).state = .idle
    ∨ (s.seqs.get k).state = .held) : restoreStops s k = false ∧ restoreIdles s k = false := by
  unfold restoreStops restoreIdles
  rcases h with h | h | h <;> simp [h]

end

/-- R85: the restore hold of the slab of a sequencer in PICK. -/
theorem trackedTold_picked (s : State) (k : Furnace) : trackedTold s (pickedTag s k) =
    match (pickedCycle s k).bind fun c => s.tracker.table.find? fun r => r.tag == c.tag with
    | some r => [.slabHeld r.tag r.id (some .tracking) (some r.state) (r.anchor + s.travel)]
    | none => [] := by
  unfold trackedTold
  rw [pickedTag_eq, Option.bind_map]
  rfl

/-- Settles O57: the entry into RETAIN, the stops, and the entry into RESTORED with its restore tables. -/
theorem supplyLostAndReturns : Obligations.SupplyLostAndReturns := by
  refine ⟨fun s => ⟨fun hp hm hb => ?retain, fun hp hm hb => ⟨_, mainSupplyLost_dark hp hm hb, rfl, rfl⟩,
    fun hp hm => ⟨_, backupSupplyLost_retain hp hm, rfl, rfl⟩, mainSupplyLost_retain, backupSupplyLost_idle,
    fun b hp => powered_on (putBackup b) s hp, fun c hp hc => exec_unpowered hp hc⟩,
    fun s hp => ⟨fun hm => ?stays, fun hm => ?restored⟩⟩
  case retain =>
    obtain ⟨w, eq, dark⟩ := enterRetain_eq s
    have entry := retainEntry_behind s
    have told := retainRet_behind s
    refine ⟨enterRetain s, mainSupplyLost_backed hp hm hb, ?_⟩
    rw [eq]
    refine ⟨told.mode.trans entry.mode, told.startKind.trans entry.startKind, told.clock.trans entry.clock,
      (told.backup.trans entry.backup).trans hb, fun room => ?_, rfl, rfl, rfl, rfl, dark, rfl, rfl, rfl, rfl,
      ⟨rfl, retainRet_told s⟩, rfl, rfl, rfl⟩
    have first : (retainEntry s).ret.held = _ := holdIn_held _ room
    have behind := told.held
    rw [first] at behind
    exact behind
  case stays =>
    exact (powered_on mainReturns s hp).trans (congrArg _ (if_neg hm))
  case restored =>
    have done : exec .mainSupplyReturns s = .next (takeStatusExpiry (finish (enterRestored s))) :=
      (powered_on mainReturns s hp).trans (congrArg _ (if_pos hm))
    obtain ⟨t, second, ⟨only, placed⟩, apart, fields⟩ := enterRestored_restored hm
    refine ⟨enterRestored s, done, ?_⟩
    have entry : HeldBehind { s.ret with mode := .restored, startKind := .restored } (restoredEntry s).ret :=
      holdIn_behind ..
    have ret : (enterRestored s).ret = (trackedTold s (pickedTag s .f1) ++ second ++ supervisionTold s).foldl holdIn
        ((restoreTold s .f1 ++ restoreTold s .f2).foldl holdIn (restoredEntry s).ret) := by
      rw [fields, only]
      rfl
    have told : HeldBehind (restoredEntry s).ret (enterRestored s).ret := by
      rw [ret]
      exact (foldl_holdIn_behind ..).trans (foldl_holdIn_behind ..)
    have placed (k : Furnace) : SequencerPlaced s k ((enterRestored s).seqs.get k) ((enterRestored s).windows.get k) := by
      rw [fields]
      exact ⟨(placed k).stays, (placed k).idle, (placed k).held⟩
    refine ⟨told.mode.trans entry.mode, told.startKind.trans entry.startKind, told.clock.trans entry.clock, fun room => ?_,
      ?_, ?_, fun k hk => ?untouched, fun k hk => ?idle, fun k hk => ?held, fun k g hk hg => ⟨fun hd => ?clear, fun hd => ?deep⟩,
      ⟨?_, fun hpa => ?events⟩, ?_⟩
    case untouched =>
      obtain ⟨stops, idles⟩ := restore_untouched hk
      exact (placed k).stays stops idles
    case idle =>
      have idles : restoreIdles s k = true := restoreIdles_iff.2 (hk.imp_right .inl)
      exact (placed k).idle (restoreStops_false_of_idles idles) idles
    case held =>
      exact (placed k).held (restoreStops_iff.2 (hk.imp_right (Or.imp_right .inl)))
    case clear =>
      have idles : restoreIdles s k = true := restoreIdles_iff.2 (.inr (.inr ⟨hk, (armsClear_iff hg).2 hd⟩))
      exact (placed k).idle (restoreStops_false_of_idles idles) idles
    case deep =>
      have beyond : ∀ g', s.cfg.geometry.get k = some g' → g'.retractClear < s.depth k := fun g' hg' =>
        Option.some.inj (hg.symm.trans hg') ▸ hd
      exact ((placed k).held (restoreStops_iff.2 (.inr (.inr (.inr ⟨hk, beyond⟩))))).1
    case events =>
      intro stopped restored lost
      have stops (k : Furnace) : stopped k = restoreTold s k := if_congr restoreStops_iff.symm rfl rfl
      have tracked (k : Furnace) : restored k = trackedTold s (pickedTag s k) := (trackedTold_picked s k).symm
      have away : ({ s.ret with mode := .restored, startKind := .restored } : Retention).mode ≠ .run := nofun
      rw [stops, stops, tracked, tracked, ← apart hpa, foldl_raise_held _ away, ret]
      simp only [List.foldl_append]
      rfl
    · have first : (restoredEntry s).ret.held = _ := holdIn_held _ room
      have behind := told.held
      rw [first] at behind
      exact behind
    · rw [fields, only]
      rfl
    · rw [fields]
    · rw [fields]
      rfl
    · rw [fields, only]
      exact ⟨rfl, rfl, rfl, rfl, rfl, rfl, rfl⟩

end Sys2Proof.Machine
end
